-- ==== Sys2Proof/Word.lean ====
section
/-! DEFINITION. The plainest words of the model: bytes, identifiers and times.
Wire fields that software sees as bits are bit vectors; quantities, indexes and times are natural numbers. -/

namespace Sys2Proof

/-- One byte. -/
abbrev Byte := BitVec 8
/-- A byte sequence, in ascending address or wire order. -/
abbrev Bytes := List Byte
/-- A node number: every one of the 65,536 values names an ordinary node (R59). -/
abbrev Node := BitVec 16
/-- A context identifier; 0 is a valid context (R69, R115). -/
abbrev Cid := BitVec 16
/-- A stream of a source toward a destination (R71). -/
abbrev Stream := BitVec 8
/-- A sequence number within a stream (R73). -/
abbrev Seq := BitVec 32
/-- A moment or a span, in units of 1/8 AU = 1.25 ns, the finest unit the spec counts (R10, R150, R519). -/
abbrev Tick := Nat

/-- Ticks in one age unit of 10 ns (R10). -/
abbrev ticksPerAu : Nat := 8
/-- Ticks in one microsecond. -/
abbrev ticksPerUs : Nat := 800
/-- Ticks in one millisecond. -/
abbrev ticksPerMs : Nat := 800000

end Sys2Proof
end

