-- ==== Sys2Proof/Syntax.lean ====
section
/-! DEFINITION. The commands the block takes: one constructor per row of spec/opcode_table.json, in the table's
order, with the row's operands. Every constructor's first operand is the moment of the event, in ticks (1/8 AU).
The model has one sender of commands: the world around the package (notes/assumptions/1.md). -/

namespace Sys2Proof

/-- Status codes (R52). `other` is a value 0x10 to 0xFF in a received response, which the device never sends. -/
inductive Status where
  | ok | format | denied | staleEpoch | revoked | targetLost | deadlineMissed | publishConflict
  | quota | throttled | checkFail | fenced | teardown | numeric | unsupported | orphanHold
  | other (code : BitVec 8)
  deriving DecidableEq, Repr

/-- The fields of an Arham frame header (R42), as they stand on the wire. -/
structure Header where
  version : BitVec 4
  reserved : BitVec 4
  opcode : BitVec 8
  tc : BitVec 3
  flags : BitVec 5
  stream : Stream
  dst : Node
  src : Node
  seq : Seq
  epoch : BitVec 16
  cid : Cid
  age : BitVec 24
  budget : BitVec 24
  length : BitVec 13
  format : BitVec 3
  offset : BitVec 48
  check : BitVec 16
  deriving DecidableEq, Repr

/-- An Arham frame (R39): header, payload bytes, and the payload check (zero where the frame carries none). -/
structure Frame where
  hdr : Header
  payload : Bytes
  pcheck : BitVec 32
  deriving DecidableEq, Repr

/-- Where a frame reached the package: the E position and sub-port, and the largest replay delay, in AU, among the
blocks that carried it (R517). -/
structure Arrival where
  port : Nat
  sub : Nat
  replay : Nat
  deriving DecidableEq, Repr

/-- What the memory of a request's range showed when it was read (R363): the environment's choice, not the device's. -/
inductive Damage where
  | none
  /-- ECC errors corrected, `n` of them. -/
  | corrected (n : Nat)
  /-- an error ECC cannot correct, in this device's own copy. -/
  | uncorrectable
  deriving DecidableEq, Repr

/-- What a start finds (R567, R568, R569, R597): the results of tests and the presence of clocks and supplies. -/
structure StartCond where
  /-- the PUF reconstruction succeeded (R473). -/
  pufOk : Bool
  /-- a PCIe reference clock is present (R568 step 2). -/
  refClock : Bool
  /-- `VIN12` lies within range at step 6 (R638). -/
  vin12 : Bool
  /-- a die fails self-test or firmware load, or a stack fails training (R567 code 10). -/
  dieFault : Bool
  /-- parts (numbered as in R620) that fail the start tests (R597). -/
  failedParts : List Nat
  deriving DecidableEq, Repr

/-- The configuration card as the Hoop die finds it at a start (R559). -/
structure Card where
  present : Bool
  bytes : Bytes
  deriving DecidableEq, Repr

/-- The clock islands an island reset can name (R582, R624). -/
inductive Island where
  | warpSched | warpData
  | cluster (c : Nat)
  | weft (die : Nat)
  | rim (die : Nat)
  | osier (die : Nat)
  deriving DecidableEq, Repr

/-- A die crossing (R17). -/
inductive Crossing where
  | osierWarp (die : Nat) | weftWarp (die : Nat) | rimWarp (die : Nat) | hoopWarp
  | weftRim (weft : Nat) (rim : Nat)
  deriving DecidableEq, Repr

/-- A die (R14). -/
inductive Die where
  | hoop | warp | weft (d : Nat) | rim (d : Nat) | osier (d : Nat)
  deriving DecidableEq, Repr

/-- What asks for a restart after a thermal trip (R636). -/
inductive ResetCause where
  | perst | deviceReset | coldPowerOn
  deriving DecidableEq, Repr

/-- A request reaching a lottery arbiter's requester queue (R205): its requester index, the line (or record or
channel) it names, the (source node, stream) that orders it (R210), and a label of the sender's. -/
structure ArbItem where
  requester : Nat
  line : Nat
  node : Node
  stream : Stream
  label : Nat
  deriving DecidableEq, Repr

/-- The key of a collective (R277). -/
structure CollKey where
  root : Node
  id : BitVec 32
  deriving DecidableEq, Repr

/-- The header of a DATA block of the link layer (R509). -/
structure Block where
  kind : BitVec 2
  retry : Bool
  creditClass : BitVec 3
  seq : BitVec 16
  acked : BitVec 16
  credits : BitVec 16
  firstFrame : BitVec 13
  replayDelay : BitVec 16
  laneMask : BitVec 9
  deriving DecidableEq, Repr

/-- The fields of a TRAIN block's data region (R519). -/
structure TrainBlock where
  version : BitVec 8
  split : BitVec 8
  sub : BitVec 8
  echo : Bool
  mark : BitVec 32
  echoedMark : BitVec 32
  hold : BitVec 32
  deriving DecidableEq, Repr

/-- What a receive direction counted for one wavelength in a 1 ms window (R520, R526). -/
structure WaveReading where
  wave : Nat
  lockLost : Bool
  cwCorrected : Nat
  symCorrected : Nat
  cwUncorrected : Nat
  /-- received power, 0.01 dBm. -/
  rxPower : BitVec 16
  /-- laser bias, per mille of its value at manufacture. -/
  laserBias : Nat
  deriving DecidableEq, Repr

/-- How a record reached the Hoop die (R530, R545 to R548). -/
inductive RecPath where
  | doe (fn : Nat)
  | mailbox (fn : Nat) (slot : Nat)
  | i3c
  | frame (hdr : Header)
  deriving DecidableEq, Repr

/-- The wrapper of a signed record (R535), without its body. -/
structure RecEnv where
  path : RecPath
  recType : BitVec 16
  version : BitVec 8
  signer : BitVec 8
  bodyLen : BitVec 16
  reserved : BitVec 16
  number : BitVec 64
  target : Bytes
  signature : Bytes
  /-- a composition body's first 16 bytes (R540), for rows whose operands are items: the two epochs and the reserved bytes. -/
  compEpoch : BitVec 32
  mapEpoch : BitVec 16
  compReserved : BitVec 48
  deriving DecidableEq, Repr

/-- One item of a composition record (R542): its 8-byte header and its body. -/
structure Item where
  kind : BitVec 16
  op : BitVec 8
  res3 : BitVec 8
  len : BitVec 16
  res6 : BitVec 16
  body : Bytes
  deriving DecidableEq, Repr

/-- A requester of SPDM (R477): the DOE mailbox of a function, or the MCTP endpoint. -/
inductive Requester where
  | doe (fn : Nat)
  | mctp
  deriving DecidableEq, Repr

/-- The commands: one constructor per row of spec/opcode_table.json (its rule in brackets). -/
inductive Instr where
  /-- `COLD_POWER_ON` (R578). The auxiliary supplies are applied after a loss, and every die starts from step 1 of the boot sequence. -/
  | coldPowerOn (t : Nat)
  /-- `PERST_WARM_RESET` (R578). PERST# of link 0 resets every die; the stacks enter self-refresh and the device restarts from the boot sequence. -/
  | perstWarmReset (t : Nat)
  /-- `PERST_LINK1` (R578). PERST# of link 1 resets only link 1 and function 1. -/
  | perstLink1 (t : Nat)
  /-- `HOOP_RESTART` (R578). The Hoop watchdog restarts the device with the scope of a PERST warm reset. -/
  | hoopRestart (t : Nat)
  /-- `VIN12_LOSS` (R638). VIN12 stays below 10.8 V for 50 us; every die except Hoop loses power and Hoop restarts itself. -/
  | vin12Loss (t : Nat)
  /-- `VAUX3_LOSS` (R638). VAUX3 stays below 2.9 V for 10 us; its return is a cold power-on. -/
  | vaux3Loss (t : Nat)
  /-- `VIN12_IN_RANGE` (R638). Boot step 6 resumes once VIN12 lies within range. -/
  | vin12InRange (t : Nat)
  /-- `BOOT_START` (R568). The Hoop die self-tests, reconstructs the PUF, reads and verifies the image, releases the dies and restores retained state. -/
  | bootStart (t : Nat) (card : Card) (c : StartCond)
  /-- `REFERENCE_LOCK` (R569). With no PCIe reference, every island is trimmed to the first recovered line clock that locks; the load fails with NO_REFERENCE if none locks. -/
  | referenceLock (t : Nat) (port : Option Nat)
  /-- `DEVICE_RESET` (R579). A device-reset record fences the device and begins the orderly reset. -/
  | deviceReset (t : Nat) (r : RecEnv) (body : Bytes)
  /-- `DEVICE_RESET_PROCEED` (R579). Once open work has settled, the writers mirror final MARKs, batches close, the record is acknowledged, the stacks enter self-refresh and the dies reset. -/
  | deviceResetProceed (t : Nat)
  /-- `ISLAND_RESET` (R582). An island is frozen, drained and held in reset, and work on its paths is refused. -/
  | islandReset (t : Nat) (isl : Island)
  /-- `ISLAND_RECOVERY_DONE` (R582). The island has been reloaded; its crossings reopen and the freeze is cleared. -/
  | islandRecoveryDone (t : Nat) (isl : Island)
  /-- `ISLAND_RESET_OVERTIME` (R595). An island reset has not completed within twice its bound, which is a hard failure. -/
  | islandResetOvertime (t : Nat) (isl : Island)
  /-- `FLIT_REPLAY` (R20). A die-crossing flit fails its CRC and is replayed; eight failures in a row reset the island. -/
  | flitReplay (t : Nat) (x : Crossing) (again : Bool)
  /-- `SIDEBAND_LOSS` (R24). A die's sideband is lost, and the Hoop die reports the die failed. -/
  | sidebandLoss (t : Nat) (d : Die)
  /-- `LOT_DRAIN_COMPLETE` (R214). A frozen arbiter's in-flight count reaches zero, and the reset or power action proceeds. -/
  | lotDrainComplete (t : Nat) (arb : Nat)
  /-- `LOT_DRAIN_TIMEOUT` (R215). A drain has not finished 2 us after the freeze, and the reset proceeds anyway. -/
  | lotDrainTimeout (t : Nat) (arb : Nat)
  /-- `QUIESCE_TIMER` (R583). No cluster has run an operator for HOOP_QUIESCE_MS, so the device enters QUIESCENT. -/
  | quiesceTimer (t : Nat)
  /-- `THERMAL_SAMPLE` (R634). The die temperatures are read every 1 ms, and the thermal hold is updated. -/
  | thermalSample (t : Nat) (temps : List Nat)
  /-- `TRIP_RESTART` (R636). A restart requested after a trip is honoured once every die is 10 C below its warn temperature. -/
  | tripRestart (t : Nat) (cause : ResetCause)
  /-- `POWER_SAMPLE` (R632). The 1 ms package power average updates the power hold and sets h. -/
  | powerSample (t : Nat) (milliwatts : Nat)
  /-- `CLUSTER_STOP_WINDOW` (R631). A held cluster's core clocks stop for h/16 of each 100 us period and then restart. -/
  | clusterStopWindow (t : Nat) (c : Nat) (opening : Bool)
  /-- `POWER_REPORT_WINDOW` (R630). Package power for the last 1 s is reported to the owner ring. -/
  | powerReportWindow (t : Nat) (milliwatts : Nat)
  /-- `LOAD` (R26). A LOAD request is checked, journaled, read from its home or tray and answered with data. -/
  | load (t : Nat) (a : Arrival) (f : Frame) (d : Damage)
  /-- `STORE` (R30). A STORE request is checked, journaled, written near, far or to both mirrored copies, and acknowledged. -/
  | store (t : Nat) (a : Arrival) (f : Frame) (d : Damage)
  /-- `FLUSH` (R414). A FLUSH scans the duplicate tags of both Rim dies and enters a flush for each held line of its range. -/
  | flush (t : Nat) (a : Arrival) (f : Frame)
  /-- `PUBLISH` (R485). A PUBLISH makes its version pending, closes and flushes the staging buffer, then makes the version current. -/
  | publish (t : Nat) (a : Arrival) (f : Frame)
  /-- `PUBLISH_FLUSH_DONE` (R485). The staging flush ends; the new version becomes current and the next staging buffer opens. -/
  | publishFlushDone (t : Nat) (rangeId : BitVec 32)
  /-- `STAGING_WRITE_RELEASE` (R483). A held staging write proceeds once the readers of the old version have passed its line. -/
  | stagingWriteRelease (t : Nat) (rangeId : BitVec 32) (line : Nat)
  /-- `ATOMIC_FADD_INTEGER` (R265). Opcode 0x10 adds the operand to the line modulo 2^32 and returns the prior value. -/
  | atomicFaddInteger (t : Nat) (a : Arrival) (f : Frame) (d : Damage)
  /-- `ATOMIC_FADD_FLOAT` (R265). Opcode 0x11 adds the FP32 operand with one rounding and returns the prior value. -/
  | atomicFaddFloat (t : Nat) (a : Arrival) (f : Frame) (d : Damage)
  /-- `ATOMIC_FMIN_INTEGER` (R265). Opcode 0x12 stores the signed minimum of the line and the operand. -/
  | atomicFminInteger (t : Nat) (a : Arrival) (f : Frame) (d : Damage)
  /-- `ATOMIC_FMIN_FLOAT` (R265). Opcode 0x13 stores the float minimum under the NaN and signed-zero rules. -/
  | atomicFminFloat (t : Nat) (a : Arrival) (f : Frame) (d : Damage)
  /-- `ATOMIC_FMAX_INTEGER` (R265). Opcode 0x14 stores the signed maximum of the line and the operand. -/
  | atomicFmaxInteger (t : Nat) (a : Arrival) (f : Frame) (d : Damage)
  /-- `ATOMIC_FMAX_FLOAT` (R265). Opcode 0x15 stores the float maximum under the NaN and signed-zero rules. -/
  | atomicFmaxFloat (t : Nat) (a : Arrival) (f : Frame) (d : Damage)
  /-- `ATOMIC_CAS` (R265). Opcode 0x16 swaps in the new value when the bits equal the compare value. -/
  | atomicCas (t : Nat) (a : Arrival) (f : Frame) (d : Damage)
  /-- `ATOMIC_SWAP` (R265). Opcode 0x17 replaces the line value with the operand. -/
  | atomicSwap (t : Nat) (a : Arrival) (f : Frame) (d : Damage)
  /-- `REDUCE_PUT` (R287). A contribution is steered to its segment's position, checked and added to that segment's accumulators. -/
  | reducePut (t : Nat) (a : Arrival) (f : Frame)
  /-- `PARTIAL_FRAME` (R295). A stage partial frame reaches the root and is merged, settled without merging, or refused. -/
  | partialFrame (t : Nat) (a : Arrival) (f : Frame)
  /-- `SEGMENT_ROUND_EXPIRY` (R290). A round reaches its skew limit or a held frame's deadline; its frames are refused THROTTLED and its slots zeroed. -/
  | segmentRoundExpiry (t : Nat) (k : CollKey) (seg : Nat)
  /-- `REISSUE_ROUND_DEADLINE` (R113). At the survivor, the earliest reissue's TC3 deadline passes, so the reissued contributions are answered DEADLINE_MISSED without a write. -/
  | reissueRoundDeadline (t : Nat) (k : CollKey) (seg : Nat)
  /-- `COLLECTIVE_REBIND` (R299). A reset cluster is not back within 1 ms, so its segments are rebound or the collective is released. -/
  | collectiveRebind (t : Nat) (k : CollKey)
  /-- `MCAST_STORE` (R302). A multicast store is copied to each local member's home and each relay member, and is accepted once every copy lands. -/
  | mcastStore (t : Nat) (a : Arrival) (f : Frame)
  /-- `GATHER` (R327). Operator 0x01 copies the indexed table rows into the output. -/
  | gather (t : Nat) (a : Arrival) (f : Frame)
  /-- `SCATTER_ADD` (R328). Operator 0x02 adds value rows into the indexed table rows. -/
  | scatterAdd (t : Nat) (a : Arrival) (f : Frame)
  /-- `PREDICATE_FILTER` (R330). Operator 0x03 keeps the rows that satisfy its terms and compacts them, or their indices, into the output. -/
  | predicateFilter (t : Nat) (a : Arrival) (f : Frame)
  /-- `TOP_K` (R332). Operator 0x04 ranks the elements and writes the k best with their indices. -/
  | topK (t : Nat) (a : Arrival) (f : Frame)
  /-- `EMBEDDING_BAG` (R333). Operator 0x05 reduces bags of table rows by sum, mean or max. -/
  | embeddingBag (t : Nat) (a : Arrival) (f : Frame)
  /-- `SMALL_DENSE_PROJECTION` (R335). Operator 0x06 computes X times W plus bias. -/
  | smallDenseProjection (t : Nat) (a : Arrival) (f : Frame)
  /-- `TREE_ENSEMBLE` (R340). Operator 0x07 walks every tree for every row and accumulates the leaf scores. -/
  | treeEnsemble (t : Nat) (a : Arrival) (f : Frame)
  /-- `COLLECTIVE_SETUP` (R281). Operator 0xC0 validates a collective, binds its positions and reserves its slots. -/
  | collectiveSetup (t : Nat) (a : Arrival) (f : Frame)
  /-- `COLLECTIVE_RELEASE` (R298). Operator 0xC1 stops absorption of contributions, lets the open rounds end and frees the collective. -/
  | collectiveRelease (t : Nat) (a : Arrival) (f : Frame)
  /-- `COLLECTIVE_RELEASE_DONE` (R298). The last open round has ended, so the slots and table entry are freed and the release is acknowledged. -/
  | collectiveReleaseDone (t : Nat) (k : CollKey)
  /-- `UNSUPPORTED_OPCODE` (R45). A frame with an unassigned opcode is refused with FORMAT or UNSUPPORTED. -/
  | unsupportedOpcode (t : Nat) (a : Arrival) (f : Frame)
  /-- `XCHECK_OFFLOAD` (R600). The partner executes a cross-check OFFLOAD from stream 0x7A without writing, and returns the result word and output hash. -/
  | xcheckOffload (t : Nat) (a : Arrival) (f : Frame)
  /-- `XCHECK_TIMEOUT` (R600). A cross-check is unanswered within the operator's deadline, so the operator is refused TARGET_LOST. -/
  | xcheckTimeout (t : Nat) (req : Nat)
  /-- `OPERATOR_START` (R238). A queued operator whose stream order, slots and free core allow starts, and reads and validates its index list or model. -/
  | operatorStart (t : Nat) (c : Nat)
  /-- `TILE_START` (R239). The next tile goes to the lowest-numbered free core. -/
  | tileStart (t : Nat) (c : Nat)
  /-- `TILE_COMPLETE` (R239). A core finishes its tile and becomes free. -/
  | tileComplete (t : Nat) (c : Nat) (core : Nat)
  /-- `OPERATOR_COMPLETE` (R324). The output is written, the leaf is written under the lock, the entry is mirrored and the ACK is built. -/
  | operatorComplete (t : Nat) (req : Nat)
  /-- `DISPATCH_QUEUE_DEADLINE` (R240). A queued operator reaches its deadline and is refused THROTTLED, settled. -/
  | dispatchQueueDeadline (t : Nat) (req : Nat)
  /-- `OFFER` (R106). The taker journals a state handle as OFFERED and acknowledges it. -/
  | offer (t : Nat) (a : Arrival) (f : Frame)
  /-- `TAKE` (R107). The owner checks the handle, journals HANDED, acknowledges after the mirror and frees the state. -/
  | take (t : Nat) (a : Arrival) (f : Frame)
  /-- `ORPHAN_HOLD_EXPIRY` (R108). HANDED has not settled within the TC2 deadline, so the owner keeps the state and refuses later TAKEs. -/
  | orphanHoldExpiry (t : Nat) (stateIndex : BitVec 32)
  /-- `MIRROR` (R97). The partner verifies a journal entry, writes it to its shadow ring, updates the stream record and acknowledges. -/
  | mirror (t : Nat) (a : Arrival) (f : Frame)
  /-- `RESPONSE_ACK` (R51). An ACK to a device-originated request (mirror, tray, operand, copy, relay, fill or partial) arrives and completes its wait. -/
  | responseAck (t : Nat) (a : Arrival) (f : Frame)
  /-- `RESPONSE_NACK` (R658). A NACK to a device-originated frame arrives and either ends the request or schedules a resend. -/
  | responseNack (t : Nat) (a : Arrival) (f : Frame)
  /-- `FRAME_RESEND_TIMER` (R658). 1 us after a response with its settled flag clear, a tray, operand, copy or relay frame is resent at the same sequence. -/
  | frameResendTimer (t : Nat) (node : BitVec 16) (stream : BitVec 8) (seq : BitVec 32)
  /-- `FRAME_UNANSWERED` (R658). A device-originated frame gets no answer within its class deadline and is resent. -/
  | frameUnanswered (t : Nat) (node : BitVec 16) (stream : BitVec 8) (seq : BitVec 32)
  /-- `REQUEST_AGE_LIMIT` (R658). A request waiting for its frames reaches its ageing limit; it is refused TARGET_LOST and its open sequences are filled. -/
  | requestAgeLimit (t : Nat) (req : Nat)
  /-- `LANDING_WRITE_REFILL` (R657). Before a must-land write's resend would reach half the TC5 ageing limit, its sequence is filled and the write continues under a new sequence. -/
  | landingWriteRefill (t : Nat) (node : BitVec 16) (stream : BitVec 8) (seq : BitVec 32)
  /-- `ENTRY_SETTLE` (R83). Once application and mirror have both finished and lower sequences have settled, hwm advances and the response is sent. -/
  | entrySettle (t : Nat) (node : BitVec 16) (stream : BitVec 8)
  /-- `NODE_RETIRE_COMPLETE` (R602). A retired node's open entries have settled, so its stream records reset and the record is acknowledged. -/
  | nodeRetireComplete (t : Nat) (node : BitVec 16)
  /-- `PENDING_FRAME_RELEASE` (R86). A held frame's sequence becomes next, and the frame is classified again. -/
  | pendingFrameRelease (t : Nat) (node : BitVec 16) (stream : BitVec 8) (d : Damage)
  /-- `PENDING_FRAME_DEADLINE` (R102). A frame in the pending store reaches its deadline and is refused THROTTLED. -/
  | pendingFrameDeadline (t : Nat) (node : BitVec 16) (stream : BitVec 8) (seq : BitVec 32)
  /-- `MIRROR_TIMEOUT` (R99). A MIRROR gets no ACK within its TC1 deadline and is resent; a second failure declares the partner lost. -/
  | mirrorTimeout (t : Nat) (writer : Nat) (index : Nat)
  /-- `MARK_INTERVAL` (R98). The applied index has advanced and 2 us have passed, so the writer mirrors a MARK. -/
  | markInterval (t : Nat) (writer : Nat)
  /-- `IDLE_MARK_INTERVAL` (R604). A writer silent for HLT_FENCE_MS/8 mirrors a MARK that repeats its last covered index. -/
  | idleMarkInterval (t : Nat) (writer : Nat)
  /-- `ENTRY_RETIRE` (R92). An entry that is covered by a MARK and past its retention is counted retired. -/
  | entryRetire (t : Nat) (writer : Nat) (index : Nat) (shadow : Bool)
  /-- `ANCHOR_UPDATE` (R94). Each journal writer updates its MRAM anchor at least once per millisecond. -/
  | anchorUpdate (t : Nat) (writer : Nat)
  /-- `MAP_EPOCH_GRACE_EXPIRY` (R67). The previous map epoch's grace ends, and it is refused thereafter. -/
  | mapEpochGraceExpiry (t : Nat)
  /-- `FAILOVER_STREAMS_OPEN` (R111). The tail writes are acknowledged or resending, so the survivor opens the pair streams under solo acceptance. -/
  | failoverStreamsOpen (t : Nat)
  /-- `CROSSBAR_SLOT` (R159). Each 1.6 ns slot, the scheduler runs three match iterations and transfers the cells matched in the previous slot. -/
  | crossbarSlot (t : Nat)
  /-- `URGENT_PROMOTION` (R158). A head cell waits past the urgency limit and is promoted to level 1. -/
  | urgentPromotion (t : Nat) (inp : Nat) (out : Nat) (tc : Nat)
  /-- `CALENDAR_WHEEL_TICK` (R188). Each 256 ns wheel tick makes the wheel services that are due conform. -/
  | calendarWheelTick (t : Nat)
  /-- `SPILL_ON` (R162). The shared pool reaches the spill-on watermark, and spill begins. -/
  | spillOn (t : Nat)
  /-- `SPILL_OFF` (R162). The shared pool falls below the spill-off watermark, and spill ends. -/
  | spillOff (t : Nat)
  /-- `SPILL_REFILL` (R162). A VOQ's on-chip length falls below half the head allowance, so it requests its oldest spilled cell. -/
  | spillRefill (t : Nat) (inp : Nat) (out : Nat) (tc : Nat)
  /-- `REFILL_RETURN` (R163). A refill read returns from the near tier into the VOQ. -/
  | refillReturn (t : Nat) (inp : Nat) (out : Nat) (tc : Nat) (d : Damage)
  /-- `EGRESS_FRAME_START` (R193). An Osier transmitter starts the next complete frame by level and age. -/
  | egressFrameStart (t : Nat) (port : Nat) (sub : Nat)
  /-- `LOTTERY_DRAW` (R207). In each arbiter cycle, a grant is chosen by force or by draw, the wait counters are updated and the LFSR steps. -/
  | lotteryDraw (t : Nat) (arb : Nat) (arrivals : List ArbItem)
  /-- `STACK_ACCESS_DONE` (R405). A stack read returns or a write is ordered, which ends the line's H_MEM hold. -/
  | stackAccessDone (t : Nat) (line : Nat)
  /-- `RD_S` (R403). A cluster's read for sharing is granted at the home and resolved through the filter. -/
  | rdS (t : Nat) (c : Nat) (line : Nat) (cid : BitVec 16)
  /-- `RD_X` (R403). A cluster's read for ownership invalidates the other holders and grants M. -/
  | rdX (t : Nat) (c : Nat) (line : Nat) (cid : BitVec 16)
  /-- `UPG` (R403). An upgrade invalidates the other holders, or is served as RD_X when the requester is no longer listed. -/
  | upg (t : Nat) (c : Nat) (line : Nat) (cid : BitVec 16)
  /-- `RD_U` (R403). An uncached read is served from memory or the exclusive holder. -/
  | rdU (t : Nat) (c : Nat) (line : Nat) (cid : BitVec 16)
  /-- `WR_U` (R403). An uncached write is granted; BUF_GNT is sent and the data is merged. -/
  | wrU (t : Nat) (c : Nat) (line : Nat) (cid : BitVec 16) (mask : BitVec 128)
  /-- `EVC_C` (R403). A clean eviction removes the cluster from the filter. -/
  | evcC (t : Nat) (c : Nat) (line : Nat)
  /-- `EVC_D` (R403). A dirty eviction is granted a buffer and its data written, or is removed without one. -/
  | evcD (t : Nat) (c : Nat) (line : Nat)
  /-- `LINE_FLUSH` (R403). A flush of one line invalidates its holders and writes the dirty data. -/
  | lineFlush (t : Nat) (line : Nat)
  /-- `SR_I` (R403). A snoop answer of state I reaches the home. -/
  | srI (t : Nat) (c : Nat) (line : Nat) (withData : Bool) (dirty : Bool)
  /-- `SR_N` (R403). A snoop answer of state N reaches the home. -/
  | srN (t : Nat) (c : Nat) (line : Nat) (withData : Bool) (dirty : Bool)
  /-- `LINE_DATA` (R404). DAT data reaches the home and is written to memory before the transaction ends. -/
  | lineData (t : Nat) (c : Nat) (line : Nat) (bytes : Bytes) (mask : BitVec 128)
  /-- `CACK` (R405). A completion acknowledgement ends the H_CMP hold. -/
  | cack (t : Nat) (c : Nat) (line : Nat)
  /-- `SNP_SHR` (R406). A cluster moves an exclusive line to N and answers, with data if dirty. -/
  | snpShr (t : Nat) (c : Nat) (line : Nat)
  /-- `SNP_FWD` (R406). The responder supplies clean data through the home. -/
  | snpFwd (t : Nat) (c : Nat) (line : Nat)
  /-- `SNP_I` (R406). A cluster invalidates the line and answers, with data if dirty. -/
  | snpI (t : Nat) (c : Nat) (line : Nat)
  /-- `CMP_E` (R406). A read is granted in E; the cluster replays its stalled accesses and sends CACK. -/
  | cmpE (t : Nat) (c : Nat) (line : Nat) (bytes : Bytes)
  /-- `CMP_S` (R406). A read is granted in S; the cluster replays its stalled accesses and sends CACK. -/
  | cmpS (t : Nat) (c : Nat) (line : Nat) (bytes : Bytes)
  /-- `CMP_N` (R406). A read is granted in N; the cluster replays its stalled accesses and sends CACK. -/
  | cmpN (t : Nat) (c : Nat) (line : Nat) (bytes : Bytes)
  /-- `CMP_M` (R406). Ownership is granted; the cluster enters M, performs its write and sends CACK. -/
  | cmpM (t : Nat) (c : Nat) (line : Nat) (bytes : Option Bytes)
  /-- `BUF_GNT` (R406). A cluster sends its eviction or write data. -/
  | bufGnt (t : Nat) (c : Nat) (line : Nat)
  /-- `CMP_W` (R410). An uncached write has been applied and durably placed. -/
  | cmpW (t : Nat) (c : Nat) (line : Nat)
  /-- `CMP_EVC` (R406). An eviction completes and the line goes to I. -/
  | cmpEvc (t : Nat) (c : Nat) (line : Nat)
  /-- `NAK` (R402). A cluster request is refused at check 13, and the line keeps its state. -/
  | nak (t : Nat) (c : Nat) (line : Nat) (status : Status)
  /-- `CORE_READ` (R406). A core read hits, stalls, or issues RD_S. -/
  | coreRead (t : Nat) (c : Nat) (core : Nat) (vaddr : Nat)
  /-- `CORE_WRITE` (R406). A core write hits, stalls, upgrades, or issues RD_X. -/
  | coreWrite (t : Nat) (c : Nat) (core : Nat) (vaddr : Nat) (bytes : Bytes)
  /-- `VICTIM_CHOSEN` (R406). An L2 line chosen as victim sends EVC_C or EVC_D. -/
  | victimChosen (t : Nat) (c : Nat) (line : Nat)
  /-- `SNOOP_ANSWER_TIMEOUT` (R407). A FWD is unanswered for 2 us, so the cluster's island is reset. -/
  | snoopAnswerTimeout (t : Nat) (c : Nat) (line : Nat)
  /-- `PREFETCH_DOORBELL` (R388). A step-word store is applied at once, or waits until every instance up to the step has landed. -/
  | prefetchDoorbell (t : Nat) (a : Arrival) (f : Frame)
  /-- `PREFETCH_INSTANCE_LANDED` (R387). A prefetch instance lands; pins are set and waiting doorbells may apply. -/
  | prefetchInstanceLanded (t : Nat) (part : Nat) (step : Nat) (entry : Nat)
  /-- `ONE_MS_WINDOW` (R655). A new 1 ms window of Hoop uptime begins; quota totals and rate-limit counts restart and waiting fetches are issued. -/
  | oneMsWindow (t : Nat)
  /-- `MOVER_DOORBELL` (R421). A doorbell store updates the producer index and the channel runs the new descriptors. -/
  | moverDoorbell (t : Nat) (ch : Nat) (a : Arrival) (f : Frame)
  /-- `MOVER_RESTART` (R439). A doorbell with bit 63 set restarts a halted channel after the halted descriptor. -/
  | moverRestart (t : Nat) (ch : Nat) (a : Arrival) (f : Frame)
  /-- `MOVER_DESCRIPTOR_START` (R432). The checked shadow descriptor becomes active in the cycle after completion. -/
  | moverDescriptorStart (t : Nat) (ch : Nat)
  /-- `MOVER_DESCRIPTOR_COMPLETE` (R434). Every write is issued, or arrived with BAR; the completion record is written and the consumer advances. -/
  | moverDescriptorComplete (t : Nat) (ch : Nat)
  /-- `MOVER_RETRY_TIMER` (R435). A mover piece with a bus error is retried after 1 us, or the channel halts BUS_ERROR. -/
  | moverRetryTimer (t : Nat) (ch : Nat)
  /-- `MOVER_PACE_RESUME` (R431). The staging fill level falls below the low watermark, and reads resume. -/
  | moverPaceResume (t : Nat) (ch : Nat)
  /-- `SCRUB_COMPLETE` (R460). The scrub writes finish, the scrub key is destroyed and the partition becomes FREE. -/
  | scrubComplete (t : Nat) (part : Nat)
  /-- `CONSENT_EXPIRY` (R468). A consent's duration passes, and debug access ends. -/
  | consentExpiry (t : Nat) (part : Nat)
  /-- `KEY_TRANSFER_TIMEOUT` (R450). The partner does not acknowledge a key transfer, so the key is destroyed and the set-up refused TARGET_LOST. -/
  | keyTransferTimeout (t : Nat) (part : Nat)
  /-- `BATCH_CLOSE` (R496). A batch closes on time, and the Hoop die signs and sends the batch record. -/
  | batchClose (t : Nat) (part : Nat)
  /-- `BLOCK_RECEIVED` (R509). A DATA block is received whole and in order; its credits and acknowledgements are applied and its frames delivered. -/
  | blockReceived (t : Nat) (port : Nat) (sub : Nat) (b : Block) (bytes : Bytes)
  /-- `BLOCK_CHECK_FAIL` (R516). A block fails its check or is out of sequence; later blocks are discarded and a retry is requested. -/
  | blockCheckFail (t : Nat) (port : Nat) (sub : Nat)
  /-- `RETRY_REQUEST` (R516). A retry request arrives, and the sender replays from acknowledged sequence plus one. -/
  | retryRequest (t : Nat) (port : Nat) (sub : Nat) (acked : BitVec 16)
  /-- `RETRY_LIMIT_RETRAIN` (R516). A block is replayed OSR_RETRY_LIMIT times, and the link retrains. -/
  | retryLimitRetrain (t : Nat) (port : Nat) (sub : Nat)
  /-- `TRAIN_BLOCK_RECEIVED` (R519). A TRAIN block is exchanged to agree the split and measure delay. -/
  | trainBlockReceived (t : Nat) (port : Nat) (sub : Nat) (b : TrainBlock) (receiptMark : Nat)
  /-- `LINK_TRAINING_DONE` (R518). The delay exchanges finish; sequences and credits are reset and the link is UP. -/
  | linkTrainingDone (t : Nat) (port : Nat) (sub : Nat)
  /-- `LANE_MARKER` (R512). A lane marker with a new plan number puts that plan into effect. -/
  | laneMarker (t : Nat) (port : Nat) (bytes : Bytes)
  /-- `WAVELENGTH_HEALTH_WINDOW` (R520). Each 1 ms window classes every wavelength good, weak or failed and updates the lane mask. -/
  | wavelengthHealthWindow (t : Nat) (port : Nat) (readings : List WaveReading)
  /-- `LASER_MONITOR_FAULT` (R522). A failed wavelength is removed and the link runs on W-1 lanes. -/
  | laserMonitorFault (t : Nat) (port : Nat) (wave : Nat)
  /-- `SPARE_LOCKED` (R521). Lambda 8 is locked at both ends, and a new plan carries the weak lane on it. -/
  | spareLocked (t : Nat) (port : Nat)
  /-- `LINK_DOWN_HOLD_EXPIRY` (R523). The link is not UP within OSR_DOWN_HOLD, so its queued frames are discarded and new ones refused. -/
  | linkDownHoldExpiry (t : Nat) (port : Nat) (sub : Nat)
  /-- `RX_LIGHT_LOSS` (R506). No light for 2 ms on the receive fibre darkens the port's lasers. -/
  | rxLightLoss (t : Nat) (port : Nat)
  /-- `RX_LIGHT_RETURN` (R506). Light returns, and the lasers relight within 1 ms. -/
  | rxLightReturn (t : Nat) (port : Nat)
  /-- `RESYNC_STORE` (R584). A partner resync STORE on stream 0x7B writes journal-region data without journaling. -/
  | resyncStore (t : Nat) (a : Arrival) (f : Frame)
  /-- `RESYNC_COPY_DONE` (R585). The copies end; the ring head is set, anchors run and the partner leaves solo acceptance. -/
  | resyncCopyDone (t : Nat)
  /-- `HEALTH_SCORE_TICK` (R593). Each millisecond, the scores decay, inputs are added, and candidates are expelled or become suspects. -/
  | healthScoreTick (t : Nat)
  /-- `EXPEL_BUDGET_ROOM` (R598). An expulsion leaves the rolling window, and the longest-waiting suspect is expelled. -/
  | expelBudgetRoom (t : Nat)
  /-- `EXPEL_THRESHOLD_LOWER` (R594). A whole window passes without a candidate, and the kind's threshold is lowered. -/
  | expelThresholdLower (t : Nat) (kind : Nat)
  /-- `WITNESS_EXPIRY` (R604). A witness contact ages past HLT_FENCE_MS; losing quorum enters the quorum fence. -/
  | witnessExpiry (t : Nat)
  /-- `SOLO_HOLD_TIMEOUT` (R607). HLT_FENCE_MS passes after a partner loss without both witnesses, so the device fences itself. -/
  | soloHoldTimeout (t : Nat)
  /-- `CLOVE_RATE_ADAPT` (R191). Clove adjusts a shaped service's rate from its own counters. -/
  | cloveRateAdapt (t : Nat) (sub : Nat) (svc : Nat) (rate : Nat) (cause : Nat)
  /-- `CLOVE_ADMIT_ADAPT` (R199). Clove adjusts a partition's admission window. -/
  | cloveAdmitAdapt (t : Nat) (part : Nat) (window : Nat) (cause : Nat)
  /-- `CLOVE_PF_DEPTH_ADAPT` (R389). Clove raises or lowers a schedule's prefetch depth. -/
  | clovePfDepthAdapt (t : Nat) (part : Nat) (up : Bool) (cause : Nat)
  /-- `CLOVE_WEAK_SYM_ADAPT` (R520). Clove sets a port's OSR_WEAK_SYM threshold. -/
  | cloveWeakSymAdapt (t : Nat) (port : Nat) (value : Nat) (cause : Nat)
  /-- `VOQ_SAMPLE_PERIOD` (R200). Each SHP_SAMPLE_PERIOD, VOQ depth and wait samples and port counters go to the owner ring. -/
  | voqSamplePeriod (t : Nat)
  /-- `SERVICE_SAMPLE_WINDOW` (R201). Each 1 ms, quantised service samples go to the partitions' rings. -/
  | serviceSampleWindow (t : Nat)
  /-- `METER_CLOSE` (R555). A meter record is closed every HOOP_METER_S and written to the owner ring. -/
  | meterClose (t : Nat) (part : Nat)
  /-- `MSIX_HOLDOFF_EXPIRY` (R554). A vector held by HOOP_IRQ_US may fire again. -/
  | msixHoldoffExpiry (t : Nat) (fn : Nat) (vec : Nat)
  /-- `RECORD_QUEUE_ADVANCE` (R539). The previous record is done, so the next queued record enters its body checks. -/
  | recordQueueAdvance (t : Nat)
  /-- `COMPOSITION_EPOCH_ADVANCE` (R611). A composition record names current+1 and advances the composition epoch at its markers. -/
  | compositionEpochAdvance (t : Nat) (r : RecEnv) (items : List Item)
  /-- `MAP_EPOCH_ADVANCE` (R612). A composition record advances the map epoch and starts the grace window. -/
  | mapEpochAdvance (t : Nat) (r : RecEnv) (items : List Item)
  /-- `CONTEXT_INSTALL` (R116). A context item binds a master to a partition. -/
  | contextInstall (t : Nat) (r : RecEnv) (pre : List Item) (body : Bytes) (post : List Item)
  /-- `CONTEXT_REMOVE` (R142). Removing a context revokes its entries and frees the slot when they are freed. -/
  | contextRemove (t : Nat) (r : RecEnv) (pre : List Item) (body : Bytes) (post : List Item)
  /-- `RUN_INSTALL` (R122). A page run is installed. -/
  | runInstall (t : Nat) (r : RecEnv) (pre : List Item) (body : Bytes) (post : List Item)
  /-- `RUN_REMOVE` (R141). A run leaves the translation stores and the TLBs. -/
  | runRemove (t : Nat) (r : RecEnv) (pre : List Item) (body : Bytes) (post : List Item)
  /-- `RUN_UNMAP_COMPLETE` (R141). A removed run's in-flight count reaches zero, and the removal is acknowledged. -/
  | runUnmapComplete (t : Nat) (part : Nat) (virtBase : Nat)
  /-- `ACCESS_ENTRY_INSTALL` (R135). An access-table entry is installed. -/
  | accessEntryInstall (t : Nat) (r : RecEnv) (pre : List Item) (body : Bytes) (post : List Item)
  /-- `ACCESS_ENTRY_REMOVE` (R413). An access entry is removed and the lines its partition holds are invalidated. -/
  | accessEntryRemove (t : Nat) (r : RecEnv) (pre : List Item) (body : Bytes) (post : List Item)
  /-- `SUBSCRIBER_INSTALL` (R180). A subscriber entry is installed. -/
  | subscriberInstall (t : Nat) (r : RecEnv) (pre : List Item) (body : Bytes) (post : List Item)
  /-- `SUBSCRIBER_REMOVE` (R182). A subscriber is removed once its stamped frames leave. -/
  | subscriberRemove (t : Nat) (r : RecEnv) (pre : List Item) (body : Bytes) (post : List Item)
  /-- `SERVICE_INSTALL` (R189). A service is installed on a bucket or on the wheel. -/
  | serviceInstall (t : Nat) (r : RecEnv) (pre : List Item) (body : Bytes) (post : List Item)
  /-- `SERVICE_REMOVE` (R182). A service is removed; a freed bucket takes a waiting wheel service. -/
  | serviceRemove (t : Nat) (r : RecEnv) (pre : List Item) (body : Bytes) (post : List Item)
  /-- `GROUP_INSTALL` (R300). A multicast group entry is installed. -/
  | groupInstall (t : Nat) (r : RecEnv) (pre : List Item) (body : Bytes) (post : List Item)
  /-- `GROUP_REMOVE` (R542). A multicast group entry is removed. -/
  | groupRemove (t : Nat) (r : RecEnv) (pre : List Item) (body : Bytes) (post : List Item)
  /-- `SUMAC_RANGE_INSTALL` (R354). A Sumac range entry is installed. -/
  | sumacRangeInstall (t : Nat) (r : RecEnv) (pre : List Item) (body : Bytes) (post : List Item)
  /-- `SUMAC_RANGE_REMOVE` (R354). A Sumac range entry is removed at its markers. -/
  | sumacRangeRemove (t : Nat) (r : RecEnv) (pre : List Item) (body : Bytes) (post : List Item)
  /-- `EXTENT_INSTALL` (R373). A far-tier extent entry is installed. -/
  | extentInstall (t : Nat) (r : RecEnv) (pre : List Item) (body : Bytes) (post : List Item)
  /-- `EXTENT_REMOVE` (R379). An extent is removed and its cached sectors invalidated. -/
  | extentRemove (t : Nat) (r : RecEnv) (pre : List Item) (body : Bytes) (post : List Item)
  /-- `MIRRORED_RANGE_INSTALL` (R383). A mirrored near range is installed. -/
  | mirroredRangeInstall (t : Nat) (r : RecEnv) (pre : List Item) (body : Bytes) (post : List Item)
  /-- `MIRRORED_RANGE_REMOVE` (R383). A mirrored near range is removed. -/
  | mirroredRangeRemove (t : Nat) (r : RecEnv) (pre : List Item) (body : Bytes) (post : List Item)
  /-- `PREFETCH_SCHEDULE_INSTALL` (R386). A prefetch schedule is installed and begins issue. -/
  | prefetchScheduleInstall (t : Nat) (r : RecEnv) (pre : List Item) (body : Bytes) (post : List Item)
  /-- `PREFETCH_SCHEDULE_REMOVE` (R386). A prefetch schedule is removed and its pins released. -/
  | prefetchScheduleRemove (t : Nat) (r : RecEnv) (pre : List Item) (body : Bytes) (post : List Item)
  /-- `CHANNEL_BINDING_INSTALL` (R420). A Rim channel is bound to a partition's ring. -/
  | channelBindingInstall (t : Nat) (r : RecEnv) (pre : List Item) (body : Bytes) (post : List Item)
  /-- `CHANNEL_BINDING_REMOVE` (R440). A channel is unbound after its active descriptor ends. -/
  | channelBindingRemove (t : Nat) (r : RecEnv) (pre : List Item) (body : Bytes) (post : List Item)
  /-- `PORT_SHARE_INSTALL` (R445). A port share is installed. -/
  | portShareInstall (t : Nat) (r : RecEnv) (pre : List Item) (body : Bytes) (post : List Item)
  /-- `PORT_SHARE_REMOVE` (R542). A port share is removed. -/
  | portShareRemove (t : Nat) (r : RecEnv) (pre : List Item) (body : Bytes) (post : List Item)
  /-- `PUBLISHED_RANGE_INSTALL` (R481). A published range is installed at version 0. -/
  | publishedRangeInstall (t : Nat) (r : RecEnv) (pre : List Item) (body : Bytes) (post : List Item)
  /-- `PUBLISHED_RANGE_REMOVE` (R542). A published range is removed. -/
  | publishedRangeRemove (t : Nat) (r : RecEnv) (pre : List Item) (body : Bytes) (post : List Item)
  /-- `FORWARDING_INSTALL` (R60). Forwarding entries are set for a node span. -/
  | forwardingInstall (t : Nat) (r : RecEnv) (pre : List Item) (body : Bytes) (post : List Item)
  /-- `FORWARDING_REMOVE` (R542). Forwarding entries are removed. -/
  | forwardingRemove (t : Nat) (r : RecEnv) (pre : List Item) (body : Bytes) (post : List Item)
  /-- `SOURCE_RANGES_INSTALL` (R542). The source ranges of a port or sub-port are replaced. -/
  | sourceRangesInstall (t : Nat) (r : RecEnv) (pre : List Item) (body : Bytes) (post : List Item)
  /-- `SOURCE_RANGES_REMOVE` (R542). A port's source ranges are removed. -/
  | sourceRangesRemove (t : Nat) (r : RecEnv) (pre : List Item) (body : Bytes) (post : List Item)
  /-- `CLUSTER_ITEM` (R233). A cluster item marks a cluster leaving, for reassignment or release. -/
  | clusterItem (t : Nat) (r : RecEnv) (pre : List Item) (body : Bytes) (post : List Item)
  /-- `CLUSTER_LEAVE_PROCEED` (R233). A leaving cluster's operators finish; caches are written back, stores cleared and the new partition bound. -/
  | clusterLeaveProceed (t : Nat) (c : Nat)
  /-- `PARTITION_SETUP` (R450). A partition is set up, and its key is generated and transferred to the partner. -/
  | partitionSetup (t : Nat) (r : RecEnv) (pre : List Item) (body : Bytes) (post : List Item)
  /-- `PARTITION_TEARDOWN` (R615). A partition enters TEARDOWN; its work is refused and its tables removed, and its key is erased and scrubbing begins. -/
  | partitionTeardown (t : Nat) (r : RecEnv) (pre : List Item) (body : Bytes) (post : List Item)
  /-- `PARTITION_RING_INSTALL` (R552). A partition telemetry ring is installed. -/
  | partitionRingInstall (t : Nat) (r : RecEnv) (pre : List Item) (body : Bytes) (post : List Item)
  /-- `PARTITION_RING_REMOVE` (R542). A partition telemetry ring is removed. -/
  | partitionRingRemove (t : Nat) (r : RecEnv) (pre : List Item) (body : Bytes) (post : List Item)
  /-- `NODE_AND_PAIR_INSTALL` (R601). The own node, partner, role and retired nodes are set; naming the survivor serving starts failover. -/
  | nodeAndPairInstall (t : Nat) (r : RecEnv) (pre : List Item) (body : Bytes) (post : List Item)
  /-- `JOURNAL_RESET` (R601). The reset-journal flag opens a new generation with empty tables. -/
  | journalReset (t : Nat) (r : RecEnv) (pre : List Item) (body : Bytes) (post : List Item)
  /-- `STANDBY_ENTER` (R583). The standby flag drains work and gates every die except the Hoop die. -/
  | standbyEnter (t : Nat) (r : RecEnv) (pre : List Item) (body : Bytes) (post : List Item)
  /-- `STANDBY_LEAVE` (R583). A record places the device back in service from STANDBY. -/
  | standbyLeave (t : Nat) (r : RecEnv) (pre : List Item) (body : Bytes) (post : List Item)
  /-- `DEVICE_ADMIT` (R617). The admit flag clears the fence and counts every witness reached. -/
  | deviceAdmit (t : Nat) (r : RecEnv) (pre : List Item) (body : Bytes) (post : List Item)
  /-- `WITNESS_SET_INSTALL` (R601). The manager keys of the witness set are installed. -/
  | witnessSetInstall (t : Nat) (r : RecEnv) (pre : List Item) (body : Bytes) (post : List Item)
  /-- `REVOCATION` (R543). A revocation record sets the named entries revoking at its markers. -/
  | revocation (t : Nat) (r : RecEnv) (body : Bytes)
  /-- `PUBLISH_WITNESS` (R603). A manager's witness records contact, or its higher epoch enters the exclusion fence. -/
  | publishWitness (t : Nat) (r : RecEnv) (body : Bytes)
  /-- `PUBLISH_WITNESS_DEFERRED` (R603). A witness naming a queued epoch is judged once the record ahead of it is done. -/
  | publishWitnessDeferred (t : Nat)
  /-- `CONSENT` (R467). A consent record grants debug scope for a duration, or with scope 0 ends the consent in force. -/
  | consent (t : Nat) (r : RecEnv) (body : Bytes)
  /-- `REPLAY_LOCK_ON` (R489). A replay-lock record turns the lock on and starts leaf capture. -/
  | replayLockOn (t : Nat) (r : RecEnv) (body : Bytes)
  /-- `REPLAY_LOCK_OFF` (R490). A replay-lock record closes the batch and turns the lock off. -/
  | replayLockOff (t : Nat) (r : RecEnv) (body : Bytes)
  /-- `KEY_TRANSFER` (R544). A partner's wrapped partition key is installed in MRAM and the key slots. -/
  | keyTransfer (t : Nat) (r : RecEnv) (body : Bytes)
  /-- `PAIR_ADMISSION_OFFER` (R618). A pair-admission offer is checked, answered, and the transport key derived. -/
  | pairAdmissionOffer (t : Nat) (r : RecEnv) (body : Bytes)
  /-- `PAIR_ADMISSION_ANSWER` (R618). The answer's nonce is checked, the transport key derived and the resync begun. -/
  | pairAdmissionAnswer (t : Nat) (r : RecEnv) (body : Bytes)
  /-- `OWNER_CERTIFICATE_FRAGMENT` (R544). A fragment of the slot-1 chain is stored; the last fragment replaces slot 1. -/
  | ownerCertificateFragment (t : Nat) (r : RecEnv) (body : Bytes)
  /-- `UNSUPPORTED_RECORD_TYPE` (R538). A record of an unlisted type is refused UNSUPPORTED. -/
  | unsupportedRecordType (t : Nat) (r : RecEnv) (body : Bytes)
  /-- `HOOP_MBX_DOORBELL` (R546). Writing a slot number submits that BAR2 mailbox slot's record. -/
  | hoopMbxDoorbell (t : Nat) (fn : Nat) (value : BitVec 64) (slotBytes : Bytes)
  /-- `W1C_CLEAR` (R646). Writing 1 to a W1C status bit clears it for both functions. -/
  | w1cClear (t : Nat) (fn : Nat) (offset : Nat) (value : BitVec 64)
  /-- `REGISTER_WRITE_DROPPED` (R646). A write to any other BAR0 byte after the seal is dropped. -/
  | registerWriteDropped (t : Nat) (fn : Nat) (offset : Nat) (value : BitVec 64)
  /-- `UNSUPPORTED_REQUEST_TLP` (R533). A request outside every BAR receives Unsupported Request. -/
  | unsupportedRequestTlp (t : Nat) (fn : Nat) (addr : Nat) (isRead : Bool)
  /-- `DOE_DISCOVERY` (R545). A DOE Discovery object returns the supported protocols. -/
  | doeDiscovery (t : Nat) (fn : Nat) (index : Nat)
  /-- `GET_VERSION` (R477). An SPDM GET_VERSION returns version 1.3. -/
  | getVersion (t : Nat) (q : Requester)
  /-- `GET_CAPABILITIES` (R477). An SPDM GET_CAPABILITIES returns CERT, CHAL and MEAS. -/
  | getCapabilities (t : Nat) (q : Requester) (version : BitVec 8)
  /-- `NEGOTIATE_ALGORITHMS` (R477). An SPDM NEGOTIATE_ALGORITHMS selects Ed25519 and SHA-512. -/
  | negotiateAlgorithms (t : Nat) (q : Requester) (baseAsym : BitVec 32) (baseHash : BitVec 32)
  /-- `GET_DIGESTS` (R477). An SPDM GET_DIGESTS returns the chain digests. -/
  | getDigests (t : Nat) (q : Requester)
  /-- `GET_CERTIFICATE` (R475). An SPDM GET_CERTIFICATE returns a certificate chain slot. -/
  | getCertificate (t : Nat) (q : Requester) (slot : Nat) (offset : Nat) (length : Nat)
  /-- `CHALLENGE` (R477). An SPDM CHALLENGE returns a signed CHALLENGE_AUTH. -/
  | challenge (t : Nat) (q : Requester) (slot : Nat) (nonce : Bytes) (measType : BitVec 8)
  /-- `GET_MEASUREMENTS` (R480). An SPDM GET_MEASUREMENTS returns signed measurement blocks as they stood at one instant. -/
  | getMeasurements (t : Nat) (q : Requester) (op : Nat) (signed : Bool) (nonce : Bytes) (slot : Nat)
  /-- `SPDM_UNSUPPORTED_REQUEST` (R477). Any other SPDM request receives ERROR with UnsupportedRequest. -/
  | spdmUnsupportedRequest (t : Nat) (q : Requester) (code : BitVec 8)
  /-- `MCTP_CONTROL` (R548). An MCTP control message is served. -/
  | mctpControl (t : Nat) (bytes : Bytes)
  /-- `MCTP_STATUS` (R548). Command 0x01 returns power, temperatures and the die failure mask. -/
  | mctpStatus (t : Nat)
  /-- `MCTP_READ_RING` (R548). Command 0x02 returns ring entries. -/
  | mctpReadRing (t : Nat) (ring : Nat) (start : Nat) (count : Nat)
  /-- `MCTP_SUBMIT_RECORD` (R548). Command 0x03 submits a record and returns its response. -/
  | mctpSubmitRecord (t : Nat) (r : RecEnv) (body : Bytes)
  /-- `ENTDAA` (R548). I3C ENTDAA assigns the dynamic address. -/
  | entdaa (t : Nat) (addr : BitVec 7)
  /-- `SETDASA` (R548). I3C SETDASA assigns the address from HOOP_I3C_ADDR. -/
  | setdasa (t : Nat) (static : BitVec 7) (dynamic : BitVec 7)
  /-- `DOORBELL_STORE_DEADLINE` (R388). A prefetch doorbell store that is waiting for its step's instances to land reaches its effective deadline, and is refused with THROTTLED, settled, with the miss counted. -/
  | doorbellStoreDeadline (t : Nat) (part : Nat)
  /-- `AER_ERROR` (R533). A link or TLP error on the PCIe link is reported through AER with its standard severity and fires MSI-X vector 3. -/
  | aerError (t : Nat) (fn : Nat) (err : BitVec 32)
  deriving DecidableEq, Repr

end Sys2Proof
end

