-- ==== Sys2Proof/Decode.lean ====
section
/-! DEFINITION. The command that a word spells by the table's bits. spec/opcode_table.json gives no row any bits, so no
word spells a command (notes/assumptions/8.md). -/

namespace Sys2Proof

/-- The command spelled by the `nbits`-bit word `w`: none, since no row of the table has bits. -/
def decodeTableWord (_nbits _w : Nat) : Option Instr := none

end Sys2Proof
end

