-- ==== Sys2Proof/Config.lean ====
section
/-! DEFINITION. What one implementation or one package fixes and the spec leaves open: constants with no body, so that no
proof can see their values. Every one is named in notes/assumptions/2.md or notes/assumptions/3.md. -/

namespace Sys2Proof

/-- DESIGN CHOICE (free value, log 2). A byte the device takes from its random source, the spill, scrub, partition and
nonce sources alike: draw number `draw`, byte `i` (R447). -/
opaque Config.randomByte : Nat → Nat → Byte

/-- DESIGN CHOICE (free value, log 2). A byte that the spec leaves undefined: value number `draw`, byte `i` (R323). -/
opaque Config.freeByte : Nat → Nat → Byte

/-- The 256-bit device secret the PUF reconstructs (R473): byte `i`. No rule gives its value (log 3). -/
opaque Config.deviceSecretByte : Nat → Byte

/-- The hash of the vendor public key that mask ROM holds (R565): byte `i` (log 3). -/
opaque Config.vendorKeyHashByte : Nat → Byte

/-- The SHA-512 of the mask ROM, measurement block 1 (R478): byte `i` (log 3). -/
opaque Config.maskRomDigestByte : Nat → Byte

/-- The certificate chain of slot 0, written to MRAM at manufacture (R475) (log 3). -/
opaque Config.slot0Chain : Bytes

/-- The 16-bit code of a kind of resource in an event record (R551): the spec gives no codes (log 9). The argument is the
model's number for the kind. -/
opaque Config.resourceKind : Nat → BitVec 16

/-- A chain of certificates certifies this device's identity key (R544): no rule gives the chain's format (log 3). -/
opaque Config.certifies : Bytes → Bool

/-- The quantum of a default subscriber that no record has installed (R180): no rule gives its number (log 3). -/
opaque Config.defaultQuantumValue : Nat

/-- The sixteenths that a count of stalls (causes 0 to 4) or of numeric exceptions (5) in a 1 ms window comes to (R550, kind
0x8008): no rule gives its full scale (log 3). -/
opaque Config.windowSixteenths : Nat → Nat → Byte

/-- The bytes of an SPDM request of a code, given the bytes of the fields that its command names: the signed transcripts hold them, and
no rule gives their layout (log 3). -/
opaque Config.spdmRequest : Nat → Bytes → Bytes

/-- Values in SPDM responses that no rule gives (log 3): 0 the timeout exponent, 1 the data transfer size, 2 the largest message. -/
opaque Config.spdmValue : Nat → Nat

/-- The measurement blocks that belong to the trusted computing base (log 3): no rule says which. -/
opaque Config.inTcb : Nat → Bool

/-- The answer to an MCTP control message (R548): no rule gives the messages (log 3). -/
opaque Config.mctpReply : Bytes → Bytes

/-- The quantum of a default subscriber that no record has installed, within the range of R180. -/
def Config.defaultQuantum : Nat := Config.defaultQuantumValue % 1024 + 1

/-- `n` bytes of draw `draw` from the random source. -/
def Config.randomBytes (draw n : Nat) : Bytes := (List.range n).map (Config.randomByte draw)

/-- `n` undefined bytes, value number `draw`. -/
def Config.freeBytes (draw n : Nat) : Bytes := (List.range n).map (Config.freeByte draw)

/-- The device secret (R473). -/
def Config.deviceSecret : Bytes := (List.range 32).map Config.deviceSecretByte

/-- The vendor key hash (R565). -/
def Config.vendorKeyHash : Bytes := (List.range 64).map Config.vendorKeyHashByte

/-- The mask-ROM digest (R478). -/
def Config.maskRomDigest : Bytes := (List.range 64).map Config.maskRomDigestByte

end Sys2Proof
end

