-- ==== Sys2Proof/Machine/Crypto.lean ====
section
/-! DEFINITION. The standard functions the spec names and does not write out: SHA-512, HMAC and HKDF (RFC 5869), pure
Ed25519 (RFC 8032), X25519 (RFC 7748), AES-256, XTS (IEEE 1619) and AES-KW (NIST SP 800-38F), and the two checks the
spec does write out, CRC-16 (R43) and CRC-32C (R40). Constants and steps of the standard functions are PRESUMED (log 4).
Everything is structural recursion on lists and Nat arithmetic, so that the kernel can evaluate it. -/

namespace Sys2Proof.Machine

/-! ## Bytes and numbers -/

/-- Little-endian value of bytes. -/
def leNat : Bytes → Nat
  | [] => 0
  | b :: bs => b.toNat + 256 * leNat bs

/-- Big-endian value of bytes. -/
def beNat (bs : Bytes) : Nat := bs.foldl (fun a b => a * 256 + b.toNat) 0

/-- `n` little-endian bytes of a number. -/
def natLe : Nat → Nat → Bytes
  | 0, _ => []
  | n + 1, x => BitVec.ofNat 8 (x % 256) :: natLe n (x / 256)

/-- `n` big-endian bytes of a number. -/
def natBe (n x : Nat) : Bytes := (natLe n x).reverse

/-- `len` bytes from offset `off`; short where the list is. -/
def slice (bs : Bytes) (off len : Nat) : Bytes := (bs.drop off).take len

/-- The little-endian number in bytes `off` to `off + len - 1`. -/
def leAt (bs : Bytes) (off len : Nat) : Nat := leNat (slice bs off len)

/-- The big-endian number in bytes `off` to `off + len - 1`. -/
def beAt (bs : Bytes) (off len : Nat) : Nat := beNat (slice bs off len)

/-- Bits `[lo + w - 1 : lo]` of a number. -/
def bits (x lo w : Nat) : Nat := (x >>> lo) % 2 ^ w

/-- `n` zero bytes. -/
def zeros (n : Nat) : Bytes := List.replicate n 0

/-- Bytes cut or zero-padded to exactly `n`. -/
def padTo (n : Nat) (bs : Bytes) : Bytes := bs.take n ++ zeros (n - bs.length)

/-- Bytewise exclusive or. -/
def xorBytes (a b : Bytes) : Bytes := List.zipWith (· ^^^ ·) a b

/-- The pieces of `n` bytes of a byte list, the last maybe shorter; the fuel is the list's length. -/
def chunksAux (n : Nat) : Nat → Bytes → List Bytes
  | 0, _ => []
  | _, [] => []
  | f + 1, bs => bs.take n :: chunksAux n f (bs.drop n)

/-- The pieces of `n` bytes of a byte list. -/
def chunks (n : Nat) (bs : Bytes) : List Bytes := chunksAux n bs.length bs

/-! ## Checks -/

/-- Bit steps of the CRC-16 of R43. -/
def crc16Step : Nat → Nat → Nat
  | 0, c => c
  | n + 1, c => crc16Step n (if c >= 0x8000 then ((c * 2) % 0x10000) ^^^ 0x1021 else c * 2)

/-- The CRC-16 of R43: polynomial 0x1021, initial value 0xFFFF, no reflection, no final XOR. -/
def crc16 (bs : Bytes) : BitVec 16 :=
  BitVec.ofNat 16 (bs.foldl (fun c b => crc16Step 8 (c ^^^ (b.toNat * 256))) 0xFFFF)

/-- Bit steps of the reflected CRC-32C of R40. -/
def crc32cStep : Nat → Nat → Nat
  | 0, c => c
  | n + 1, c => crc32cStep n (if c % 2 = 1 then (c / 2) ^^^ 0x82F63B78 else c / 2)

/-- The CRC-32C of R40: polynomial 0x1EDC6F41, reflected, initial value and final XOR all ones. -/
def crc32c (bs : Bytes) : BitVec 32 :=
  BitVec.ofNat 32 ((bs.foldl (fun c b => crc32cStep 8 (c ^^^ b.toNat)) 0xFFFFFFFF) ^^^ 0xFFFFFFFF)

/-! ## SHA-512 -/

/-- The round constants of SHA-512 (FIPS 180-4). -/
def sha512K : List Nat :=
  [0x428a2f98d728ae22, 0x7137449123ef65cd, 0xb5c0fbcfec4d3b2f, 0xe9b5dba58189dbbc] ++
  [0x3956c25bf348b538, 0x59f111f1b605d019, 0x923f82a4af194f9b, 0xab1c5ed5da6d8118] ++
  [0xd807aa98a3030242, 0x12835b0145706fbe, 0x243185be4ee4b28c, 0x550c7dc3d5ffb4e2] ++
  [0x72be5d74f27b896f, 0x80deb1fe3b1696b1, 0x9bdc06a725c71235, 0xc19bf174cf692694] ++
  [0xe49b69c19ef14ad2, 0xefbe4786384f25e3, 0xfc19dc68b8cd5b5, 0x240ca1cc77ac9c65] ++
  [0x2de92c6f592b0275, 0x4a7484aa6ea6e483, 0x5cb0a9dcbd41fbd4, 0x76f988da831153b5] ++
  [0x983e5152ee66dfab, 0xa831c66d2db43210, 0xb00327c898fb213f, 0xbf597fc7beef0ee4] ++
  [0xc6e00bf33da88fc2, 0xd5a79147930aa725, 0x6ca6351e003826f, 0x142929670a0e6e70] ++
  [0x27b70a8546d22ffc, 0x2e1b21385c26c926, 0x4d2c6dfc5ac42aed, 0x53380d139d95b3df] ++
  [0x650a73548baf63de, 0x766a0abb3c77b2a8, 0x81c2c92e47edaee6, 0x92722c851482353b] ++
  [0xa2bfe8a14cf10364, 0xa81a664bbc423001, 0xc24b8b70d0f89791, 0xc76c51a30654be30] ++
  [0xd192e819d6ef5218, 0xd69906245565a910, 0xf40e35855771202a, 0x106aa07032bbd1b8] ++
  [0x19a4c116b8d2d0c8, 0x1e376c085141ab53, 0x2748774cdf8eeb99, 0x34b0bcb5e19b48a8] ++
  [0x391c0cb3c5c95a63, 0x4ed8aa4ae3418acb, 0x5b9cca4f7763e373, 0x682e6ff3d6b2b8a3] ++
  [0x748f82ee5defb2fc, 0x78a5636f43172f60, 0x84c87814a1f0ab72, 0x8cc702081a6439ec] ++
  [0x90befffa23631e28, 0xa4506cebde82bde9, 0xbef9a3f7b2c67915, 0xc67178f2e372532b] ++
  [0xca273eceea26619c, 0xd186b8c721c0c207, 0xeada7dd6cde0eb1e, 0xf57d4f7fee6ed178] ++
  [0x6f067aa72176fba, 0xa637dc5a2c898a6, 0x113f9804bef90dae, 0x1b710b35131c471b] ++
  [0x28db77f523047d84, 0x32caab7b40c72493, 0x3c9ebe0a15c9bebc, 0x431d67c49c100d4c] ++
  [0x4cc5d4becb3e42b6, 0x597f299cfc657e2a, 0x5fcb6fab3ad6faec, 0x6c44198c4a475817]

/-- The initial hash value of SHA-512 (FIPS 180-4). -/
def sha512H0 : List Nat :=
  [0x6a09e667f3bcc908, 0xbb67ae8584caa73b, 0x3c6ef372fe94f82b, 0xa54ff53a5f1d36f1] ++
  [0x510e527fade682d1, 0x9b05688c2b3e6c1f, 0x1f83d9abfb41bd6b, 0x5be0cd19137e2179]

/-- Rotate a 64-bit number right. -/
def rotr64 (x n : Nat) : Nat := ((x >>> n) ||| (x <<< (64 - n))) % 0x10000000000000000

/-- The eight working variables of SHA-512 and its window of sixteen schedule words. -/
structure ShaState where
  v : List Nat
  w : List Nat
  deriving DecidableEq, Repr

/-- One round with constant `k`. -/
def sha512Round (st : ShaState) (k : Nat) : ShaState :=
  let m := 0x10000000000000000
  match st.v, st.w with
  | [a, b, c, d, e, f, g, h], w0 :: ws =>
    let s1 := rotr64 e 14 ^^^ rotr64 e 18 ^^^ rotr64 e 41
    let ch := (e &&& f) ^^^ ((0xffffffffffffffff ^^^ e) &&& g)
    let t1 := (h + s1 + ch + k + w0) % m
    let s0 := rotr64 a 28 ^^^ rotr64 a 34 ^^^ rotr64 a 39
    let mj := (a &&& b) ^^^ (a &&& c) ^^^ (b &&& c)
    let w1 := ws.getD 0 0
    let w14 := ws.getD 13 0
    let g0 := rotr64 w1 1 ^^^ rotr64 w1 8 ^^^ (w1 >>> 7)
    let g1 := rotr64 w14 19 ^^^ rotr64 w14 61 ^^^ (w14 >>> 6)
    let w16 := (g1 + ws.getD 8 0 + g0 + w0) % m
    { v := [(t1 + s0 + mj) % m, a, b, c, (d + t1) % m, e, f, g], w := ws ++ [w16] }
  | _, _ => st

/-- The compression of one 128-byte block into the hash value. -/
def sha512Block (h : List Nat) (blk : Bytes) : List Nat :=
  let st := sha512K.foldl sha512Round { v := h, w := (chunks 8 blk).map beNat }
  List.zipWith (fun x y => (x + y) % 0x10000000000000000) h st.v

/-- SHA-512 (FIPS 180-4), named by R473 to R497. -/
def sha512 (m : Bytes) : Bytes :=
  let n := m.length
  let z := (128 - (n + 17) % 128) % 128
  let p := m ++ [0x80] ++ zeros z ++ natBe 16 (8 * n)
  ((chunks 128 p).foldl sha512Block sha512H0).flatMap (natBe 8)

/-- HMAC-SHA-512 (RFC 2104). -/
def hmac512 (key msg : Bytes) : Bytes :=
  let k := padTo 128 (if key.length > 128 then sha512 key else key)
  sha512 (k.map (· ^^^ 0x5c) ++ sha512 (k.map (· ^^^ 0x36) ++ msg))

/-- The first 64 bytes of HKDF-SHA-512 (RFC 5869); every use here takes at most 64 (R447, R473, R618). -/
def hkdf512 (salt ikm info : Bytes) : Bytes :=
  hmac512 (hmac512 salt ikm) (info ++ [1])

/-! ## The curve of Ed25519 and X25519 -/

/-- The field prime 2^255 - 19. -/
def edP : Nat := 2 ^ 255 - 19
/-- The group order. -/
def edL : Nat := 2 ^ 252 + 27742317777372353535851937790883648493
/-- The curve constant d. -/
def edD : Nat := 37095705934669439343138083508754565189542113879843219016388785533085940283555
/-- A square root of -1. -/
def edSqrtM1 : Nat := 19681161376707505956807079304988542015446066515923890162744021073123829784752

/-- `b ^ e` in the field, over the low `n` bits of the exponent. -/
def powModAux (b e : Nat) : Nat → Nat
  | 0 => 1
  | n + 1 =>
    let r := powModAux b e n
    let r2 := (r * r) % edP
    if (e >>> (255 - n)) % 2 = 1 then (r2 * b) % edP else r2

/-- `b ^ e` in the field, for exponents below 2^256. -/
def powMod (b e : Nat) : Nat := powModAux (b % edP) e 256

/-- Inverse in the field. -/
def fInv (x : Nat) : Nat := powMod x (edP - 2)

/-- Difference in the field. -/
def fSub (a b : Nat) : Nat := (a + edP - b % edP) % edP

/-- A point in extended coordinates (RFC 8032, 5.1.4). -/
structure EdPoint where
  x : Nat
  y : Nat
  z : Nat
  t : Nat
  deriving DecidableEq, Repr

/-- The neutral point. -/
def edZero : EdPoint := ⟨0, 1, 1, 0⟩
/-- The base point. -/
def edBase : EdPoint :=
  ⟨15112221349535400772501151409588531511454012693041857206046113283949847762202,
   46316835694926478169428394003475163141307993866256225615783033603165251855960, 1,
   46827403850823179245072216630277197565144205554125654976674165829533817101731⟩

/-- Point addition (RFC 8032, 5.1.4). -/
def edAdd (p q : EdPoint) : EdPoint :=
  let a := (fSub p.y p.x * fSub q.y q.x) % edP
  let b := ((p.y + p.x) * (q.y + q.x)) % edP
  let c := (2 * p.t * q.t * edD) % edP
  let d := (2 * p.z * q.z) % edP
  let e := fSub b a
  let f := fSub d c
  let g := (d + c) % edP
  let h := (b + a) % edP
  ⟨(e * f) % edP, (g * h) % edP, (f * g) % edP, (e * h) % edP⟩

/-- Scalar multiplication over the high `n` of 256 bits. -/
def edMulAux (p : EdPoint) (k : Nat) : Nat → EdPoint
  | 0 => edZero
  | n + 1 =>
    let r := edMulAux p k n
    let r2 := edAdd r r
    if (k >>> (255 - n)) % 2 = 1 then edAdd r2 p else r2

/-- Scalar multiplication. -/
def edMul (k : Nat) (p : EdPoint) : EdPoint := edMulAux p k 256

/-- Encoding of a point (RFC 8032, 5.1.2). -/
def edEncode (p : EdPoint) : Bytes :=
  let zi := fInv p.z
  let x := (p.x * zi) % edP
  let y := (p.y * zi) % edP
  natLe 32 (y + (x % 2) * 2 ^ 255)

/-- Decoding of a point (RFC 8032, 5.1.3). -/
def edDecode (bs : Bytes) : Option EdPoint :=
  if bs.length ≠ 32 then none else
  let n := leNat bs
  let y := n % 2 ^ 255
  let sgn := n / 2 ^ 255
  if y ≥ edP then none else
  let u := fSub (y * y) 1
  let v := (edD * y * y + 1) % edP
  let v3 := (v * v * v) % edP
  let x0 := (u * v3 * powMod (u * v3 * v3 * v) ((edP - 5) / 8)) % edP
  let vxx := (v * x0 * x0) % edP
  let x := if vxx = u then some x0 else if vxx = fSub 0 u then some ((x0 * edSqrtM1) % edP) else none
  match x with
  | none => none
  | some x =>
    if x = 0 ∧ sgn = 1 then none else
    let x := if x % 2 = sgn then x else edP - x
    some ⟨x, y, 1, (x * y) % edP⟩

/-- The clamped scalar of a private key. -/
def clamp (bs : Bytes) : Nat :=
  let n := leNat (bs.take 32)
  (n % 2 ^ 254 / 8) * 8 + 2 ^ 254

/-- The Ed25519 public key of a seed. -/
def edPublic (seed : Bytes) : Bytes := edEncode (edMul (clamp (sha512 seed)) edBase)

/-- Pure Ed25519 signature (RFC 8032, 5.1.6). -/
def edSign (seed msg : Bytes) : Bytes :=
  let h := sha512 seed
  let a := clamp h
  let pub := edEncode (edMul a edBase)
  let r := leNat (sha512 (h.drop 32 ++ msg)) % edL
  let rb := edEncode (edMul r edBase)
  let k := leNat (sha512 (rb ++ pub ++ msg)) % edL
  rb ++ natLe 32 ((r + k * a) % edL)

/-- Pure Ed25519 verification (RFC 8032, 5.1.7), by the equation without the cofactor. -/
def edVerify (pub msg sig : Bytes) : Bool :=
  if sig.length ≠ 64 then false else
  match edDecode pub with
  | none => false
  | some a =>
    let rb := sig.take 32
    let s := leNat (sig.drop 32)
    if s ≥ edL then false else
    let k := leNat (sha512 (rb ++ pub ++ msg)) % edL
    let na : EdPoint := ⟨fSub 0 a.x, a.y, 1, fSub 0 a.t⟩
    edEncode (edAdd (edMul s edBase) (edMul k na)) == rb

/-- One bit of the X25519 ladder (RFC 7748). -/
def x25519Step (x1 : Nat) (st : Nat × Nat × Nat × Nat) (b : Bool) : Nat × Nat × Nat × Nat :=
  let q := if b then (st.2.2.1, st.2.2.2, st.1, st.2.1) else st
  let x2 := q.1
  let z2 := q.2.1
  let x3 := q.2.2.1
  let z3 := q.2.2.2
  let a := (x2 + z2) % edP
  let aa := (a * a) % edP
  let e0 := fSub x2 z2
  let bb := (e0 * e0) % edP
  let e := fSub aa bb
  let c := (x3 + z3) % edP
  let d := fSub x3 z3
  let da := (d * a) % edP
  let cb := (c * e0) % edP
  let nx3 := ((da + cb) * (da + cb)) % edP
  let f := fSub da cb
  let nz3 := (x1 * ((f * f) % edP)) % edP
  let nx2 := (aa * bb) % edP
  let nz2 := (e * ((aa + 121665 * e) % edP)) % edP
  if b then (nx3, nz3, nx2, nz2) else (nx2, nz2, nx3, nz3)

/-- X25519 (RFC 7748). -/
def x25519 (priv pub : Bytes) : Bytes :=
  let k := clamp priv
  let x1 := leNat (pub.take 32) % 2 ^ 255
  let bs := (List.range 255).map (fun i => k.testBit (254 - i))
  let r := bs.foldl (x25519Step x1) (1, 0, x1, 1)
  natLe 32 ((r.1 * fInv r.2.1) % edP)

/-- The X25519 public key of a private key. -/
def x25519Public (priv : Bytes) : Bytes := x25519 priv (natLe 32 9)

/-! ## AES-256 -/

/-- The AES S-box (FIPS 197). -/
def aesSbox : List Nat :=
  [0x63, 0x7c, 0x77, 0x7b, 0xf2, 0x6b, 0x6f, 0xc5, 0x30, 0x1, 0x67, 0x2b, 0xfe, 0xd7, 0xab, 0x76] ++
  [0xca, 0x82, 0xc9, 0x7d, 0xfa, 0x59, 0x47, 0xf0, 0xad, 0xd4, 0xa2, 0xaf, 0x9c, 0xa4, 0x72, 0xc0] ++
  [0xb7, 0xfd, 0x93, 0x26, 0x36, 0x3f, 0xf7, 0xcc, 0x34, 0xa5, 0xe5, 0xf1, 0x71, 0xd8, 0x31, 0x15] ++
  [0x4, 0xc7, 0x23, 0xc3, 0x18, 0x96, 0x5, 0x9a, 0x7, 0x12, 0x80, 0xe2, 0xeb, 0x27, 0xb2, 0x75] ++
  [0x9, 0x83, 0x2c, 0x1a, 0x1b, 0x6e, 0x5a, 0xa0, 0x52, 0x3b, 0xd6, 0xb3, 0x29, 0xe3, 0x2f, 0x84] ++
  [0x53, 0xd1, 0x0, 0xed, 0x20, 0xfc, 0xb1, 0x5b, 0x6a, 0xcb, 0xbe, 0x39, 0x4a, 0x4c, 0x58, 0xcf] ++
  [0xd0, 0xef, 0xaa, 0xfb, 0x43, 0x4d, 0x33, 0x85, 0x45, 0xf9, 0x2, 0x7f, 0x50, 0x3c, 0x9f, 0xa8] ++
  [0x51, 0xa3, 0x40, 0x8f, 0x92, 0x9d, 0x38, 0xf5, 0xbc, 0xb6, 0xda, 0x21, 0x10, 0xff, 0xf3, 0xd2] ++
  [0xcd, 0xc, 0x13, 0xec, 0x5f, 0x97, 0x44, 0x17, 0xc4, 0xa7, 0x7e, 0x3d, 0x64, 0x5d, 0x19, 0x73] ++
  [0x60, 0x81, 0x4f, 0xdc, 0x22, 0x2a, 0x90, 0x88, 0x46, 0xee, 0xb8, 0x14, 0xde, 0x5e, 0xb, 0xdb] ++
  [0xe0, 0x32, 0x3a, 0xa, 0x49, 0x6, 0x24, 0x5c, 0xc2, 0xd3, 0xac, 0x62, 0x91, 0x95, 0xe4, 0x79] ++
  [0xe7, 0xc8, 0x37, 0x6d, 0x8d, 0xd5, 0x4e, 0xa9, 0x6c, 0x56, 0xf4, 0xea, 0x65, 0x7a, 0xae, 0x8] ++
  [0xba, 0x78, 0x25, 0x2e, 0x1c, 0xa6, 0xb4, 0xc6, 0xe8, 0xdd, 0x74, 0x1f, 0x4b, 0xbd, 0x8b, 0x8a] ++
  [0x70, 0x3e, 0xb5, 0x66, 0x48, 0x3, 0xf6, 0xe, 0x61, 0x35, 0x57, 0xb9, 0x86, 0xc1, 0x1d, 0x9e] ++
  [0xe1, 0xf8, 0x98, 0x11, 0x69, 0xd9, 0x8e, 0x94, 0x9b, 0x1e, 0x87, 0xe9, 0xce, 0x55, 0x28, 0xdf] ++
  [0x8c, 0xa1, 0x89, 0xd, 0xbf, 0xe6, 0x42, 0x68, 0x41, 0x99, 0x2d, 0xf, 0xb0, 0x54, 0xbb, 0x16]

/-- The inverse AES S-box (FIPS 197). -/
def aesInvSbox : List Nat :=
  [0x52, 0x9, 0x6a, 0xd5, 0x30, 0x36, 0xa5, 0x38, 0xbf, 0x40, 0xa3, 0x9e, 0x81, 0xf3, 0xd7, 0xfb] ++
  [0x7c, 0xe3, 0x39, 0x82, 0x9b, 0x2f, 0xff, 0x87, 0x34, 0x8e, 0x43, 0x44, 0xc4, 0xde, 0xe9, 0xcb] ++
  [0x54, 0x7b, 0x94, 0x32, 0xa6, 0xc2, 0x23, 0x3d, 0xee, 0x4c, 0x95, 0xb, 0x42, 0xfa, 0xc3, 0x4e] ++
  [0x8, 0x2e, 0xa1, 0x66, 0x28, 0xd9, 0x24, 0xb2, 0x76, 0x5b, 0xa2, 0x49, 0x6d, 0x8b, 0xd1, 0x25] ++
  [0x72, 0xf8, 0xf6, 0x64, 0x86, 0x68, 0x98, 0x16, 0xd4, 0xa4, 0x5c, 0xcc, 0x5d, 0x65, 0xb6, 0x92] ++
  [0x6c, 0x70, 0x48, 0x50, 0xfd, 0xed, 0xb9, 0xda, 0x5e, 0x15, 0x46, 0x57, 0xa7, 0x8d, 0x9d, 0x84] ++
  [0x90, 0xd8, 0xab, 0x0, 0x8c, 0xbc, 0xd3, 0xa, 0xf7, 0xe4, 0x58, 0x5, 0xb8, 0xb3, 0x45, 0x6] ++
  [0xd0, 0x2c, 0x1e, 0x8f, 0xca, 0x3f, 0xf, 0x2, 0xc1, 0xaf, 0xbd, 0x3, 0x1, 0x13, 0x8a, 0x6b] ++
  [0x3a, 0x91, 0x11, 0x41, 0x4f, 0x67, 0xdc, 0xea, 0x97, 0xf2, 0xcf, 0xce, 0xf0, 0xb4, 0xe6, 0x73] ++
  [0x96, 0xac, 0x74, 0x22, 0xe7, 0xad, 0x35, 0x85, 0xe2, 0xf9, 0x37, 0xe8, 0x1c, 0x75, 0xdf, 0x6e] ++
  [0x47, 0xf1, 0x1a, 0x71, 0x1d, 0x29, 0xc5, 0x89, 0x6f, 0xb7, 0x62, 0xe, 0xaa, 0x18, 0xbe, 0x1b] ++
  [0xfc, 0x56, 0x3e, 0x4b, 0xc6, 0xd2, 0x79, 0x20, 0x9a, 0xdb, 0xc0, 0xfe, 0x78, 0xcd, 0x5a, 0xf4] ++
  [0x1f, 0xdd, 0xa8, 0x33, 0x88, 0x7, 0xc7, 0x31, 0xb1, 0x12, 0x10, 0x59, 0x27, 0x80, 0xec, 0x5f] ++
  [0x60, 0x51, 0x7f, 0xa9, 0x19, 0xb5, 0x4a, 0xd, 0x2d, 0xe5, 0x7a, 0x9f, 0x93, 0xc9, 0x9c, 0xef] ++
  [0xa0, 0xe0, 0x3b, 0x4d, 0xae, 0x2a, 0xf5, 0xb0, 0xc8, 0xeb, 0xbb, 0x3c, 0x83, 0x53, 0x99, 0x61] ++
  [0x17, 0x2b, 0x4, 0x7e, 0xba, 0x77, 0xd6, 0x26, 0xe1, 0x69, 0x14, 0x63, 0x55, 0x21, 0xc, 0x7d]

/-- Multiplication by x in the AES field. -/
def xtime (a : Nat) : Nat := if a >= 128 then (a * 2) % 256 ^^^ 0x1b else a * 2

/-- Multiplication in the AES field by a number below 16. -/
def gmul (a b : Nat) : Nat :=
  let a2 := xtime a
  let a4 := xtime a2
  let a8 := xtime a4
  (if b % 2 = 1 then a else 0) ^^^ (if b / 2 % 2 = 1 then a2 else 0) ^^^
    (if b / 4 % 2 = 1 then a4 else 0) ^^^ (if b / 8 % 2 = 1 then a8 else 0)

/-- The four columns of a round key or of the block, each a list of four numbers. -/
abbrev AesCols := List (List Nat)

/-- One step of the AES-256 key expansion: word `i` after the words before it. -/
def aesKeyStep (ws : List (List Nat)) (i : Nat) : List (List Nat) :=
  let prev := ws.getD (i - 1) []
  let old := ws.getD (i - 8) []
  let sub := fun (w : List Nat) => w.map (fun b => aesSbox.getD b 0)
  let rc := [0, 1, 2, 4, 8, 16, 32, 64]
  let t :=
    if i % 8 = 0 then
      match sub (prev.drop 1 ++ prev.take 1) with
      | b :: bs => (b ^^^ rc.getD (i / 8) 0) :: bs
      | [] => []
    else if i % 8 = 4 then sub prev else prev
  ws ++ [List.zipWith (· ^^^ ·) old t]

/-- The 60 round-key words of a 32-byte key. -/
def aesExpand (key : Bytes) : List (List Nat) :=
  ((List.range 52).map (· + 8)).foldl aesKeyStep ((chunks 4 key).map (List.map BitVec.toNat))

/-- Round key `r` as four columns. -/
def aesRoundKey (ws : List (List Nat)) (r : Nat) : AesCols := (ws.drop (4 * r)).take 4

/-- Add a round key. -/
def aesAddKey (a b : AesCols) : AesCols := List.zipWith (List.zipWith (· ^^^ ·)) a b

/-- Element (row, column) of the block. -/
def aesEl (s : AesCols) (r c : Nat) : Nat := (s.getD (c % 4) []).getD r 0

/-- ShiftRows by `k` times the row (1 forward, 3 inverse). -/
def aesShift (k : Nat) (s : AesCols) : AesCols :=
  (List.range 4).map (fun c => (List.range 4).map (fun r => aesEl s r (c + k * r)))

/-- MixColumns with the row of coefficients. -/
def aesMix (co : List Nat) (s : AesCols) : AesCols :=
  s.map (fun col => (List.range 4).map (fun r =>
    (List.range 4).foldl (fun a i => a ^^^ gmul (col.getD i 0) (co.getD ((i + 4 - r) % 4) 0)) 0))

/-- The bytes of the columns. -/
def aesOut (s : AesCols) : Bytes := s.flatMap (List.map (BitVec.ofNat 8))

/-- AES-256 encryption of one 16-byte block under expanded key words. -/
def aesEncW (ws : List (List Nat)) (blk : Bytes) : Bytes :=
  let s0 := aesAddKey ((chunks 4 blk).map (List.map BitVec.toNat)) (aesRoundKey ws 0)
  let sub := fun (s : AesCols) => s.map (List.map (fun b => aesSbox.getD b 0))
  let s := ((List.range 13).map (· + 1)).foldl
    (fun s r => aesAddKey (aesMix [2, 3, 1, 1] (aesShift 1 (sub s))) (aesRoundKey ws r)) s0
  aesOut (aesAddKey (aesShift 1 (sub s)) (aesRoundKey ws 14))

/-- AES-256 decryption of one 16-byte block under expanded key words. -/
def aesDecW (ws : List (List Nat)) (blk : Bytes) : Bytes :=
  let s0 := aesAddKey ((chunks 4 blk).map (List.map BitVec.toNat)) (aesRoundKey ws 14)
  let sub := fun (s : AesCols) => s.map (List.map (fun b => aesInvSbox.getD b 0))
  let s := ((List.range 13).map (fun i => 13 - i)).foldl
    (fun s r => aesMix [14, 11, 13, 9] (aesAddKey (sub (aesShift 3 s)) (aesRoundKey ws r))) s0
  aesOut (aesAddKey (sub (aesShift 3 s)) (aesRoundKey ws 0))

/-- The next XTS tweak: multiplication by x of the little-endian 128-bit value (IEEE 1619). -/
def xtsNext (t : Bytes) : Bytes :=
  let n := leNat t * 2
  natLe 16 (if n >= 2 ^ 128 then (n % 2 ^ 128) ^^^ 0x87 else n)

/-- The 16-byte blocks of one XTS data unit, from a first tweak. -/
def xtsBlocks (f : Bytes → Bytes) : Bytes → List Bytes → Bytes
  | _, [] => []
  | t, b :: bs => xorBytes (f (xorBytes b t)) t ++ xtsBlocks f (xtsNext t) bs

/-- AES-256-XTS over one data unit of whole blocks (R360): `key` is 64 bytes, `tweak` the 128-bit tweak. -/
def xtsEncrypt (key : Bytes) (tweak : Nat) (unit : Bytes) : Bytes :=
  xtsBlocks (aesEncW (aesExpand (key.take 32))) (aesEncW (aesExpand (key.drop 32)) (natLe 16 tweak)) (chunks 16 unit)

/-- The inverse of `xtsEncrypt`. -/
def xtsDecrypt (key : Bytes) (tweak : Nat) (unit : Bytes) : Bytes :=
  xtsBlocks (aesDecW (aesExpand (key.take 32))) (aesEncW (aesExpand (key.drop 32)) (natLe 16 tweak)) (chunks 16 unit)

/-- One step of AES-KW wrapping (NIST SP 800-38F): step number `t` over the register A and the semiblocks. -/
def kwStep (ws : List (List Nat)) (n : Nat) (st : Bytes × List Bytes) (t : Nat) : Bytes × List Bytes :=
  let i := (t - 1) % n
  let o := aesEncW ws (st.1 ++ st.2.getD i [])
  (xorBytes (o.take 8) (natBe 8 t), st.2.set i (o.drop 8))

/-- AES-KW wrap of whole semiblocks. -/
def kwWrap (kek plain : Bytes) : Bytes :=
  let ws := aesExpand kek
  let r := chunks 8 plain
  let out := ((List.range (6 * r.length)).map (· + 1)).foldl (kwStep ws r.length) (List.replicate 8 0xA6, r)
  out.1 ++ out.2.flatten

/-- One step of AES-KW unwrapping. -/
def kwUnstep (ws : List (List Nat)) (n : Nat) (st : Bytes × List Bytes) (t : Nat) : Bytes × List Bytes :=
  let i := (t - 1) % n
  let o := aesDecW ws (xorBytes st.1 (natBe 8 t) ++ st.2.getD i [])
  (o.take 8, st.2.set i (o.drop 8))

/-- AES-KW unwrap; none where the integrity check fails. -/
def kwUnwrap (kek wrapped : Bytes) : Option Bytes :=
  let ws := aesExpand kek
  match chunks 8 wrapped with
  | [] => none
  | a :: r =>
    let n := 6 * r.length
    let out := ((List.range n).map (fun i => n - i)).foldl (kwUnstep ws r.length) (a, r)
    if out.1 = List.replicate 8 0xA6 then some out.2.flatten else none

/-! ## What grows from the device secret (R447, R473, R474) -/

/-- ASCII bytes of a label. -/
def ascii (s : String) : Bytes := s.toList.map (fun c => BitVec.ofNat 8 c.toNat)

/-- A PUF-derived secret of `n` bytes under its label (R447, R473). An empty salt is PRESUMED (log 4). -/
def pufDerived (label : String) (n : Nat) : Bytes := (hkdf512 [] Config.deviceSecret (ascii label)).take n

/-- The Ed25519 identity seed (R473). -/
def identitySeed : Bytes := pufDerived "dv-id" 32
/-- The identity public key (R473). -/
def identityPublic : Bytes := edPublic identitySeed
/-- The X25519 key-agreement private key (R447). -/
def kaPrivate : Bytes := pufDerived "dv-ka" 32
/-- The storage root that wraps partition keys (R447). -/
def storageRoot : Bytes := pufDerived "dv-sr" 32
/-- The journal key (R447). -/
def journalKey : Bytes := pufDerived "dv-jr" 64
/-- The device ID: the first 32 bytes of SHA-512 over the identity public key (R474). -/
def deviceId : Bytes := (sha512 identityPublic).take 32

end Sys2Proof.Machine
end

