-- ==== Sys2Proof/Machine/State.lean ====
section
/-! DEFINITION. The state of the device as plain data, all of it, and the state right after reset.
Each field's comment gives its width, the rule that names it, and its reset value; INVENTORY.md lists them. -/

namespace Sys2Proof.Machine

/-! ## Why a step can stop -/

/-- Why a command has no next state. Neither reason is a state of the device: both mark a command that the table's row
does not describe, so stopping is safe. -/
inductive Fault where
  /-- Raised by a frame, record or item row whose operand carries another opcode, operator code, record type or item
  kind than the row's. Safe: another row describes it. -/
  | notThisCommand
  /-- Raised by a row whose operand names a port, link, cluster, core, channel, partition, arbiter, writer, function or
  register that the package does not have. Safe: no such unit exists. -/
  | noSuchUnit
  deriving DecidableEq, Repr

/-- Why a command is refused by the model. -/
inductive Refusal where
  /-- Raised by an arm of the dispatch table that has no meaning yet. Safe. -/
  | notModelled (mnemonic : String)
  deriving DecidableEq, Repr

/-! ## Settings of the configuration image (IMG fields) -/

/-- `XBAR_` settings (R176, R218). -/
structure XbarCfg where
  deadline : List Nat := [10000000, 5000, 20000, 100000, 1000000, 1000000, 5000000, 1562500]
  ageLimit : List Nat := [16000000, 10000, 40000, 200000, 2000000, 2000000, 10000000, 3125000]
  spillOn : Nat := 14
  spillOff : Nat := 12
  spillHead : Nat := 64
  spillShare : Nat := 4
  urgent : Nat := 1024
  spillTickets : Nat × Nat := (64, 128)
  spillWait : Nat := 128
  deriving DecidableEq, Repr

/-- `SHP_` settings (R202). Sizes in MiB, rates as R202. -/
structure ShpCfg where
  classQuantum : List Nat := [16, 16, 16, 65, 65, 65, 33, 9]
  subportQuantum : Nat := 65
  levelShare : List Nat := [4, 4, 6]
  buckets : List Nat := List.replicate 16 1024
  adaptIntervalMs : Nat := 1
  admitCapacity : Nat := 4096
  admitMin : List Nat := List.replicate 16 64
  admitMax : List Nat := List.replicate 16 256
  /-- one 1,024-bit bitmap per partition, bit k of the number for slot k. -/
  calReserve : List Nat := List.replicate 16 0
  strictFloor : List Nat := List.replicate 16 256
  samplePeriodUs : Nat := 1000
  deriving DecidableEq, Repr

/-- Lottery, engine, mover and partition settings (R218, R245, R310, R442, R470, R469 `strict`). -/
structure UnitCfg where
  lotSeed : Nat := 0
  lotTickets : List Nat := [96, 96, 96, 96, 32, 32, 32, 32, 32, 32, 32, 32, 32, 32, 32, 32, 64, 48, 255]
  lotWait : List Nat := List.replicate 18 64 ++ [1]
  movLotWait : Nat := 256
  accMib : List Nat := List.replicate 32 8
  clusterInit : List (Option Nat) := List.replicate 32 none
  collSkewUs : Nat := 500
  collMax : List Nat := List.replicate 16 64
  movRetry : Nat := 3
  paceHigh : Nat := 12
  paceLow : Nat := 4
  scrubRate : Nat := 100
  consentMaxMs : Nat := 3600000
  runShare : List Nat := List.replicate 16 4096
  strict : List Bool := List.replicate 16 false
  deriving DecidableEq, Repr

/-- `RIM_` settings (R392). -/
structure RimCfg where
  groupMode : List Nat := List.replicate 16 1
  spillGib : Nat := 64
  ftcGib : Nat := 256
  ftcWays : List Nat := List.replicate 16 0
  /-- per partition, MiB per 1 ms of tiers 1, 2 and 3. -/
  quotaMib : List (List Nat) := List.replicate 16 [16384, 16384, 16384]
  pfDepthMin : Nat := 1
  pfDepthMax : Nat := 8
  deriving DecidableEq, Repr

/-- `OSR_` settings (R527). -/
structure OsrCfg where
  portEnable : Nat := 0xFFFFFFFFFFFFFFFF
  split : List Nat := List.replicate 64 1
  spareOwner : List Nat := List.replicate 64 0
  classCells : List Nat := [64, 256, 128, 256, 512, 512, 192, 128]
  retryLimit : Nat := 8
  downHoldUs : Nat := 1000
  laserEol : Nat := 150
  weakMin : Nat := 1000000
  weakMax : Nat := 10000000
  deriving DecidableEq, Repr

/-- `HOOP_` and `HLT_` settings (R500, R556, R590, R621, R642). -/
structure HoopCfg where
  pcieSplit : Nat := 1
  subsysVendor : Nat := 0
  subsysDevice : Nat := 0
  i3cAddr : Nat := 0x30
  irqUs : Nat := 10
  meterS : Nat := 60
  quiesceMs : Nat := 100
  powerCap : Nat := 600
  batchMs : Nat := 1
  batchLeaves : Nat := 1024
  fenceMs : Nat := 200
  expelBudget : Nat := 2
  expelWindowS : Nat := 3600
  spareClusters : Nat := 0
  expelMin : List Nat := [512, 1024, 1024, 1024, 2048]
  expelMax : List Nat := [2048, 8192, 4096, 8192, 8192]
  deriving DecidableEq, Repr

/-- Every IMG field of the image. -/
structure Settings where
  xbar : XbarCfg := {}
  shp : ShpCfg := {}
  unit : UnitCfg := {}
  rim : RimCfg := {}
  osr : OsrCfg := {}
  hoop : HoopCfg := {}
  deriving DecidableEq, Repr

/-! ## Tables installed by composition records -/

/-- A host window (R65). -/
structure Window where
  hostBase : Nat
  hostLimit : Nat
  globalBase : Nat
  deriving DecidableEq, Repr

/-- A context slot (R116). `removing` marks a slot whose entries are being revoked (R142). -/
structure Context where
  node : Node
  cid : Cid
  part : Nat
  isLocal : Bool
  windows : List Window
  removing : Bool := false
  deriving DecidableEq, Repr

/-- A page run (R121). `removing` marks one that has left the stores and waits for its in-flight count (R141), which is
the number of unanswered frames issued through it. -/
structure Run where
  virtBase : Nat
  globalBase : Nat
  size : Nat
  count : Nat
  part : Nat
  rd : Bool
  wr : Bool
  removing : Bool := false
  deriving DecidableEq, Repr

/-- An access-table entry (R130). `drained` counts requests drained since its revocation marker (R453). -/
structure AccessEntry where
  node : Node
  cid : Cid
  part : Nat
  tier : Nat
  rights : Nat
  base : Nat
  length : Nat
  grant : Nat
  accepted : Nat := 0
  revoking : Bool := false
  /-- the entry was revoked by a grant (R453), so its end raises `PRT_REVOKE_DONE`. -/
  byGrant : Bool := false
  drained : Nat := 0
  deriving DecidableEq, Repr

/-- A subscriber entry (R180). `leaving`: removed, and waiting for its last stamped frame (R182). -/
structure Subscriber where
  num : Nat
  part : Nat
  node : Node
  cid : Cid
  quantum : Nat
  leaving : Bool := false
  deriving DecidableEq, Repr

/-- A service entry (R181) with its shaping state (R187 to R191). -/
structure Service where
  sub : Nat
  svc : Nat
  shaping : Nat
  classMap : Nat
  quantum : Nat
  rateMin : Nat
  rateMax : Nat
  burst : Nat
  /-- the current rate, ADAPT (R191). -/
  rate : Nat
  /-- the service holds a token bucket. -/
  bucket : Bool
  /-- tokens in thousandths of a byte (R187). -/
  tokens : Int := 0
  /-- due tick of the calendar wheel (R188). -/
  due : Nat := 0
  /-- the installing record asked for a bucket (R189). -/
  asked : Bool := false
  lastAdapt : Tick := 0
  leaving : Bool := false
  deriving DecidableEq, Repr

/-- A member of a multicast group (R300). -/
structure Member where
  node : Node
  isLocal : Bool
  base : Nat
  deriving DecidableEq, Repr

/-- A multicast group entry (R300). -/
structure Group where
  id : Nat
  part : Nat
  base : Nat
  length : Nat
  members : List Member
  deriving DecidableEq, Repr

/-- A Sumac range entry (R353). -/
structure SumacRange where
  base : Nat
  length : Nat
  part : Nat
  profile : Nat
  fmt : Nat
  scale : Nat
  id : Nat
  deriving DecidableEq, Repr

/-- A far-tier extent entry (R373). -/
structure Extent where
  base : Nat
  length : Nat
  part : Nat
  home : Nat
  mode : Nat
  dual : Bool
  tray : Nat
  cid : Cid
  id : Nat
  deriving DecidableEq, Repr

/-- A mirrored near range (R383). -/
structure MirroredRange where
  base : Nat
  length : Nat
  part : Nat
  role : Nat
  partnerBase : Nat
  cid : Cid
  id : Nat
  deriving DecidableEq, Repr

/-- An entry of a prefetch schedule (R386). -/
structure PfEntry where
  source : Nat
  length : Nat
  kind : Nat
  dest : Nat
  need : Nat
  release : Nat
  deriving DecidableEq, Repr

/-- An instance of a schedule entry: its job step, its index, and whether it has landed (R387). -/
structure PfInstance where
  step : Nat
  entry : Nat
  landed : Bool := false
  lost : Bool := false
  /-- parts of it not yet issued: start and length. -/
  todo : List (Nat × Nat)
  /-- the tier-3 quota of the window holds it back (R372). -/
  quotaWait : Bool := false
  /-- every way of the partition is pinned in the next sector's set (R388). -/
  waysWait : Bool := false
  deriving DecidableEq, Repr

/-- A prefetch schedule (R386) with its running state (R387 to R389). -/
structure Schedule where
  node : Node
  cid : Cid
  part : Nat
  doorbell : Nat
  period : Nat
  start : Nat
  entries : List PfEntry
  cur : Nat
  instances : List PfInstance := []
  /-- the last job step whose instances have been issued. -/
  issuedTo : Nat
  ended : Bool := false
  /-- steps since the last stall (R389). -/
  quietSteps : Nat := 0
  /-- a step has stalled under cause 1 or 2 since the depth was last raised (R389). -/
  hungry : Bool := false
  /-- when the depth last changed (R389). -/
  lastAdapt : Option Tick := none
  deriving DecidableEq, Repr

/-- A Rim channel binding (R420). -/
structure Binding where
  die : Nat
  ch : Nat
  part : Nat
  cid : Cid
  posterNode : Node
  posterCid : Cid
  ring : Nat
  log2 : Nat
  doorbell : Nat
  completion : Nat
  deriving DecidableEq, Repr

/-- A port share (R445). -/
structure PortShare where
  port : Nat
  sub : Nat
  part : Nat
  ded : Bool
  deriving DecidableEq, Repr

/-- A published range (R481) with its versions (R482 to R485). `pending` is the request id of the pending `PUBLISH`. -/
structure Published where
  view : Nat
  buffers : Nat
  part : Nat
  length : Nat
  area : Nat
  word : Nat
  id : Nat
  current : Nat := 0
  pending : Option Nat := none
  pendingVersion : Nat := 0
  /-- version 0 to the one served before the accepted one: reads of the new version wait until its entry settles. -/
  waiting : Bool := false
  stagingOpen : Bool := true
  /-- the staging buffer of the pending `PUBLISH` has been flushed (R485 step 3). -/
  flushed : Bool := false
  /-- the partition and master of the `PUBLISH` that is pending or was last applied (R486). -/
  winner : Option (Nat × Node × Cid) := none
  deriving DecidableEq, Repr

/-- A span of the forwarding table (R60, R542 kind 0x000E); the newest covering span decides. -/
structure FwdSpan where
  first : Nat
  count : Nat
  dest : Option (Nat × Nat)
  deriving DecidableEq, Repr

/-- The source ranges of a port or sub-port (R59). -/
structure SourceRanges where
  port : Nat
  sub : Nat
  ranges : List (Nat × Nat)
  deriving DecidableEq, Repr

/-- A partition's telemetry ring (R552, R542 kind 0x0012). -/
structure PartRing where
  part : Nat
  log2 : Nat
  base : Nat
  producerWord : Nat
  deriving DecidableEq, Repr

/-- The tables of R59 to R67, R115 to R147, R179 to R182, R300, R353, R373, R383, R386, R420, R445, R481, R601. -/
structure Tables where
  /-- 16 bits | 02 R59 | DESIGN CHOICE 0 (log 5) | the device's own node number -/
  node : Node := 0
  /-- 16 bits | 21 R601 | DESIGN CHOICE 0 (log 5) | partner node, meaningful when paired -/
  partner : Node := 0
  /-- 1 bit | 21 R601 | DESIGN CHOICE unpaired (log 5) | the device is in a pair -/
  paired : Bool := false
  /-- 2 bits | 21 R601 | DESIGN CHOICE 0 (log 5) | 0 unpaired, 1 primary, 2 secondary -/
  role : Nat := 0
  /-- 32 bytes | 21 R601 | DESIGN CHOICE empty (log 5) | the partner's Ed25519 identity key -/
  partnerKey : Bytes := []
  /-- 2 × 32 bytes or none | 21 R601 | DESIGN CHOICE none (log 5) | managers A and B -/
  witnesses : Option (Bytes × Bytes) := none
  /-- 32 bits | 19 R540, 21 R611 | DESIGN CHOICE 0 (log 5) | composition epoch -/
  compEpoch : BitVec 32 := 0
  /-- 16 bits | 02 R67 | DESIGN CHOICE 0 (log 5) | map epoch -/
  mapEpoch : BitVec 16 := 0
  /-- time or none | 02 R67 | none | when the map epoch last advanced, while the previous one is in grace -/
  grace : Option Tick := none
  /-- 4,096 slots | 04 R115, R116 | DESIGN CHOICE empty (log 5) | context table -/
  contexts : List Context := []
  /-- 65,536 runs | 04 R121, R124 | DESIGN CHOICE empty (log 5) | run table -/
  runs : List Run := []
  /-- 65,536 entries | 04 R130 | DESIGN CHOICE empty (log 5) | access table -/
  access : List AccessEntry := []
  /-- 4,096 | 06 R180 | DESIGN CHOICE empty (log 5) | subscribers installed by record -/
  subs : List Subscriber := []
  /-- 16 per subscriber | 06 R181 | DESIGN CHOICE empty (log 5) | services installed by record -/
  services : List Service := []
  /-- 4,096 | 10 R300 | DESIGN CHOICE empty (log 5) | multicast groups -/
  groups : List Group := []
  /-- 1,024 | 12 R353 | DESIGN CHOICE empty (log 5) | Sumac ranges -/
  sumac : List SumacRange := []
  /-- 4,096 | 13 R373 | DESIGN CHOICE empty (log 5) | far-tier extents -/
  extents : List Extent := []
  /-- 256 | 13 R383 | DESIGN CHOICE empty (log 5) | mirrored near ranges -/
  mirrored : List MirroredRange := []
  /-- one per partition | 13 R386 | DESIGN CHOICE empty (log 5) | prefetch schedules -/
  schedules : List Schedule := []
  /-- 128 | 15 R420 | DESIGN CHOICE empty (log 5) | Rim channel bindings -/
  bindings : List Binding := []
  /-- 16 per sub-port | 16 R445 | DESIGN CHOICE empty (log 5) | port shares -/
  shares : List PortShare := []
  /-- 256 | 17 R481 | DESIGN CHOICE empty (log 5) | published ranges -/
  published : List Published := []
  /-- 65,536 entries | 02 R60 | DESIGN CHOICE none everywhere (log 5) | forwarding table as spans -/
  fwd : List FwdSpan := []
  /-- 64 per port or sub-port | 02 R59 | DESIGN CHOICE empty (log 5) | source ranges -/
  sources : List SourceRanges := []
  /-- 16 | 19 R552 | DESIGN CHOICE empty (log 5) | partition rings -/
  rings : List PartRing := []
  /-- list | 21 R602 | none | nodes being retired -/
  retiring : List Node := []
  /-- list | 11 R236 to 08 R233 | none | clusters whose leave is in progress: cluster, new partition, new split -/
  leaving : List (Nat × Option Nat × Option Nat) := []
  deriving DecidableEq, Repr

/-! ## The journal -/

/-- The state field of a journal entry (R91). -/
inductive EntryState where
  | free | applied | recorded | refused | offered | handed | mark
  deriving DecidableEq, Repr

/-- A journal entry (R90), with the moment it was written, kept for retention (R92). -/
structure JEntry where
  index : Nat
  src : Node
  stream : Stream
  opcode : BitVec 8
  seq : Seq
  cid : Cid
  epoch : BitVec 16
  offset : BitVec 48
  length : BitVec 13
  format : BitVec 3
  flags : BitVec 5
  tc : BitVec 3
  part : Nat
  state : EntryState
  status : Status
  writer : Nat
  solo : Bool
  pcheck : BitVec 32
  age : BitVec 24
  result : BitVec 64
  aux : BitVec 32
  compEpoch : BitVec 32
  at_ : Tick
  /-- its work is applied, for the in-order applied index of R98. -/
  done : Bool
  /-- its mirror is acknowledged, or its own ring stands in the mirror's place. -/
  mirrored : Bool
  deriving DecidableEq, Repr

/-- A stream record (R74); `lastIndex` holds the low 32 bits. -/
structure StreamRec where
  src : Node
  stream : Stream
  solo : Bool := false
  hwm : Seq := 0xFFFFFFFF
  next : Seq := 0
  lastIndex : BitVec 32 := 0
  deriving DecidableEq, Repr

/-- The anchor's state (R94). -/
inductive AnchorState where
  | clean | running | stale
  deriving DecidableEq, Repr

/-- A writer's journal state as HOOP_BOOT_STATUS shows it (R588). -/
inductive RimJournal where
  | ready | stale | empty | resync
  deriving DecidableEq, Repr

/-- A writer's anchor in MRAM (R94). -/
structure Anchor where
  /-- 64 bits | 03 R94 | DESIGN CHOICE 0 (log 5) | generation -/
  generation : Nat := 0
  /-- 64 bits | 03 R94 | DESIGN CHOICE 0 (log 5) | ring head -/
  head : Nat := 0
  /-- 64 bits | 03 R94 | DESIGN CHOICE none covered (log 5) | last mark, none when the writer has covered no index -/
  mark : Option Nat := none
  /-- 16 bits | 03 R94 | DESIGN CHOICE 0 (log 5) | partner node -/
  partner : Node := 0
  /-- 32 bits | 03 R94 | DESIGN CHOICE 0 (log 5) | composition epoch -/
  compEpoch : BitVec 32 := 0
  /-- 8 bits | 03 R94 | DESIGN CHOICE CLEAN (log 5) | state -/
  state : AnchorState := .clean
  deriving DecidableEq, Repr

/-- One journal writer (R89 to R98). -/
structure Writer where
  /-- MRAM | 03 R94 | as Anchor | the anchor -/
  anchor : Anchor := {}
  /-- 64 bits | 03 R90 | DESIGN CHOICE 0 (log 5) | next index to assign -/
  head : Nat := 0
  /-- 65,011,712 × 64 bytes | 03 R89 | empty | unretired own entries, oldest first -/
  ring : List JEntry := []
  /-- 65,011,712 × 64 bytes | 03 R89 | empty | unretired shadow entries -/
  shadow : List JEntry := []
  /-- 64 bits or none | 03 R98 | none | covered index of the last MARK received from the partner's writer -/
  shadowMark : Option Nat := none
  /-- 64 bits or none | 03 R98 | none | covered index of this writer's last MARK -/
  lastMark : Option Nat := none
  /-- time | 03 R98 | 0 | when the last MARK was sent -/
  lastMarkAt : Tick := 0
  /-- time | 21 R604 | 0 | when the last MIRROR was sent -/
  lastMirrorAt : Tick := 0
  /-- 1 bit | 03 R93 | 0 | the ring is above seven eighths and has not fallen below three quarters -/
  high : Bool := false
  /-- W1C 1 bit | 23 JRN_WRITER_STATUS | 0 | R93 has refused since last cleared -/
  ringHigh : Bool := false
  /-- 2 bits | 20 R588 | 0 | ready, STALE, empty, resync -/
  journal : RimJournal := .ready
  /-- list | 03 R110, 20 R577 | none | the in-doubt or restart tail -/
  tail : List JEntry := []
  deriving DecidableEq, Repr

/-- Where an open request stands. -/
inductive Stage where
  /-- waits only for its mirror and for settlement. -/
  | settle
  /-- waits for device-originated frames (R658). -/
  | frames
  /-- waits in a cluster's dispatch queue (R237). -/
  | queued (cluster pos : Nat)
  /-- runs on a cluster (R238). -/
  | running (cluster pos : Nat)
  /-- waits for its cross-check (R600). -/
  | crossCheck (cluster pos : Nat)
  /-- held in a segment round (R287). -/
  | round (key : CollKey) (seg : Nat)
  /-- a `PUBLISH` whose staging buffer is being flushed (R485). -/
  | publish (range : Nat)
  /-- a staging write held behind a reader (R483). -/
  | staging (line : Nat)
  /-- a view load of a version not yet accepted (R485). -/
  | viewWait (range version : Nat)
  /-- a doorbell store waiting for its step (R388). -/
  | doorbell (part step : Nat)
  /-- a release waiting for the collective's open rounds (R298). -/
  | release (key : CollKey)
  deriving DecidableEq, Repr

/-- A request that has opened its sequence and not yet settled (R83). -/
structure Req where
  id : Nat
  hdr : Header
  payload : Bytes
  pcheck : BitVec 32
  port : Nat
  sub : Nat
  /-- when it arrived, and its age then, in field units of its class. -/
  arrive : Tick
  age0 : Nat
  part : Nat
  /-- the access entry it passed check 13 on (R136): master and grant are enough to name it with its base. -/
  entry : Option (Node × Cid × Nat × Nat)
  /-- its admission weight (R198), while it is in flight. -/
  weight : Nat
  writer : Nat
  /-- index of its journal entry, once written. -/
  index : Option Nat := none
  state : EntryState := .applied
  stage : Stage := .settle
  applied : Bool := false
  mirrored : Bool := false
  status : Status := .ok
  /-- refused work: answered with a `NACK`. -/
  refused : Bool := false
  ackData : Bytes := []
  ackFormat : BitVec 3 := 1
  result : BitVec 64 := 0
  aux : BitVec 32 := 0
  /-- re-executed after failover (R112, R498). -/
  again : Bool := false
  /-- the work is accepted and answered, and only its response's settlement remains; local bookkeeping of outcomes. -/
  numeric : Bool := false
  /-- frames still outstanding, and the first settled refusal in member order (R305). -/
  waits : Nat := 0
  failure : Option (Nat × Status) := none
  /-- bytes to write when its frames complete: line by line (far-tier updates, copies). -/
  pendingWrite : List (Nat × Bytes) := []
  /-- a leaf place reserved for it under the replay lock (R495). -/
  leaf : Bool := false
  /-- a settled duplicate whose work is done again for its answer (R87, R112): its entry, and whether in the in-doubt tail. -/
  dup : Option (JEntry × Bool) := none
  deriving DecidableEq, Repr

/-- What a device-originated frame serves. -/
inductive Owner where
  | mirror (writer index : Nat)
  | tray (req : Nat)
  | copy (req : Nat)
  | operand (req : Nat)
  | relay (req member : Nat)
  | partialOf (key : CollKey) (seg : Nat)
  | fill
  /-- a piece of a mover channel: a read or a write of `n` transferred bytes from transfer offset `off` (R427). -/
  | mover (ch : Nat) (write : Bool) (desc off n : Nat)
  /-- a read of whole tray lines that a mover's partial write needs before it is sent: far offset and bytes. -/
  | moverMerge (ch desc off at_ : Nat) (bytes : Bytes)
  | scrub (part : Nat)
  | resync
  | crossCheck (req : Nat)
  | prefetch (part step entry sector : Nat)
  | sector (tray : Nat)
  /-- a write that completes accepted work (R657), or the read of its line before it: the held line, and the writer and index
  it completes; writers 2 and 3 stand for the tails of writers 0 and 1 (R111). -/
  | landing (line writer index : Nat)
  /-- the home transaction of a line: a tray frame of an uncached access, or a copy to the partner (R405, R410, R411). -/
  | home (line : Nat)
  /-- a core's own access to another node (R128): cluster and core. -/
  | core (c core : Nat)
  /-- a `RECORD` frame to the partner: the key transfer of a partition (R450), or a pair-admission record (R618). -/
  | keyTransfer (part : Nat)
  | admission
  deriving DecidableEq, Repr

/-- A frame the device originated and that is not yet answered (R658, R96). -/
structure OutFrame where
  hdr : Header
  payload : Bytes
  owner : Owner
  sentAt : Tick
  /-- attempts made so far (R99, R435). -/
  attempts : Nat := 1
  /-- it waits for the 1 µs resend (R658). -/
  resendAt : Option Tick := none
  /-- first issue, from which its age is counted. -/
  firstAt : Tick
  /-- the node whose answer it awaits: its destination, or the member of a relay copy (R303). -/
  toward : Node
  deriving DecidableEq, Repr

/-- A frame held in the pending store (R86). -/
structure HeldFrame where
  frame : Frame
  port : Nat
  sub : Nat
  arrive : Tick
  age0 : Nat
  part : Nat
  die : Nat
  deriving DecidableEq, Repr

/-- A state open for hand-over (R105 to R108): owner side (`taker` set) or taker side. -/
structure HandOver where
  kind : Nat
  index : BitVec 32
  generation : Nat
  taker : Option Node
  ackAt : Option Tick := none
  orphan : Bool := false
  deriving DecidableEq, Repr

/-- The journal and the open requests. -/
structure Journal where
  /-- 2 writers | 03 R83 | as Writer | journal writers of RIM0 and RIM1 -/
  writers : List Writer := [{}, {}]
  /-- 8,388,608 records per die | 03 R73 to R75 | empty (initial records) | stream tables -/
  streams : List StreamRec := []
  /-- 8,388,608 records per die | 03 R89 | empty | shadow stream tables -/
  shadowStreams : List StreamRec := []
  /-- list | 03 R82 | empty | open requests -/
  reqs : List Req := []
  /-- counter | model's own | 0 | next request number -/
  nextReq : Nat := 0
  /-- list | 13 R658, 03 R96 | empty | device-originated frames not yet answered -/
  outs : List OutFrame := []
  /-- 32 bits each | 15 R429, 13 R376, R384, 11 R320, 10 R293, R303 | 0 | next sequence per (destination, stream) -/
  devSeq : List ((Node × Stream) × Seq) := []
  /-- 2,048 frames per die | 03 R86 | empty | pending store -/
  held : List HeldFrame := []
  /-- 1 bit | 03 R100 | 0 | solo acceptance -/
  solo : Bool := false
  /-- time or none | 21 R607 | none | since when a lost partner holds acceptance -/
  soloHold : Option Tick := none
  /-- 1 bit | 03 R111 | 0 | failover in progress: pair streams not yet open -/
  failover : Bool := false
  /-- 1 bit | 21 R613 | 0 | the former primary is draining its pair streams -/
  draining : Bool := false
  /-- list | 03 R105 to R108 | empty | hand-overs -/
  handOvers : List HandOver := []
  deriving DecidableEq, Repr

/-! ## Memory and coherence -/

/-- The state of an L2 line (R397). -/
inductive L2State where
  | m | e | s | n | i | isD | imD | smA | miA | xiA
  deriving DecidableEq, Repr

/-- A line in a cluster's L2 or its eviction buffer. -/
structure L2Line where
  cluster : Nat
  line : Nat
  state : L2State
  data : Bytes
  /-- core-presence vector (R396). -/
  presence : Nat
  deriving DecidableEq, Repr

/-- A core access stalled at a transient line (R398): `data` is none for a read. -/
structure Stalled where
  cluster : Nat
  core : Nat
  line : Nat
  off : Nat
  data : Option Bytes
  deriving DecidableEq, Repr

/-- How the snoop filter lists a cluster for a line (R401). -/
inductive Listed where
  | exclusive | shared | responder
  deriving DecidableEq, Repr

/-- What a home transaction will do when its snoops are answered (R403). -/
inductive HomeTxn where
  /-- `rdSFwd` is an `RD_S` that has asked the named responder for the line. -/
  | rdS (c : Nat) | rdSFwd (c : Nat) | rdX (c : Nat) | upg (c : Nat) | rdU (c : Nat) | wrU (c : Nat) (mask : Nat) | flush | evcD (c : Nat)
  deriving DecidableEq, Repr

/-- A home state that holds a line (R405). -/
inductive HomeHold where
  /-- snoops sent: the clusters that have not answered, those whose announced data has not come, those whose data came
  before the answer; the data and its dirtiness gathered so far, whether the last answer was `SR_N`, and since when. -/
  | snp (txn : HomeTxn) (waiting datas got : List Nat) (data : Option Bytes) (dirty : Bool) (sr : Bool) (since : Tick)
  /-- `BUF_GNT` sent to a cluster. -/
  | dat (txn : HomeTxn)
  /-- a read or write issued to the stack controller, or for a far-tier line to the tray; for an uncached write the bytes to
  write, and for `RD_S` whether the requester becomes the responder. An `ATOMIC` is one step on the near tier and holds a
  far-tier line by its tray frame, so `H_ATOM` needs no state of its own. -/
  | memWait (txn : HomeTxn) (data : Option Bytes) (sr : Bool)
  /-- a completion sent, awaiting `CACK`. -/
  | cmp (c : Nat)
  deriving DecidableEq, Repr

/-- A message on the coherent memory network (R399). -/
inductive Msg where
  | rdS (c line : Nat) (cid : Cid) | rdX (c line : Nat) (cid : Cid) | upg (c line : Nat) (cid : Cid)
  | rdU (c line : Nat) (cid : Cid) | wrU (c line : Nat) (cid : Cid) (mask : BitVec 128)
  | evcC (c line : Nat) | evcD (c line : Nat)
  | snpShr (c line : Nat) | snpFwd (c line : Nat) | snpI (c line : Nat)
  | srI (c line : Nat) (withData dirty : Bool) | srN (c line : Nat) (withData dirty : Bool)
  | cmpE (c line : Nat) | cmpS (c line : Nat) | cmpN (c line : Nat) | cmpM (c line : Nat)
  | dataTo (c line : Nat) (bytes : Bytes) | dataHome (c line : Nat) (bytes : Bytes) (mask : BitVec 128)
  | bufGnt (c line : Nat) | cmpW (c line : Nat) | cmpEvc (c line : Nat) | nak (c line : Nat) (status : Status)
  | cack (c line : Nat)
  deriving DecidableEq, Repr

/-- A sector of the far-tier cache (R380 to R382). -/
structure Sector where
  /-- tray global address of its first byte: the key. -/
  tray : Nat
  die : Nat
  set : Nat
  way : Nat
  part : Nat
  filling : Bool
  /-- tray ciphertext (R361). -/
  data : Bytes
  /-- pins held by prefetch instances: partition and job step of release (R387). -/
  pins : List Nat
  /-- order of last use, for least-recently-used replacement (R381). -/
  used : Nat
  /-- lines written while FILLING: offset in the sector and ciphertext. -/
  written : List (Nat × Bytes)
  deriving DecidableEq, Repr

/-- Memory, caches and the coherence protocol. -/
structure MemSys where
  /-- 768 GiB | 13 R367 | DESIGN CHOICE every byte 0 (log 6) | near tier as written, plaintext (log 7): canonical list -/
  near : List Host.Cell := []
  /-- 1,024 sets × 8 ways per MiB × 32 clusters | 14 R396, R397 | none held | L2 lines and eviction buffers -/
  l2 : List L2Line := []
  /-- list | 14 R398 | empty | stalled core accesses, in arrival order -/
  stalled : List Stalled := []
  /-- duplicate tags of 32 clusters | 14 R401 | empty | snoop filter: line, cluster, how listed -/
  filter : List (Nat × Nat × Listed) := []
  /-- list | 14 R405 | empty | held lines -/
  holds : List (Nat × HomeHold) := []
  /-- four channels per link | 01 R21, 14 R399 | empty | messages in flight -/
  net : List Msg := []
  /-- C bytes | 13 R380 | empty | far-tier cache -/
  sectors : List Sector := []
  /-- counter | 13 R381 | 0 | orders the uses of sectors -/
  useClock : Nat := 0
  /-- 128 bytes per core | 14 R406 | empty | what a core's last read returned, per cluster and core; core 8 stands for a
  cluster's uncached reads -/
  coreValue : List ((Nat × Nat) × Bytes) := []
  deriving DecidableEq, Repr

/-! ## Switch core, shaping, arbiters -/

/-- A frame inside the switch core: in a VOQ, on chip or spilled (R149 to R166). -/
structure VFrame where
  tag : Nat
  src : Nat
  dst : Nat
  sub : Nat
  frame : Frame
  part : Nat
  subscriber : Option Nat
  service : Nat
  /-- cells in all, cells already transferred, and cells of it that stand in the spill region. -/
  cells : Nat
  moved : Nat
  spilled : Nat
  /-- arrival stamp, and when its head cell became head of its VOQ. -/
  enq : Tick
  headAt : Option Tick
  urgent : Bool
  /-- residence gathered before the arrival stamp, in ticks. -/
  resid : Nat
  /-- arrival port and sub-port, for a frame from a port. -/
  arrival : Option (Nat × Nat)
  /-- cells of it that have passed through spill (R150 bit 10). -/
  throughSpill : Bool := false
  /-- its cells stand in Warp storage; otherwise it waits on the die before the crossing (R156). -/
  stored : Bool := true
  refilling : Bool := false
  /-- its bucket or wheel has held it at the head of its VOQ (R201). -/
  heldBack : Bool := false
  deriving DecidableEq, Repr

/-- A frame wholly received at a die behind a position (R151). -/
structure AFrame where
  pos : Nat
  sub : Nat
  frame : Frame
  part : Nat
  stamp : Tick
  resid : Nat
  arrival : Option (Nat × Nat)
  doneAt : Tick
  deriving DecidableEq, Repr

/-- An open combining group at an M position (R168). -/
structure CGroup where
  pos : Nat
  opcode : BitVec 8
  offset : BitVec 48
  length : BitVec 13
  format : BitVec 3
  part : Nat
  members : List (Node × Stream × Seq)
  deriving DecidableEq, Repr

/-- The Warp die (chapters 05 and 06). -/
structure Warp where
  /-- 204,800 queues | 05 R154, R155 | empty | frames queued, in enqueue order -/
  voq : List VFrame := []
  /-- 160 × 16 bits | 05 R150 | 0 | next frame tag per source position -/
  tags : List (Nat × Nat) := []
  /-- 160 × 8 bits | 05 R159 | 0 | grant pointers g -/
  gPtr : List Nat := List.replicate 160 0
  /-- 160 × 8 bits | 05 R159 | 0 | accept pointers a -/
  aPtr : List Nat := List.replicate 160 0
  /-- list | 05 R152 | empty | pairs matched in the previous slot: input, output, class -/
  matched : List (Nat × Nat × Nat) := []
  /-- counter | 05 R152, 06 R194 | 0 | slots since the Warp scheduler started -/
  slot : Nat := 0
  /-- 1 bit | 05 R162, 23 XBAR_STATUS | 0 | spill on -/
  spillOn : Bool := false
  /-- W1C 1 bit | 05 R165, 23 XBAR_STATUS | 0 | the spill region has been full -/
  spillFull : Bool := false
  /-- 1 bit | 05 R177 | 0 | spill has begun and `XBAR_SPILL_END` is still due -/
  spillOpen : Bool := false
  /-- per output and sub-port | 06 R185 | 0 | port deficits -/
  dp : List ((Nat × Nat) × Int) := []
  /-- per output and subscriber | 06 R185 | 0 | subscriber deficits -/
  ds : List ((Nat × Nat) × Int) := []
  /-- per output, subscriber and service | 06 R185 | 0 | service deficits -/
  dv : List ((Nat × Nat × Nat) × Int) := []
  /-- per input, output and class | 06 R186 | 0 | class deficits -/
  dc : List ((Nat × Nat × Nat) × Int) := []
  /-- counter | 06 R188 | 0 | calendar-wheel tick -/
  wheel : Nat := 0
  /-- per output and level, 1,024 slots | 06 R192 | empty | slots at which a cell of a level was sent -/
  levelUse : List (Nat × Nat × Nat) := []
  /-- list | 05 R151 | empty | frames received whole behind M, G and H positions and behind E egress -/
  arrived : List AFrame := []
  /-- 64 per M position | 05 R168 | empty | open combining groups -/
  groups : List CGroup := []
  /-- log | 01 R43, 18 R510 | empty | frames that left a serialiser: port, sub-port, frame -/
  wire : List (Nat × Nat × Frame) := []
  /-- time per port | 06 R193 | 0 | until when a port's serialiser is busy -/
  busy : List ((Nat × Nat) × Tick) := []
  /-- 128 bytes | 06 R200 | empty | VOQ samples gathered in the period: input, output, class, depth, wait -/
  samples : List ((Nat × Nat × Nat) × Nat × Nat) := []
  /-- per service | 06 R201 | empty | service samples gathered in the window: bytes, wait, held -/
  svcSamples : List ((Nat × Nat) × Nat × Nat × Nat) := []
  /-- counter | 06 R200 | 0 | sample period index -/
  period : Nat := 0
  deriving DecidableEq, Repr

/-- A lottery arbiter (R205 to R217). -/
structure Arbiter where
  /-- 32 bits | 07 R208 | 0 until seeded at the start (log 5) | LFSR -/
  lfsr : Nat := 0
  /-- 10 bits per requester | 07 R208 | 0 | wait counters that are not zero -/
  waits : List (Nat × Nat) := []
  /-- queues | 07 R210 | empty | requests waiting, in order of arrival -/
  queue : List ArbItem := []
  /-- list | 07 R207 | empty | requests granted and not yet done -/
  granted : List ArbItem := []
  /-- 1 bit | 07 R217 | 0 | frozen -/
  frozen : Bool := false
  /-- 1 bit | 07 R217 | 0 | draining -/
  draining : Bool := false
  /-- W1C 1 bit | 07 R217 | 0 | a drain exceeded 2 µs -/
  timeout : Bool := false
  /-- 10 bits | 07 R217 | 0 | largest wait -/
  waitMax : Nat := 0
  /-- 32 bits | 07 R217 | 0 | forced wins, saturating -/
  forced : Nat := 0
  /-- time | 07 R214 | 0 | when the freeze was set -/
  frozenAt : Tick := 0
  deriving DecidableEq, Repr

/-! ## Optical ports -/

/-- The state of a link (R525). -/
inductive LinkState where
  | dark | training | up | degraded | retrain | down
  deriving DecidableEq, Repr

/-- A block kept for replay (R515). -/
structure TxBlock where
  seq : Nat
  firstAt : Tick
  replays : Nat
  cells : Nat
  deriving DecidableEq, Repr

/-- One link: a port or a sub-port of one (R503 to R526). -/
structure Link where
  port : Nat
  sub : Nat
  /-- 3 bits | 18 R525 | 0 DARK | state -/
  state : LinkState := .dark
  /-- 9 bits | 18 R525 | 0 | receive lane mask -/
  rxGood : Nat := 0
  /-- 9 bits | 18 R525 | 0 | wavelengths carrying logical lanes -/
  txActive : Nat := 0
  /-- 1 bit | 18 R525 | 0 | λ8 carries a logical lane -/
  spareInUse : Bool := false
  /-- W1C 1 bit | 18 R525 | 0 | a wavelength was found weak or failed -/
  laneEvent : Bool := false
  /-- W1C 1 bit | 18 R525 | 0 | the link has gone DOWN -/
  downEvent : Bool := false
  /-- 24 bits | 18 R525, R519 | 0 | one-way delay, 1/8 AU -/
  oneWay : Nat := 0
  /-- 16 bits | 18 R509 | 0 | next block sequence to send -/
  txSeq : Nat := 0
  /-- 16 bits | 18 R516 | 0 | next block sequence expected; DESIGN CHOICE: both count from 0 (log 40) -/
  rxSeq : Nat := 0
  /-- 1 bit | 18 R516 | 0 | retry request to set in the next outgoing block -/
  retryOut : Bool := false
  /-- 127, 63 or 31 blocks | 18 R515 | empty | replay buffer -/
  replay : List TxBlock := []
  /-- 8 × 16 bits | 18 R513 | 0 | cells freed and allocation per class, as sent -/
  rxFreed : List Nat := List.replicate 8 0
  /-- 8 × 16 bits | 18 R514 | 0 | cumulative credits last received per class -/
  txCredit : List Nat := List.replicate 8 0
  /-- 8 × 16 bits | 18 R513 | 0 | cells sent per class since training -/
  txUsed : List Nat := List.replicate 8 0
  /-- bytes | 18 R510 | empty | bytes of a frame begun in an earlier block, and its largest replay delay -/
  partialIn : Bytes := []
  partialDelay : Nat := 0
  /-- 4 bits | 18 R511 | 0 | plan number in effect -/
  plan : Nat := 0
  /-- list | 18 R511 | empty | logical lanes received: wavelength, lane -/
  lanes : List (Nat × Nat) := []
  /-- W | 18 R511 | 0 | current lane count of the sender -/
  width : Nat := 0
  /-- list | 18 R520 | empty | wavelengths found weak -/
  weak : List Nat := []
  /-- list | 18 R520, R522 | empty | wavelengths found failed -/
  failed : List Nat := []
  /-- 16 × 24 bits | 18 R519 | empty | delay exchanges gathered -/
  delays : List Nat := []
  /-- 2 bits | 18 R518 | none | the training exchange agreed the split and sub-port -/
  agreed : Bool := false
  /-- time or none | 18 R523 | none | since when the link is not UP -/
  downSince : Option Tick := none
  /-- 1 bit | 18 R523 | 0 | the hold has expired: new frames refused -/
  holdExpired : Bool := false
  /-- 1 bit | 18 R506 | 0 | lasers lit -/
  lit : Bool := false
  /-- 1 bit | 18 R506, R521 | 0 | the spare laser is lit -/
  spareLit : Bool := false
  /-- 32 bits | 18 R526 | 0 | OSR_BLK_BAD -/
  blkBad : Nat := 0
  /-- 48 bits | 18 R526 | 0 | OSR_BLK_REPLAYED -/
  blkReplayed : Nat := 0
  /-- 16 bits | 18 R526 | 0 | OSR_RETRAINS -/
  retrains : Nat := 0
  /-- 16 bits | 18 R526 | 0 | OSR_SUBSTITUTIONS -/
  substitutions : Nat := 0
  /-- 8 × 32 bits | 18 R526 | 0 | OSR_CREDIT_STALL -/
  creditStall : List Nat := List.replicate 8 0
  deriving DecidableEq, Repr

/-- The counters of one wavelength (R526). -/
structure WaveCount where
  cwCorrected : Nat := 0
  symCorrected : Nat := 0
  cwUncorrected : Nat := 0
  rxPower : BitVec 16 := 0
  laserBias : Nat := 0
  deriving DecidableEq, Repr

/-! ## Engines, collectives, movers -/

/-- A part of an operand that is read at once: the operand (0 A, 1 B, 2 C), its global address and length, whether the
read has been made, and the bytes. -/
structure OpPart where
  opnd : Nat
  g : Nat
  n : Nat
  sent : Bool := false
  data : Option Bytes := none
  deriving DecidableEq, Repr

/-- An operator in a dispatch queue or running (R237 to R240). -/
structure OpJob where
  req : Nat
  cluster : Nat
  pos : Nat
  desc : Bytes
  arrivedAt : Tick
  /-- the resolved global parts of A, B, C and OUT (R129). -/
  exts : List (List (Nat × Nat))
  /-- the parts that A, B and C are read from: those of a published view lie in the tagged buffer (R482). -/
  srcs : List (List (Nat × Nat)) := []
  running : Bool := false
  tilesStarted : Nat := 0
  tilesDone : Nat := 0
  /-- cores on which its scratchpad need is claimed (R239, R341). -/
  cores : List Nat := []
  /-- accumulator slots claimed: whole 1 MiB steps. -/
  steps : Nat := 0
  /-- the operand parts, in order. -/
  plan : List OpPart := []
  /-- the index list, bag list or model has been validated (R321), and the selected rows planned. -/
  valid : Bool := false
  /-- ranges of this node that it reads: start and length. -/
  reads : List (Nat × Nat) := []
  /-- the inputs have been written by another master since it read them (R323). -/
  tainted : Bool := false
  /-- it is a partner's cross-check (R600): nothing is written. -/
  crossCheck : Bool := false
  /-- it has been cross-checked and its output stands (R600). -/
  checked : Bool := false
  /-- the output bytes, the result word, and the numeric counts, once computed. -/
  output : Option (Bytes × Nat × List Nat) := none
  /-- output parts not yet sent to their targets: global address and bytes. -/
  outTodo : List (Nat × Bytes) := []
  /-- the output has been written, or every part of it has been sent. -/
  written : Bool := false
  deriving DecidableEq, Repr

/-- A tile on a core (R239). -/
structure Tile where
  cluster : Nat
  core : Nat
  req : Nat
  tile : Nat
  since : Tick
  deriving DecidableEq, Repr

/-- A cluster (R232 to R244). -/
structure Cluster where
  /-- 4 bits | 08 R244 | 0 | owning partition -/
  part : Nat := 0
  /-- 1 bit | 08 R244 | 0 | assigned -/
  assigned : Bool := false
  /-- 1 bit | 08 R244 | 1 | power-gated -/
  gated : Bool := true
  /-- 1 bit | 08 R244 | 0 | leaving -/
  leaving : Bool := false
  /-- 4 bits | 08 R244 | from ENG_ACC_MIB (8 before an image is loaded) | accumulator store size -/
  accMib : Nat := 8
  /-- W1C 1 bit | 08 R244 | 0 | the island has been reset -/
  fault : Bool := false
  /-- W1C 1 bit | 08 R244 | 0 | an operator was refused while waiting for slots -/
  slotWait : Bool := false
  /-- 8 × 8,192 valid bits | 08 R225 | 0 | per core, how many granules have their valid bit set; which ones, a core's own units decide -/
  scratch : List (Nat × Nat) := []
  /-- 4,096 + 8 × 256 runs | 04 R125 | empty | TLB contents: virtual bases held -/
  tlb : List Nat := []
  deriving DecidableEq, Repr

/-- A contribution held in a segment round (R287): contributor number, request, payload as received; for a partial frame
its first element in the target and its element count (R293). -/
structure Contribution where
  slot : Nat
  req : Nat
  bytes : Bytes
  words : Option (Nat × Nat) := none
  deriving DecidableEq, Repr

/-- One segment of a collective (R287, R288) that has had contributions. The accumulators of its round are those of the
held contributions: they are added when the round completes, which gives the same bits. -/
structure Segment where
  index : Nat
  /-- contributions reissued to a survivor, held for a reduction again (R113). -/
  reissue : Bool := false
  round : Nat := 0
  /-- contributor bits set in the current round. -/
  bits : List Nat := []
  /-- frames of the round in order of application, the ones absorbed without merging included (R295). -/
  held : List Contribution := []
  firstAt : Tick := 0
  /-- a completed round: at the root its write is outstanding, at a stage its entries or partials are. -/
  closing : Bool := false
  /-- the request that carries the round's write frames. -/
  carrier : Nat := 0
  /-- a numeric exception in the result (R289). -/
  num : Bool := false
  /-- a leaf's place is reserved for the round (R495); while closing, the leaf's copies are outstanding. -/
  leaf : Bool := false
  /-- the stage's entries have been mirrored and its partial frames planned (R294). -/
  planned : Bool := false
  /-- partial frames not yet sent, and sent but not acknowledged: first element of the target and count. -/
  todo : List (Nat × Nat) := []
  flying : List (Nat × Nat) := []
  deriving DecidableEq, Repr

/-- A contributor list entry (R280). -/
structure Contributor where
  node : Node
  cid : Cid
  stage : Bool
  alt : Node
  deriving DecidableEq, Repr

/-- An installed collective (R277 to R298). -/
structure Collective where
  key : CollKey
  desc : Bytes
  part : Nat
  root : Bool
  mode : Nat
  fmt : Nat
  open_ : Nat
  list : List Contributor
  /-- 48-bit offset of the first result byte on the root node. -/
  target : Nat
  length : Nat
  segBytes : Nat
  partialArea : Nat
  skewUs : Nat
  stageSlot : Nat
  stageCid : Cid
  /-- bound G positions, as position numbers 64 to 127 (R283). -/
  positions : List Nat
  segs : List Segment := []
  releasing : Bool := false
  deriving DecidableEq, Repr

/-- Engines and collectives. -/
structure Engines where
  /-- 32 | 08 R232 | as Cluster | clusters -/
  clusters : List Cluster := List.replicate 32 {}
  /-- 256 per cluster | 08 R237 | empty | dispatch queues and running operators -/
  jobs : List OpJob := []
  /-- 256 cores | 08 R239 | empty | tiles on cores -/
  tiles : List Tile := []
  /-- 1,024 | 10 R281, R310 | empty | collectives -/
  colls : List Collective := []
  /-- time | 20 R583 | 0 | when a cluster last ran an operator -/
  lastRun : Tick := 0
  /-- 640 × 16 bits | 22 R631 | 0 | clusters whose core clocks are stopped now -/
  stopped : List Nat := []
  deriving DecidableEq, Repr

/-- The active or shadow descriptor of a channel (R432). -/
structure MovDesc where
  index : Nat
  bytes : Bytes
  /-- none while it is well formed, or the status and cause that refuse it (R424). -/
  bad : Option (Status × Nat) := none
  deriving DecidableEq, Repr

/-- A Rim mover channel (R418 to R441). -/
structure Channel where
  /-- 2 bits | 15 R441 | 0 | 0 unbound, 1 idle, 2 running, 3 halted -/
  state : Nat := 0
  /-- 32 bits | 15 R421 | DESIGN CHOICE 0 (log 5) | producer index -/
  producer : Nat := 0
  /-- 32 bits | 15 R441 | 0 | consumer index -/
  consumer : Nat := 0
  /-- 64 bytes or none | 15 R432 | none | active register set -/
  active : Option MovDesc := none
  /-- 64 bytes or none | 15 R432 | none | shadow register set -/
  shadow : Option MovDesc := none
  /-- 4 bits | 15 R438 | 0 | halt cause -/
  cause : Nat := 0
  /-- 3 bits | 15 R441 | 0 | retries used on the current piece -/
  retries : Nat := 0
  /-- 1 bit | 15 R441 | 0 | waiting for write arrival -/
  barrier : Bool := false
  /-- W1C 1 bit | 15 R441 | 0 | halted since last cleared -/
  halted : Bool := false
  /-- 32 KiB | 15 R431 | 0 | staging fill level in bytes -/
  fill : Nat := 0
  /-- 1 bit | 15 R431 | 0 | reads stopped at the high watermark -/
  paused : Bool := false
  /-- 8 bits | 15 R434 | OK | worst status of the active descriptor's frames -/
  status : Status := .ok
  /-- count | 15 R427 | 0 | bytes of the active transfer whose reads have been issued -/
  readTo : Nat := 0
  /-- 1 bit | 15 R427 | 0 | every read of the active transfer has been made -/
  issued : Bool := false
  /-- bytes | 15 R431 | empty | read data staged, in transfer order -/
  staged : List (Nat × Bytes) := []
  unbinding : Bool := false
  /-- version | 17 R482 | none | the published range and version that the active source extent was tagged with -/
  tag : Option (Nat × Nat) := none
  /-- count | 15 R434 | 0 | transferred bytes whose writes have been issued -/
  wrote : Nat := 0
  deriving DecidableEq, Repr

/-! ## Partitions and isolation -/

/-- The state of a partition (R446). -/
inductive PState where
  | free | active | teardown | scrubbing
  deriving DecidableEq, Repr

/-- A replay-lock setting (R488). -/
structure LockCfg where
  base : Nat
  size : Nat
  consumer : Nat
  body : Bytes
  deriving DecidableEq, Repr

/-- A consent in force (R466). -/
structure Consent where
  scope : Nat
  until_ : Tick
  nonce : Bytes
  deriving DecidableEq, Repr

/-- A scrub in progress (R459 to R463): near ranges, and far extents with the offset up to which frames have been sent. -/
structure Scrub where
  near : List (Nat × Nat)
  far : List (Extent × Nat)
  /-- whole-partition scrubs end in FREE. -/
  whole : Bool
  started : Tick
  /-- 512 bits | 16 R447 | the scrub key of this scrub -/
  key : Bytes
  deriving DecidableEq, Repr

/-- An open batch (R496). -/
structure Batch where
  first : Nat
  since : Tick
  leaves : List Bytes
  flags : Nat
  deriving DecidableEq, Repr

/-- A partition (R444 to R469). -/
structure Partition where
  /-- 2 bits | 16 R446, R469 | 0 FREE | state -/
  state : PState := .free
  /-- 32 bits | 16 R449, R469 | 0 | key ID -/
  keyId : Nat := 0
  /-- 512 bits, wrapped in MRAM | 16 R447 | none | partition key -/
  key : Option Bytes := none
  /-- 1 bit | 16 R469 | 0 | key in the Rim key slots -/
  keyPresent : Bool := false
  /-- 1 bit | 21 R616 | 0 | set up before admission, and ACTIVE once its key arrives -/
  awaiting : Bool := false
  /-- 32 bytes | 19 R542 | DESIGN CHOICE empty (log 5) | tenant key for consents -/
  tenantKey : Bytes := []
  /-- 1 bit | 16 R448 | DESIGN CHOICE 0 (log 5) | this device is primary for it -/
  primary : Bool := false
  /-- 1 bit and settings | 17 R488, 16 R469 | 0 off | replay lock -/
  lock : Option LockCfg := none
  /-- settings | 17 R490 | none | a lock turned off, while work that reserved places under it has still to write its leaves -/
  oldLock : Option LockCfg := none
  /-- 1 bit and scope | 16 R466, R469 | 0 none | consent in force -/
  consent : Option Consent := none
  /-- 32 bits | 17 R492 | DESIGN CHOICE 0 (log 5) | consents since the key was generated -/
  consents : Nat := 0
  /-- 16 bytes each | 16 R467 | DESIGN CHOICE empty (log 5) | nonces used under the current key ID -/
  nonces : List Bytes := []
  /-- W1C 1 bit | 16 R469 | 0 | a scrub has completed -/
  scrubDone : Bool := false
  /-- anchor in MRAM | 16 R460, R462 | none | scrub in progress -/
  scrub : Option Scrub := none
  /-- 48 bits | 23 PRT_SCRUB_DONE_BYTES | 0 | bytes scrubbed in the running or last scrub -/
  scrubBytes : Nat := 0
  /-- 64 bits in MRAM | 17 R495 | DESIGN CHOICE 0 (log 5) | next leaf index -/
  leafIndex : Nat := 0
  /-- 64 bits in MRAM | 17 R495 | DESIGN CHOICE 0 (log 5) | index after the last signed leaf -/
  signedIndex : Nat := 0
  /-- 64 bits in MRAM | 17 R497 | DESIGN CHOICE 0 (log 5) | next batch number -/
  batchNumber : Nat := 0
  /-- 64 bytes in MRAM | 17 R497 | zero bytes for batch 0 | hash of the previous batch record -/
  prevBatch : Bytes := List.replicate 64 0
  /-- list | 17 R496 | none | open batch -/
  batch : Option Batch := none
  /-- leaves reserved and not yet written | 17 R495 | 0 -/
  reserved : Nat := 0
  /-- 64 bits | 17 R498 | DESIGN CHOICE 0 (log 5) | index after the partner's last leaf in this device's copy of a mirrored log -/
  logTail : Nat := 0
  /-- 64 bits | 19 R549 | 0 | index of the next entry of its telemetry ring -/
  ringIndex : Nat := 0
  /-- 48 bits, ADAPT | 06 R199, 23 SHP_ADMIT_WINDOW | SHP_ADMIT_MAX (256 MiB) | admission window, bytes -/
  window : Nat := 268435456
  /-- bytes | 06 R198 | 0 | in-flight total -/
  inFlight : Nat := 0
  /-- bytes × 3 tiers | 13 R371 | 0 | quota totals of the current 1 ms window -/
  quota : List Nat := [0, 0, 0]
  /-- 7 bits, ADAPT | 13 R389, 23 RIM_PF_DEPTH | RIM_PF_DEPTH_MIN (1) | prefetch depth -/
  pfDepth : Nat := 1
  /-- 5 × 64 bits | 13 R388, 23 RIM_PF_STALLS | 0 | stalls by cause -/
  stalls : List Nat := List.replicate 5 0
  /-- per window | 19 R550 kind 0x8008 | 0 | stalls by cause and numeric exceptions in this 1 ms window -/
  winStalls : List Nat := List.replicate 6 0
  /-- 64 bits | 09 R270, 23 ENG_NUMERIC_COUNT | 0 | numeric exceptions -/
  numericCount : Nat := 0
  /-- 64 bits | 23 PRT_DENIED_COUNT | 0 | check-13 refusals of its masters -/
  deniedCount : Nat := 0
  /-- 8 × 64 bits | 03 R101, 23 HLT_DEADLINE_MISSED | 0 | deadline misses per class -/
  missed : List Nat := List.replicate 8 0
  /-- 8 × 64 bits | 05 R172, 23 XBAR_AGED | 0 | aged discards per class -/
  aged : List Nat := List.replicate 8 0
  /-- time or none | 16 R450 | none | a key transfer sent and not yet acknowledged -/
  keyTransfer : Option Tick := none
  /-- meter record | 19 R555 | 0 | start, cluster-ms, core-µs, bytes in, bytes out, MiB-ms, far bytes, operators, leaves -/
  meter : List Nat := List.replicate 9 0
  deriving DecidableEq, Repr

/-! ## Hoop, health, management -/

/-- A part's standing (R620). -/
inductive PartState where
  | inService | suspect | expelled | spare
  deriving DecidableEq, Repr

/-- What a partner resync has still to send (R585): bytes for a journal-region offset, or a range of near memory to copy. -/
inductive ResyncItem where
  | record (off : Nat) (bytes : Bytes)
  | range (base len : Nat)
  deriving DecidableEq, Repr

/-- Health, fencing and the witness set (chapter 21). -/
structure Health where
  /-- 3 bits | 21 R605, R619 | 1 start | fence: 0 none, 1 start, 2 quorum, 3 exclusion, 4 health -/
  fence : Nat := 1
  /-- 32 bits | 21 R605 | 0 | composition epoch at which the fence in force was entered -/
  fenceEpoch : BitVec 32 := 0
  /-- 1 bit | 21 R605, R617, 20 R572 | 0 | a partner resync of this device has completed under the fence in force -/
  rejoined : Bool := false
  /-- W1C 1 bit | 21 R619 | 0 | a fence was entered -/
  fenceEvent : Bool := false
  /-- W1C 1 bit | 21 R619 | 0 | a part entered SUSPECT-SERVING -/
  suspectEvent : Bool := false
  /-- time or none | 21 R604 | none | last contact of manager A -/
  contactA : Option Tick := none
  /-- time or none | 21 R604 | none | last contact of manager B -/
  contactB : Option Tick := none
  /-- time or none | 21 R604 | none | last contact of the partner -/
  contactP : Option Tick := none
  /-- time or none | 21 R607 | none | when the partner was declared lost -/
  partnerLost : Option Tick := none
  /-- 105 × 16 bits in MRAM | 21 R593, R620 | DESIGN CHOICE 0 (log 5) | scores that are not zero -/
  scores : List (Nat × Nat) := []
  /-- 105 × 2 bits in MRAM | 21 R620 | DESIGN CHOICE in service (log 5) | parts not in service -/
  states : List (Nat × PartState) := []
  /-- 5 × 16 bits, ADAPT in MRAM | 21 R594 | DESIGN CHOICE HLT_EXPEL_MIN (log 5) | thresholds per kind -/
  thresholds : List Nat := [512, 1024, 1024, 1024, 2048]
  /-- list | 21 R593 | empty | inputs of the current millisecond: part and weight -/
  inputs : List (Nat × Nat) := []
  /-- 4 bits | 21 R593 | 0 | corrected ECC errors towards the next 16 -/
  eccPart : Nat := 0
  /-- list | 21 R598 | empty | suspects, longest waiting first -/
  suspects : List Nat := []
  /-- list of times in MRAM | 21 R597 | DESIGN CHOICE empty (log 5) | expulsions within the window -/
  expulsions : List Tick := []
  /-- 5 times | 21 R594 | 0 | when a part of the kind was last a candidate -/
  lastCandidate : List Tick := List.replicate 5 0
  /-- 1 bit | 21 R617 | 0 | the device has been admitted since its last start -/
  admitted : Bool := false
  /-- 1 bit | 21 R617 | 0 | HOOP_RESYNC_DONE since the last start -/
  resyncDone : Bool := false
  /-- 1 bit in MRAM | 21 R617 | 0 | under a health fence with no cold power-on passed since -/
  expelledDevice : Bool := false
  /-- 3 bits | 20 R585 | none | partner resync running: 0 none, 1 receiving (R), 2 sending (P) -/
  resync : Nat := 0
  /-- list | 20 R585 | empty | what the running resync has still to send to the partner -/
  resyncTodo : List ResyncItem := []
  /-- list | 01 R24 | empty | dies whose sideband is lost -/
  lostDies : List Die := []
  /-- per crossing | 01 R20 | 0 | replays in a row -/
  replays : List (Crossing × Nat) := []
  deriving DecidableEq, Repr

/-- A ring of 64-byte entries (R549), newest first, at most its capacity. -/
structure Ring where
  producer : Nat := 0
  entries : List (Nat × Bytes) := []
  deriving DecidableEq, Repr

/-- A record in the Hoop queue (R539). -/
structure QRec where
  path : RecPath
  bytes : Bytes
  signer : Nat
  number : Nat
  recType : Nat
  deriving DecidableEq, Repr

/-- Why the record being applied is not yet acknowledged (R541). -/
inductive RecWait where
  | cluster (c : Nat) | run (part virt : Nat) | key (part item : Nat) | retire (node : Node) | teardown (part : Nat)
  | context (node : Node) (cid : Cid) | channel (ch : Nat)
  | reset | standby
  /-- a composition record judged well, whose items take effect once the keys it sets up have been transferred (R450, R541). -/
  | apply
  deriving DecidableEq, Repr

/-- The SPDM state of one requester (R477). -/
structure Spdm where
  version : Bool := false
  caps : Bool := false
  algs : Bool := false
  /-- the messages of the version, capabilities and algorithms exchange. -/
  vca : Bytes := []
  /-- the messages of the digest and certificate requests since the last signed challenge. -/
  certs : Bytes := []
  /-- the messages of the measurement requests since the last signed one. -/
  meas : Bytes := []
  /-- the last response sent. -/
  response : Bytes := []
  deriving DecidableEq, Repr

/-- Where the start of the device stands (R568 to R572, R635, R638). -/
inductive Phase where
  | off | waitCard | waitReference | waitVin | sealed | recovery | tripped
  deriving DecidableEq, Repr

/-- The power state (R583). -/
inductive Power where
  | active | quiescent | standby
  deriving DecidableEq, Repr

/-- An image that has passed its checks and waits for a later step of the start (R568), with the slots still to try. -/
structure Loaded where
  image : Bytes
  settings : Settings
  slot : Nat
  rest : List Nat
  card : Card
  cond : StartCond
  deriving DecidableEq, Repr

/-- An island reset in progress (R582): since when, and whether it counts as overtime already. -/
structure IslandReset where
  island : Island
  since : Tick
  running : Bool
  deriving DecidableEq, Repr

/-- Retained state in MRAM that no other field holds (R573). -/
structure Mram where
  /-- 32 bytes or none | 20 R565 | none | enrolled owner key -/
  ownerKey : Option Bytes := none
  /-- 16 KiB | 17 R475 | DESIGN CHOICE empty (log 5) | slot-1 chain -/
  slot1 : Bytes := []
  /-- 32 bits | 20 R566 | 0 | vendor counter -/
  vendorCounter : Nat := 0
  /-- 32 bits | 20 R566 | 0 | owner counter -/
  ownerCounter : Nat := 0
  /-- 64 bits × 2 | 19 R537 | DESIGN CHOICE 0 (log 5) | highest record number consumed per signer -/
  high : List Nat := [0, 0]
  /-- 64 entries × 2 | 19 R537 | DESIGN CHOICE empty (log 5) | consumed: signer, number, digest, status -/
  history : List (Nat × Nat × Bytes × Status) := []
  /-- 32 bits | 16 R449 | DESIGN CHOICE 0 (log 5) | key-ID counter -/
  keyCounter : Nat := 0
  /-- 64 bits | 19 R535 | DESIGN CHOICE 0 (log 5) | number of the last record this device sent to its partner -/
  sent : Nat := 0
  /-- 64 bytes | 20 R573 | DESIGN CHOICE zero bytes (log 5) | image digest of the last seal -/
  imageDigest : Bytes := List.replicate 64 0
  /-- 1 bit | 20 R573 | DESIGN CHOICE 0 (log 5) | slot of the last seal -/
  slot : Nat := 0
  /-- copy | 20 R573 | DESIGN CHOICE the Reset column's values (log 5) | IMG fields of the last seal -/
  settings : Settings := {}
  /-- 16 bits | 22 R641 | DESIGN CHOICE 0 (log 5) | thermal trips -/
  trips : Nat := 0
  /-- list | 08 R232, 20 R573 | none | cluster assignments and splits that records last set -/
  clusters : List (Nat × Option Nat × Nat) := []
  deriving DecidableEq, Repr

/-- The Hoop die: start, management, rings, power. -/
structure Hoop where
  /-- state | 20 R568 | off | where the start stands -/
  phase : Phase := .off
  /-- time | 20 R588 | 0 | when the reset began, for seal_ms and uptime -/
  startedAt : Tick := 0
  /-- 32 bits | 20 R588 | 0 | milliseconds from reset to seal -/
  sealMs : Nat := 0
  /-- 3 bits | 20 R588 | 0 | last reset -/
  lastReset : Nat := 0
  /-- 1 bit | 20 R578, 21 R597 | 0 | the start that runs, or ran last, is a cold power-on -/
  cold : Bool := false
  /-- 4 bits | 20 R588 | 0 | cause of the last load failure -/
  cause : Nat := 0
  /-- 1 bit | 20 R588 | 0 | slot loaded or last tried -/
  slot : Nat := 0
  /-- W1C 1 bit | 20 R588 | 0 | the preferred slot failed and the other loaded -/
  fallback : Bool := false
  /-- 1 bit | 20 R571 | 1 | the PUF was reconstructed -/
  pufOk : Bool := true
  /-- list | 20 R568 | none | image waiting for a clock or for VIN12 -/
  loaded : Option Loaded := none
  /-- 2 bits | 20 R583 | ACTIVE | power state -/
  power : Power := .active
  /-- 1 bit | 20 R579 | 0 | an orderly device reset is draining -/
  resetting : Bool := false
  /-- 1 bit | 20 R583 | 0 | a standby entry is draining -/
  standbyDrain : Bool := false
  /-- list | 20 R582 | empty | island resets running or waiting -/
  resets : List IslandReset := []
  /-- list | 22 R636 | none | a restart requested after a trip -/
  tripWait : Option ResetCause := none
  /-- 20 × 8 bits | 22 R634 | 0 | die temperatures, in the order of hottest_die -/
  temps : List Nat := List.replicate 20 0
  /-- 4 bits | 22 R632 | 0 | power hold -/
  powerHold : Nat := 0
  /-- 4 bits | 22 R632 | 0 | thermal hold -/
  thermalHold : Nat := 0
  /-- W1C 1 bit | 22 R641 | 0 | h has left 0 since last cleared -/
  holdEvent : Bool := false
  /-- milliwatts | 22 R630 | 0 | last 1 s power report -/
  power1s : Nat := 0
  /-- 1 bit | 22 R640 | 0 | THERM_TRIP# asserted -/
  thermTrip : Bool := false
  /-- 512 bits | 16 R447 | empty | spill key -/
  spillKey : Bytes := []
  /-- 256 bits or none | 16 R447, 21 R618 | none | pair transport key -/
  transportKey : Option Bytes := none
  /-- exchange | 21 R618 | none | nonce of this device's offer in progress -/
  offerNonce : Option Bytes := none
  /-- 131,072 × 64 bytes × 2 | 19 R534 | empty | event rings -/
  eventRings : List Ring := [{}, {}]
  /-- 524,288 × 64 bytes | 19 R534 | empty | owner ring -/
  ownerRing : Ring := {}
  /-- list | 19 R655 | empty | per event code and key: last window, suppressed count, and suppressed counts per partition ring -/
  limits : List ((Nat × List Nat) × Nat × Nat × List (Nat × Nat)) := []
  /-- 64 records | 19 R539 | empty | record queue -/
  queue : List QRec := []
  /-- record or none | 19 R539 | none | record being applied, and what it still waits for -/
  running : Option (QRec × List RecWait) := none
  /-- list | 21 R603 | empty | publish-witness records that wait for a queued epoch -/
  witnessWait : List QRec := []
  /-- 256 × 4 KiB × 2 | 19 R534 | DESIGN CHOICE zero (log 5) | mailbox slots written: function, slot, bytes -/
  mailbox : List ((Nat × Nat) × Bytes) := []
  /-- 256 × 16 bytes × 2 | 19 R546 | DESIGN CHOICE zero (log 5) | mailbox responses -/
  responses : List ((Nat × Nat) × Bytes) := []
  /-- last | 19 R545, R548 | empty | the response last given on a DOE mailbox (0, 1) or on MCTP (2) -/
  answers : List (Nat × Bytes) := []
  /-- 2 × 4 vectors | 19 R554 | never | last time each vector fired, and whether it waits -/
  msix : List ((Nat × Nat) × Tick × Bool) := []
  /-- log | 19 R554 | empty | MSI-X writes issued: function, vector -/
  irqs : List (Nat × Nat) := []
  /-- 2 × 32 bits | 19 R533 | 0 | AER errors recorded -/
  aer : List Nat := [0, 0]
  /-- 1 bit × 2 | 20 R578, 19 R532 | 0 | links trained -/
  pcieUp : List Bool := [false, false]
  /-- 3 | 17 R477 | initial | SPDM state of the two DOE mailboxes and of MCTP -/
  spdm : List Spdm := [{}, {}, {}]
  /-- 64 bytes and count × 3 | 17 R479 | zero | measurement chains 7, 8 and 9 -/
  chains : List (Bytes × Nat) := List.replicate 3 (List.replicate 64 0, 0)
  /-- 64 bits | 19 R553 | 0 | Clove log index -/
  cloveIndex : Nat := 0
  /-- 7 bits or none | 19 R548 | none | I3C dynamic address -/
  i3c : Option (BitVec 7) := none
  /-- 16 KiB | 19 R544 | none | certificate chain being assembled: length and fragments -/
  certParts : Option (Nat × List (Nat × Bytes)) := none
  /-- digests | 17 R478 | empty | blocks 2, 3 and 4 of the measurement list -/
  measured : List Bytes := [[], [], []]
  /-- ADAPT 64 × 32 bits | 18 R520, 23 OSR_WEAK_SYM | OSR_WEAK_SYM_MAX (10^7) | thresholds that Clove has changed -/
  weakSym : List (Nat × Nat) := []
  /-- 1 ms | 19 R655 | 0 | current window number -/
  window : Nat := 0
  deriving DecidableEq, Repr

/-- The names of the device's counters that have no home elsewhere. -/
inductive Ctr where
  /-- header-check discards at a position (R177, 23 XBAR_HDR_BAD). -/
  | hdrBad (pos : Nat)
  /-- corrected and uncorrected ECC errors of a stack (23 RIM_ECC_CORRECTED, RIM_ECC_UNCORRECTED). -/
  | eccCorrected (stack : Nat) | eccUncorrected (stack : Nat)
  /-- `RI` frames, duplicates answered, duplicates discarded, per stream (R48, R86, R87, R88). -/
  | ri (n : Node) (s : Stream) | dup (n : Node) (s : Stream) | dupDropped (n : Node) (s : Stream)
  /-- budgets cut (R56), unknown statuses (R52), unmatched responses (R53). -/
  | budgetCut | unknownStatus | unmatched
  /-- far-tier cache lines dropped for damage (R363), frames lost in spill (R363). -/
  | sectorDropped | spillLost
  /-- flit replays per crossing (R20). -/
  | flits (x : Crossing)
  deriving DecidableEq, Repr

/-- The whole device. -/
structure State where
  /-- ticks | 02 R57, 19 R551 | 0 | the latest moment a command named -/
  now : Tick := 0
  /-- IMG | 20 R563 | the Reset column's values; the seed has none: DESIGN CHOICE 0 (log 5) | settings in force -/
  cfg : Settings := {}
  /-- tables | 19 R542 | as Tables | what composition records installed -/
  tabs : Tables := {}
  /-- journal | 03 | as Journal | journal, streams and open requests -/
  jrn : Journal := {}
  /-- memory | 13, 14 | as MemSys | near tier, caches, coherence -/
  mem : MemSys := {}
  /-- Warp | 05, 06 | as Warp | switch core and shaper -/
  warp : Warp := {}
  /-- 67 | 07 R205 | as Arbiter | lottery arbiters -/
  arbs : List Arbiter := List.replicate 67 {}
  /-- links | 18 R503 | none before the seal lights the ports | links of the ports -/
  links : List Link := []
  /-- 64 × 9 | 18 R526 | 0 | wavelength counters that are not initial -/
  waves : List ((Nat × Nat) × WaveCount) := []
  /-- engines | 08, 10 | as Engines | clusters, operators, collectives -/
  eng : Engines := {}
  /-- 128 | 15 R418 | as Channel | Rim mover channels, RIM0 first -/
  chans : List Channel := List.replicate 128 {}
  /-- 16 | 16 R444 | as Partition | partitions -/
  parts : List Partition := List.replicate 16 {}
  /-- health | 21 | as Health | health, fence, witnesses -/
  hlt : Health := {}
  /-- Hoop | 17, 19, 20, 22 | as Hoop | start, management, rings, power -/
  hoop : Hoop := {}
  /-- MRAM | 20 R573 | as Mram | retained state without another home -/
  mram : Mram := {}
  /-- counters | 23 R648 | 0 | counters that are not zero -/
  ctrs : List (Ctr × Nat) := []
  /-- counter | the model's own field | DESIGN CHOICE 0 (log 2) | draws of random and undefined values so far -/
  draws : Nat := 0
  /-- queue | the model's own field | empty | commands waiting, first in, first out -/
  pending : List Instr := []
  deriving DecidableEq, Repr

/-- The state right after reset: auxiliary power present, no start begun, MRAM as manufactured (log 5). -/
def State.reset : State := {}

end Sys2Proof.Machine
end

