-- ==== Sys2Proof/Machine/Ops.lean ====
section
/-! DEFINITION. Named operations over the state: tables, units, time and ages, header and entry bytes, the near-tier map,
memory, rings, events and measurement chains. Every meaning is written over these. -/

namespace Sys2Proof.Machine

/-! ## Lists keyed by a key -/

/-- The value of a key. -/
def look {α β : Type} [DecidableEq α] (k : α) (l : List (α × β)) : Option β :=
  (l.find? (fun p => p.1 = k)).map (·.2)

/-- Set the value of a key, in place or at the end. -/
def put {α β : Type} [DecidableEq α] (k : α) (v : β) : List (α × β) → List (α × β)
  | [] => [(k, v)]
  | p :: ps => if p.1 = k then (k, v) :: ps else p :: put k v ps

/-- Remove a key. -/
def del {α β : Type} [DecidableEq α] (k : α) (l : List (α × β)) : List (α × β) := l.filter (fun p => p.1 ≠ k)

/-- Element `i` of a list of numbers, 0 beyond its end. -/
def nth (l : List Nat) (i : Nat) : Nat := l.getD i 0

/-- Apply a function where a test holds. -/
def mapIf {α : Type} (p : α → Bool) (f : α → α) (l : List α) : List α := l.map (fun x => if p x then f x else x)

/-- Ceiling of a quotient. -/
def cdiv (a b : Nat) : Nat := (a + b - 1) / b

/-- Add without passing a limit. -/
def satAdd (limit a b : Nat) : Nat := min limit (a + b)

/-- The largest value of a 64-bit counter. -/
def max64 : Nat := 0xFFFFFFFFFFFFFFFF

/-! ## Units of the state -/

/-- Let the moment of a command pass: the clock never runs backwards. -/
def State.at (t : Tick) (s : State) : State := { s with now := max s.now t }

/-- Partition `p`. -/
def State.part (s : State) (p : Nat) : Partition := s.parts.getD p {}
/-- Change partition `p`. -/
def State.modPart (s : State) (p : Nat) (f : Partition → Partition) : State := { s with parts := s.parts.modify p f }
/-- Journal writer `w`. -/
def State.writer (s : State) (w : Nat) : Writer := s.jrn.writers.getD w {}
/-- Change journal writer `w`. -/
def State.modWriter (s : State) (w : Nat) (f : Writer → Writer) : State :=
  { s with jrn := { s.jrn with writers := s.jrn.writers.modify w f } }
/-- Cluster `c`. -/
def State.cluster (s : State) (c : Nat) : Cluster := s.eng.clusters.getD c {}
/-- Change cluster `c`. -/
def State.modCluster (s : State) (c : Nat) (f : Cluster → Cluster) : State :=
  { s with eng := { s.eng with clusters := s.eng.clusters.modify c f } }
/-- Rim channel `ch`, RIM0's first. -/
def State.chan (s : State) (ch : Nat) : Channel := s.chans.getD ch {}
/-- Change Rim channel `ch`. -/
def State.modChan (s : State) (ch : Nat) (f : Channel → Channel) : State := { s with chans := s.chans.modify ch f }
/-- Arbiter `a`. -/
def State.arb (s : State) (a : Nat) : Arbiter := s.arbs.getD a {}
/-- Change arbiter `a`. -/
def State.modArb (s : State) (a : Nat) (f : Arbiter → Arbiter) : State := { s with arbs := s.arbs.modify a f }
/-- The link of a port and sub-port. -/
def State.link (s : State) (port sub : Nat) : Option Link := s.links.find? (fun l => l.port = port ∧ l.sub = sub)
/-- Change the link of a port and sub-port. -/
def State.modLink (s : State) (port sub : Nat) (f : Link → Link) : State :=
  { s with links := mapIf (fun l => l.port = port ∧ l.sub = sub) f s.links }
/-- The open request `id`. -/
def State.req (s : State) (id : Nat) : Option Req := s.jrn.reqs.find? (fun r => r.id = id)
/-- Change the open request `id`. -/
def State.modReq (s : State) (id : Nat) (f : Req → Req) : State :=
  { s with jrn := { s.jrn with reqs := mapIf (fun r => r.id = id) f s.jrn.reqs } }
/-- Change the tables. -/
def State.modTabs (s : State) (f : Tables → Tables) : State := { s with tabs := f s.tabs }
/-- Change the Hoop die's state. -/
def State.modHoop (s : State) (f : Hoop → Hoop) : State := { s with hoop := f s.hoop }
/-- Change the health state. -/
def State.modHlt (s : State) (f : Health → Health) : State := { s with hlt := f s.hlt }
/-- Change the Warp die's state. -/
def State.modWarp (s : State) (f : Warp → Warp) : State := { s with warp := f s.warp }
/-- Change the memory system. -/
def State.modMem (s : State) (f : MemSys → MemSys) : State := { s with mem := f s.mem }
/-- Change the engines. -/
def State.modEng (s : State) (f : Engines → Engines) : State := { s with eng := f s.eng }
/-- Change the journal. -/
def State.modJrn (s : State) (f : Journal → Journal) : State := { s with jrn := f s.jrn }
/-- Apply a function for each element, in order. -/
def State.each {α : Type} (s : State) (l : List α) (f : State → α → State) : State := l.foldl f s

/-- Count one more in a counter, saturating at its width (R648). -/
def State.count (s : State) (c : Ctr) (n : Nat := 1) : State :=
  { s with ctrs := put c (satAdd max64 ((look c s.ctrs).getD 0) n) s.ctrs }

/-- Take the next draw from the random source, or the next undefined value. -/
def State.draw (s : State) : Nat × State := (s.draws, { s with draws := s.draws + 1 })

/-- The device has passed the boot seal and serves (R570); after a trip or in recovery it does not (R571, R636). -/
def State.live (s : State) : Bool := s.hoop.phase == .sealed && s.hoop.power != .standby

end Sys2Proof.Machine

namespace Sys2Proof

open Machine

/-! ## Statuses (R52) -/

/-- The 8-bit code of a status. -/
def Status.code : Status → BitVec 8
  | .ok => 0 | .format => 1 | .denied => 2 | .staleEpoch => 3 | .revoked => 4 | .targetLost => 5
  | .deadlineMissed => 6 | .publishConflict => 7 | .quota => 8 | .throttled => 9 | .checkFail => 10
  | .fenced => 11 | .teardown => 12 | .numeric => 13 | .unsupported => 14 | .orphanHold => 15 | .other c => c

/-- The status of a code. -/
def Status.ofCode (n : Nat) : Status :=
  match n with
  | 0 => .ok | 1 => .format | 2 => .denied | 3 => .staleEpoch | 4 => .revoked | 5 => .targetLost
  | 6 => .deadlineMissed | 7 => .publishConflict | 8 => .quota | 9 => .throttled | 10 => .checkFail
  | 11 => .fenced | 12 => .teardown | 13 => .numeric | 14 => .unsupported | 15 => .orphanHold
  | n => .other (BitVec.ofNat 8 n)

end Sys2Proof

namespace Sys2Proof.Machine

/-! ## Time and age (R10, R54 to R58, R101, R170 to R173) -/

/-- Ticks in one field unit of a class (R54). -/
def unitTicks (tc : Nat) : Nat := if tc = 7 then 512 else 8

/-- The age field's ceiling (R57). -/
def maxAge : Nat := 0xFFFFFF

/-- An age after `ticks` more of residence, rounded up to a field unit and saturating (R57). -/
def ageAfter (tc age ticks : Nat) : Nat := min maxAge (age + cdiv ticks (unitTicks tc))

/-- The fixed 16 AU of the receive path ahead of the stamp (R57), in ticks. -/
def fixedResidence : Tick := 128

/-- The class deadline in effect, in field units (R55). -/
def State.classDeadline (s : State) (tc : Nat) : Nat := nth s.cfg.xbar.deadline tc
/-- The class ageing limit, in field units (R170). -/
def State.ageLimit (s : State) (tc : Nat) : Nat := nth s.cfg.xbar.ageLimit tc

/-- A request's effective deadline in field units (R56). -/
def State.effDeadline (s : State) (h : Header) : Nat :=
  if h.budget.toNat = 0 then s.classDeadline h.tc.toNat else min h.budget.toNat (s.classDeadline h.tc.toNat)

/-- A request's age now: age at arrival plus its residence so far (R101). -/
def State.ageNow (s : State) (r : Req) : Nat :=
  ageAfter r.hdr.tc.toNat r.age0 (s.now - r.arrive + fixedResidence)

/-- The request has reached its effective deadline (R101). -/
def State.pastDeadline (s : State) (r : Req) : Bool := s.effDeadline r.hdr ≤ s.ageNow r

/-- The class deadline in ticks. -/
def State.deadlineTicks (s : State) (tc : Nat) : Tick := s.classDeadline tc * unitTicks tc

/-- Hoop uptime in microseconds (R551). -/
def State.uptimeUs (s : State) : Nat := (s.now - s.hoop.startedAt) / ticksPerUs

/-- The number of the fixed 1 ms window that holds now (R655). -/
def State.windowNow (s : State) : Nat := (s.now - s.hoop.startedAt) / ticksPerMs

end Sys2Proof.Machine

namespace Sys2Proof

open Machine

/-! ## Header bytes (R42, R43) -/

/-- The first 30 bytes of a header as one number: bit 239 is bit 7 of byte 0. -/
def Header.word (h : Header) : BitVec 240 :=
  (h.version ++ h.reserved ++ h.opcode ++ h.tc ++ h.flags ++ h.stream ++ h.dst ++ h.src ++ h.seq ++ h.epoch ++ h.cid ++
    h.age ++ h.budget ++ h.length ++ h.format ++ h.offset : BitVec 240)

/-- The 30 bytes the header check covers. -/
def Header.body (h : Header) : Bytes := natBe 30 h.word.toNat

/-- The header check that a header should carry (R43). -/
def Header.goodCheck (h : Header) : BitVec 16 := crc16 h.body

/-- All 32 header bytes. -/
def Header.bytes (h : Header) : Bytes := h.body ++ natBe 2 h.check.toNat

/-- The header of 32 bytes. -/
def Header.ofBytes (b : Bytes) : Header :=
  let w := BitVec.ofNat 256 (beNat (padTo 32 b))
  { version := w.extractLsb' 252 4, reserved := w.extractLsb' 248 4, opcode := w.extractLsb' 240 8,
    tc := w.extractLsb' 237 3, flags := w.extractLsb' 232 5, stream := w.extractLsb' 224 8,
    dst := w.extractLsb' 208 16, src := w.extractLsb' 192 16, seq := w.extractLsb' 160 32,
    epoch := w.extractLsb' 144 16, cid := w.extractLsb' 128 16, age := w.extractLsb' 104 24,
    budget := w.extractLsb' 80 24, length := w.extractLsb' 67 13, format := w.extractLsb' 64 3,
    offset := w.extractLsb' 16 48, check := w.extractLsb' 0 16 }

/-- A header with its check recomputed (R43). -/
def Header.sealed (h : Header) : Header := { h with check := h.goodCheck }

/-- Flag `G` (R48). -/
def Header.flagG (h : Header) : Bool := h.flags.getLsbD 4
/-- Flag `C` (R48). -/
def Header.flagC (h : Header) : Bool := h.flags.getLsbD 3
/-- Flag `NC` (R48). -/
def Header.flagNC (h : Header) : Bool := h.flags.getLsbD 2
/-- Flag `RI` (R48). -/
def Header.flagRI (h : Header) : Bool := h.flags.getLsbD 1

/-- The frame carries payload bytes (R39): a `LOAD` request's length is the read length. -/
def Header.carries (h : Header) : Bool := h.length ≠ 0 && h.opcode ≠ 0x01

/-- The bytes of a frame on a link, in wire order (R39). -/
def Frame.bytes (f : Frame) : Bytes :=
  f.hdr.bytes ++ (if f.hdr.carries then f.payload ++ natBe 4 f.pcheck.toNat else [])

/-- The size of a frame on a link. -/
def Frame.size (f : Frame) : Nat := if f.hdr.carries then 36 + f.hdr.length.toNat else 32

end Sys2Proof

namespace Sys2Proof.Machine

/-- A frame built by the device: header check and payload check computed (R40, R43). -/
def mkFrame (h : Header) (payload : Bytes) : Frame :=
  { hdr := h.sealed, payload := payload, pcheck := if h.carries then crc32c payload else 0 }

/-! ## The near-tier map (R63, R367 to R370, R374, R375) -/

/-- One GiB. -/
def gib : Nat := 0x40000000
/-- The near tier's size (R63). -/
def nearSize : Nat := 768 * gib
/-- The far-tier region (R63). -/
def farLo : Nat := 0x100000000000
/-- The far-tier region's end (R63). -/
def farHi : Nat := 0xF00000000000

/-- The stack and the stack address of a near-tier offset (R368). -/
def stackOf (modes : List Nat) (o : Nat) : Nat × Nat :=
  let j := o / (12 * gib)
  let r := j / 8
  let d := j % 8 / 4
  match nth modes (2 * r + d) with
  | 2 =>
    let y := o - (8 * r + 4 * d) * (12 * gib)
    (4 * d + (y / 1024) % 4, 12 * r * gib + (y / 4096) * 1024 + y % 1024)
  | 3 =>
    let x := o - 96 * r * gib
    ((x / 1024) % 8, 12 * r * gib + (x / 8192) * 1024 + x % 1024)
  | _ => (j % 8, (j / 8) * (12 * gib) + o % (12 * gib))

/-- The stack addresses at which the addressable near range ends (R369), in bytes. -/
def Settings.addrTop (c : Settings) : Nat := 94 * gib - (c.rim.spillGib + c.rim.ftcGib) / 8 * gib

/-- The offset lies in the addressable near range (R369). -/
def State.addressable (s : State) (o : Nat) : Bool :=
  o < nearSize && (stackOf s.cfg.rim.groupMode o).2 < s.cfg.addrTop

/-- The boundaries between carve-outs within one die group repeat every 12 GiB, and a range inside one group leaves the
addressable near range at most where its stack address passes the top: its last byte decides for ranges inside one group,
and every group start inside the range is probed as well. -/
def groupProbes (base len : Nat) : List Nat :=
  if len = 0 then [] else
  let g := 12 * gib
  let last := base + len - 1
  let mids := (List.range (last / g - base / g)).map (fun i => (base / g + 1 + i) * g)
  base :: last :: (mids ++ mids.map (· - 1))

/-- The whole range lies in the addressable near range (R369). -/
def State.rangeAddressable (s : State) (base len : Nat) : Bool :=
  base + len ≤ nearSize && (groupProbes base len).all s.addressable

/-- The whole range lies in the far-tier region (R63). -/
def inFar (base len : Nat) : Bool := farLo ≤ base && base + len ≤ farHi

/-- Two ranges share a byte; an empty range shares none. -/
def overlaps (a la b lb : Nat) : Bool := 0 < la && 0 < lb && a < b + lb && b < a + la

/-- Range `[b, b + lb)` lies inside `[a, a + la)`. -/
def within (b lb a la : Nat) : Bool := a ≤ b && b + lb ≤ a + la

/-- The Sumac range that holds an offset (R353). -/
def State.sumacAt (s : State) (o : Nat) : Option SumacRange :=
  s.tabs.sumac.find? (fun r => r.base ≤ o ∧ o < r.base + r.length)

/-- The block size of a Sumac profile (R346). -/
def blockSize (profile : Nat) : Nat :=
  match profile with | 1 => 96 | 2 => 128 | 3 => 160 | 4 => 224 | _ => 0

/-- The extent that holds an offset (R373). -/
def State.extentAt (s : State) (o : Nat) : Option Extent :=
  s.tabs.extents.find? (fun e => e.base ≤ o ∧ o < e.base + e.length)

/-- The home ordering point of an offset, 0 to 63 (R370, R374, R356); none where no rule gives one. -/
def State.homePoint (s : State) (o : Nat) : Option Nat :=
  let o' := match s.sumacAt o with
    | some r => let g := 4 * blockSize r.profile; if g = 0 then o else r.base + (o - r.base) / g * g
    | none => o
  if o' < nearSize then
    let sa := stackOf s.cfg.rim.groupMode o'
    some (8 * sa.1 + (sa.2 / 128) % 8)
  else match s.extentAt o' with
    | some e => some (32 * e.home + ((o' - e.base) / 4096) % 32)
    | none => none

/-- The M position, as a position number 128 to 151, for a request's first byte (R375). -/
def State.steerM (s : State) (o : Nat) : Nat :=
  let far := farLo ≤ o && o < farHi
  match (if s.addressable o || far then s.homePoint o else none) with
  | some n => 128 + 12 * (n / 32) + (n % 32) % 12
  | none => 128 + (o / 4096) % 12

/-- The Rim die that homes an offset: that of its home point, RIM0 where none is given (R375). -/
def State.homeDie (s : State) (o : Nat) : Nat := ((s.homePoint o).getD 0) / 32

/-- The 128-byte lines that a range touches. -/
def linesOf (base len : Nat) : List Nat :=
  if len = 0 then [] else (List.range ((base + len - 1) / 128 - base / 128 + 1)).map (fun i => (base / 128 + i) * 128)

/-! ## Memory (R367): a canonical list -/

/-- What a byte of the near tier that nothing has written reads as: zero, a DESIGN CHOICE (log 6), unsafe. -/
def unwritten : Byte := 0

/-- One byte of memory. -/
def readByte (m : List Host.Cell) (a : Nat) : Byte := ((m.find? (fun c => c.1 = a)).map (·.2)).getD unwritten

/-- One byte written, keeping the canonical form: ascending addresses, no entry that reads as an unlisted one. -/
def writeByte (a : Nat) (b : Byte) : List Host.Cell → List Host.Cell
  | [] => if b = unwritten then [] else [(a, b)]
  | c :: cs =>
    if c.1 < a then c :: writeByte a b cs
    else if c.1 = a then (if b = unwritten then cs else (a, b) :: cs)
    else if b = unwritten then c :: cs else (a, b) :: c :: cs

/-- Bytes written in ascending order from an address. -/
def writeBytes (m : List Host.Cell) (a : Nat) : Bytes → List Host.Cell
  | [] => m
  | b :: bs => writeBytes (writeByte a b m) (a + 1) bs

/-- The canonical form of memory, decided: addresses strictly rising, no entry equal to what an unlisted byte reads as. -/
def memWf : List Host.Cell → Bool
  | [] => true
  | [c] => c.2 != unwritten
  | c :: d :: cs => c.2 != unwritten && decide (c.1 < d.1) && memWf (d :: cs)

/-- Near-tier bytes as they stand in memory. -/
def State.memRead (s : State) (a n : Nat) : Bytes := (List.range n).map (fun i => readByte s.mem.near (a + i))

/-- Near-tier bytes written to memory. -/
def State.memWrite (s : State) (a : Nat) (bs : Bytes) : State :=
  s.modMem (fun m => { m with near := writeBytes m.near a bs })

/-! ## Rings and MSI-X (R549, R554) -/

/-- Advance a ring by one entry (R549). -/
def Ring.push (r : Ring) (cap : Nat) (e : Bytes) : Ring :=
  { producer := r.producer + 1, entries := ((r.producer, e) :: r.entries).take cap }

/-- Ask for an MSI-X vector: it fires at once, or waits until its holdoff has passed (R554). -/
def State.fire (s : State) (fn vec : Nat) : State :=
  match look (fn, vec) s.hoop.msix with
  | some (last, w) =>
    if w || s.now < last + s.cfg.hoop.irqUs * ticksPerUs then
      s.modHoop (fun h => { h with msix := put (fn, vec) (last, true) h.msix })
    else s.modHoop (fun h => { h with msix := put (fn, vec) (s.now, false) h.msix, irqs := h.irqs ++ [(fn, vec)] })
  | none => s.modHoop (fun h => { h with msix := put (fn, vec) (s.now, false) h.msix, irqs := h.irqs ++ [(fn, vec)] })

/-- Put the 64-bit index into bytes 8 to 15 of an entry (R549). -/
def stampIndex (i : Nat) (e : Bytes) : Bytes := e.take 8 ++ natLe 8 i ++ e.drop 16

/-- Write an entry to the owner ring. -/
def State.toOwner (s : State) (e : Bytes) : State :=
  let s := s.modHoop (fun h => { h with ownerRing := h.ownerRing.push 524288 (stampIndex h.ownerRing.producer e) })
  (s.fire 0 1).fire 1 1

/-- Write an entry to the event ring of each function: the fabric managers (R531). -/
def State.toManagers (s : State) (e : Bytes) : State :=
  let s := s.modHoop (fun h => { h with eventRings := h.eventRings.map (fun r => r.push 131072 (stampIndex r.producer e)) })
  (s.fire 0 0).fire 1 0

/-- Write an entry to a partition's telemetry ring and advance its producer word (R552); lost where it has none. -/
def State.toPartRing (s : State) (p : Nat) (e : Bytes) : State :=
  match s.tabs.rings.find? (fun r => r.part = p) with
  | none => s
  | some r =>
    let i := (s.part p).ringIndex
    let s := s.memWrite (r.base + 64 * (i % 2 ^ r.log2)) (stampIndex i e)
    let s := s.memWrite r.producerWord (natLe 8 (i + 1))
    s.modPart p (fun q => { q with ringIndex := i + 1 })

/-- The 48-byte pieces of a long record as ring entries of a kind (R550). -/
def pieces (kind part : Nat) (content : Bytes) : List Bytes :=
  let cs := chunks 48 content
  cs.mapIdx (fun i c => natLe 2 kind ++ [BitVec.ofNat 8 (i + 16 * cs.length), BitVec.ofNat 8 part] ++ zeros 12 ++ padTo 48 c)

/-! ## Events (R551, R655) -/

/-- The detail of an event: the request form, or the resource form with the model's number of the resource kind. -/
inductive Detail where
  | request (h : Header) (status : Status) (counts : List Nat)
  | resource (kind id : Nat) (values : List Nat)
  deriving DecidableEq, Repr

/-- The 32 detail bytes (R551). -/
def Detail.bytes : Detail → Bytes
  | .request h st cs =>
    natLe 2 h.src.toNat ++ natLe 2 h.cid.toNat ++ [h.stream, h.opcode, h.tc.setWidth 8, st.code] ++ natLe 4 h.seq.toNat ++
      natLe 6 h.offset.toNat ++ natLe 2 h.length.toNat ++ (List.range 3).flatMap (fun i => natLe 4 (nth cs i))
  | .resource k i vs =>
    natLe 2 (Config.resourceKind k).toNat ++ zeros 2 ++ natLe 4 i ++ (List.range 3).flatMap (fun j => natLe 8 (nth vs j))

/-- Where an event goes besides its partition's ring. -/
structure Dest where
  owner : Bool
  managers : Bool
  deriving DecidableEq, Repr

/-- The 64 bytes of an event record before its index is stamped (R551). -/
def State.eventBytes (s : State) (code : Nat) (p : Option Nat) (suppressed : Nat) (d : Detail) : Bytes :=
  let form := match d with | .request .. => 0 | .resource .. => 1
  natLe 2 code ++ [BitVec.ofNat 8 form, BitVec.ofNat 8 (match p with | some p => p % 16 | none => 16)] ++
    natLe 2 s.tabs.node.toNat ++ zeros 2 ++ zeros 8 ++ natLe 8 s.uptimeUs ++ natLe 4 s.tabs.compEpoch.toNat ++
    natLe 4 (min suppressed 0xFFFFFFFF) ++ d.bytes

/-- Raise an event without a rate limit: to the owner, to the managers, and to the ring of partition `ring`. -/
def State.event (s : State) (code : Nat) (dst : Dest) (p ring : Option Nat) (d : Detail) (sup : Nat := 0) (supRing : Nat := 0) : State :=
  let s := if dst.owner then s.toOwner (s.eventBytes code p sup d) else s
  let s := if dst.managers then s.toManagers (s.eventBytes code p sup d) else s
  match ring with
  | some q => s.toPartRing q (s.eventBytes code p supRing d)
  | none => s

/-- Raise an event at most once per key per 1 ms window, the rest counted (R655). -/
def State.eventLimited (s : State) (code : Nat) (key : List Nat) (dst : Dest) (p ring : Option Nat) (d : Detail) : State :=
  let w := s.windowNow
  let bump := fun (l : List (Nat × Nat)) => match ring with | some q => put q ((look q l).getD 0 + 1) l | none => l
  match look (code, key) s.hoop.limits with
  | some (last, sup, per) =>
    if last = w then s.modHoop (fun h => { h with limits := put (code, key) (last, sup + 1, bump per) h.limits })
    else
      let own := match ring with | some q => (look q per).getD 0 | none => 0
      let per := match ring with | some q => del q per | none => per
      let s := s.modHoop (fun h => { h with limits := put (code, key) (w, 0, per) h.limits })
      s.event code dst p ring d sup own
  | none =>
    let s := s.modHoop (fun h => { h with limits := put (code, key) (w, 0, []) h.limits })
    s.event code dst p ring d

/-- Owner ring and fabric managers. -/
def toBoth : Dest := ⟨true, true⟩
/-- Fabric managers only. -/
def toFabric : Dest := ⟨false, true⟩
/-- Owner ring only. -/
def toOwnerOnly : Dest := ⟨true, false⟩

/-! ## Measurement chains (R479) -/

/-- Extend chain 7, 8 or 9 with an item. -/
def State.extendChain (s : State) (chain : Nat) (item : Bytes) : State :=
  s.modHoop (fun h => { h with chains := h.chains.modify (chain - 7) (fun c => (sha512 (c.1 ++ sha512 item), c.2 + 1)) })

/-- Write a Clove log entry (R553): to the owner ring and to chain 9. -/
def State.cloveLog (s : State) (setting : Nat) (p : Option Nat) (object old new counter : Nat) : State :=
  let e := natLe 8 s.hoop.cloveIndex ++ natLe 8 s.uptimeUs ++ natLe 2 setting ++
    [BitVec.ofNat 8 (match p with | some p => p % 16 | none => 128), 0] ++ natLe 4 object ++ natLe 8 old ++ natLe 8 new ++
    natLe 8 counter
  let s := s.modHoop (fun h => { h with cloveIndex := h.cloveIndex + 1 })
  let s := s.extendChain 9 e
  (pieces 0x8004 (p.getD 0) e).foldl (fun s x => s.toOwner x) s

/-! ## Inputs of the health scores (R593, R620) -/

/-- An input falls in the current millisecond: a part, and its weight. -/
def State.healthInput (s : State) (part weight : Nat) : State := s.modHlt (fun h => { h with inputs := h.inputs ++ [(part, weight)] })

/-- Corrected ECC errors: every sixteen of them weigh 1 on the device. -/
def State.eccInput (s : State) (n : Nat) : State :=
  let k := s.hlt.eccPart + n
  let s := s.modHlt (fun h => { h with eccPart := k % 16 })
  if k / 16 = 0 then s else s.healthInput 104 (k / 16)

/-- The inputs of an island reset. -/
def State.islandInput (s : State) (i : Island) : State :=
  match i with
  | .cluster c => (s.healthInput c 256).healthInput (96 + c / 8) 32
  | .weft d => s.healthInput (96 + d) 256
  | .osier d => s.healthInput (100 + d) 256
  | .rim _ | .warpSched | .warpData => s.healthInput 104 512

end Sys2Proof.Machine
end

