-- ==== Sys2Proof/Machine/Frames.lean ====
section
/-! DEFINITION. Frames at the device's edge: the parser's checks, routing and steering, entry into the switch core,
responses, and the frames the device originates (chapters 02, 04, 05, 06). -/

namespace Sys2Proof.Machine

/-! ## Opcodes (R44 to R49) -/

/-- The classes an opcode may travel in (R44); none for an opcode that is not assigned. -/
def classesOf (op : Nat) : List Nat :=
  match op with
  | 0x01 => [2, 4, 6] | 0x02 => [2, 5, 7] | 0x03 | 0x04 => [2]
  | 0x10 | 0x11 | 0x12 | 0x13 | 0x14 | 0x15 | 0x16 | 0x17 => [2]
  | 0x20 => [3] | 0x21 => [3, 5] | 0x30 => [2, 4] | 0x40 | 0x41 => [2]
  | 0x80 | 0x81 => [0, 1, 2, 3, 4, 5, 6, 7] | 0x90 => [1] | 0xA0 => [0]
  | _ => []

/-- The frame is a response. -/
def isResponse (h : Header) : Bool := h.opcode == 0x80 || h.opcode == 0x81
/-- The opcode is one of the `ATOMIC` variants. -/
def isAtomic (op : Nat) : Bool := 0x10 ≤ op && op ≤ 0x17

/-- Fixed payload lengths and formats (R45, R46, R51, R69). -/
def fixedLengthOk (h : Header) : Bool :=
  let op := h.opcode.toNat
  let n := h.length.toNat
  let f := h.format.toNat
  match op with
  | 0x03 => n == 8
  | 0x04 | 0x40 | 0x41 => n == 16
  | 0x90 => n == 64
  | 0x30 => n == 64 && f == 1 && h.offset == 0
  | 0xA0 => 1 ≤ n
  | 0x81 => n == 0 && f == 1
  | _ =>
    if isAtomic op then
      n == (if op = 0x16 then 8 else 4) && h.offset.toNat % 4 == 0 &&
        (match op with
         | 0x10 | 0x12 | 0x14 => f == 7
         | 0x11 | 0x13 | 0x15 => f == 2
         | _ => f == 1 || f == 2 || f == 7)
    else true

/-- The flags are legal with the opcode (R48); an `ACK` answers the opcode that its completion word names (R50). -/
def flagsOk (h : Header) : Bool :=
  let op := h.opcode.toNat
  let c := h.format.toNat
  (h.flagG == (op == 0x21)) &&
  (!h.flagC || ((op == 1 || op == 2 || op == 0x20 || op == 0x21 || (op == 0x80 && bits h.budget.toNat 8 8 == 1)) && 2 ≤ c && c ≤ 6)) &&
  (!h.flagNC || op == 1 || isAtomic op) &&
  (!isResponse h || (!h.flagRI && !h.flags.getLsbD 0))

/-- Bytes in an element of a payload format code (R47). -/
def formatSize (c : Nat) : Nat := match c with | 2 | 7 => 4 | 3 | 4 => 2 | _ => 1

/-- Alignment and extent (R49). The block size of a Sumac payload is known only at its range, and is checked there. -/
def alignOk (h : Header) : Bool :=
  let e := formatSize h.format.toNat
  (h.flagC || (h.offset.toNat % e == 0 && h.length.toNat % e == 0)) && h.offset.toNat + h.length.toNat ≤ 2 ^ 48

/-- Checks 2 to 4 of R68: version, opcode, form. -/
def parseCheck (h : Header) : Option Status :=
  let op := h.opcode.toNat
  if h.version = 0 then some .format
  else if h.version ≠ 1 then some .unsupported
  else if op = 0 then some .format
  else if (classesOf op).isEmpty then some .unsupported
  else if h.reserved ≠ 0 || 4096 < h.length.toNat || !fixedLengthOk h || h.format = 0 || !(classesOf op).contains h.tc.toNat ||
      !flagsOk h || (h.flagG && 0x1000 ≤ h.dst.toNat) || !alignOk h then some .format
  else none

/-- The completion word of a response (R50): status, request opcode, settled flag. -/
def completionWord (st : Status) (op : BitVec 8) (settled : Bool) : BitVec 24 :=
  BitVec.ofNat 24 (st.code.toNat * 65536 + op.toNat * 256 + (if settled then 1 else 0))

/-- The status in a response's completion word (R50). -/
def responseStatus (h : Header) : Status := Status.ofCode (bits h.budget.toNat 16 8)
/-- The settled flag of a response (R50). -/
def responseSettled (h : Header) : Bool := h.budget.getLsbD 0
/-- A received status is one the device never sends (R52). -/
def statusUnknown : Status → Bool
  | .other _ => true
  | _ => false

/-! ## Masters, partitions, ingress (R28, R115 to R118) -/

/-- The context slot of a master (R115). -/
def State.context (s : State) (n : Node) (c : Cid) : Option Context :=
  s.tabs.contexts.find? (fun x => x.node = n ∧ x.cid = c)

/-- The local context that serves a partition: the one with the lowest CID (R118). -/
def State.localContext (s : State) (p : Nat) : Option Context :=
  (s.tabs.contexts.filter (fun x => x.isLocal && x.part == p && x.node == s.tabs.node)).foldl
    (fun (m : Option Context) x => match m with | some y => if x.cid.toNat < y.cid.toNat then some x else m | none => some x) none

/-- The shares of a port's sub-port (R445). -/
def State.sharesOf (s : State) (port sub : Nat) : List Nat :=
  (s.tabs.shares.filter (fun x => x.port = port ∧ x.sub = sub)).map (·.part)

/-- The least of a list of numbers, 0 of none. -/
def least : List Nat → Nat
  | [] => 0
  | x :: xs => xs.foldl min x

/-- The ingress check (R28): the partition fixed for the frame, or none where it is refused. -/
def State.ingress (s : State) (port sub : Nat) (n : Node) (c : Cid) : Option Nat :=
  let bound := match s.tabs.sources.find? (fun x => x.port = port ∧ x.sub = sub) with
    | some x => x.ranges.any (fun r => r.1 ≤ n.toNat && n.toNat ≤ r.2)
    | none => false
  let shares := s.sharesOf port sub
  if !bound then none
  else match s.context n c with
    | some x => if shares.contains x.part then some x.part else none
    | none => if shares.isEmpty then none else some (least shares)

/-! ## Routing and steering (R60, R236, R286, R375, R523) -/

/-- The egress of a node by the forwarding table (R60): the newest span decides. -/
def State.route (s : State) (n : Node) : Option (Nat × Nat) :=
  match s.tabs.fwd.find? (fun f => f.first ≤ n.toNat ∧ n.toNat < f.first + f.count) with
  | some f => f.dest
  | none => none

/-- The route admits new frames: it exists, and its link's hold has not expired (R523). -/
def State.routable (s : State) (n : Node) : Option (Nat × Nat) :=
  match s.route n with
  | some (p, b) => match s.link p b with
    | some l => if l.holdExpired then none else some (p, b)
    | none => some (p, b)
  | none => none

/-- The clusters of a partition that are not leaving (R131, R235). -/
def State.clustersOf (s : State) (p : Nat) : List Nat :=
  (List.range 32).filter (fun c => let x := s.cluster c; x.assigned && !x.leaving && x.part == p)

/-- The outstanding `OFFLOAD` weight of a G position, 0 to 63 (R236). -/
def State.posWeight (s : State) (g : Nat) : Nat :=
  ((s.jrn.reqs.filter (fun r => match r.stage with
    | .queued _ q | .running _ q | .crossCheck _ q => q == g
    | _ => false)).map (·.weight)).sum

/-- The G position for an `OFFLOAD` of a (source, stream) of a partition (R236). -/
def State.steerOffload (s : State) (p : Nat) (n : Node) (st : Stream) : Option Nat :=
  let cands := (s.clustersOf p).flatMap (fun c => [2 * c, 2 * c + 1])
  let best := cands.foldl (fun (m : Option Nat) g => match m with
    | none => some g
    | some h => if s.posWeight g < s.posWeight h then some g else m) none
  let earlier := s.jrn.reqs.findSome? (fun r => if r.hdr.src = n ∧ r.hdr.stream = st then (match r.stage with
    | .queued _ q | .running _ q | .crossCheck _ q => some q
    | _ => none) else none)
  match earlier with
  | some g => if cands.contains g then some g else best
  | none => best

/-- Elements of a segment (R279). -/
def Collective.perSeg (k : Collective) : Nat := k.segBytes / formatSize k.fmt
/-- Elements of the result. -/
def Collective.total (k : Collective) : Nat := k.length / formatSize k.fmt

/-- The list names a stage (R280). -/
def Collective.staged (k : Collective) : Bool := k.list.any (·.stage)

/-- The collective that absorbs a `REDUCE_PUT`, its segment, and whether the frame addresses the partial area (R286): at
the root by offset, at a stage for a listed master. -/
def State.absorber (s : State) (h : Header) : Option (Collective × Nat × Bool) :=
  let o := h.offset.toNat
  if h.opcode ≠ 0x20 then none
  else s.eng.colls.findSome? (fun k =>
    if k.releasing || k.segBytes = 0 || k.key.root ≠ h.dst || k.root != (h.dst == s.tabs.node) then none
    else if k.target ≤ o && o < k.target + k.length then
      if k.root || k.list.any (fun x => x.node == h.src && x.cid == h.cid) then some (k, (o - k.target) / k.segBytes, false) else none
    else if k.root && k.staged && k.partialArea ≤ o && o < k.partialArea + 16 + 40 * k.total then
      some (k, (o - k.partialArea) / 40 / max 1 k.perSeg, true)
    else none)

/-- A frame that this device takes in: its own, a multicast's, or one a stage here absorbs (R60, R61, R286). -/
def State.takesIn (s : State) (h : Header) : Bool :=
  h.flagG || h.dst = s.tabs.node || (h.opcode == 0x20 && (s.absorber h).isSome)

/-- The position number at which a frame for this node is received (R15, R236, R286, R375). -/
def State.steer (s : State) (h : Header) (p : Nat) : Nat :=
  let m := s.steerM h.offset.toNat
  match h.opcode.toNat with
  | 0x30 => match s.steerOffload p h.src h.stream with | some g => 64 + g | none => m
  | 0x20 => match s.absorber h with
    | some (c, i, _) => if c.positions.isEmpty then m else c.positions.getD (i % c.positions.length) m
    | none => m
  | 0x90 => if h.stream.getLsbD 0 then 156 else 154
  | 0xA0 => 152
  | 0x80 | 0x81 =>
    let st := h.stream.toNat
    if st = 0x7E then 154 else if st = 0x7F then 156
    else if 0x40 ≤ st ∧ st < 0x60 then 64 + 2 * (st - 0x40)
    else if 0x60 ≤ st ∧ st < 0x70 then 128 + 12 * ((st / 4) % 2) else m
  | _ => m

/-! ## Entry into the switch core (R149 to R165, R179, R182) -/

/-- Cells of a frame (R149). -/
def cellsOf (f : Frame) : Nat := cdiv f.size 512

/-- A request frame's subscriber (R179). -/
def State.subscriberOf (s : State) (h : Header) (p : Nat) : Option Nat :=
  if h.tc.toNat ≤ 1 then none
  else
    let (n, c) := if isResponse h then (h.dst, h.cid) else (h.src, h.cid)
    match s.tabs.subs.find? (fun x => 16 ≤ x.num ∧ !x.leaving ∧ x.node = n ∧ x.cid = c) with
    | some x => some x.num
    | none => some p

/-- The service of a subscriber that carries a class (R181). -/
def State.serviceOf (s : State) (sub tc : Nat) : Nat :=
  match s.tabs.services.find? (fun x => x.sub = sub ∧ !x.leaving ∧ x.classMap.testBit tc) with
  | some x => x.svc
  | none => 0

/-- The class of a queued frame. -/
def VFrame.tc (v : VFrame) : Nat := v.frame.hdr.tc.toNat
/-- Cells of a queued frame that stand on chip. -/
def VFrame.onChip (v : VFrame) : Nat := if v.stored then v.cells - v.moved - v.spilled else 0
/-- The frames of a VOQ, in order (R154). -/
def State.voq (s : State) (i j tc : Nat) : List VFrame := s.warp.voq.filter (fun v => v.src = i ∧ v.dst = j ∧ v.tc = tc)
/-- Cells on chip in a VOQ. -/
def voqCells (l : List VFrame) : Nat := (l.map VFrame.onChip).sum

/-- Cells of an input's classes beyond their class floors (R155). -/
def State.inputExcess (s : State) (i : Nat) : Nat :=
  ((List.range 8).map (fun c =>
    let u := ((s.warp.voq.filter (fun v => v.src = i ∧ v.tc = c)).map VFrame.onChip).sum
    u - (match c with | 0 => 64 | 1 => 128 | 2 => 64 | _ => 0))).sum

/-- The any-class floor of an input that every partition may use (R155, R195): an M input keeps the strict reserves apart. -/
def State.anyFloor (s : State) (i : Nat) : Nat :=
  if 128 ≤ i ∧ i < 152 then
    768 - ((List.range 16).map (fun p => if s.cfg.unit.strict.getD p false then nth s.cfg.shp.strictFloor p else 0)).sum
  else 768

/-- Cells in the shared pool (R155, R162). -/
def State.poolCells (s : State) : Nat := ((List.range 160).map (fun i => s.inputExcess i - s.anyFloor i)).sum

/-- `n` more cells of a class and partition fit in an input's storage (R155, R195). -/
def State.storageFits (s : State) (i tc p n : Nat) : Bool :=
  let classFloor := match tc with | 0 => 64 | 1 => 128 | 2 => 64 | _ => 0
  let used := ((s.warp.voq.filter (fun v => v.src = i ∧ v.tc = tc)).map VFrame.onChip).sum
  let beyond := (used + n - classFloor) - (used - classFloor)
  let x := s.inputExcess i
  let strict := s.cfg.unit.strict.getD p false
  if strict then
    let mine := ((s.warp.voq.filter (fun v => v.src = i ∧ v.part = p)).map VFrame.onChip).sum
    mine + n ≤ (if 128 ≤ i ∧ i < 152 then nth s.cfg.shp.strictFloor p else 768 + classFloor)
  else
    let pool := (x + beyond - s.anyFloor i) - (x - s.anyFloor i)
    x + beyond - s.anyFloor i ≤ 16384 && s.poolCells + pool ≤ 229376

/-- Cells the spill region holds at most (R161). -/
def State.spillCapacity (s : State) : Nat := s.cfg.rim.spillGib * gib / 65536 * 120
/-- Cells in the spill region. -/
def State.spillCells (s : State) : Nat := (s.warp.voq.map (·.spilled)).sum

/-- An aged discard (R172): counted, and raised at most once per input position and class per 1 ms. `point` is 0 at the
parser, 1 at a VOQ head, 2 at the receiving die, 3 at the serialiser. -/
def State.agedDiscard (s : State) (pos : Nat) (h : Header) (p point : Nat) : State :=
  let s := s.modPart p (fun q => { q with aged := q.aged.modify h.tc.toNat (fun x => satAdd max64 x 1) })
  s.eventLimited 0x0501 [pos, h.tc.toNat] toFabric (some p) (some p) (.request h .ok [point])

/-- A frame with an age, after some residence, is at or above its class ageing limit (R171). -/
def State.tooOld (s : State) (h : Header) (ticks : Nat) : Bool :=
  s.ageLimit h.tc.toNat ≤ ageAfter h.tc.toNat h.age.toNat ticks

/-- The spill region has no room (R165). -/
def State.spillIsFull (s : State) : State :=
  (s.modWarp (fun w => { w with spillFull := true })).eventLimited 0x0505 [] toBoth none none (.resource 0 0 [])

/-- Cells of a frame that reached a port have left its receive buffer: their link credits are free (R513). -/
def State.freeCells (s : State) (arrival : Option (Nat × Nat)) (f : Frame) : State :=
  match arrival with
  | some (port, sub) => s.modLink port sub (fun l => { l with rxFreed := l.rxFreed.modify f.hdr.tc.toNat (fun x => (x + cellsOf f) % 65536) })
  | none => s

/-- A frame enters the VOQ of a position (R149, R154, R162, R182). -/
def State.enqueue (s : State) (src dst sub : Nat) (f : Frame) (p resid : Nat) (arrival : Option (Nat × Nat)) : State :=
  let tc := f.hdr.tc.toNat
  let n := cellsOf f
  let q := s.voq src dst tc
  if q.isEmpty && s.tooOld f.hdr resid then (s.freeCells arrival f).agedDiscard src f.hdr p 1
  else
    let sb := s.subscriberOf f.hdr p
    let sv := match sb with | some x => s.serviceOf x tc | none => 0
    let mustSpill := 3 ≤ tc && 0 < s.spillCapacity && !(s.cfg.unit.strict.getD p false) &&
      ((s.warp.spillOn && s.cfg.xbar.spillHead < voqCells q) || q.any (fun v => 0 < v.spilled))
    let spills := mustSpill && s.spillCells + n ≤ s.spillCapacity
    let fits := spills || (!mustSpill && s.storageFits src tc p n)
    let tag := (look src s.warp.tags).getD 0
    let v : VFrame :=
      { tag := tag, src := src, dst := dst, sub := sub, frame := f, part := p, subscriber := sb, service := sv, cells := n,
        moved := 0, spilled := if spills then n else 0, enq := s.now, headAt := if q.isEmpty then some s.now else none,
        urgent := false, resid := resid, arrival := arrival, throughSpill := spills, stored := fits }
    let s := s.modPart p (fun x => { x with meter := x.meter.modify 3 (· + f.size) })
    let s := s.modWarp (fun w => { w with voq := w.voq ++ [v], tags := put src ((tag + 1) % 65536) w.tags })
    let s := if mustSpill && !spills then s.spillIsFull else s
    let s := if fits then s.freeCells arrival f else s
    if spills then
      s.modArb 64 (fun a => { a with queue := a.queue ++ [⟨src / 8, tag, f.hdr.src, f.hdr.stream, n⟩] })
    else s

/-- The event of a frame whose forwarding entry names no port (R60, R610, R622). -/
def State.routeLost (s : State) (pos : Nat) (h : Header) (p : Nat) : State :=
  s.eventLimited 0x1508 [pos] toFabric (some p) (some p) (.request h .targetLost [])

/-! ## Responses (R50, R51, R101) -/

/-- A deadline that a completion has missed: counted per class and partition, and raised (R101). -/
def State.missed (s : State) (h : Header) (p : Nat) (st : Status) : State :=
  let s := s.modPart p (fun q => { q with missed := q.missed.modify h.tc.toNat (fun x => satAdd max64 x 1) })
  s.event 0x0301 toBoth (some p) (some p) (.request h st [])

/-- The response header of a request (R50). -/
def State.responseHeader (s : State) (h : Header) (ack : Bool) (st : Status) (settled : Bool) (fmt : BitVec 3) (len : Nat)
    (c : Bool) : Header :=
  { version := 1, reserved := 0, opcode := if ack then 0x80 else 0x81, tc := h.tc, flags := if c then 8 else 0,
    stream := h.stream, dst := h.src, src := if h.flagG then s.tabs.node else h.dst, seq := h.seq, epoch := s.tabs.mapEpoch,
    cid := h.cid, age := h.age, budget := completionWord st h.opcode settled, length := BitVec.ofNat 13 len, format := fmt,
    offset := h.offset, check := 0 }

/-- Send a frame of this device into the switch core from a position, toward a node: to a port, or to this node's own
position. A response with no route is lost, as no response answers it; a request with no route is refused by the parser (R60). -/
def State.emitTo (s : State) (pos : Nat) (toward : Node) (f : Frame) (p resid : Nat) : State :=
  if toward = s.tabs.node then s.enqueue pos (s.steer f.hdr p) 0 f p resid none
  else match s.routable toward with
    | some (port, sub) => s.enqueue pos port sub f p resid none
    | none =>
      let s := s.routeLost pos f.hdr p
      if isResponse f.hdr then s
      else
        let r := mkFrame { s.responseHeader f.hdr false .targetLost false 1 0 false with src := toward } []
        s.modWarp (fun w => { w with arrived := w.arrived ++
          [⟨pos, 0, r, p, s.now, resid, none, s.now⟩] })

/-- Send a frame of this device toward its destination. -/
def State.emit (s : State) (pos : Nat) (f : Frame) (p resid : Nat) : State := s.emitTo pos f.hdr.dst f p resid

/-- Send a response from a position. The header's age is the age at arrival; `arrive` is the arrival stamp. -/
def State.sendResponse (s : State) (pos : Nat) (h : Header) (arrive p : Nat) (ack : Bool) (st : Status) (settled : Bool)
    (fmt : BitVec 3) (data : Bytes) (c : Bool) : State :=
  let f := mkFrame (s.responseHeader h ack st settled fmt data.length c) data
  s.emit pos f p (s.now - arrive)

/-- The request's effective deadline has been reached (R101). -/
def State.late (s : State) (h : Header) (arrive : Nat) : Bool :=
  s.effDeadline h ≤ ageAfter h.tc.toNat h.age.toNat (s.now - arrive + fixedResidence)

/-- A refusal of a `MCAST_STORE` (R305, R311), at most once per group per 1 ms. -/
def State.mcastFail (s : State) (h : Header) (p : Nat) (st : Status) : State :=
  if h.opcode = 0x21 then s.eventLimited 0x0A03 [h.dst.toNat] toFabric (some p) (some p) (.request h st []) else s

/-- Refuse a request with its sequence left open (R84). -/
def State.refuseOpen (s : State) (pos : Nat) (h : Header) (arrive p : Nat) (st : Status) : State :=
  let s := if s.late h arrive then s.missed h p st else s
  (s.mcastFail h p st).sendResponse pos h arrive p false st false 1 [] false

/-- Check 6 for a multicast (R302): its group's entry exists, and its ingress partition is the entry's. -/
def State.groupCheck (s : State) (h : Header) (p : Nat) : Option Status :=
  if h.flagG then
    match s.tabs.groups.find? (fun g => g.id = h.dst.toNat) with
    | none => some .targetLost
    | some g => if g.part = p then none else some .denied
  else none

/-! ## Arrival of a frame (R26, R57, R68 checks 1 to 7) -/

/-- A frame of this node, past checks 1 to 7, at the position that receives it. -/
structure Delivered where
  hdr : Header
  payload : Bytes
  pcheck : BitVec 32
  port : Nat
  sub : Nat
  pos : Nat
  part : Nat
  arrive : Tick
  deriving DecidableEq, Repr

/-- What becomes of a frame that a command presents. -/
inductive Rx where
  /-- nothing more follows: discarded, refused, forwarded, or waiting. -/
  | done (s : State)
  /-- received for this node. -/
  | here (s : State) (d : Delivered)

/-- The same frame, whatever age it has gathered since. -/
def sameFrame (a b : Header) : Bool :=
  a.src == b.src && a.dst == b.dst && a.stream == b.stream && a.seq == b.seq && a.opcode == b.opcode && a.offset == b.offset &&
    a.length == b.length && a.format == b.format && a.cid == b.cid

/-- The header of a frame with the ages of its arrival added: the link's delay and the replay delay (R57, R517). -/
def State.arrivalHeader (s : State) (a : Arrival) (h : Header) : Header :=
  let d := match s.link a.port a.sub with | some l => l.oneWay | none => 0
  let age := ageAfter h.tc.toNat (ageAfter h.tc.toNat h.age.toNat d) (a.replay * ticksPerAu)
  { h with age := BitVec.ofNat 24 age }

/-- The island resets in force name an island. -/
def State.islandDown (s : State) (i : Island) : Bool := s.hoop.resets.any (fun r => r.island == i && r.running)

/-- The island behind a position is in reset (R582). -/
def State.posDown (s : State) (pos : Nat) : Bool :=
  if pos < 64 then s.islandDown (.osier (pos / 16))
  else if pos < 128 then s.islandDown (.cluster ((pos - 64) / 2)) || s.islandDown (.weft ((pos - 64) / 16))
  else if pos < 152 then s.islandDown (.rim ((pos - 128) / 12)) else false

/-- The parser's work on a frame from a port: checks 1 to 7 (R68). Answers the frame with its partition, or the state. -/
def State.parse (s : State) (a : Arrival) (f : Frame) : State × Option (Frame × Nat) :=
  let h := s.arrivalHeader a f.hdr
  if f.hdr.check ≠ f.hdr.goodCheck then
    let s := s.count (.hdrBad a.port)
    (s.eventLimited 0x0502 [a.port] toFabric none none (.resource 0 a.port []), none)
  else
    let shares := s.sharesOf a.port a.sub
    let p0 := match s.context h.src h.cid with | some x => x.part | none => least shares
    let refuse := fun (st : Status) (s : State) =>
      if isResponse h then s.count .unmatched else s.refuseOpen a.port h s.now p0 st
    match parseCheck h with
    | some st => (refuse st s, none)
    | none =>
      match s.ingress a.port a.sub h.src h.cid with
      | none => (refuse .denied s, none)
      | some p =>
        if !s.takesIn h && (s.routable h.dst).isNone then (refuse .targetLost (s.routeLost a.port h p), none)
        else if (s.groupCheck h p).isSome then
          let st := (s.groupCheck h p).getD .denied
          (refuse st (if st = .targetLost then s.routeLost a.port h p else s), none)
        else if s.tooOld h 0 then (s.agedDiscard a.port h p 0, none)
        else
          let s := if !isResponse h && s.classDeadline h.tc.toNat < h.budget.toNat then s.count .budgetCut else s
          (s, some ({ f with hdr := h }, p))

/-- A Warp island in reset makes the device unreachable: a frame that arrives is lost without a refusal (R38, R166). -/
def State.warpDown (s : State) : Bool := s.islandDown .warpSched || s.islandDown .warpData

/-- The status that refuses a frame bound for a position in reset: a cluster's Weft die answers `TARGET_LOST` (R299); elsewhere it is
`FENCED` under a fence (R38). -/
def State.downStatus (s : State) (pos : Nat) : Status :=
  if s.hlt.fence = 0 || (64 ≤ pos && pos < 128) then .targetLost else .fenced

/-- A frame that a command presents at this node: taken from the frames that wait behind its position, or taken through
the parser now. A frame of another node is forwarded (R60). An earlier frame of its stream at its position goes first
(R210). The grant of its lead closes a combining group (R168). The island behind its position in reset refuses it, its sequence open (R38, R299, R582). -/
def State.receive (s : State) (a : Arrival) (f : Frame) : Rx :=
  if !s.live then .done s
  else
    match s.warp.arrived.find? (fun x => 64 ≤ x.pos && sameFrame x.frame.hdr f.hdr) with
    | some x =>
      let first := s.warp.arrived.find? (fun y => y.pos = x.pos && y.frame.hdr.src = x.frame.hdr.src &&
        y.frame.hdr.stream = x.frame.hdr.stream)
      if first ≠ some x then .done s
      else
        let h := x.frame.hdr
        let lead := fun (g : CGroup) => g.pos == x.pos && g.members.head? == some (h.src, h.stream, h.seq)
        let s := s.modWarp (fun w => { w with arrived := w.arrived.erase x, groups := w.groups.filter (fun g => !lead g) })
        let (port, sub) := x.arrival.getD (x.pos, 0)
        if !isResponse h && s.posDown x.pos then .done (s.refuseOpen x.pos h (x.stamp - x.resid) x.part (s.downStatus x.pos))
        else
          .here s { hdr := h, payload := x.frame.payload, pcheck := x.frame.pcheck, port := port, sub := sub, pos := x.pos,
                    part := x.part, arrive := x.stamp - x.resid }
    | none =>
      if s.warpDown then .done (s.freeCells (some (a.port, a.sub)) f)
      else match s.parse a f with
      | (s, none) => .done (s.freeCells (some (a.port, a.sub)) f)
      | (s, some (f, p)) =>
        let h := f.hdr
        let s := if s.takesIn h then s.freeCells (some (a.port, a.sub)) f else s
        if !s.takesIn h then
          match s.routable h.dst with
          | some (port, sub) => .done (s.enqueue a.port port sub f p 0 (some (a.port, a.sub)))
          | none => .done s
        else if s.tooOld h fixedResidence then .done (s.agedDiscard a.port h p 2)
        else
          let pos := s.steer h p
          if !isResponse h && s.posDown pos then .done (s.refuseOpen a.port h s.now p (s.downStatus pos))
          else .here s { hdr := h, payload := f.payload, pcheck := f.pcheck, port := a.port, sub := a.sub, pos := pos,
                         part := p, arrive := s.now }

/-- A frame that must wait at its position: put (back) behind it, in order (R206). -/
def State.park (s : State) (d : Delivered) : State :=
  let x : AFrame := { pos := d.pos, sub := 0, frame := ⟨d.hdr, d.payload, d.pcheck⟩, part := d.part, stamp := d.arrive,
                      resid := 0, arrival := some (d.port, d.sub), doneAt := s.now }
  -- a frame taken from the waiting ones was the first of its stream, so it goes ahead of the others of its stream
  s.modWarp (fun w => { w with arrived := x :: w.arrived })

/-! ## Frames the device originates (R58, R73, R85, R96, R658) -/

/-- The next sequence of this device toward a destination and stream, and the state after taking it. -/
def State.takeSeq (s : State) (dst : Node) (st : Stream) : Seq × State :=
  let q := (look (dst, st) s.jrn.devSeq).getD 0
  (q, s.modJrn (fun j => { j with devSeq := put (dst, st) (q + 1) j.devSeq }))

/-- The position from which a frame of this device is sent: by its stream and kind. -/
def Owner.position (s : State) : Owner → Header → Nat
  | .mirror w _, _ => 154 + 2 * w
  | .operand _, h => 64 + 2 * (h.stream.toNat - 0x40)
  | .core c _, _ => 64 + 2 * c
  | .keyTransfer _, _ | .admission, _ => 152
  | .mover ch .., _ | .moverMerge ch .., _ => 128 + 12 * (ch / 64) + ch % 12
  | .relay _ _, h | .partialOf _ _, h => s.steerM h.offset.toNat
  | _, h => 128 + 12 * ((h.stream.toNat / 4) % 2)

/-- Send a request frame of this device toward a node and keep it until it is answered. -/
def State.originateTo (s : State) (toward : Node) (owner : Owner) (h : Header) (payload : Bytes) (p resid : Nat) : State :=
  let f := mkFrame h payload
  let s := s.modJrn (fun j => { j with outs := j.outs ++
    [{ hdr := f.hdr, payload := payload, owner := owner, sentAt := s.now, firstAt := s.now - resid, toward := toward }] })
  s.emitTo (owner.position s h) toward f p resid

/-- Send a request frame of this device toward its destination and keep it until it is answered. -/
def State.originate (s : State) (owner : Owner) (h : Header) (payload : Bytes) (p resid : Nat) : State :=
  s.originateTo h.dst owner h payload p resid

/-- A request header of this device (R118). -/
def State.ownHeader (s : State) (op tc : Nat) (stream : Stream) (dst : Node) (seq : Seq) (cid : Cid) (age budget len fmt off : Nat)
    (c : Bool) : Header :=
  { version := 1, reserved := 0, opcode := BitVec.ofNat 8 op, tc := BitVec.ofNat 3 tc, flags := if c then 8 else 0,
    stream := stream, dst := dst, src := s.tabs.node, seq := seq, epoch := s.tabs.mapEpoch, cid := cid,
    age := BitVec.ofNat 24 age, budget := BitVec.ofNat 24 budget, length := BitVec.ofNat 13 len, format := BitVec.ofNat 3 fmt,
    offset := BitVec.ofNat 48 off, check := 0 }

/-- A class mapped to one that `STORE` may use (R85, R384). -/
def storeClass (tc : Nat) : Nat := if tc = 2 ∨ tc = 5 ∨ tc = 7 then tc else 5

/-- What remains of a request's effective deadline, as the budget of a frame it sends (R376): never zero, which would
name the class deadline (DEDUCED, log 11). -/
def State.remaining (s : State) (h : Header) (arrive : Nat) : Nat :=
  max 1 (s.effDeadline h - ageAfter h.tc.toNat h.age.toNat (s.now - arrive + fixedResidence))

/-- The outstanding frame toward a node, stream and sequence (R53). -/
def State.outFrame (s : State) (n : Node) (st : Stream) (q : Seq) : Option OutFrame :=
  s.jrn.outs.find? (fun o => o.toward = n ∧ o.hdr.stream = st ∧ o.hdr.seq = q)

/-- Forget an outstanding frame. -/
def State.dropOut (s : State) (o : OutFrame) : State := s.modJrn (fun j => { j with outs := j.outs.erase o })

/-- Change an outstanding frame. -/
def State.modOut (s : State) (o : OutFrame) (f : OutFrame → OutFrame) : State :=
  s.modJrn (fun j => { j with outs := j.outs.map (fun x => if x == o then f x else x) })

/-- The partition a device frame belongs to, for its place in the switch core. -/
def State.partOfOut (s : State) (o : OutFrame) : Nat :=
  match o.owner with
  | .tray r | .copy r | .operand r | .relay r _ | .crossCheck r => match s.req r with | some x => x.part | none => 0
  | .mover ch .. | .moverMerge ch .. => match s.tabs.bindings.find? (fun b => 64 * b.die + b.ch = ch) with | some b => b.part | none => 0
  | .scrub p => p
  | .prefetch p .. => p
  | .core c _ => (s.cluster c).part
  | _ => 0

/-- Send an outstanding frame again at its sequence, its age counted from its first issue (R58, R658). -/
def State.resend (s : State) (o : OutFrame) : State :=
  let s := s.modOut o (fun x => { x with sentAt := s.now, attempts := x.attempts + 1, resendAt := none })
  s.emitTo (o.owner.position s o.hdr) o.toward (mkFrame o.hdr o.payload) (s.partOfOut o) (s.now - o.firstAt)

/-- Fill an open sequence of this device with an empty `STORE` (R85): its class mapped, its age that of the frame it fills,
or zero for a new frame (R657). -/
def State.fillSeq (s : State) (o : OutFrame) (fresh : Bool) : State :=
  let s := s.dropOut o
  let tc := storeClass o.hdr.tc.toNat
  let h := { o.hdr with opcode := 0x02, tc := BitVec.ofNat 3 tc, flags := 0, dst := o.toward, length := 0, format := 1,
                        age := if fresh then 0 else o.hdr.age }
  s.originate .fill h [] (s.partOfOut o) (if fresh then 0 else s.now - o.firstAt)

/-! ## The end of a record's waits (R539, R541) -/

/-- The 16-byte response to a record (R545). -/
def State.recordBytes (s : State) (number : Nat) (st : Status) (item : Nat) : Bytes :=
  natBe 8 number ++ [st.code, 0] ++ natBe 2 item ++ natBe 4 s.tabs.compEpoch.toNat

/-- Deliver a record's response on the path it came by (R545 to R548). -/
def State.answerRecord (s : State) (path : RecPath) (number : Nat) (st : Status) (item : Nat) (consumed : Bool) : State :=
  let r := s.recordBytes number st item
  match path with
  | .doe fn => (s.modHoop (fun h => { h with answers := put fn r h.answers })).fire fn 3
  | .mailbox fn slot => (s.modHoop (fun h => { h with responses := put (fn, slot) r h.responses })).fire fn 2
  | .i3c => s.modHoop (fun h => { h with answers := put 2 r h.answers })
  | .frame hdr =>
    let ok := st == .ok
    s.sendResponse 152 hdr s.now 0 ok st (ok || consumed) 1 [] false

/-- Remember a consumed record among the last 64 of its signer (R537). -/
def State.rememberRecord (s : State) (signer number : Nat) (digest : Bytes) (st : Status) : State :=
  { s with mram := { s.mram with
      high := s.mram.high.set (signer - 1) (max number (nth s.mram.high (signer - 1)))
      history := (((signer, number, digest, st) :: s.mram.history).filter (fun e => e.1 = signer)).take 64 ++
        s.mram.history.filter (fun e => e.1 ≠ signer) } }

/-- The record being applied no longer waits for something; with its last wait gone it is acknowledged (R541). -/
def State.unwait (s : State) (w : RecWait) : State :=
  match s.hoop.running with
  | none => s
  | some (q, ws) =>
    if !ws.contains w then s
    else
      let rest := ws.filter (· ≠ w)
      if rest.isEmpty then
        let s := s.modHoop (fun h => { h with running := none })
        (s.rememberRecord q.signer q.number (sha512 q.bytes) .ok).answerRecord q.path q.number .ok 0xFFFF true
      else s.modHoop (fun h => { h with running := some (q, rest) })

end Sys2Proof.Machine
end

