-- ==== Sys2Proof/Machine/Requests.lean ====
section
/-! DEFINITION. Requests at the target: checks 8 to 14, streams and duplicates, opening a sequence, the journal, refusal,
and settlement (chapters 03, 04, 06, 13). -/

namespace Sys2Proof.Machine

/-! ## Stream records (R73 to R75) -/

/-- The stream record of a source and stream: the initial record where none is held. -/
def State.stream (s : State) (n : Node) (t : Stream) : StreamRec :=
  (s.jrn.streams.find? (fun r => r.src = n ∧ r.stream = t)).getD { src := n, stream := t }

/-- Set a record in a stream table. -/
def putStream (r : StreamRec) (l : List StreamRec) : List StreamRec :=
  if l.any (fun x => x.src = r.src ∧ x.stream = r.stream) then mapIf (fun x => x.src = r.src ∧ x.stream = r.stream) (fun _ => r) l
  else l ++ [r]

/-- Change a stream record. -/
def State.modStream (s : State) (n : Node) (t : Stream) (f : StreamRec → StreamRec) : State :=
  s.modJrn (fun j => { j with streams := putStream (f (s.stream n t)) j.streams })

/-- The stream is a pair stream (R71). -/
def isPair (t : Stream) : Bool := t.getLsbD 7

/-- This device serves pair streams (R71, R100): it is in no pair, or it is the primary. -/
def State.servesPair (s : State) : Bool := !s.tabs.paired || s.tabs.role == 1

/-! ## The journal (R90 to R98) -/

/-- The state field's code (R91). -/
def EntryState.code : EntryState → Nat
  | .free => 0 | .applied => 1 | .recorded => 2 | .refused => 3 | .offered => 4 | .handed => 5 | .mark => 6

/-- The 64 bytes of an entry (R90). -/
def JEntry.bytes (e : JEntry) : Bytes :=
  let b := natLe 8 e.index ++ natLe 2 e.src.toNat ++ [e.stream, e.opcode] ++ natLe 4 e.seq.toNat ++ natLe 2 e.cid.toNat ++
    natLe 2 e.epoch.toNat ++ natLe 6 e.offset.toNat ++ natLe 2 (e.length.toNat + 8192 * e.format.toNat) ++
    [BitVec.ofNat 8 (e.flags.toNat + 32 * e.tc.toNat), BitVec.ofNat 8 (e.part % 16 + 16 * e.state.code), e.status.code,
     BitVec.ofNat 8 (e.writer % 2 + (if e.solo then 2 else 0))] ++ natLe 4 e.pcheck.toNat ++ natLe 4 e.age.toNat ++
    natLe 8 e.result.toNat ++ natLe 4 e.aux.toNat ++ natLe 4 e.compEpoch.toNat ++ zeros 4
  b ++ natLe 4 (crc32c b).toNat

/-- The entry of 64 bytes (R90); none where a reserved field or the state is not as laid out. -/
def JEntry.ofBytes (b : Bytes) (now : Tick) : Option JEntry :=
  let st := bits (leAt b 29 1) 4 4
  let state : Option EntryState := match st with
    | 0 => some .free | 1 => some .applied | 2 => some .recorded | 3 => some .refused | 4 => some .offered | 5 => some .handed
    | 6 => some .mark | _ => none
  match state with
  | none => none
  | some state => some
    { index := leAt b 0 8, src := BitVec.ofNat 16 (leAt b 8 2), stream := BitVec.ofNat 8 (leAt b 10 1),
      opcode := BitVec.ofNat 8 (leAt b 11 1), seq := BitVec.ofNat 32 (leAt b 12 4), cid := BitVec.ofNat 16 (leAt b 16 2),
      epoch := BitVec.ofNat 16 (leAt b 18 2), offset := BitVec.ofNat 48 (leAt b 20 6),
      length := BitVec.ofNat 13 (leAt b 26 2 % 8192), format := BitVec.ofNat 3 (leAt b 26 2 / 8192),
      flags := BitVec.ofNat 5 (leAt b 28 1 % 32), tc := BitVec.ofNat 3 (leAt b 28 1 / 32), part := leAt b 29 1 % 16,
      state := state, status := Status.ofCode (leAt b 30 1), writer := leAt b 31 1 % 2, solo := (leAt b 31 1).testBit 1,
      pcheck := BitVec.ofNat 32 (leAt b 32 4), age := BitVec.ofNat 24 (leAt b 36 3), result := BitVec.ofNat 64 (leAt b 40 8),
      aux := BitVec.ofNat 32 (leAt b 48 4), compEpoch := BitVec.ofNat 32 (leAt b 52 4), at_ := now, done := true, mirrored := true }

/-- The bytes carry a correct entry check (R90). -/
def entryCheckOk (b : Bytes) : Bool := (crc32c (b.take 60)).toNat == leAt b 60 4

/-- Entries a ring holds (R89). -/
def ringCapacity : Nat := 65011712

/-- A device whose entries must reach a partner: paired, and not under solo acceptance (R99, R100). -/
def State.mirrors (s : State) : Bool := s.tabs.paired && !s.jrn.solo

/-- Send the `MIRROR` of an entry (R72, R96). -/
def State.sendMirror (s : State) (e : JEntry) : State :=
  let st : Stream := if e.writer = 1 then 0x7F else 0x7E
  let h := s.ownHeader 0x90 1 st s.tabs.partner (BitVec.ofNat 32 e.index) 0 0 0 64 1 0 false
  let s := s.modWriter e.writer (fun w => { w with lastMirrorAt := s.now })
  s.originate (.mirror e.writer e.index) h e.bytes e.part 0

/-- Write an entry at the writer's head and mirror it; on a device that mirrors to no one its own ring stands in (R83, R100). While the
partner is being brought back, entries are mirrored without waiting for them (R585 step 4). -/
def State.writeEntry (s : State) (e : JEntry) : Nat × State :=
  let i := (s.writer e.writer).head
  let must := s.mirrors
  let e := { e with index := i, solo := s.jrn.solo, at_ := s.now, mirrored := !must, compEpoch := s.tabs.compEpoch }
  let s := s.modWriter e.writer (fun w => { w with head := i + 1, ring := w.ring ++ [e] })
  (i, if must || s.hlt.resync == 2 then s.sendMirror e else s)

/-- Change an entry of a writer's own ring. -/
def State.modEntry (s : State) (w i : Nat) (f : JEntry → JEntry) : State :=
  s.modWriter w (fun x => { x with ring := mapIf (fun e => e.index = i) f x.ring })

/-- The index up to which every own entry of a writer is applied (R98), none where the first is not. -/
def appliedUpTo (w : Writer) : Option Nat :=
  match w.ring.takeWhile (·.done) with
  | [] => if w.ring.isEmpty && 0 < w.head then some (w.head - 1) else match w.ring.head? with
    | some e => if 0 < e.index then some (e.index - 1) else none
    | none => none
  | l => (l.getLast?).map (·.index)

/-- A MARK entry (R90, R98). -/
def markEntry (s : State) (w : Nat) (covered : Option Nat) : JEntry :=
  { index := 0, src := s.tabs.node, stream := 0, opcode := 0, seq := 0, cid := 0, epoch := s.tabs.mapEpoch, offset := 0,
    length := 0, format := 0, flags := 0, tc := 1, part := 0, state := .mark, status := .ok, writer := w, solo := false,
    pcheck := 0, age := 0, result := match covered with | some c => BitVec.ofNat 64 c | none => BitVec.allOnes 64,
    aux := 0, compEpoch := 0, at_ := 0, done := true, mirrored := false }

/-- A writer mirrors a MARK of what it has applied (R98). -/
def State.mark (s : State) (w : Nat) (covered : Option Nat) : State :=
  let (_, s) := s.writeEntry (markEntry s w covered)
  s.modWriter w (fun x => { x with lastMark := covered, lastMarkAt := s.now })

/-- Both writers mirror a final MARK where the partner is reached (R98, R606). -/
def State.finalMarks (s : State) : State :=
  if s.mirrors then (s.mark 0 (appliedUpTo (s.writer 0))).mark 1 (appliedUpTo (s.writer 1)) else s

/-- The entry that a request leaves (R77, R90). -/
def State.entryOf (s : State) (r : Req) (st : EntryState) (status : Status) : JEntry :=
  { index := 0, src := r.hdr.src, stream := r.hdr.stream, opcode := r.hdr.opcode, seq := r.hdr.seq, cid := r.hdr.cid,
    epoch := r.hdr.epoch, offset := r.hdr.offset, length := r.hdr.length, format := r.hdr.format, flags := r.hdr.flags,
    tc := r.hdr.tc, part := r.part, state := st, status := status, writer := r.writer, solo := false, pcheck := r.pcheck,
    age := BitVec.ofNat 24 (s.ageNow r), result := r.result, aux := r.aux, compEpoch := 0, at_ := 0, done := r.applied,
    mirrored := false }

/-- Write and mirror the entry of an open request (R83 steps 3 and 4a). -/
def State.journal (s : State) (id : Nat) (st : EntryState) : State :=
  match s.req id with
  | none => s
  | some r =>
    if r.dup.isSome then s else
    let (i, s) := s.writeEntry (s.entryOf r st r.status)
    s.modReq id (fun r => { r with index := some i, state := st, mirrored := !s.mirrors })

/-! ## Completion and refusal of open requests (R77, R84, R364) -/

/-- The position that sends a request's response (R37): that of its home. -/
def State.replyFrom (s : State) (r : Req) : Nat :=
  match r.hdr.opcode.toNat with
  | 0x30 | 0x40 | 0x41 => 128 + 12 * r.writer
  | _ => if r.hdr.flagG then 128 + 12 * r.writer else s.steerM r.hdr.offset.toNat

/-- Answer a settled duplicate whose work has been done again (R87, R112): the original status, or for a tail entry the
outcome of the new execution. -/
def State.finishDup (s : State) (r : Req) (e : JEntry) (tail : Bool) (st : Status) (data : Bytes) (fmt : BitVec 3) : State :=
  let s := s.modJrn (fun j => { j with reqs := j.reqs.filter (fun x => x.id ≠ r.id) })
  let late := s.pastDeadline r
  let st := if !tail then e.status else if st == .ok && late then .deadlineMissed else st
  let s := if late then s.missed r.hdr r.part st else s
  let ack := st == .ok || st == .deadlineMissed || st == .numeric
  s.sendResponse (s.replyFrom r) { r.hdr with age := BitVec.ofNat 24 r.age0 } r.arrive r.part ack st true
    (if data.isEmpty || !ack then 1 else fmt) (if ack then data else []) (r.hdr.flagC && r.hdr.opcode == 1 && ack)

/-- The request's work has been applied: it waits for its mirror and for settlement. -/
def State.finish (s : State) (id : Nat) (st : Status) (data : Bytes) (fmt : BitVec 3) : State :=
  match s.req id with
  | none => s
  | some r =>
    match r.dup with
    | some (e, tail) => s.finishDup r e tail st data fmt
    | none =>
      let s := s.modReq id (fun r => { r with applied := true, stage := .settle, status := st, ackData := data, ackFormat := fmt,
                                              numeric := st == .numeric, pendingWrite := [] })
      match r.index with
      | some i => s.modEntry r.writer i (fun e => { e with done := true, at_ := s.now })
      | none => s

/-- Refuse an open request with its sequence settled: a REFUSED entry, superseding one already written (R84, R364). The
refusal takes its weight from the in-flight total (R198). -/
def State.refuse (s : State) (id : Nat) (st : Status) : State :=
  match s.req id with
  | none => s
  | some r =>
    match r.dup with
    | some (e, _) => s.finishDup r e true st [] 1
    | none =>
      if r.refused then s
      else
        let s := match r.index with
          | some i => s.modEntry r.writer i (fun e => { e with done := true })
          | none => s
        let s := s.modPart r.part (fun p => { p with inFlight := p.inFlight - r.weight })
        let s := s.mcastFail r.hdr r.part st
        let s := if r.leaf then s.modPart r.part (fun q => { q with reserved := q.reserved - 1 }) else s
        let r := { r with applied := true, refused := true, status := st, stage := .settle, result := 0, weight := 0, leaf := false,
                          pendingWrite := [] }
        let (i, s) := s.writeEntry (s.entryOf r .refused st)
        s.modReq id (fun _ => { r with index := some i, state := .refused, mirrored := !s.mirrors, ackData := [], ackFormat := 1 })

/-! ## Revocations, contexts and records that wait (R139, R142, R453) -/

/-- Free revoking entries whose accepted count is zero, then contexts being removed that hold no entry. -/
def State.reap (s : State) : State :=
  let gone := s.tabs.access.filter (fun e => e.revoking && e.accepted == 0)
  let s := s.modTabs (fun t => { t with access := t.access.filter (fun e => !(e.revoking && e.accepted == 0)) })
  let s := s.each (gone.filter (·.byGrant)) (fun s e =>
    s.event 0x1001 toFabric (some e.part) (some e.part) (.resource 1 e.grant [e.node.toNat * 65536 + e.cid.toNat, e.drained, 0]))
  let free := s.tabs.contexts.filter (fun c => c.removing && !s.tabs.access.any (fun e => e.node = c.node ∧ e.cid = c.cid))
  let s := s.modTabs (fun t => { t with contexts := t.contexts.filter (fun c => !free.contains c) })
  s.each free (fun s c => s.unwait (.context c.node c.cid))

/-- Change the accepted count of the entry a request passed check 13 on (R136). -/
def State.release (s : State) (r : Req) : State :=
  match r.entry with
  | none => s
  | some (n, c, g, b) =>
    s.modTabs (fun t =>
      let l := mapIf (fun (e : AccessEntry) => e.node = n ∧ e.cid = c ∧ e.grant = g ∧ e.base = b)
        (fun (e : AccessEntry) => { e with accepted := e.accepted - 1, drained := if e.revoking then e.drained + 1 else e.drained }) t.access
      { t with access := l })

/-- A retired node has no open entry left: its stream records return to their initial state (R73, R602). -/
def State.retireDone (s : State) (n : Node) : State :=
  if s.tabs.retiring.contains n && !s.jrn.reqs.any (fun r => r.hdr.src = n) then
    let s := s.modJrn (fun j => { j with streams := j.streams.filter (fun r => r.src ≠ n),
                                         shadowStreams := j.shadowStreams.filter (fun r => r.src ≠ n) })
    let s := s.modTabs (fun t => { t with retiring := t.retiring.filter (· ≠ n) })
    s.unwait (.retire n)
  else s

/-! ## Numeric exceptions (R270, R271) -/

/-- Count a piece of work completed with `NUMERIC` and raise `ENG_NUMERIC`: its NaN, infinite and saturated outputs, with
the `ovf` flag in bit 31 of the third count (DESIGN CHOICE, log 18). -/
def State.numericEvent (s : State) (h : Header) (p : Nat) (counts : List Nat) (ovf : Bool) : State :=
  let s := s.modPart p (fun q => { q with numericCount := satAdd max64 q.numericCount counts.sum, winStalls := q.winStalls.modify 5 (· + counts.sum) })
  s.eventLimited 0x0901 [h.src.toNat, h.stream.toNat] toFabric (some p) (some p)
    (.request h .numeric [nth counts 0, nth counts 1, nth counts 2 + (if ovf then 2 ^ 31 else 0)])

/-! ## Settlement (R82, R83) -/

/-- What remains to do once a request has settled: the state it published or handed over, and everything that waited. -/
def State.afterSettle (s : State) (r : Req) : State :=
  let s :=
    if r.refused then s
    else match r.hdr.opcode.toNat with
    | 0x04 => s.modTabs (fun t => { t with published := mapIf (fun p => p.view = r.hdr.offset.toNat) (fun p => { p with waiting := false }) t.published })
    | 0x41 => s.modJrn (fun j => { j with handOvers := j.handOvers.filter (fun h => !(h.index = r.aux && h.taker.isSome)) })
    | _ => s
  let s := (s.release r).reap
  let s := s.retireDone r.hdr.src
  if s.jrn.draining && isPair r.hdr.stream && !s.jrn.reqs.any (fun x => isPair x.hdr.stream) then
    (s.mark 0 (appliedUpTo (s.writer 0))).mark 1 (appliedUpTo (s.writer 1))
  else s

/-- Settle an open request: hwm advances, the entry keeps its final status, and the response is sent (R50, R51, R83, R101). -/
def State.settleReq (s : State) (r : Req) : State :=
  let s := s.modJrn (fun j => { j with reqs := j.reqs.filter (fun x => x.id ≠ r.id) })
  let op := r.hdr.opcode == 0x30 && leAt r.payload 0 1 < 0xC0
  let s := s.modPart r.part (fun p => { p with
    inFlight := p.inFlight - r.weight, meter := if op then p.meter.modify 7 (· + 1) else p.meter })
  let late := s.pastDeadline r
  let st := if r.refused || r.status == .numeric then r.status else if late then .deadlineMissed else r.status
  let s := if late then s.missed r.hdr r.part st else s
  let s := s.modStream r.hdr.src r.hdr.stream (fun x =>
    { x with hwm := r.hdr.seq, solo := x.solo || s.jrn.solo, lastIndex := BitVec.ofNat 32 (r.index.getD 0) })
  let s := match r.index with
    | some i => s.modEntry r.writer i (fun e => { e with status := st })
    | none => s
  let c := r.hdr.flagC && r.hdr.opcode == 1 && !r.refused
  let s := s.sendResponse (s.replyFrom r) { r.hdr with age := BitVec.ofNat 24 r.age0 } r.arrive r.part (!r.refused) st true
    (if r.ackData.isEmpty then 1 else r.ackFormat) r.ackData c
  s.afterSettle r

/-- Settle the lowest open sequence of a stream once its application and its mirror have both finished (R82, R83). -/
def State.trySettle (s : State) (n : Node) (t : Stream) : State :=
  let rec_ := s.stream n t
  match s.jrn.reqs.find? (fun r => r.hdr.src = n ∧ r.hdr.stream = t ∧ r.hdr.seq = rec_.hwm + 1) with
  | some r => if r.applied && r.mirrored then s.settleReq r else s
  | none => s

/-! ## Check 8: fences (R572, R605) -/

/-- The published range whose view wholly contains a range (R482). -/
def State.viewOf (s : State) (o n : Nat) : Option Published :=
  s.tabs.published.find? (fun p => 0 < p.length && within o n p.view p.length)

/-- A view load (R605): a `LOAD` wholly inside a view, or of a version word. -/
def State.viewLoad (s : State) (h : Header) : Bool :=
  h.opcode == 1 && 0 < h.length.toNat &&
    ((s.viewOf h.offset.toNat h.length.toNat).isSome ||
      s.tabs.published.any (fun p => within h.offset.toNat h.length.toNat p.word 8))

/-- Check 8 refuses a request (R95, R572, R577, R579, R605). -/
def State.fencedFor (s : State) (h : Header) (w : Nat) : Bool :=
  s.hoop.resetting || s.hoop.standbyDrain ||
  (match s.hlt.fence with
   | 0 => false
   | 1 => true
   | _ => !s.viewLoad h) ||
  (s.writer w).anchor.state == .stale || (s.writer w).journal == .empty

/-! ## Check 12: duplicates and order (R86) -/

/-- What the stream record says of a sequence. -/
inductive SeqClass where
  | settled | open_ | new | hold | refuse
  deriving DecidableEq, Repr

/-- Classify a sequence against a stream record (R86). `room` says that the pending store has room. -/
def classify (r : StreamRec) (q : Seq) (room : Bool) : SeqClass :=
  let d := (q - r.hwm).toNat
  let n := (r.next - r.hwm).toNat
  if d = 0 ∨ 2 ^ 31 ≤ d then .settled
  else if d < n then .open_
  else if d = n ∧ n ≤ 64 then .new
  else if d ≤ n + 16 ∧ room then .hold
  else .refuse

/-- The latest entry of a sequence, in the own rings or, for a pair stream, the shadow rings, and whether it lies in the
in-doubt tail (R87, R110, R112). -/
def State.findEntry (s : State) (h : Header) : Option (JEntry × Bool) :=
  let is := fun (e : JEntry) => e.src == h.src && e.stream == h.stream && e.seq == h.seq && e.state != .mark && e.state != .free
  let own := (s.jrn.writers.flatMap (·.ring)).filter is
  let sh := if isPair h.stream then (s.jrn.writers.flatMap (·.shadow)).filter is else []
  match (own.getLast?).orElse (fun _ => sh.getLast?) with
  | some e => some (e, s.jrn.writers.any (fun w => w.tail.any (fun x =>
      x.index == e.index && x.src == e.src && x.stream == e.stream && x.seq == e.seq)))
  | none => none

/-! ## Check 13: the access table (R131 to R133) -/

/-- Bit numbers of rights (R130). -/
inductive Right where
  | rd | wr | at_ | fl | pb
  deriving DecidableEq, Repr

/-- The bit of a right. -/
def Right.bit : Right → Nat
  | .rd => 0 | .wr => 1 | .at_ => 2 | .fl => 3 | .pb => 4

/-- The request's range lies where requests are answered (R132, R373, R378, R385). -/
def State.rangeServed (s : State) (o n : Nat) (writes copyOk : Bool) : Bool :=
  if s.rangeAddressable o n then
    !writes || copyOk || !s.tabs.mirrored.any (fun m => m.role == 2 && overlaps o n m.base m.length)
  else if inFar o n then
    match s.extentAt o with
    | some e => within o n e.base e.length && !(writes && e.mode == 3)
    | none => false
  else false

/-- The access check of a master over a range (R131, R132, R139, R140): the entry it passes on, or the refusal. -/
def State.accessCheck (s : State) (n : Node) (c : Cid) (o len : Nat) (right : Right) (copyOk : Bool := false) :
    Except Status (Option AccessEntry) :=
  if (s.context n c).isNone then .error .denied
  else if len = 0 then .ok none
  else if !s.rangeServed o len (right != .rd) copyOk then .error .denied
  else match s.tabs.access.find? (fun e => e.node = n ∧ e.cid = c ∧ within o len e.base e.length) with
    | none => .error .denied
    | some e => if e.revoking then .error .revoked else if e.rights.testBit right.bit then .ok (some e) else .error .denied

/-- The event of a refusal at check 13 (R145, R146), and the partition's count. -/
def State.deniedEvent (s : State) (h : Header) (p : Nat) (st : Status) : State :=
  let s := s.modPart p (fun q => { q with deniedCount := satAdd max64 q.deniedCount 1 })
  s.eventLimited (if st = .revoked then 0x0402 else 0x0401) [h.src.toNat, h.cid.toNat] toFabric (some p) (some p) (.request h st [])

/-! ## Check 14: quota, admission, ring (R197, R198, R371) -/

/-- The admission weight (R198). -/
def weightOf (dataLen : Nat) : Nat := 64 * cdiv dataLen 64 + 64

/-- Charge a partition's tier quota in the window: none where the charge would pass it (R371). -/
def State.charge (s : State) (p tier w : Nat) : Option State :=
  let limit := nth (s.cfg.rim.quotaMib.getD p []) (tier - 1)
  let total := nth (s.part p).quota (tier - 1) + w
  if tier = 0 then some s
  else if limit < 16384 && limit * 1048576 < total then none
  else some (s.modPart p (fun q => { q with quota := q.quota.set (tier - 1) total }))

/-- The unretired level of a writer's ring, with its hysteresis (R93). -/
def ringIsHigh (w : Writer) : Bool :=
  if w.high then ringCapacity * 3 ≤ 4 * w.ring.length else ringCapacity * 7 < 8 * w.ring.length

/-! ## Presentation: checks 8 to 14 and the opening of the sequence (R68, R83, R84) -/

/-- What the checks need to know of a request. -/
structure Want where
  /-- executing die, for the pending store: 0 and 1 the Rim dies, 2 to 5 the Weft dies. -/
  die : Nat
  writer : Nat
  off : Nat
  len : Nat
  /-- the right the range needs; none where only a context slot is needed. -/
  right : Option Right
  /-- the master's partition must own a cluster (R131). -/
  clusters : Bool := false
  /-- a copy `STORE` of the partner (R372, R385). -/
  copy : Bool := false
  /-- check 13 passes by another rule (R286, R302), on this entry where one gives the tier to charge. -/
  listed : Bool := false
  entry : Option AccessEntry := none

/-- What the checks decide. -/
inductive Chk where
  | done (s : State)
  | dup (s : State) (e : JEntry) (tail : Bool)
  | go (s : State) (id : Nat)

/-- Refuse a delivered request with its sequence left open. -/
def State.turnAway (s : State) (d : Delivered) (st : Status) : State := s.refuseOpen d.pos d.hdr d.arrive d.part st

/-- The open request made of a delivered frame. -/
def Delivered.req (d : Delivered) (id weight writer : Nat) (e : Option AccessEntry) : Req :=
  { id := id, hdr := d.hdr, payload := d.payload, pcheck := if d.hdr.carries then d.pcheck else 0, port := d.port, sub := d.sub,
    arrive := d.arrive, age0 := d.hdr.age.toNat, part := d.part, entry := e.map (fun e => (e.node, e.cid, e.grant, e.base)),
    weight := weight, writer := writer }

/-- Open the sequence of a delivered request (R83 step 2). -/
def State.openReq (s : State) (d : Delivered) (weight writer : Nat) (e : Option AccessEntry) : Nat × State :=
  let id := s.jrn.nextReq
  let s := s.modJrn (fun j => { j with reqs := j.reqs ++ [d.req id weight writer e], nextReq := id + 1 })
  (id, s.modStream d.hdr.src d.hdr.stream (fun r => { r with next := d.hdr.seq + 1 }))

/-- A settled duplicate whose work is done again: a request that owns no sequence, window or count. -/
def State.openDup (s : State) (d : Delivered) (writer : Nat) (e : JEntry) (tail : Bool) : Nat × State :=
  let id := s.jrn.nextReq
  (id, s.modJrn (fun j => { j with reqs := j.reqs ++ [{ d.req id 0 writer none with dup := some (e, tail), again := tail }], nextReq := id + 1 }))

/-- Checks 13 and 14 of a new sequence, and its opening. -/
def State.admitWork (s : State) (d : Delivered) (w : Want) : Chk :=
  let h := d.hdr
  let check : Except Status (Option AccessEntry) :=
    if w.listed then .ok w.entry
    else match w.right with
      | some r => s.accessCheck h.src h.cid w.off w.len r w.copy
      | none =>
        if (s.context h.src h.cid).isNone then .error .denied
        else if w.clusters && (s.clustersOf d.part).isEmpty then .error .denied else .ok none
  match check with
  | .error st =>
    -- refused at check 13: the sequence opens and settles with a REFUSED entry (R84)
    let (id, s) := s.openReq d 0 w.writer none
    .done ((s.deniedEvent h d.part st).refuse id st)
  | .ok e =>
    let weight := weightOf h.length.toNat
    let tier := match e with | some e => e.tier | none => 0
    match (if w.copy then some s else s.charge d.part tier weight) with
    | none =>
      let s := s.eventLimited 0x0D04 [d.part, tier] toFabric (some d.part) (some d.part) (.request h .quota [tier])
      .done (s.turnAway d .quota)
    | some s1 =>
      if s.jrn.soloHold.isSome then .done (s.turnAway d .throttled)
      else if (s.part d.part).window < (s.part d.part).inFlight + weight then
        let s := s.eventLimited 0x0603 [d.part] toFabric (some d.part) (some d.part) (.request h .throttled [])
        .done (s.turnAway d .throttled)
      else if ringIsHigh (s.writer w.writer) then
        let first := !(s.writer w.writer).high
        let s := s.modWriter w.writer (fun x => { x with high := true, ringHigh := true })
        let s := if first then s.event 0x0303 toBoth none none (.resource 2 w.writer []) else s
        .done (s.turnAway d .throttled)
      else
        let s := s1.modWriter w.writer (fun x => { x with high := false })
        let s := s.modPart d.part (fun p => { p with inFlight := p.inFlight + weight })
        let s := match e with
          | some e => s.modTabs (fun t =>
              let l := mapIf (fun (x : AccessEntry) => x.node = e.node ∧ x.cid = e.cid ∧ x.grant = e.grant ∧ x.base = e.base)
                (fun (x : AccessEntry) => { x with accepted := x.accepted + 1 }) t.access
              { t with access := l })
          | none => s
        let (id, s) := s.openReq d weight w.writer e
        .go s id

/-- Check 11 (R67): the current map epoch, or the previous one within its grace. -/
def State.epochOk (s : State) (h : Header) : Bool :=
  h.epoch == s.tabs.mapEpoch || (h.epoch + 1 == s.tabs.mapEpoch &&
    (match s.tabs.grace with | some g => decide (s.now < g + s.deadlineTicks h.tc.toNat) | none => false))

/-- Checks 8 to 14 of R68 on a delivered request. -/
def State.present (s : State) (d : Delivered) (w : Want) : Chk :=
  let h := d.hdr
  let s := if h.flagRI then s.count (.ri h.src h.stream) else s
  if s.fencedFor h w.writer then .done (s.turnAway d .fenced)
  else if (s.part d.part).state == .teardown then .done (s.turnAway d .teardown)
  else if h.carries && d.pcheck != crc32c d.payload then .done (s.turnAway d .checkFail)
  else if !s.epochOk h || s.tabs.retiring.contains h.src then
    .done (s.turnAway d .staleEpoch)
  else if isPair h.stream && !s.servesPair then .done (s.turnAway d .staleEpoch)
  else if isPair h.stream && s.jrn.failover then .done (s.park d)
  else
    let room := (s.jrn.held.filter (fun x => x.die = w.die)).length < 2048
    match classify (s.stream h.src h.stream) h.seq room with
    | .settled =>
      match s.findEntry h with
      | none => .done (s.count (.dupDropped h.src h.stream))
      | some (e, tail) =>
        let pc := if h.carries then d.pcheck else 0
        if e.opcode = h.opcode ∧ e.offset = h.offset ∧ e.length = h.length ∧ e.format = h.format ∧ e.pcheck = pc then
          .dup (s.count (.dup h.src h.stream)) e tail
        else
          let s := s.event 0x0302 toBoth (some d.part) (some d.part) (.request h .format [])
          .done (s.sendResponse d.pos h d.arrive d.part false .format true 1 [] false)
    | .open_ => .done (s.count (.dupDropped h.src h.stream))
    | .new => s.admitWork d w
    | .hold => .done (s.modJrn (fun j => { j with held := j.held ++
        [⟨⟨h, d.payload, d.pcheck⟩, d.port, d.sub, d.arrive, h.age.toNat, d.part, w.die⟩] }))
    | .refuse => .done (s.turnAway d .throttled)

/-- Answer a settled duplicate (R87): the original status, with the given payload. -/
def State.answerDup (s : State) (d : Delivered) (e : JEntry) (st : Status) (data : Bytes) (fmt : BitVec 3) : State :=
  let ack := e.state != .refused && (st == .ok || st == .deadlineMissed || st == .numeric)
  s.sendResponse d.pos d.hdr d.arrive d.part ack st true (if data.isEmpty then 1 else fmt) data (d.hdr.flagC && d.hdr.opcode == 1 && ack)

/-- Answer a duplicate whose tail entry has been done again (R112): `OK`, or `DEADLINE_MISSED` where the reissue is late. -/
def State.answerAgain (s : State) (d : Delivered) (e : JEntry) (st : Status) (data : Bytes) (fmt : BitVec 3) : State :=
  if s.late d.hdr d.arrive && st == .ok then
    (s.missed d.hdr d.part .deadlineMissed).answerDup d e .deadlineMissed data fmt
  else s.answerDup d e st data fmt

end Sys2Proof.Machine
end

