-- ==== Sys2Proof/Machine/Islands.lean ====
section
/-! DEFINITION. The loss of a cluster's island (R242, R243, R299, R412) and the order of island resets (R580, R582), which
the coherence protocol also begins (R407). -/

namespace Sys2Proof.Machine

/-- The status with which lost work is refused (R38): `FENCED` under a fence, else `TARGET_LOST`. -/
def State.lostStatus (s : State) : Status := if s.hlt.fence = 0 then .targetLost else .fenced

/-- Refuse every request of a list with one status. -/
def State.refuseAll (s : State) (ids : List Nat) (st : Status) : State := s.each ids (fun s i => s.refuse i st)

/-- The requests that wait for or run on a cluster. -/
def State.clusterReqs (s : State) (c : Nat) : List Nat :=
  (s.jrn.reqs.filter (fun r => match r.stage with
    | .queued d _ | .running d _ | .crossCheck d _ => d == c
    | _ => false)).map (·.id)

/-- The cluster of a collective's segment (R283): that of its bound position. -/
def Collective.clusterOf (k : Collective) (seg : Nat) : Nat :=
  if k.positions.isEmpty then 32 else (k.positions.getD (seg % k.positions.length) 64 - 64) / 2

/-- A segment after its held frames have been refused: emptied at the same round (R290, R296, R299). -/
def Segment.clear (g : Segment) : Segment := { index := g.index, reissue := g.reissue, round := g.round }

/-- A cluster holds no line any more: it is swept out of the duplicate tags, its outstanding snoops are answered `SR_I`
without data, and its transactions in `H_DAT` and `H_CMP` are abandoned (R233, R412). Its requests that no home has granted,
and what was on the way to it, are gone; answers and data it had sent still arrive. -/
def State.cohDrop (s : State) (c : Nat) : State :=
  let answers := s.mem.holds.filterMap (fun h => match h.2 with
    | .snp _ waiting _ _ _ _ _ _ =>
      if waiting.contains c && !s.mem.net.any (fun m => match m with
        | .srI d l _ _ | .srN d l _ _ => d == c && l == h.1
        | _ => false) then some (Msg.srI c h.1 false false) else none
    | _ => none)
  let flying := fun (m : Msg) => match m with
    | .srI .. | .srN .. | .dataHome .. => true
    | .rdS d _ _ | .rdX d _ _ | .upg d _ _ | .rdU d _ _ | .wrU d _ _ _ | .evcC d _ | .evcD d _ | .snpShr d _ | .snpFwd d _
    | .snpI d _ | .cmpE d _ | .cmpS d _ | .cmpN d _ | .cmpM d _ | .dataTo d _ _ | .bufGnt d _ | .cmpW d _ | .cmpEvc d _
    | .nak d _ _ | .cack d _ => d != c
  let keep := fun (h : Nat × HomeHold) => match h.2 with
    | .cmp d => d != c
    | .dat (.evcD d) | .dat (.wrU d _) => d != c
    | _ => true
  s.modMem (fun m => { m with
    l2 := m.l2.filter (fun l => l.cluster ≠ c), stalled := m.stalled.filter (fun x => x.cluster ≠ c),
    filter := m.filter.filter (fun f => f.2.1 ≠ c), holds := m.holds.filter keep, net := m.net.filter flying ++ answers })

/-- The sweep of a reset cluster (R412): its dirty lines are lost. -/
def State.cohSweep (s : State) (c : Nat) : State :=
  let lost := (s.mem.l2.filter (fun l => l.cluster = c ∧ (l.state = .m ∨ l.state = .miA))).length
  let s := s.cohDrop c
  let p := (s.cluster c).part
  s.event 0x0E01 toBoth (some p) (some p) (.resource 3 c [lost])

/-- The open operators of a cluster and the contributions held there are refused (R242). -/
def State.clusterStop (s : State) (c : Nat) (st : Status) : State :=
  let s := s.refuseAll (s.clusterReqs c) st
  let held := s.eng.colls.flatMap (fun k =>
    (k.segs.filter (fun g => k.clusterOf g.index = c)).flatMap (fun g => g.held.map (·.req)))
  let leaves := s.eng.colls.map (fun k => (k.part, (k.segs.filter (fun g => k.clusterOf g.index = c && g.leaf && !g.closing)).length))
  let s := s.each leaves (fun s l => s.modPart l.1 (fun q => { q with reserved := q.reserved - l.2 }))
  let s := s.refuseAll held st
  s.modEng (fun e => { e with
    jobs := e.jobs.filter (fun j => j.cluster ≠ c), tiles := e.tiles.filter (fun x => x.cluster ≠ c),
    colls := e.colls.map (fun k => { k with segs := mapIf (fun g => k.clusterOf g.index = c) Segment.clear k.segs }) })

/-- Frames that wait behind positions in reset: a request is refused, its sequence open, and a response is lost (R38). -/
def State.refuseArrived (s : State) (mine : Nat → Bool) : State :=
  let l := s.warp.arrived.filter (fun a => mine a.pos)
  let s := s.modWarp (fun w => { w with arrived := w.arrived.filter (fun a => !mine a.pos) })
  s.each (l.filter (fun a => !isResponse a.frame.hdr)) (fun s a =>
    s.refuseOpen a.pos a.frame.hdr (a.stamp - a.resid) a.part (s.downStatus a.pos))

/-- A cluster's island is reset (R242): its stores, queue and lines are lost, its open operators and held contributions are
refused, and it is swept out of the snoop filters. -/
def State.clusterLost (s : State) (c : Nat) : State :=
  let s := (s.clusterStop c s.lostStatus).refuseArrived (fun p => 64 ≤ p && p < 128 && (p - 64) / 2 == c)
  let s := s.modCluster c (fun x => { x with scratch := [], tlb := [], fault := true })
  let s := s.cohSweep c
  let p := (s.cluster c).part
  s.event 0x0801 toFabric (some p) (some p) (.resource 3 c [])

/-- The clusters of an island. -/
def islandClusters : Island → List Nat
  | .cluster c => [c]
  | .weft d => (List.range 8).map (8 * d + ·)
  | _ => []

/-- The lottery arbiters on an island (R205). -/
def islandArbiters : Island → List Nat
  | .warpData | .warpSched => [64]
  | .rim d => (List.range 32).map (32 * d + ·) ++ [65 + d]
  | _ => []

/-- The number an event gives an island. -/
def islandNumber : Island → Nat
  | .warpSched => 0 | .warpData => 1 | .cluster c => 16 + c | .weft d => 48 + d | .rim d => 52 + d | .osier d => 54 + d

/-- The event of an island reset, at its start and at its end (R591). -/
def State.islandEvent (s : State) (i : Island) (done : Bool) : State :=
  s.event 0x1402 toBoth none none (.resource 4 (islandNumber i) [if done then 1 else 0])

/-- Freeze an arbiter (R213, R214). -/
def State.freeze (s : State) (a : Nat) : State :=
  s.modArb a (fun x => { x with frozen := true, draining := !x.granted.isEmpty, frozenAt := s.now })

/-- The links of an Osier die are lost with it: they are retrained once it returns (R581, R582). -/
def State.osierLost (s : State) (d : Nat) : State :=
  let mine := fun (p : Nat) => p / 16 == d
  let l := mapIf (fun (x : Link) => mine x.port)
    (fun (x : Link) => { port := x.port, sub := x.sub, downSince := some (x.downSince.getD s.now), holdExpired := x.holdExpired }) s.links
  let s := { s with links := l, waves := s.waves.filter (fun w => !mine w.1.1) }
  (s.modWarp (fun w => { w with busy := w.busy.filter (fun b => !mine b.1.1) })).refuseArrived (fun p => p < 64 && mine p)

/-- An island reset begins (R582 steps 1 and 2): the arbiters of the die are frozen. A cluster, a Weft die or an Osier die has no
arbiter to drain, and its island is held at once (step 3). -/
def State.beginReset (s : State) (i : Island) : State :=
  let s := (s.each (islandArbiters i) State.freeze).islandEvent i false
  if !(islandArbiters i).isEmpty then s
  else
    let s := s.modHoop (fun h =>
      let l := mapIf (fun (r : IslandReset) => r.island == i) (fun (r : IslandReset) => { r with running := true, since := s.now }) h.resets
      { h with resets := l })
    let s := s.each (islandClusters i) State.clusterLost
    match i with
    | .osier d => s.osierLost d
    | _ => s

/-- An island reset is asked for: it begins now, or waits until the ones before it have reached their last step (R580). -/
def State.askReset (s : State) (i : Island) : State :=
  if s.hoop.resets.any (fun r => r.island == i) then s
  else
    let first := s.hoop.resets.isEmpty
    let s := (s.islandInput i).modHoop (fun h => { h with resets := h.resets ++ [⟨i, s.now, false⟩] })
    if first then s.beginReset i else s

/-- A coherence message that the state table marks as one that cannot occur (R407): the cluster's island is reset. -/
def State.cohFault (s : State) (c line : Nat) : State :=
  let s := (s.event 0x0E02 toBoth none none (.resource 3 c [line])).healthInput c 256
  s.askReset (.cluster c)

end Sys2Proof.Machine
end

