-- ==== Sys2Proof/Machine/Numerics.lean ====
section
/-! DEFINITION. Arithmetic profile 1 (chapter 09): formats, exact values, rounding, conversion, the exact accumulators,
fixed-order steps, atomics, comparison and ranking; and the codes of element formats. -/

namespace Sys2Proof.Machine

/-- The number formats of profile 1 (R248, R249). -/
inductive Fm where
  | fp32 | bf16 | fp16 | e4m3 | e5m2 | int32 | int8
  deriving DecidableEq, Repr

/-- An exact value: not a number, an infinity, or `(-1)^neg × n / d` with `d` not zero. -/
inductive Num where
  | nan
  | inf (neg : Bool)
  | fin (neg : Bool) (n d : Nat)
  deriving DecidableEq, Repr

/-- What kind of numeric exception an output element is (R253, R269). -/
inductive Exc where
  | none | nan | inf | sat
  deriving DecidableEq, Repr

/-- The format of a payload format code (R47). -/
def fmOfCode (c : Nat) : Option Fm :=
  match c with
  | 2 => some .fp32 | 3 => some .bf16 | 4 => some .fp16 | 5 => some .e4m3 | 6 => some .e5m2 | 7 => some .int32
  | _ => none

/-- Bytes in an element (R47, R249). -/
def Fm.size : Fm → Nat
  | .fp32 | .int32 => 4
  | .bf16 | .fp16 => 2
  | .e4m3 | .e5m2 | .int8 => 1

/-- Element size of a payload format code, 1 for OPAQUE (R47). -/
def elemSize (c : Nat) : Nat := match fmOfCode c with | some f => f.size | none => 1

/-- Exponent bits, fraction bits and bias of a float format (R248). -/
def Fm.shape : Fm → Nat × Nat × Nat
  | .fp32 => (8, 23, 127) | .bf16 => (8, 7, 127) | .fp16 => (5, 10, 15) | .e4m3 => (4, 3, 7) | .e5m2 => (5, 2, 15)
  | _ => (0, 0, 0)

/-- Integer formats and their widths (R249). -/
def Fm.intBits : Fm → Option Nat
  | .int32 => some 32 | .int8 => some 8 | _ => none

/-- The canonical NaN (R248). -/
def Fm.nanBits : Fm → Nat
  | .fp32 => 0x7FC00000 | .bf16 => 0x7FC0 | .fp16 => 0x7E00 | .e4m3 => 0x7F | .e5m2 => 0x7E | _ => 0

/-- The exact value of a bit pattern (R248, R249, R250). -/
def Fm.val (f : Fm) (x : Nat) : Num :=
  match f.intBits with
  | some w => if x < 2 ^ (w - 1) then .fin false x 1 else .fin true (2 ^ w - x) 1
  | none =>
    let (eb, fb, bias) := f.shape
    let neg := x.testBit (eb + fb)
    let e := bits x fb eb
    let fr := bits x 0 fb
    if f = .e4m3 then
      if e = 15 ∧ fr = 7 then .nan
      else if e = 0 then .fin neg fr (2 ^ (bias - 1 + fb)) else .fin neg ((8 + fr) * 2 ^ e) (2 ^ (bias + fb))
    else if e = 2 ^ eb - 1 then (if fr = 0 then .inf neg else .nan)
    else if e = 0 then .fin neg fr (2 ^ (bias - 1 + fb))
    else .fin neg ((2 ^ fb + fr) * 2 ^ e) (2 ^ (bias + fb))

/-- The infinity of a sign, or the largest finite value where the format has none (R253). -/
def Fm.infBits (f : Fm) (neg : Bool) : Nat :=
  let (eb, fb, _) := f.shape
  (if neg then 2 ^ (eb + fb) else 0) + (2 ^ eb - 1) * 2 ^ fb

/-- Round a quotient to the nearest integer, ties to even. -/
def rneDiv (n d : Nat) : Nat :=
  let q := n / d
  let r := n % d
  if 2 * r < d then q else if d < 2 * r then q + 1 else q + q % 2

/-- The floor of the binary logarithm of a quotient, plus 2^12. -/
def log2Biased (n d : Nat) : Nat :=
  let k := 4096 + n.log2 - d.log2
  if n * 2 ^ 4096 < d * 2 ^ k then k - 1 else k

/-- Round a positive quotient to a float format, by R252: the bits without the sign, or none on overflow. -/
def Fm.roundMag (f : Fm) (n d : Nat) : Option Nat :=
  if n = 0 then some 0 else
  let (eb, fb, bias) := f.shape
  -- exponents are kept 4096 too large, so that they stay natural numbers
  let u := max (log2Biased n d - fb) (4096 + 1 - bias - fb)
  let q := rneDiv (n * 2 ^ 4096) (d * 2 ^ u)
  let (q, u) := if q = 2 ^ (fb + 1) then (2 ^ fb, u + 1) else (q, u)
  if q < 2 ^ fb then some q
  else
    let e := u + fb + bias - 4096
    if f = .e4m3 then (if 15 < e ∨ (e = 15 ∧ q = 15) then none else some (e * 8 + (q - 8)))
    else if 2 ^ eb - 1 ≤ e then none else some (e * 2 ^ fb + (q - 2 ^ fb))

/-- Conversion of a value to a format, with the exception it raises (R253). -/
def Fm.conv (f : Fm) (v : Num) : Nat × Exc :=
  match f.intBits with
  | some w =>
    match v with
    | .nan => (0, .nan)
    | .inf neg => (if neg then 2 ^ (w - 1) else 2 ^ (w - 1) - 1, .sat)
    | .fin neg n d =>
      let q := rneDiv n d
      if neg then (if 2 ^ (w - 1) < q then (2 ^ (w - 1), .sat) else ((2 ^ w - q) % 2 ^ w, .none))
      else if 2 ^ (w - 1) ≤ q then (2 ^ (w - 1) - 1, .sat) else (q, .none)
  | none =>
    let (eb, fb, _) := f.shape
    let sg := fun (neg : Bool) => if neg then 2 ^ (eb + fb) else 0
    match v with
    | .nan => (f.nanBits, .nan)
    | .inf neg => if f = .e4m3 then (0x7F, .nan) else (f.infBits neg, .inf)
    | .fin neg n d =>
      match f.roundMag n d with
      | some m => (sg neg + m, .none)
      | none => if f = .e4m3 then (sg neg + 0x7E, .sat) else (f.infBits neg, .inf)

/-! ## Exact arithmetic on values -/

/-- The exact sum, with IEEE 754 signs (R261). -/
def Num.add : Num → Num → Num
  | .nan, _ | _, .nan => .nan
  | .inf a, .inf b => if a = b then .inf a else .nan
  | .inf a, _ | _, .inf a => .inf a
  | .fin a n d, .fin b m e =>
    let x := n * e
    let y := m * d
    if a = b then .fin a (x + y) (d * e)
    else if x = y then .fin false 0 1
    else if y < x then .fin a (x - y) (d * e) else .fin b (y - x) (d * e)

/-- The exact product (R256). -/
def Num.mul : Num → Num → Num
  | .nan, _ | _, .nan => .nan
  | .inf a, .inf b => .inf (a != b)
  | .inf a, .fin b n _ | .fin a n _, .inf b => if n = 0 then .nan else .inf (a != b)
  | .fin a n d, .fin b m e => .fin (a != b) (n * m) (d * e)

/-- The exact quotient by a positive integer. -/
def Num.divNat : Num → Nat → Num
  | .fin a n d, k => .fin a n (d * k)
  | x, _ => x

/-- The exact comparison `a < b`: false with a NaN (R266). -/
def Num.lt : Num → Num → Bool
  | .nan, _ | _, .nan => false
  | .inf a, .inf b => a && !b
  | .inf a, .fin .. => a
  | .fin .., .inf b => !b
  | .fin a n d, .fin b m e =>
    let x := n * e
    let y := m * d
    if a && !b then 0 < x || 0 < y else if !a && b then false else if a then y < x else x < y

/-- The exact comparison `a = b`: false with a NaN (R266). -/
def Num.eqv (a b : Num) : Bool := a != .nan && b != .nan && !a.lt b && !b.lt a

/-- The value is NaN. -/
def Num.isNan (a : Num) : Bool := a == .nan
/-- The value is finite. -/
def Num.isFin : Num → Bool
  | .fin .. => true | _ => false
/-- The value is minus zero. -/
def Num.isNegZero : Num → Bool
  | .fin neg n _ => neg && n == 0 | _ => false
/-- The magnitude of a finite value. -/
def Num.abs : Num → Num
  | .fin _ n d => .fin false n d | .inf _ => .inf false | .nan => .nan

/-- Round a value to FP32, as a value again (R260, R261). -/
def round32 (v : Num) : Num := Fm.fp32.val (Fm.fp32.conv v).1

/-- The lesser (or greater) of two values under the rules of `FMIN` and `FMAX` (R265): −0 below +0, a NaN ignored. -/
def Num.pick (greater : Bool) (a b : Num) : Num :=
  if a.isNan then b else if b.isNan then a
  else if a.eqv b then (if a.isNegZero != greater then a else b)
  else if a.lt b != greater then a else b

/-! ## Exact accumulators (R254 to R259) -/

/-- A wide exact sum or a wide exact dot. -/
structure Acc where
  value : Int := 0
  any : Bool := false
  nz : Bool := false
  nan : Bool := false
  pinf : Bool := false
  ninf : Bool := false
  ovf : Bool := false
  deriving DecidableEq, Repr

/-- The kinds of accumulator: value bits and scale (R254, R255). -/
structure AccKind where
  m : Nat
  s : Nat

/-- The wide exact sum. -/
def wes : AccKind := ⟨312, 149⟩
/-- The wide exact dot. -/
def wed : AccKind := ⟨568, 266⟩

/-- The value has left its range. -/
def AccKind.out (k : AccKind) (v : Int) : Bool := v < -(2 ^ (k.m - 1) : Int) || (2 ^ (k.m - 1) : Int) ≤ v

/-- Keep a value in the word's two's-complement width. -/
def AccKind.wrap (k : AccKind) (v : Int) : Int :=
  (v + 2 ^ (k.m - 1)) % (2 ^ k.m) - 2 ^ (k.m - 1)

/-- Add an addend (R256). -/
def Acc.add (k : AccKind) (w : Acc) (x : Num) : Acc :=
  let w := { w with any := true }
  match x with
  | .nan => { w with nan := true }
  | .inf false => { w with pinf := true }
  | .inf true => { w with ninf := true }
  | .fin neg n d =>
    let q : Int := ((n * 2 ^ k.s / d : Nat) : Int)
    let v := w.value + (if neg then -q else q)
    { w with nz := w.nz || !(neg && n == 0), value := k.wrap v, ovf := w.ovf || k.out v }

/-- Merge two accumulators (R258). -/
def Acc.merge (k : AccKind) (a b : Acc) : Acc :=
  let v := a.value + b.value
  { value := k.wrap v, any := a.any || b.any, nz := a.nz || b.nz, nan := a.nan || b.nan, pinf := a.pinf || b.pinf,
    ninf := a.ninf || b.ninf, ovf := k.out v || a.ovf || b.ovf }

/-- Round an accumulator once to a format (R259); an `ovf` counts as NaN. -/
def Acc.round (k : AccKind) (w : Acc) (f : Fm) : Nat × Exc :=
  if w.nan || w.ovf || (w.pinf && w.ninf) then ((f.conv .nan).1, .nan)
  else if w.pinf then f.conv (.inf false)
  else if w.ninf then f.conv (.inf true)
  else if w.value = 0 then f.conv (.fin (w.any && !w.nz) 0 1)
  else f.conv (.fin (w.value < 0) w.value.natAbs (2 ^ k.s))

/-- The accumulator word (R254, R255). -/
def Acc.word (k : AccKind) (w : Acc) : Nat :=
  (w.value % (2 ^ k.m)).toNat +
    ([w.any, w.nz, w.nan, w.pinf, w.ninf, w.ovf].mapIdx (fun i b => if b then 2 ^ (k.m + i) else 0)).sum

/-- The accumulator of a word. -/
def Acc.ofWord (k : AccKind) (x : Nat) : Acc :=
  let v := x % 2 ^ k.m
  { value := if v < 2 ^ (k.m - 1) then (v : Int) else (v : Int) - 2 ^ k.m
    any := x.testBit k.m, nz := x.testBit (k.m + 1), nan := x.testBit (k.m + 2), pinf := x.testBit (k.m + 3),
    ninf := x.testBit (k.m + 4), ovf := x.testBit (k.m + 5) }

/-! ## Fixed-order steps (R260 to R263) -/

/-- A saturating INT32 value, and whether it saturated. -/
def satInt32 (v : Int) : Int × Bool :=
  if v < -2147483648 then (-2147483648, true) else if 2147483647 < v then (2147483647, true) else (v, false)

/-- The integer of a value of an integer format. -/
def Num.toInt : Num → Int
  | .fin neg n d => if neg then -((n / d : Nat) : Int) else ((n / d : Nat) : Int)
  | _ => 0

/-- The value of an integer. -/
def Num.ofInt (i : Int) : Num := .fin (i < 0) i.natAbs 1

/-- A running fixed-order accumulation: an FP32 value or an INT32 value with its saturation. -/
structure Fold where
  v : Num := .fin false 0 1
  sat : Bool := false
  started : Bool := false
  deriving DecidableEq, Repr

/-- One step of the fixed-order accumulation (R260, R262). -/
def Fold.step (int : Bool) (a : Fold) (x : Num) : Fold :=
  if int then
    let (v, sat) := satInt32 (a.v.toInt + x.toInt)
    { v := .ofInt v, sat := a.sat || sat, started := true }
  else if a.started then { v := round32 (a.v.add x), started := true }
  else { v := round32 x, started := true }

/-- The engine dot product of pairs (R260). -/
def dotFold (int : Bool) (ps : List (Num × Num)) : Fold := ps.foldl (fun a p => a.step int (p.1.mul p.2)) {}

/-! ## Element lists -/

/-- The element bit patterns of a byte image (R41). -/
def elems (size : Nat) (bs : Bytes) : List Nat := (chunks size bs).map leNat

/-- The bytes of element bit patterns. -/
def unelems (size : Nat) (es : List Nat) : Bytes := es.flatMap (natLe size)

/-- How many outputs are NaN, infinite and saturated (R271). -/
def excCounts (es : List Exc) : List Nat := [es.count .nan, es.count .inf, es.count .sat]

/-- Some output is a numeric exception (R269). -/
def anyExc (es : List Exc) : Bool := es.any (· != .none)

/-! ## Atomics (R265) -/

/-- The new value of an `ATOMIC` from the opcode, the prior value and the operand bytes, and whether it is a numeric exception. -/
def atomicNew (op : Nat) (p : Nat) (q : Bytes) : Nat × Bool :=
  let b := leAt q 0 4
  let sg := fun (x : Nat) => (Fm.int32.val x)
  match op with
  | 0x10 => ((p + b) % 2 ^ 32, false)
  | 0x11 =>
    let r := Fm.fp32.conv ((Fm.fp32.val p).add (Fm.fp32.val b))
    (r.1, r.2 != .none)
  | 0x12 => (if (sg b).lt (sg p) then b else p, false)
  | 0x14 => (if (sg p).lt (sg b) then b else p, false)
  | 0x13 =>
    let v := (Fm.fp32.val p).pick false (Fm.fp32.val b)
    ((Fm.fp32.conv v).1, v.isNan)
  | 0x15 =>
    let v := (Fm.fp32.val p).pick true (Fm.fp32.val b)
    ((Fm.fp32.conv v).1, v.isNan)
  | 0x16 => (if p = b then leAt q 4 4 else p, false)
  | _ => (b, false)

/-! ## Ranking (R267) -/

/-- Element `a` with index `i` ranks before element `b` with index `j`. -/
def ranksBefore (largest : Bool) (a : Num) (i : Nat) (b : Num) (j : Nat) : Bool :=
  if a.isNan && b.isNan then i < j else if a.isNan then false else if b.isNan then true
  else if a.eqv b then i < j else if largest then b.lt a else a.lt b

end Sys2Proof.Machine
end

