-- ==== Sys2Proof/Machine/Sumac.lean ====
section
/-! DEFINITION. The Sumac block (chapter 12): layout, verification, decoding and encoding. -/

namespace Sys2Proof.Machine

/-- Bits in a code of a profile (R346). -/
def codeBits (profile : Nat) : Nat :=
  match profile with | 1 => 4 | 2 => 6 | 3 => 8 | 4 => 12 | _ => 0

/-- The 16-bit outlier format of an element format (R347). -/
def outFm (f : Fm) : Fm := if f = .fp32 ∨ f = .bf16 then .bf16 else .fp16

/-- A positive finite normal FP32 pattern (R345, R354). -/
def goodScale (x : Nat) : Bool := !x.testBit 31 && 0 < bits x 23 8 && bits x 23 8 < 255

/-- The outlier slots of a block, as element index (with its reserved bit) and value (R345). -/
def blockSlots (b : Bytes) : List (Nat × Nat) :=
  (List.range 4).map (fun t => (leAt b (8 + 3 * t) 1, leAt b (9 + 3 * t) 2))

/-- The check value of a block's contents (R345). -/
def blockCheck (b : Bytes) : Nat := (crc32c (b.take 28 ++ b.drop 32)).toNat

/-- Verification of a block (R349): the first failure, or none. -/
def verifyBlock (b : Bytes) : Option Status :=
  let n := leAt b 21 1
  let slots := blockSlots b
  let used := slots.take n
  if blockCheck b ≠ leAt b 28 4 then some .checkFail
  else if leAt b 20 1 = 0 then some .format
  else if 4 < leAt b 20 1 then some .unsupported
  else if 4 < n then some .format
  else if used.any (fun p => 127 < p.1) || !decide (used.map (·.1)).Nodup then some .format
  else if (slots.drop n).any (fun p => p ≠ (0, 0)) then some .format
  else if !goodScale (leAt b 22 4) then some .format
  else none

/-- Verification of consecutive blocks of one size: the first failure. -/
def verifyBlocks (size : Nat) (bs : Bytes) : Option Status := (chunks size bs).findSome? verifyBlock

/-- A two-power scaling of a value by an integer exponent. -/
def Num.scale2 : Num → Int → Num
  | .fin neg n d, e => if 0 ≤ e then .fin neg (n * 2 ^ e.toNat) d else .fin neg n (d * 2 ^ (-e).toNat)
  | x, _ => x

/-- A signed value of `w` bits. -/
def signed (w x : Nat) : Int := if x < 2 ^ (w - 1) then (x : Int) else (x : Int) - 2 ^ w

/-- The elements of a block, decoded to a format, with their exceptions (R348, R352). -/
def decodeBlock (f : Fm) (b : Bytes) : List (Nat × Exc) :=
  let w := codeBits (leAt b 20 1)
  let area := leNat (b.drop 32)
  let s := Fm.fp32.val (leAt b 22 4)
  let beta := signed 16 (leAt b 26 2)
  let slots := (blockSlots b).take (leAt b 21 1)
  (List.range 128).map fun i =>
    match slots.find? (fun p => p.1 = i) with
    | some p => f.conv ((outFm f).val p.2)
    | none =>
      let c := bits area (w * i) w
      if c = 2 ^ (w - 1) then (f.nanBits, .nan)
      else f.conv (((Num.ofInt (signed w c)).mul s).scale2 ((leAt b (i / 16) 1 : Nat) - beta))

/-- Elements of consecutive blocks (R355). -/
def decodeBlocks (f : Fm) (size : Nat) (bs : Bytes) : List (Nat × Exc) := (chunks size bs).flatMap (decodeBlock f)

/-- The largest magnitude among values, zero where there is none. -/
def maxAbs (vs : List Num) : Num := vs.foldl (fun m v => if m.lt v.abs then v.abs else m) (.fin false 0 1)

/-- The exact quotient of two finite values. -/
def Num.quot : Num → Num → Num
  | .fin a n d, .fin b m e => .fin (a != b) (n * e) (d * m)
  | x, _ => x

/-- One pass of the outlier loop of R350: the slot to append, if any. -/
def nextOutlier (vs : List Num) (slots : List Nat) : Option Nat :=
  let free := (List.range 128).filter (fun i => !slots.contains i && (vs.getD i .nan).isFin)
  let at_ := fun i => (vs.getD i .nan).abs
  let zero : Num := .fin false 0 1
  let c := free.foldl (fun (m : Option Nat) i =>
    if zero.lt (at_ i) && (match m with | none => true | some j => (at_ j).lt (at_ i)) then some i else m) none
  match c with
  | none => none
  | some c =>
    let r := maxAbs ((free.filter (fun i => i / 16 = c / 16 ∧ i ≠ c)).map at_)
    if r.eqv zero || (at_ c).lt (r.mul (.fin false 16 1)) then none else some c

/-- The outlier loop, at most `n` slots more. -/
def outlierLoop (vs : List Num) : Nat → List Nat → List Nat
  | 0, slots => slots
  | n + 1, slots => match nextOutlier vs slots with
    | none => slots
    | some c => outlierLoop vs n (slots ++ [c])

/-- The smallest integer `k` with `rne(m / 2^k) ≤ 2^(w-1) - 1`, for a positive `m` (R350). -/
def subExp (w : Nat) (m : Num) : Int :=
  match m with
  | .fin _ n d =>
    let k : Int := (log2Biased n d : Int) - 4096 - w + 2
    match m.scale2 (-k) with
    | .fin _ n' d' => if rneDiv n' d' ≤ 2 ^ (w - 1) - 1 then k else k + 1
    | _ => k
  | _ => 0

/-- One block encoded from 128 element patterns (R350), and how many of its elements are numeric exceptions (R352). -/
def encodeBlock (profile : Nat) (scale : Nat) (f : Fm) (xs : List Nat) : Bytes × List Exc :=
  let w := codeBits profile
  let vs := xs.map f.val
  let s := Fm.fp32.val scale
  let specials := ((List.range 128).filter (fun i => !(vs.getD i .nan).isFin)).take 4
  let slots := outlierLoop vs (4 - specials.length) specials
  let inSlot := fun i => slots.contains i
  let out := slots.map (fun i => (i, (outFm f).conv (vs.getD i .nan)))
  let m := (List.range 8).map fun j =>
    (maxAbs (((List.range 16).map (16 * j + ·)).filterMap (fun i =>
      let v := vs.getD i .nan
      if v.isFin && !inSlot i then some v.abs else none))).quot s
  let pos := fun (v : Num) => (Num.fin false 0 1).lt v
  let ks := m.map (fun v => if pos v then some (subExp w v) else none)
  let top := ks.foldl (fun (a : Option Int) k => match a, k with | some x, some y => some (max x y) | none, y => y | x, none => x) none
  let beta : Int := match top with | none => 0 | some k => 255 - k
  let es := ks.map (fun k => match k with | none => 0 | some k => (max 1 (k + beta)).toNat)
  let codes := (List.range 128).map fun i =>
    let v := vs.getD i .nan
    if inSlot i then (0, Exc.none)
    else if !v.isFin then (2 ^ (w - 1), Exc.nan)
    else match (v.quot s).scale2 (beta - (es.getD (i / 16) 0 : Nat)) with
      | .fin neg n d => let q := rneDiv n d; (if neg then (2 ^ w - q) % 2 ^ w else q, Exc.none)
      | _ => (0, Exc.none)
  let area := natLe (16 * w) ((codes.mapIdx (fun i c => c.1 * 2 ^ (w * i))).sum)
  let head := es.flatMap (natLe 1) ++ padTo 12 (out.flatMap (fun p => natLe 1 p.1 ++ natLe 2 p.2.1)) ++
    natLe 1 profile ++ natLe 1 slots.length ++ natLe 4 scale ++ natLe 2 (beta % 65536).toNat
  (head ++ natLe 4 (crc32c (head ++ area)).toNat ++ area, out.map (·.2.2) ++ codes.map (·.2))

/-- Consecutive blocks encoded from element patterns. -/
def encodeBlocks (profile scale : Nat) (f : Fm) : List (List Nat) → Bytes × List Exc
  | [] => ([], [])
  | xs :: rest =>
    let a := encodeBlock profile scale f xs
    let b := encodeBlocks profile scale f rest
    (a.1 ++ b.1, a.2 ++ b.2)

/-- Lists of `n` numbers. -/
def groupsAux (n : Nat) : Nat → List Nat → List (List Nat)
  | 0, _ => []
  | k + 1, xs => if xs.isEmpty then [] else xs.take n :: groupsAux n k (xs.drop n)

/-- A list cut into groups of `n`. -/
def groupsOf (n : Nat) (xs : List Nat) : List (List Nat) := groupsAux n xs.length xs

end Sys2Proof.Machine
end

