-- ==== Sys2Proof/Machine/Memory.lean ====
section
/-! DEFINITION. The coherent near tier as crossbar requests, movers and operators see it (R23, R403), mirrored copies
(R384), and the frames to trays with the far-tier cache (R373 to R382). -/

namespace Sys2Proof.Machine

/-! ## Mirrored near ranges (R383 to R385) -/

/-- The mirrored range that holds an offset. -/
def State.mirrorAt (s : State) (o : Nat) : Option MirroredRange :=
  s.tabs.mirrored.find? (fun m => m.base ≤ o ∧ o < m.base + m.length)

/-- The mirrored range of which this device sends copies for a write at an offset: it is primary, paired and not solo. -/
def State.copiesAt (s : State) (o : Nat) : Option MirroredRange :=
  match s.mirrorAt o with
  | some m => if m.role = 1 ∧ s.mirrors then some m else none
  | none => none

/-- Send the copy `STORE` of written bytes (R384), in pieces of at most 4,096 bytes. The number of frames sent. -/
def State.sendCopies (s : State) (owner : Owner) (o : Nat) (bs : Bytes) (tc p age budget resid : Nat) : Nat × State :=
  match s.copiesAt o with
  | none => (0, s)
  | some m =>
    let sm := s.sumacAt o
    let st := BitVec.ofNat 8 (0x68 + 4 * s.homeDie o + ((s.homePoint o).getD 0) % 4)
    let fmt := match sm with | some r => r.fmt | none => 1
    let step := match sm with | some r => 4096 / blockSize r.profile * blockSize r.profile | none => 4096
    let ps := chunks step bs
    let s := ps.foldl (fun (a : Nat × State) piece =>
      let (q, s) := a.2.takeSeq s.tabs.partner st
      let h := s.ownHeader 0x02 (storeClass tc) st s.tabs.partner q m.cid age budget piece.length fmt
        (m.partnerBase + (o + a.1 - m.base)) sm.isSome
      (a.1 + piece.length, s.originate owner h piece p resid)) (0, s)
    (ps.length, s.2)

/-- The partition of the mirrored range that holds an offset, 0 outside one. -/
def State.mirrorPart (s : State) (o : Nat) : Nat := match s.mirrorAt o with | some m => m.part | none => 0

/-- Dirty data of a line reaches memory, and the partner's copy (R411). The number of copies sent. -/
def State.writeBack (s : State) (owner : Owner) (tc p age budget resid line : Nat) (b : Bytes) : Nat × State :=
  (s.memWrite line b).sendCopies owner line b tc p age budget resid

/-! ## Snoops (R403, R406) -/

/-- The kinds of snoop. -/
inductive Snoop where
  | shr | fwd | inv
  deriving DecidableEq, Repr

/-- What a line in a state answers to a snoop (R406): the new state, whether the answer is `SR_N`, and whether data
follows. None where the table has a dash. -/
def snoopReact : L2State → Snoop → Option (L2State × Bool × Bool)
  | .m, .shr => some (.n, true, true)
  | .e, .shr => some (.n, true, false)
  | .miA, .shr => some (.xiA, false, true)
  | .xiA, .shr => some (.xiA, false, false)
  | .n, .fwd => some (.n, true, true)
  | .smA, .fwd => some (.smA, true, true)
  | .xiA, .fwd => some (.xiA, false, true)
  | .m, .inv => some (.i, false, true)
  | .e, .inv | .s, .inv | .n, .inv => some (.i, false, false)
  | .smA, .inv => some (.imD, false, false)
  | .miA, .inv => some (.xiA, false, true)
  | .xiA, .inv => some (.xiA, false, false)
  | _, _ => none

/-- Data in this state is dirty (R397). -/
def L2State.dirty : L2State → Bool
  | .m | .miA => true
  | _ => false

/-- A cluster's line. -/
def State.l2Line (s : State) (c line : Nat) : Option L2Line := s.mem.l2.find? (fun l => l.cluster = c ∧ l.line = line)

/-- The state of a cluster's line: I where it is not held. -/
def State.l2State (s : State) (c line : Nat) : L2State := match s.l2Line c line with | some l => l.state | none => .i

/-- Put a line into a state, with data where new data comes; I removes it. A line that is invalidated or evicted first leaves
the cores' caches (R396). -/
def State.setL2 (s : State) (c line : Nat) (st : L2State) (data : Option Bytes) : State :=
  let old := s.l2Line c line
  let rest := s.mem.l2.filter (fun l => ¬(l.cluster = c ∧ l.line = line))
  let d := match data, old with | some b, _ => b | none, some l => l.data | none, none => zeros 128
  let pv := match st with
    | .i | .imD | .miA | .xiA => 0
    | _ => match old with | some l => l.presence | none => 0
  s.modMem (fun m => { m with l2 := if st = .i then rest else rest ++ [⟨c, line, st, d, pv⟩] })

/-- A cluster answers a snoop (R406): whether with `SR_N`, the data sent, and whether it is dirty. -/
def State.snoopCluster (s : State) (c line : Nat) (k : Snoop) : Option (Bool × Option Bytes × Bool) × State :=
  match s.l2Line c line with
  | none => (none, s.cohFault c line)
  | some l =>
    match snoopReact l.state k with
    | none => (none, s.cohFault c line)
    | some (st, n, d) =>
      (some (n, if d then some l.data else none, l.state.dirty && d), s.setL2 c line st none)

/-- The clusters the filter lists for a line. -/
def State.holders (s : State) (line : Nat) : List (Nat × Listed) :=
  (s.mem.filter.filter (fun f => f.1 = line)).map (·.2)

/-- List, relist or unlist a cluster for a line (R401). -/
def State.listAs (s : State) (line c : Nat) (how : Option Listed) : State :=
  let rest := s.mem.filter.filter (fun f => ¬(f.1 = line ∧ f.2.1 = c))
  s.modMem (fun m => { m with filter := match how with | some h => rest ++ [(line, c, h)] | none => rest })

/-- The exclusive holder of a line, if any (R401). -/
def State.exclusive (s : State) (line : Nat) : Option Nat :=
  (s.holders line).findSome? (fun h => if h.2 = .exclusive then some h.1 else none)
/-- The named responder of a line, if any (R401). -/
def State.responder (s : State) (line : Nat) : Option Nat :=
  (s.holders line).findSome? (fun h => if h.2 = .responder then some h.1 else none)

/-- The snoop of a read that keeps no copy (R403): the exclusive holder goes to N, its dirty data to memory. -/
def State.snoopForRead (s : State) (line : Nat) : State :=
  match s.exclusive line with
  | none => s
  | some o =>
    match s.snoopCluster o line .shr with
    | (none, s) => s
    | (some (n, data, dirty), s) =>
      let s := match data with | some b => if dirty then (s.writeBack .fill 5 (s.mirrorPart line) 0 0 0 line b).2 else s | none => s
      s.listAs line o (if n then some .responder else none)

/-- Every holder of a line is invalidated, and dirty data goes to memory and to the partner's copy (R403, R411). The number
of copies sent. -/
def State.invalidate (s : State) (owner : Owner) (tc p age budget resid line : Nat) : Nat × State :=
  (s.holders line).foldl (fun a h =>
    match a.2.snoopCluster h.1 line .inv with
    | (none, s) => (a.1, s.listAs line h.1 none)
    | (some (_, data, dirty), s) =>
      let (k, s) := match data with | some b => if dirty then s.writeBack owner tc p age budget resid line b else (0, s) | none => (0, s)
      (a.1 + k, s.listAs line h.1 none)) (0, s)

/-- The snoops of a write by an agent without a cache (R403). -/
def State.snoopForWrite (s : State) (line : Nat) : State := (s.invalidate .fill 5 (s.mirrorPart line) 0 0 0 line).2

/-- Read near-tier bytes as the grant order shows them (R23, R35). -/
def State.nearRead (s : State) (o n : Nat) : Bytes × State :=
  let s := s.each (linesOf o n) State.snoopForRead
  (s.memRead o n, s)

/-- Running operators that read some of a range see its bytes change (R323). -/
def State.taint (s : State) (o n : Nat) : State :=
  s.modEng (fun e =>
    let l := mapIf (fun (j : OpJob) => j.running && j.reads.any (fun x => overlaps o n x.1 x.2))
      (fun (j : OpJob) => { j with tainted := true }) e.jobs
    { e with jobs := l })

/-- Write near-tier bytes (R403). -/
def State.nearWrite (s : State) (o : Nat) (bs : Bytes) : State :=
  ((s.each (linesOf o bs.length) State.snoopForWrite).memWrite o bs).taint o bs.length

/-! ## Trays (R360, R361, R374, R376) -/

/-- The XTS key of a partition. -/
def State.partKey (s : State) (p : Nat) : Bytes := ((s.part p).key).getD []

/-- The data units of a far range: Sumac blocks or lines, as start and length (R360). -/
def State.unitsOf (s : State) (o n : Nat) : List (Nat × Nat) :=
  match s.sumacAt o with
  | some r =>
    let b := blockSize r.profile
    if b = 0 then [] else (List.range (n / b)).map (fun i => (o + i * b, b))
  | none => (linesOf o n).map (fun l => (l, 128))

/-- The tray address of an offset in an extent. -/
def Extent.trayOf (e : Extent) (o : Nat) : Nat := e.tray + (o - e.base)

/-- Tray bytes of whole units, encrypted under the partition key and the tray tweak (R360). -/
def State.encryptUnits (s : State) (e : Extent) (o : Nat) (plain : Bytes) : Bytes :=
  ((s.unitsOf o plain.length).map (fun u =>
    xtsEncrypt (s.partKey e.part) (e.trayOf u.1) (slice plain (u.1 - o) u.2))).flatten

/-- Tray bytes of whole units, decrypted. -/
def State.decryptUnits (s : State) (e : Extent) (o : Nat) (cipher : Bytes) : Bytes :=
  ((s.unitsOf o cipher.length).map (fun u =>
    xtsDecrypt (s.partKey e.part) (e.trayOf u.1) (slice cipher (u.1 - o) u.2))).flatten

/-- The tray stream of a home point (R376). -/
def State.trayStream (s : State) (e : Extent) (o : Nat) : Stream :=
  BitVec.ofNat 8 (0x60 + 4 * e.home + ((s.homePoint o).getD 0) % 4)

/-- Send a tray frame (R376). -/
def State.sendTray (s : State) (owner : Owner) (e : Extent) (op tc o len : Nat) (payload : Bytes) (p age budget resid : Nat) : State :=
  let g := e.trayOf o
  let dst : Node := BitVec.ofNat 16 (g / 2 ^ 48)
  let st := s.trayStream e o
  let (q, s) := s.takeSeq dst st
  let s := s.modPart e.part (fun x => { x with meter := x.meter.modify 6 (· + len) })
  let h := s.ownHeader op tc st dst q e.cid age budget len 1 (g % 2 ^ 48) false
  s.originate owner h payload p resid

/-! ## The far-tier cache (R380 to R382) -/

/-- A 4 KiB sector's first offset. -/
def sectorOf (o : Nat) : Nat := o / 4096 * 4096
/-- The sectors that a range touches. -/
def sectorsOf (o n : Nat) : List Nat :=
  if n = 0 then [] else (List.range ((o + n - 1) / 4096 - o / 4096 + 1)).map (fun i => (o / 4096 + i) * 4096)

/-- Sets in each die's half of the cache (R380): 16 ways of 4 KiB, 16,384 sets in a GiB. -/
def State.ftcSets (s : State) : Nat := s.cfg.rim.ftcGib / 2 * 16384

/-- The cached sector of a tray address on a die. -/
def State.sector (s : State) (die tray : Nat) : Option Sector := s.mem.sectors.find? (fun x => x.tray = tray ∧ x.die = die)

/-- The sector is pinned by a prefetch instance (R387). -/
def Sector.pinned (x : Sector) : Bool := !x.pins.isEmpty

/-- The way a fill takes (R381): an invalid way of the partition first, then its least recently used unpinned one. -/
def State.wayFor (s : State) (p die set : Nat) : Option Nat :=
  let ways := (List.range 16).filter (fun w => (nth s.cfg.rim.ftcWays p).testBit w)
  let here := s.mem.sectors.filter (fun x => x.die = die ∧ x.set = set)
  match ways.find? (fun w => !here.any (fun x => x.way = w)) with
  | some w => some w
  | none =>
    let cand := here.filter (fun x => ways.contains x.way && !x.pinned && !x.filling)
    (cand.foldl (fun (m : Option Sector) x => match m with
      | some y => if x.used < y.used then some x else m
      | none => some x) none).map (·.way)

/-- A sector has been used (R381). -/
def State.touchSector (s : State) (x : Sector) : State :=
  s.modMem (fun m =>
    let l := mapIf (fun (y : Sector) => y.tray = x.tray ∧ y.die = x.die) (fun y => { y with used := m.useClock + 1 }) m.sectors
    { m with sectors := l, useClock := m.useClock + 1 })

/-- A sector is marked FILLING in a way, and its `LOAD` of 4,096 bytes sent (R382); none where no way can take it. -/
def State.fillSector (s : State) (owner : Owner) (e : Extent) (sec tc p age budget resid : Nat) : Option State :=
  let tray := e.trayOf sec
  let sets := s.ftcSets
  if sets = 0 then none
  else
    let set := (tray / 4096) % sets
    match s.wayFor e.part e.home set with
    | none => none
    | some w =>
      let s := s.modMem (fun m => { m with
        sectors := m.sectors.filter (fun x => ¬(x.die = e.home ∧ x.set = set ∧ x.way = w)) ++
          [{ tray := tray, die := e.home, set := set, way := w, part := e.part, filling := true, data := [], pins := [],
             used := m.useClock + 1, written := [] }],
        useClock := m.useClock + 1 })
      some (s.sendTray owner e 0x01 tc sec 4096 [] p age budget resid)

/-- A far-tier write has been made: operators that read the range see it (R323), and the ciphertext goes into a cached
sector, where one is present (R378, R382). -/
def State.updateSector (s : State) (e : Extent) (o : Nat) (cipher : Bytes) : State :=
  (chunks 128 cipher).zipIdx.foldl (fun s x =>
    let a := o + 128 * x.2
    let tray := e.trayOf (sectorOf a)
    let off := a - sectorOf a
    s.modMem (fun m =>
      let l := mapIf (fun (y : Sector) => y.tray = tray ∧ y.die = e.home)
        (fun y => if y.filling then { y with written := y.written ++ [(off, x.1)] }
          else { y with data := y.data.take off ++ x.1 ++ y.data.drop (off + x.1.length) }) m.sectors
      { m with sectors := l })) (s.taint o cipher.length)

/-- The plaintext of a far range from cached sectors, each present and filled; none otherwise. -/
def State.cachedPlain (s : State) (e : Extent) (o n : Nat) : Option Bytes :=
  let lo := o / 128 * 128
  let hi := (o + n + 127) / 128 * 128
  let parts := (sectorsOf o n).map (fun sec => match s.sector e.home (e.trayOf sec) with
    | some x => if x.filling then none else
        let a := max lo sec
        let b := min hi (sec + 4096)
        some (slice x.data (a - sec) (b - a))
    | none => none)
  if parts.any Option.isNone then none
  else some (slice (s.decryptUnits e lo (parts.filterMap id).flatten) (o - lo) n)

/-! ## Held lines (R78, R206, R405) -/

/-- The far-tier offset range that a tray frame of a request covers. -/
def State.trayRange (s : State) (o : OutFrame) : Option (Nat × Nat) :=
  let g := o.hdr.dst.toNat * 2 ^ 48 + o.hdr.offset.toNat
  match s.tabs.extents.find? (fun e => e.tray ≤ g ∧ g < e.tray + e.length) with
  | some e => some (e.base + (g - e.tray), max 1 o.hdr.length.toNat)
  | none => none

/-- A line of a range is held (R206): by a home transaction, by a tray frame of a request, or by a write that must land. A
frozen arbiter grants nothing either (R213); the arbiters of a die freeze together. -/
def State.rangeHeld (s : State) (o n : Nat) : Bool :=
  let lines := linesOf o n
  (match s.homePoint o with | some k => (s.arb k).frozen | none => false) ||
  s.mem.holds.any (fun h => lines.contains h.1) ||
  s.jrn.outs.any (fun f => match f.owner with
    | .tray _ | .moverMerge .. => match s.trayRange f with | some (a, l) => overlaps o n a l | none => false
    | .landing line _ _ => overlaps o n line 128
    | _ => false)

end Sys2Proof.Machine
end

