-- ==== Sys2Proof/Machine/Lottery.lean ====
section
/-! DEFINITION. Lottery arbitration (chapter 07): the draw, the wait counters, the LFSR, freeze and drain. -/

namespace Sys2Proof.Machine

/-- Requesters of an arbiter (R205). -/
def requesters (arb : Nat) : Nat := if arb < 64 then 19 else if arb = 64 then 40 else 64

/-- Tickets of a requester (R218); a mover channel's come from its active descriptor (R423). -/
def State.tickets (s : State) (arb r : Nat) : Nat :=
  if arb < 64 then nth s.cfg.unit.lotTickets r
  else if arb = 64 then (if r < 20 then s.cfg.xbar.spillTickets.1 else s.cfg.xbar.spillTickets.2)
  else match (s.chan (64 * (arb - 65) + r)).active with
    | some d => leAt d.bytes 5 1
    | none => 0

/-- The wait limit of a requester (R218). -/
def State.waitLimit (s : State) (arb r : Nat) : Nat :=
  if arb < 64 then nth s.cfg.unit.lotWait r else if arb = 64 then s.cfg.xbar.spillWait else s.cfg.unit.movLotWait

/-- One step of the LFSR (R207). -/
def lfsrStep (x : Nat) : Nat := if x.testBit 0 then (x / 2) ^^^ 0x80200003 else x / 2

/-- A seed rotated left (R208). -/
def rotl32 (x k : Nat) : Nat := (x * 2 ^ k % 2 ^ 32) + x / 2 ^ (32 - k)

/-- The requests at the heads of the requester queues that may be presented (R206, R207, R210). -/
def State.presented (s : State) (arb : Nat) : List ArbItem :=
  let q := (s.arb arb).queue
  (List.range (requesters arb)).filterMap (fun r =>
    match q.find? (fun x => x.requester = r) with
    | none => none
    | some x =>
      if arb < 64 then
        let first := q.find? (fun y => y.node = x.node ∧ y.stream = x.stream)
        if first ≠ some x || s.rangeHeld x.line 128 then none else some x
      else some x)

/-- The member with the largest wait; ties go to the lowest index. -/
def longestWait (a : Arbiter) (l : List ArbItem) : Option ArbItem :=
  l.foldl (fun (m : Option ArbItem) x => match m with
    | none => some x
    | some y => if (look y.requester a.waits).getD 0 < (look x.requester a.waits).getD 0 then some x else m) none

/-- The walk over the tickets. -/
def walk (tickets : ArbItem → Nat) (x : Nat) : List ArbItem → Nat → Option ArbItem
  | [], _ => none
  | r :: rs, acc => if x < acc + tickets r then some r else walk tickets x rs (acc + tickets r)

/-- The winner of a cycle, and whether by force (R207). -/
def State.winner (s : State) (arb : Nat) (present : List ArbItem) : Option ArbItem × Bool :=
  let a := s.arb arb
  let forced := present.filter (fun x => s.waitLimit arb x.requester ≤ (look x.requester a.waits).getD 0)
  if !forced.isEmpty then (longestWait a forced, true)
  else
    let tk := fun (x : ArbItem) => s.tickets arb x.requester
    let t := (present.map tk).sum
    if t = 0 then (longestWait a present, false) else (walk tk (a.lfsr * t / 2 ^ 32) present 0, false)

/-- What a grant leaves in an arbiter: the wait counters, the counts and the LFSR. -/
def Arbiter.cycle (a : Arbiter) (present : List ArbItem) (w : ArbItem) (forced : Bool) : Arbiter :=
  let waits := present.foldl (fun l x =>
    if x.requester = w.requester then l else put x.requester (min ((look x.requester l).getD 0 + 1) 1023) l) a.waits
  let waits := del w.requester waits
  { a with waits := waits, waitMax := waits.foldl (fun m x => max m x.2) a.waitMax, lfsr := lfsrStep a.lfsr,
           forced := if forced then satAdd 0xFFFFFFFF a.forced 1 else a.forced }

/-- A granted item leaves its queue: a spilled frame has one record for each of its cells, its label counting those still to
be written (R205); a refill is granted until its read returns. A mover burst is done before the next grant. -/
def Arbiter.grant (a : Arbiter) (arb : Nat) (w : ArbItem) : Arbiter :=
  if arb = 64 && w.requester < 20 then
    if w.label ≤ 1 then { a with queue := a.queue.erase w }
    else
      let l := mapIf (fun (x : ArbItem) => x == w) (fun x => { x with label := x.label - 1 }) a.queue
      { a with queue := l }
  else
    let a := { a with queue := a.queue.erase w }
    if 65 ≤ arb then { a with granted := [w] } else { a with granted := a.granted ++ [w] }

/-- One cycle of an arbiter (R207): it does nothing while frozen (R213) or while nothing is presented. -/
def State.lottery (s : State) (arb : Nat) : State :=
  if (s.arb arb).frozen then s
  else
    let present := s.presented arb
    match s.winner arb present with
    | (some w, forced) => s.modArb arb (fun a => (a.cycle present w forced).grant arb w)
    | (none, _) => s

/-- `LOTTERY_DRAW` (R207). -/
def execLotteryDraw (t arb : Nat) (arrivals : List ArbItem) (s : State) : Host.Outcome State Fault Refusal :=
  if arb < 67 then
    let news := arrivals.filter (fun x => x.requester < requesters arb)
    .next (((s.at t).modArb arb (fun a => { a with queue := a.queue ++ news })).lottery arb)
  else .fault .noSuchUnit

end Sys2Proof.Machine
end

