-- ==== Sys2Proof/Machine/Locks.lean ====
section
/-! DEFINITION. The replay lock: hashes, result leaves, the leaf log and signed batches (R272, R488 to R498), with the
measurement blocks that a batch names (R478). -/

namespace Sys2Proof.Machine

/-! ## Measurement blocks (R478) -/

/-- The part number, stepping and profiles of block 6; its byte layout is a DESIGN CHOICE (log 16). -/
def hardwareBlock : Bytes := ascii "DV-PX640-L" ++ natBe 2 0x0A00 ++ [1, 1]

/-- A chain as its block shows it: value and count, 72 bytes. -/
def State.chainBlock (s : State) (chain : Nat) : Bytes :=
  let c := s.hoop.chains.getD (chain - 7) ([], 0)
  c.1 ++ natBe 8 c.2

/-- The content of measurement block `i`, 1 to 9. -/
def State.measurement (s : State) (i : Nat) : Bytes :=
  match i with
  | 1 => Config.maskRomDigest
  | 2 | 3 | 4 => s.hoop.measured.getD (i - 2) []
  | 5 => natLe 4 s.mram.vendorCounter ++ natLe 4 s.mram.ownerCounter
  | 6 => hardwareBlock
  | 7 | 8 | 9 => s.chainBlock i
  | _ => []

/-- The measurement hash of a batch record (R497). -/
def State.measurementHash (s : State) : Bytes := sha512 ((List.range 9).flatMap (fun i => s.measurement (i + 1)))

/-! ## Hashes (R493) -/

/-- The hash of a byte extent. -/
def extHash (x : Bytes) : Bytes := sha512 (natBe 8 x.length ++ (chunks 4096 x).flatMap sha512)

/-- The first 32 bytes. -/
def t32 (x : Bytes) : Bytes := x.take 32

/-- Bytes of a range set to zero. -/
def blank (b : Bytes) (off n : Nat) : Bytes := b.take off ++ zeros n ++ b.drop (off + n)

/-- The request hash of an operator. -/
def operatorHash (desc : Bytes) : Bytes := t32 (sha512 (blank (blank desc 3 1) 16 32))

/-- The request hash of a reduction round. -/
def roundHash (desc : Bytes) (seg : Nat) : Bytes :=
  t32 (sha512 (blank (blank (blank desc 14 1) 16 8) 32 14 ++ natBe 4 seg))

/-- The request hash of a `PUBLISH`. -/
def publishHash (id version length : Nat) : Bytes := t32 (sha512 (natBe 4 id ++ natBe 8 version ++ natBe 8 length))

/-- The input hash of an operator, from its operands' codes and hashed bytes. -/
def inputHash (ops : List (Nat × Bytes)) : Bytes := t32 (sha512 (ops.flatMap (fun p => natBe 1 p.1 ++ extHash p.2)))

/-- The input hash of a reduction round, from the contributors' numbers and payloads. -/
def roundInputHash (cs : List (Nat × Bytes)) : Bytes := t32 (sha512 (cs.flatMap (fun p => natBe 2 p.1 ++ extHash p.2)))

/-! ## Batches (R496, R497) -/

/-- Sign and send a batch record over leaves (R497). -/
def State.signBatch (s : State) (p first : Nat) (leaves : List Bytes) (flags : Nat) : State :=
  let q := s.part p
  let body := natBe 2 0x0D16 ++ [1, BitVec.ofNat 8 flags] ++ natBe 2 s.tabs.node.toNat ++ [BitVec.ofNat 8 (p % 16), 0] ++
    natBe 8 q.batchNumber ++ natBe 8 first ++ natBe 4 leaves.length ++ natBe 4 s.tabs.compEpoch.toNat ++ deviceId ++
    padTo 64 s.mram.imageDigest ++ s.measurementHash ++ sha512 leaves.flatten ++ natBe 2 0x0A00 ++ zeros 2 ++
    natBe 4 q.keyId ++ padTo 64 q.prevBatch
  let record := body ++ edSign identitySeed body
  let s := s.modPart p (fun q => { q with batchNumber := q.batchNumber + 1, prevBatch := sha512 record })
  s.each (pieces 0x8006 p record) (fun s e => (s.toPartRing p e).toManagers e)

/-- The log that leaves go into: that of the lock in force, or of the one turned off while its work ends (R490). -/
def Partition.log (q : Partition) : Option LockCfg := q.lock.orElse (fun _ => q.oldLock)

/-- Write the index that follows the last signed leaf into the second half of the consumer word (R495). -/
def State.writeSigned (s : State) (p : Nat) : State :=
  match (s.part p).log with
  | none => s
  | some l =>
    let b := natLe 8 (s.part p).signedIndex
    let s := s.nearWrite (l.consumer + 8) b
    (s.sendCopies .fill (l.consumer + 8) b 5 p 0 0 0).2

/-- Close the open batch of a partition, if it has one (R496); an empty batch is not signed. -/
def State.closeBatch (s : State) (p : Nat) : State :=
  match (s.part p).batch with
  | none => s
  | some b =>
    let s := s.modPart p (fun q => { q with batch := none })
    if b.leaves.isEmpty then s
    else
      let s := s.signBatch p b.first b.leaves b.flags
      let s := s.modPart p (fun q => { q with signedIndex := b.first + b.leaves.length })
      s.writeSigned p

/-- Close every partition's batch. -/
def State.closeBatches (s : State) : State := s.each (List.range 16) State.closeBatch

/-! ## Leaves (R491, R492, R495) -/

/-- The replay lock of a partition is on. -/
def State.locked (s : State) (p : Nat) : Bool := (s.part p).lock.isSome

/-- The log has no free place: raised at most once per partition per 1 ms (R495). -/
def State.logFull (s : State) (p : Nat) : State :=
  s.eventLimited 0x1102 [p] toFabric (some p) (some p) (.resource 5 p [])

/-- Free places of a partition's log (R495). -/
def State.freePlaces (s : State) (p : Nat) (l : LockCfg) : Nat :=
  let c := leNat (s.nearRead l.consumer 8).1
  let i := (s.part p).leafIndex
  if c ≤ i ∧ i ≤ c + l.size then l.size - (i - c) - (s.part p).reserved else 0

/-- Reserve a leaf's place for locked work (R495): none where the log has no free place. -/
def State.reserveLeaf (s : State) (p : Nat) : Option State :=
  match (s.part p).lock with
  | none => some s
  | some l =>
    if s.freePlaces p l = 0 then none
    else some (s.modPart p (fun q => { q with reserved := q.reserved + 1 }))

/-- Give back a leaf's place that will not be written. -/
def State.unreserveLeaf (s : State) (p : Nat) : State := s.modPart p (fun q => { q with reserved := q.reserved - 1 })

/-- What a leaf says of its work, beside what the state says. -/
structure LeafOf where
  type : Nat
  op : Nat
  hdr : Header
  again : Bool
  exceptions : Bool
  result : Nat
  request : Bytes
  input : Bytes
  output : Bytes

/-- The flags of a leaf (R492). -/
def State.leafFlags (s : State) (p : Nat) (l : LeafOf) : Nat :=
  (if (s.part p).consent.isSome then 1 else 0) + (if s.jrn.solo then 2 else 0) + (if l.again then 4 else 0) +
    (if l.exceptions then 8 else 0)

/-- The 128 bytes of a leaf (R492). -/
def State.leafBytes (s : State) (p : Nat) (l : LeafOf) : Bytes :=
  [BitVec.ofNat 8 l.type, 1, BitVec.ofNat 8 (s.leafFlags p l), BitVec.ofNat 8 l.op] ++ natBe 2 s.tabs.node.toNat ++
    [BitVec.ofNat 8 (p % 16), 0] ++ natBe 2 l.hdr.src.toNat ++ [l.hdr.stream, 0] ++ natBe 4 l.hdr.seq.toNat ++
    natBe 4 s.tabs.compEpoch.toNat ++ natBe 4 (if (s.part p).consent.isSome then (s.part p).consents else 0) ++
    natBe 8 l.result ++ padTo 32 l.request ++ padTo 32 l.input ++ padTo 32 l.output

/-- Write a leaf at its place in the log, and let its batch take it (R495, R496). The number of copy frames that must be
acknowledged before the work's `MIRROR`. -/
def State.writeLeaf (s : State) (p : Nat) (owner : Owner) (l : LeafOf) : Nat × State :=
  match (s.part p).log with
  | none => (0, s)
  | some cfg =>
    let b := s.leafBytes p l
    let i := (s.part p).leafIndex
    let a := cfg.base + 128 * (i % cfg.size)
    let s := s.nearWrite a b
    let (n, s) := s.sendCopies owner a b l.hdr.tc.toNat p 0 0 0
    let fl := s.leafFlags p l
    let bf := (if fl.testBit 1 then 1 else 0) + (if fl.testBit 0 then 2 else 0)
    let s := s.modPart p (fun q =>
      let old : Batch := q.batch.getD { first := i, since := s.now, leaves := [], flags := 0 }
      { q with leafIndex := i + 1, reserved := q.reserved - 1, meter := q.meter.modify 8 (· + 1)
               batch := some { old with leaves := old.leaves ++ [b], flags := old.flags ||| bf } })
    let final := !s.locked p && (s.part p).reserved == 0
    let s := if final || s.cfg.hoop.batchLeaves ≤ (match (s.part p).batch with | some x => x.leaves.length | none => 0) then s.closeBatch p else s
    (n, if final then s.modPart p (fun q => { q with oldLock := none }) else s)

/-- Write the leaf of work done again after failover (R498): no leaf where no place is free. -/
def State.writeLeafAgain (s : State) (p : Nat) (owner : Owner) (l : LeafOf) : Nat × State :=
  match (s.part p).lock with
  | none => (0, s)
  | some cfg =>
    if s.freePlaces p cfg = 0 then (0, s.logFull p)
    else (s.modPart p (fun q => { q with reserved := q.reserved + 1 })).writeLeaf p owner { l with again := true }

/-- A copy of the partner's leaf has been written into this device's copy of a mirrored log (R498). -/
def State.noteLeafCopy (s : State) (o n : Nat) : State :=
  s.each (List.range 16) (fun s p =>
    match (s.part p).lock with
    | some l =>
      if n = 128 && l.base ≤ o && o < l.base + 128 * l.size && 0 < l.size then
        let signed := leNat (s.nearRead (l.consumer + 8) 8).1
        let k := (o - l.base) / 128
        let d := (k + l.size - signed % l.size) % l.size
        s.modPart p (fun q => { q with logTail := max q.logTail (signed + d + 1) })
      else s
    | none => s)

/-- The survivor signs a custody batch over the failed member's leaves in its copy of the log, and continues the index
(R498). -/
def State.custody (s : State) : State :=
  s.each (List.range 16) (fun s p =>
    match (s.part p).lock with
    | some l =>
      if (s.mirrorAt l.base).isNone then s
      else
        let signed := leNat (s.nearRead (l.consumer + 8) 8).1
        let tail := (s.part p).logTail
        if tail ≤ signed then s
        else
          let leaves := (List.range (tail - signed)).map (fun k => (s.nearRead (l.base + 128 * ((signed + k) % l.size)) 128).1)
          let solo := leaves.any (fun b => (leAt b 2 1).testBit 1)
          let consent := leaves.any (fun b => (leAt b 2 1).testBit 0)
          let s := s.signBatch p signed leaves (4 + (if solo then 1 else 0) + (if consent then 2 else 0))
          let s := s.modPart p (fun q => { q with leafIndex := max q.leafIndex tail, signedIndex := max q.signedIndex tail })
          (s.writeSigned p).event 0x1104 toFabric (some p) (some p) (.resource 5 p [signed, tail - signed])
    | none => s)

end Sys2Proof.Machine
end

