-- ==== Sys2Proof/Machine/Translate.lean ====
section
/-! DEFINITION. Pointers and translation (R64 to R66, R119 to R129), reads of published views and the guard on writes to
them (R482, R483), and the frame-sized pieces of a far range (R375, R376, R378). -/

namespace Sys2Proof.Machine

/-! ## Runs, windows and pointers -/

/-- The page size of a size code (R120). -/
def pageSize (code : Nat) : Nat := match code with | 1 => 0x10000 | 2 => 0x200000 | 3 => 0x40000000 | _ => 0

/-- The bytes a run covers. -/
def Run.len (r : Run) : Nat := pageSize r.size * r.count

/-- The run of a partition that holds a virtual address (R121, R126). -/
def State.runAt (s : State) (p a : Nat) : Option Run :=
  s.tabs.runs.find? (fun r => !r.removing && r.part = p && r.virtBase ≤ a && a < r.virtBase + r.len)

/-- The run admits the access (R126). -/
def Run.admits (r : Run) (write : Bool) : Bool := if write then r.wr else r.rd

/-- Translate a virtual range, one part for each run it meets (R126, R127): none on a translation fault. -/
def State.translate (s : State) (p : Nat) (write : Bool) : Nat → Nat → Nat → Option (List (Nat × Nat))
  | 0, _, n => if n = 0 then some [] else none
  | fuel + 1, a, n =>
    if n = 0 then some []
    else match s.runAt p a with
      | none => none
      | some r =>
        if !r.admits write then none
        else
          let m := min n (r.virtBase + r.len - a)
          (s.translate p write fuel (a + m) (n - m)).map (fun l => (r.globalBase + (a - r.virtBase), m) :: l)

/-- Convert a host-window pointer of a master (R66). -/
def State.hostWindow (s : State) (n : Node) (c : Cid) (a len : Nat) : Option Nat :=
  match s.context n c with
  | none => none
  | some x => (x.windows.find? (fun w => w.hostBase ≤ a ∧ a + len - 1 ≤ w.hostLimit)).map (fun w => w.globalBase + (a - w.hostBase))

/-- What resolving a pointer came to. -/
inductive Resolved where
  | ok (parts : List (Nat × Nat))
  | windowMiss
  | xlateFault
  deriving DecidableEq, Repr

/-- Resolve a descriptor pointer with its extent to global addresses (R129). -/
def State.resolve (s : State) (p : Nat) (n : Node) (c : Cid) (form a len : Nat) (write : Bool) : Resolved :=
  if len = 0 then .ok []
  else match form with
    | 0 => .ok [(a, len)]
    | 1 => match s.hostWindow n c a len with
      | some g => .ok [(g, len)]
      | none => .windowMiss
    | _ => match s.translate p write (len / 0x10000 + 2) a len with
      | some l => .ok l
      | none => .xlateFault

/-- The pointer's unused high bits are zero (R119, R317). -/
def pointerOk (form a : Nat) : Bool := match form with | 0 => true | 1 => a < 2 ^ 48 | 2 => a < 2 ^ 52 | _ => false

/-- A virtual address that no run serves, or not with this right (R126, R145). -/
def State.xlateFault (s : State) (h : Header) (p : Nat) : State := s.event 0x0403 toFabric (some p) (some p) (.request h .denied [])

/-- The node of a global address, and its offset there (R62). -/
def nodeOf (g : Nat) : Nat := g / 2 ^ 48
/-- The offset of a global address. -/
def offOf (g : Nat) : Nat := g % 2 ^ 48
/-- The global address lies on this device. -/
def State.isOwn (s : State) (g : Nat) : Bool := nodeOf g == s.tabs.node.toNat

/-! ## Published ranges (R481 to R484) -/

/-- The offset in the buffer of a version that serves a view offset (R482). -/
def Published.inBuffer (p : Published) (version o : Nat) : Nat := p.area + version % p.buffers * p.length + (o - p.view)

/-- The published range whose view a range touches. -/
def State.viewTouched (s : State) (o n : Nat) : Option Published := s.tabs.published.find? (fun p => overlaps o n p.view p.length)

/-- A range touches a view without lying wholly inside it (R482). -/
def State.viewStraddled (s : State) (o n : Nat) : Bool :=
  match s.viewTouched o n with
  | some p => !within o n p.view p.length
  | none => false

/-- A write is refused with `DENIED`: it touches a view, a version word, or a buffer that is not the open staging buffer. -/
def State.writeBarred (s : State) (o n : Nat) : Bool :=
  s.tabs.published.any (fun p =>
    overlaps o n p.view p.length || overlaps o n p.word 8 ||
    (List.range p.buffers).any (fun i => overlaps o n (p.area + i * p.length) p.length &&
      !(i == (p.current + 1) % p.buffers && p.stagingOpen)))

/-- A tagged reader is still reading some of a range of a staging buffer (R483): a running operator, or a mover channel
whose source was tagged with the version that the buffer held. -/
def State.stagingHeld (s : State) (o n : Nat) : Bool :=
  s.tabs.published.any (fun p => overlaps o n p.area (p.buffers * p.length) &&
    (s.eng.jobs.any (fun j => j.running && j.reads.any (fun r => overlaps o n r.1 r.2)) ||
     s.chans.any (fun c => match c.tag with
      | some (id, v) => id == p.id && c.active.isSome && !c.issued && overlaps o n (p.area + v % p.buffers * p.length) p.length
      | none => false)))

/-! ## Frame-sized pieces of a far range -/

/-- The data units that cover a range, as start and end (R360): whole blocks in a Sumac range, whole lines elsewhere. -/
def State.coverOf (s : State) (o n : Nat) : Nat × Nat :=
  match s.sumacAt o with
  | some r =>
    let b := max 1 (blockSize r.profile)
    (r.base + (o - r.base) / b * b, r.base + cdiv (o + n - r.base) b * b)
  | none => (o / 128 * 128, cdiv (o + n) 128 * 128)

/-- How many bytes from an offset one tray frame can serve: to the sector's end, or 4,096 bytes of whole blocks. -/
def State.farLimit (s : State) (o : Nat) : Nat :=
  match s.sumacAt o with
  | some r =>
    let b := max 1 (blockSize r.profile)
    r.base + ((o - r.base) / b + 4096 / b) * b - o
  | none => 4096 - o % 4096

/-- A far range cut into parts that one tray frame each can serve. -/
def State.farParts (s : State) : Nat → Nat → Nat → List (Nat × Nat)
  | 0, _, _ => []
  | fuel + 1, o, n => if n = 0 then [] else
    let m := min n (s.farLimit o)
    (o, m) :: s.farParts fuel (o + m) (n - m)

end Sys2Proof.Machine
end

