-- ==== Sys2Proof/Machine/Movers.lean ====
section
/-! DEFINITION. Rim mover channels (chapter 15): doorbells, descriptors, pieces, pacing, completion records, retry and halt.
The meanings of the mover rows that carry no frame stand at the end; the doorbell rows stand with `STORE`. -/

namespace Sys2Proof.Machine

/-! ## Descriptors (R423 to R425) -/

/-- A mover descriptor's fields. -/
structure MDesc where
  cls : Nat
  flags : Nat
  sform : Nat
  dform : Nat
  rtc : Nat
  wtc : Nat
  stream : Nat
  src : Nat
  dst : Nat
  sLine : Nat
  sCount : Nat
  sStride : Nat
  dLine : Nat
  dCount : Nat
  dStride : Nat
  tag : Nat

/-- The fields of 64 descriptor bytes. -/
def MDesc.of (b : Bytes) : MDesc :=
  { cls := leAt b 0 1, flags := leAt b 1 1, sform := leAt b 2 1 % 4, dform := leAt b 2 1 / 4 % 4, rtc := leAt b 3 1 % 8,
    wtc := leAt b 3 1 / 16 % 8, stream := leAt b 4 1, src := leAt b 8 8, dst := leAt b 16 8, sLine := leAt b 24 4,
    sCount := leAt b 28 4, sStride := leAt b 32 6, dLine := leAt b 40 4, dCount := leAt b 44 4, dStride := leAt b 48 6,
    tag := leAt b 56 4 }

/-- Flag `BAR`. -/
def MDesc.bar (d : MDesc) : Bool := d.flags.testBit 0
/-- Flag `SPAN`, in effect only with a stride of at least the line length (R428). -/
def MDesc.span (d : MDesc) : Bool := d.flags.testBit 1 && d.sLine ≤ d.sStride
/-- Flag `SFIX`. -/
def MDesc.sfix (d : MDesc) : Bool := d.flags.testBit 2
/-- Flag `DFIX`. -/
def MDesc.dfix (d : MDesc) : Bool := d.flags.testBit 3

/-- Bytes transferred in all. -/
def MDesc.total (d : MDesc) : Nat := if d.cls = 1 then d.sLine else d.sLine * d.sCount
/-- The source line of the pattern: 8 bytes on a fixed side. -/
def MDesc.sl (d : MDesc) : Nat := if d.cls = 1 then (if d.sfix then 8 else max 1 d.sLine) else max 1 d.sLine
/-- The destination line of the pattern. -/
def MDesc.dl (d : MDesc) : Nat := if d.cls = 1 then (if d.dfix then 8 else max 1 d.sLine) else max 1 d.dLine
/-- The source pointer of transfer offset `i` (R425). -/
def MDesc.srcAt (d : MDesc) (i : Nat) : Nat := d.src + i / d.sl * (if d.cls = 1 then 0 else d.sStride) + i % d.sl
/-- The destination pointer of transfer offset `i` (R425). -/
def MDesc.dstAt (d : MDesc) (i : Nat) : Nat := d.dst + i / d.dl * (if d.cls = 1 then 0 else d.dStride) + i % d.dl
/-- The length of the source envelope (R424), of a transfer that is not empty. -/
def MDesc.sEnv (d : MDesc) : Nat := if d.cls = 1 then (if d.sfix then 8 else d.sLine) else (d.sCount - 1) * d.sStride + d.sLine
/-- The length of the destination envelope. -/
def MDesc.dEnv (d : MDesc) : Nat := if d.cls = 1 then (if d.dfix then 8 else d.sLine) else (d.dCount - 1) * d.dStride + d.dLine

/-- The binding of a channel (R420). -/
def State.bindingOf (s : State) (ch : Nat) : Option Binding := s.tabs.bindings.find? (fun b => 64 * b.die + b.ch = ch)

/-- The mapped parts of an envelope, in global addresses; a part of it that no run maps is left out. -/
def State.envParts (s : State) (p : Nat) : Nat → Nat → Nat → List (Nat × Nat)
  | 0, _, _ => []
  | fuel + 1, a, n =>
    if n = 0 then []
    else match s.runAt p a with
      | some r => let m := min n (r.virtBase + r.len - a)
        (r.globalBase + (a - r.virtBase), m) :: s.envParts p fuel (a + m) (n - m)
      | none => match (s.tabs.runs.filter (fun r => r.part = p && a < r.virtBase && r.virtBase < a + n)).map (·.virtBase) with
        | [] => []
        | l => let v := least l
          s.envParts p fuel v (a + n - v)

/-- An envelope in global addresses; none where its host window misses. -/
def State.envelope (s : State) (b : Binding) (form a n : Nat) : Option (List (Nat × Nat)) :=
  match form with
  | 0 => some [(a, n)]
  | 1 => (s.hostWindow b.posterNode b.posterCid a n).map (fun g => [(g, n)])
  | _ => some (s.envParts b.part (s.tabs.runs.length + 1) a n)

/-- The envelope lies within one node's offset space (R424). -/
def oneNode (l : List (Nat × Nat)) : Bool :=
  match l with
  | [] => true
  | x :: _ => l.all (fun y => nodeOf y.1 = nodeOf x.1 ∧ nodeOf (y.1 + y.2 - 1) = nodeOf x.1)

/-- The check of a descriptor on a channel (R423, R424): the status and halt cause that refuse it. -/
def State.checkDesc (s : State) (bd : Binding) (raw : Bytes) : Option (Status × Nat) :=
  let d := MDesc.of raw
  let fail := some (Status.format, 4)
  let z := fun off n => leAt raw off n = 0
  if 3 ≤ d.cls then some (.unsupported, 4)
  else if d.cls ≠ (if bd.ch < 8 then 1 else 2) then fail
  else if 0x10 ≤ d.flags || (d.cls = 2 && (d.sfix || d.dfix)) || (d.cls = 1 && d.flags.testBit 1) then fail
  else if 16 ≤ leAt raw 2 1 || d.sform = 3 || d.dform = 3 || !([2, 4, 6].contains d.rtc) || !([2, 5, 7].contains d.wtc) ||
      128 ≤ leAt raw 3 1 || (0x40 ≤ d.stream && d.stream < 0x80) then fail
  else if !(z 6 2 && z 38 2 && z 54 2 && z 60 4) then fail
  else if d.cls = 1 && !(d.sLine ≤ 65536 && d.sLine % 8 = 0 && z 28 4 && z 32 6 && z 40 4 && z 44 4 && z 48 6 &&
      d.src % 8 = 0 && d.dst % 8 = 0) then fail
  else if d.cls = 2 && !(1 ≤ d.sLine && d.sLine ≤ 2 ^ 24 && d.sCount ≤ 2 ^ 24 && 1 ≤ d.dLine && d.dLine ≤ 2 ^ 24 &&
      d.dCount ≤ 2 ^ 24 && d.sLine * d.sCount = d.dLine * d.dCount) then fail
  else if !(pointerOk d.sform d.src && pointerOk d.dform d.dst) then fail
  else if d.total = 0 then none
  else if (d.sform = 2 && 2 ^ 52 < d.src + d.sEnv) || (d.dform = 2 && 2 ^ 52 < d.dst + d.dEnv) then fail
  else match s.envelope bd d.sform d.src d.sEnv, s.envelope bd d.dform d.dst d.dEnv with
    | some a, some b =>
      if !(oneNode a && oneNode b) || a.any (fun x => b.any (fun y => overlaps x.1 x.2 y.1 y.2)) then fail else none
    | _, _ => some (.denied, 3)

/-! ## Records and halts (R434, R436, R437, R443) -/

/-- The frames of a channel that are not yet answered. -/
def State.chanOuts (s : State) (ch : Nat) : List OutFrame :=
  s.jrn.outs.filter (fun o => match o.owner with | .mover c .. => c == ch | .moverMerge c .. => c == ch | _ => false)

/-- Unanswered writes of a channel's descriptor. -/
def State.chanWrites (s : State) (ch desc : Nat) : List OutFrame :=
  s.jrn.outs.filter (fun o => match o.owner with
    | .mover c w d _ _ => c == ch && w && d == desc
    | .moverMerge c d _ _ _ => c == ch && d == desc
    | _ => false)

/-- Unanswered reads of a channel. -/
def State.chanReads (s : State) (ch : Nat) : Bool :=
  s.jrn.outs.any (fun o => match o.owner with | .mover c w _ _ _ => c == ch && !w | _ => false)

/-- The header of a channel's own access, for what an event names. -/
def State.moverHeader (s : State) (b : Binding) (write : Bool) (o n : Nat) : Header :=
  s.ownHeader (if write then 2 else 1) (if write then 5 else 4) 0 s.tabs.node 0 b.cid 0 0 n 1 o false

/-- A local access of a channel is checked at its home point (R128): the refusal, if any. -/
def State.moverCheck (s : State) (b : Binding) (write : Bool) (o n : Nat) : Option Status :=
  match s.accessCheck s.tabs.node b.cid o n (if write then .wr else .rd) with
  | .error st => some st
  | .ok _ => if write then (if s.writeBarred o n then some .denied else none) else (if s.viewStraddled o n then some .format else none)

/-- Destination lines wholly written: those before the first byte whose write is not yet issued or not answered. -/
def State.linesDone (s : State) (ch : Nat) (m : MovDesc) : Nat :=
  let d := MDesc.of m.bytes
  let first := (s.chanWrites ch m.index).foldl (fun a o => match o.owner with
    | .mover _ _ _ off _ | .moverMerge _ _ off _ _ => min a off
    | _ => a) (s.chan ch).wrote
  if d.cls = 1 then 0 else first / d.dl

/-- Write the completion record of a descriptor (R434): none where the completion area refuses it. -/
def State.writeRecord (s : State) (b : Binding) (ch : Nat) (m : MovDesc) (st : Status) (flags failed : Nat) : Option State :=
  let a := b.completion + 32 * (m.index % 2 ^ b.log2)
  if (s.moverCheck b true a 32).isSome then none
  else
    let r := natLe 4 (MDesc.of m.bytes).tag ++ natLe 4 m.index ++ [st.code, BitVec.ofNat 8 flags] ++ zeros 2 ++
      natLe 4 (s.linesDone ch m) ++ natLe 4 failed ++ zeros 12
    let s := s.nearWrite a r
    some (s.sendCopies .fill a r 5 b.part 0 0 0).2

/-- Free a channel (R440): unbound, and the record that asked for it acknowledged. -/
def State.unbindChan (s : State) (ch : Nat) : State :=
  let s := s.modTabs (fun t => { t with bindings := t.bindings.filter (fun b => 64 * b.die + b.ch ≠ ch) })
  (s.modChan ch (fun _ => {})).unwait (.channel ch)

/-- Halt a channel (R437); one that a record unbinds is then free (R440). `failed` is the index of the descriptor to which the failure belongs. -/
def State.haltChan (s : State) (ch cause : Nat) (st : Status) (failed : Option Nat) : State :=
  match s.bindingOf ch with
  | none => s
  | some b =>
    let c := s.chan ch
    let s' := match c.active with
      | some m =>
        let late := match failed with | some f => decide (f ≠ m.index) | none => false
        let fl := 1 + (if late then 4 else 0)
        (s.writeRecord b ch m st fl (if late then failed.getD 0 else 0)).getD s
      | none => s
    let s' := s'.each (s'.chanOuts ch) (fun s o => s.fillSeq o false)
    let idx := match c.active with | some m => m.index | none => c.consumer
    let tag := match c.active with | some m => (MDesc.of m.bytes).tag | none => 0
    let s' := s'.modChan ch (fun x => { x with
      state := 3, cause := cause, halted := true, active := none, shadow := none, staged := [], fill := 0, paused := false,
      barrier := false, retries := 0, tag := none
      consumer := match c.active with | some m => (m.index + 1) % 2 ^ 32 | none => c.consumer })
    let s' := s'.eventLimited 0x0F01 [ch] toFabric (some b.part) (some b.part) (.resource 8 ch [cause + 256 * st.code.toNat, idx, tag])
    if c.unbinding then s'.unbindChan ch else s'

/-! ## Pieces (R427, R428) -/

/-- The bytes of a pointer range that one run or window serves from its start, and their global address. -/
def State.moverMap (s : State) (b : Binding) (form a n : Nat) (write : Bool) : Option (Nat × Nat) :=
  match form with
  | 0 => some (a, n)
  | 1 => (s.hostWindow b.posterNode b.posterCid a n).map (·, n)
  | _ => match s.runAt b.part a with
    | some r => if r.admits write then some (r.globalBase + (a - r.virtBase), min n (r.virtBase + r.len - a)) else none
    | none => none

/-- The kept bytes that one spanning read from transfer offset `i` brings (R428): up to the source's 4 KiB boundary. -/
def MDesc.spanFrom (d : MDesc) (i : Nat) : Nat :=
  let a := d.srcAt i
  let stop := a / 4096 * 4096 + 4096
  let first := min (d.sl - i % d.sl) (stop - a)
  let j := i + first
  if j % d.sl ≠ 0 then min first (d.total - i)
  else
    let b := d.srcAt j
    if stop ≤ b || d.sStride = 0 then min first (d.total - i)
    else
      let whole := (stop - b) / d.sStride
      let rest := min d.sl ((stop - b) - whole * d.sStride)
      min (first + whole * d.sl + rest) (d.total - i)

/-- The source range that a read from transfer offset `i` of `n` kept bytes covers, gaps included. -/
def MDesc.srcSpan (d : MDesc) (i n : Nat) : Nat := if n = 0 then 0 else d.srcAt (i + n - 1) + 1 - d.srcAt i

/-- The kept bytes out of the bytes read. -/
def MDesc.keep (d : MDesc) (i n : Nat) (bs : Bytes) : Bytes :=
  (List.range n).map (fun k => bs.getD (d.srcAt (i + k) - d.srcAt i) 0)

/-- The bytes of the next read from transfer offset `i` (R427): pattern lines, the destination's 4 KiB boundary, 4,096. -/
def MDesc.piece (d : MDesc) (i : Nat) : Nat :=
  if d.span then d.spanFrom i
  else min (min (d.total - i) (d.sl - i % d.sl)) (min (d.dl - i % d.dl) (4096 - d.dstAt i % 4096))

/-- Sequences open toward a destination on a stream (R82, R429). -/
def State.openToward (s : State) (n : Node) (t : Stream) : Nat := (s.jrn.outs.filter (fun o => o.toward = n ∧ o.hdr.stream = t)).length

/-- The mover arbiter of the channel's die is frozen (R213). -/
def State.moverFrozen (s : State) (ch : Nat) : Bool := (s.arb (65 + ch / 64)).frozen

/-- Add data read to the staged data. -/
def Channel.stage (c : Channel) (off : Nat) (bs : Bytes) : Channel := { c with staged := c.staged ++ [(off, bs)] }

/-- What one attempt at the channel's next piece did. -/
inductive Pump where
  /-- nothing could move. -/
  | idle (s : State)
  | moved (s : State)

/-- Write the staged data at the transfer's write position: one piece. -/
def State.pumpWrite (s : State) (b : Binding) (ch : Nat) (m : MovDesc) (bs : Bytes) : Pump :=
  let d := MDesc.of m.bytes
  let c := s.chan ch
  let i := c.wrote
  let n := min (min bs.length (d.dl - i % d.dl)) (4096 - d.dstAt i % 4096)
  match s.moverMap b d.dform (d.dstAt i) n true with
  | none => .moved ((s.xlateFault (s.moverHeader b true (d.dstAt i % 2 ^ 48) n) b.part).haltChan ch 3 .denied none)
  | some (g, n) =>
    let o := offOf g
    let own := s.isOwn g
    let n := if own && inFar o n then min n (s.farLimit o) else n
    let part := bs.take n
    let took := fun (s : State) => s.modChan ch (fun x =>
      let l := mapIf (fun (y : Nat × Bytes) => y.1 = i) (fun (y : Nat × Bytes) => (i + n, y.2.drop n)) x.staged
      { x with wrote := i + n, fill := x.fill - n, retries := 0, staged := l.filter (fun y => !y.2.isEmpty) })
    if own then
      match s.moverCheck b true o n with
      | some st => .moved ((s.deniedEvent (s.moverHeader b true o n) b.part st).haltChan ch 2 st none)
      | none =>
        if s.moverFrozen ch || s.rangeHeld o n || s.stagingHeld o n then .idle s
        else if inFar o n then
          match s.extentAt o with
          | none => .idle s
          | some e =>
            let (lo, hi) := s.coverOf o n
            if lo = o && hi = o + n then
              let cipher := s.encryptUnits e o part
              let s := s.updateSector e o cipher
              .moved (took (s.sendTray (.mover ch true m.index i n) e 2 d.wtc o n cipher b.part 0 0 0))
            else .moved (took (s.sendTray (.moverMerge ch m.index i o part) e 1 d.rtc lo (hi - lo) [] b.part 0 0 0))
        else
          let s := s.nearWrite o part
          .moved (took (s.sendCopies (.mover ch true m.index i n) o part d.wtc b.part 0 0 0).2)
    else
      let dst : Node := BitVec.ofNat 16 (nodeOf g)
      let st : Stream := BitVec.ofNat 8 d.stream
      if 64 ≤ s.openToward dst st then .idle s
      else
        let (q, s) := s.takeSeq dst st
        let h := s.ownHeader 2 d.wtc st dst q b.cid 0 0 n 1 o false
        .moved (took (s.originate (.mover ch true m.index i n) h part b.part 0))

/-- Issue the channel's next read. -/
def State.pumpRead (s : State) (b : Binding) (ch : Nat) (m : MovDesc) : Pump :=
  let d := MDesc.of m.bytes
  let c := s.chan ch
  let i := c.readTo
  let n0 := d.piece i
  match s.moverMap b d.sform (d.srcAt i) (d.srcSpan i n0) false with
  | none => .moved ((s.xlateFault (s.moverHeader b false (d.srcAt i % 2 ^ 48) n0) b.part).haltChan ch 3 .denied none)
  | some (g, r) =>
    let o := offOf g
    let own := s.isOwn g
    let r := if own && inFar o r then min r (s.farLimit o) else r
    -- kept bytes whose source lies in the part that can be read at once
    let n := ((List.range n0).takeWhile (fun k => d.srcAt (i + k) - d.srcAt i < r)).length
    let r := d.srcSpan i n
    let took := fun (s : State) => s.modChan ch (fun x => { x with readTo := i + n, fill := x.fill + n, issued := d.total ≤ i + n })
    if own then
      match s.moverCheck b false o r with
      | some st => .moved ((s.deniedEvent (s.moverHeader b false o r) b.part st).haltChan ch 2 st none)
      | none =>
        if s.moverFrozen ch || s.rangeHeld o r then .idle s
        else if inFar o r then
          match s.extentAt o with
          | none => .idle s
          | some e =>
            match (if e.mode = 2 then s.cachedPlain e o r else none) with
            | some bs => .moved ((took s).modChan ch (·.stage i (d.keep i n bs)))
            | none =>
              let (lo, hi) := s.coverOf o r
              .moved (took (s.sendTray (.mover ch false m.index i n) e 1 d.rtc lo (hi - lo) [] b.part 0 0 0))
        else
          match s.viewOf o r with
          | some v =>
            let ver := match c.tag with | some (id, x) => if id = v.id then x else v.current | none => v.current
            if v.waiting && ver = v.current then .idle s
            else
              let (bs, s) := s.nearRead (v.inBuffer ver o) r
              .moved (((took s).modChan ch (fun x => { x with tag := some (v.id, ver) })).modChan ch (·.stage i (d.keep i n bs)))
          | none =>
            let (bs, s) := s.nearRead o r
            .moved ((took s).modChan ch (·.stage i (d.keep i n bs)))
    else
      let dst : Node := BitVec.ofNat 16 (nodeOf g)
      let st : Stream := BitVec.ofNat 8 d.stream
      if 64 ≤ s.openToward dst st then .idle s
      else
        let (q, s) := s.takeSeq dst st
        let h := s.ownHeader 1 d.rtc st dst q b.cid 0 0 r 1 o false
        .moved (took (s.originate (.mover ch false m.index i n) h [] b.part 0))

/-- The channel's next piece: staged data is written first, in destination order; else a read is issued (R431). -/
def State.pumpOnce (s : State) (ch : Nat) : Pump :=
  let c := s.chan ch
  match s.bindingOf ch, c.active with
  | some b, some m =>
    if c.state ≠ 2 || m.bad.isSome then .idle s
    else if s.hlt.fence ≠ 0 && c.wrote < (MDesc.of m.bytes).total then .moved (s.haltChan ch 2 .fenced none)
    else match c.staged.find? (fun x => x.1 = c.wrote) with
      | some x => match s.pumpWrite b ch m x.2 with
        | .moved s => .moved s
        | .idle s => .idle s
      | none =>
        if (MDesc.of m.bytes).total ≤ c.readTo || c.paused then .idle s
        else if s.cfg.unit.paceHigh * 2048 ≤ c.fill then .idle (s.modChan ch (fun x => { x with paused := true }))
        else s.pumpRead b ch m
  | _, _ => .idle s

/-- Move pieces until none can move. -/
def State.pumpLoop (ch : Nat) : Nat → State → State
  | 0, s => s
  | fuel + 1, s => match s.pumpOnce ch with
    | .moved s => State.pumpLoop ch fuel s
    | .idle s => s

/-- Every write of the active descriptor has been issued. -/
def State.movIssued (s : State) (ch : Nat) (m : MovDesc) : Bool :=
  let c := s.chan ch
  (MDesc.of m.bytes).total ≤ c.wrote && !s.chanReads ch &&
    !(s.chanOuts ch).any (fun o => match o.owner with | .moverMerge _ d .. => d == m.index | _ => false)

/-- Run a channel: move what can move, and show whether it waits for write arrival. -/
def State.pump (s : State) (ch : Nat) : State :=
  let fuel := match (s.chan ch).active with | some m => 2 * (MDesc.of m.bytes).total + 2 | none => 0
  let s := State.pumpLoop ch fuel s
  match (s.chan ch).active with
  | some m => s.modChan ch (fun x => { x with
      barrier := (MDesc.of m.bytes).bar && s.movIssued ch m && !(s.chanWrites ch m.index).isEmpty })
  | none => s

/-! ## Register sets (R421, R432) -/

/-- Read the next ring slot into the shadow set and check it. -/
def State.fetchShadow (s : State) (ch : Nat) : State :=
  match s.bindingOf ch with
  | none => s
  | some b =>
    let c := s.chan ch
    let next := match c.active with | some m => (m.index + 1) % 2 ^ 32 | none => c.consumer
    if c.shadow.isSome || c.unbinding || s.hoop.standbyDrain || next = c.producer || c.state = 0 || c.state = 3 then s
    else
      let a := b.ring + 64 * (next % 2 ^ b.log2)
      match s.moverCheck b false a 64 with
      | some st => (s.deniedEvent (s.moverHeader b false a 64) b.part st).haltChan ch 7 st none
      | none =>
        let (raw, s) := s.nearRead a 64
        let m : MovDesc := { index := next, bytes := raw, bad := s.checkDesc b raw }
        s.modChan ch (fun x => { x with shadow := some m })

/-- The shadow becomes active (R432); a malformed one halts the channel. -/
def State.activate (s : State) (ch : Nat) : State :=
  let c := s.chan ch
  match c.active, c.shadow with
  | none, some m =>
    if c.state = 3 || c.state = 0 then s
    else
      let s := s.modChan ch (fun x => { x with
        state := 2, active := some m, shadow := none, readTo := 0, wrote := 0, staged := [], fill := 0, paused := false,
        issued := (MDesc.of m.bytes).total = 0, status := .ok, retries := 0, tag := none })
      match m.bad with
      | some (st, cause) => s.haltChan ch cause st none
      | none => (s.pump ch).fetchShadow ch
  | _, _ => s

/-- A doorbell value reaches a channel (R421, R422, R439). -/
def State.doorbell (s : State) (ch v : Nat) : State :=
  let c := s.chan ch
  if c.state = 0 then s
  else
    let s := s.modChan ch (fun x => { x with producer := v % 2 ^ 32 })
    let restart := v.testBit 63 && c.state = 3
    if c.state = 3 && !restart then s
    else
      let s := if restart then s.modChan ch (fun x => { x with state := 1, cause := 0 }) else s
      let entries := match s.bindingOf ch with | some b => 2 ^ b.log2 | none => 0
      if bits v 32 31 ≠ 0 || entries < (v % 2 ^ 32 + 2 ^ 32 - c.consumer) % 2 ^ 32 then s.haltChan ch 5 .format none
      else (s.fetchShadow ch).activate ch

/-- A channel abandons its work: its open sequences are filled and no record is written (R440). -/
def State.abandonChan (s : State) (ch : Nat) : State :=
  let s := s.each (s.chanOuts ch) (fun s o => s.fillSeq o false)
  s.modChan ch (fun x => { x with active := none, shadow := none, staged := [], fill := 0, paused := false, barrier := false, tag := none })

/-- The Rim die of a channel has been reset: it halts with cause RESET and writes no record (R440). -/
def State.resetChan (s : State) (ch : Nat) : State :=
  if (s.chan ch).state = 0 then s
  else
    let s := s.abandonChan ch
    let s := s.modChan ch (fun x => { x with state := 3, cause := 6, halted := true })
    let s := match s.bindingOf ch with
      | some b => s.eventLimited 0x0F01 [ch] toFabric (some b.part) (some b.part) (.resource 8 ch [6, (s.chan ch).consumer, 0])
      | none => s
    if (s.chan ch).unbinding then s.unbindChan ch else s

/-! ## Completion and retry (R433 to R435) -/

/-- The active descriptor is complete (R433). -/
def State.movComplete (s : State) (ch : Nat) (m : MovDesc) : Bool :=
  s.movIssued ch m && (!(MDesc.of m.bytes).bar || (s.chanWrites ch m.index).isEmpty)

/-- Complete the active descriptor (R434). -/
def State.completeDesc (s : State) (ch : Nat) : State :=
  match s.bindingOf ch, (s.chan ch).active with
  | some b, some m =>
    if (s.chan ch).state ≠ 2 || m.bad.isSome || !s.movComplete ch m then s
    else
      let c := s.chan ch
      match s.writeRecord b ch m c.status (if (MDesc.of m.bytes).bar then 2 else 0) 0 with
      | none => s.haltChan ch 7 .denied none
      | some s =>
        let next := (m.index + 1) % 2 ^ 32
        let s := s.modChan ch (fun x => { x with
          consumer := next, active := none, barrier := false, tag := none, retries := 0
          state := if x.shadow.isSome then 2 else 1 })
        if c.unbinding then s.unbindChan ch else s.fetchShadow ch
  | _, _ => s

/-- A bus error of a piece (R435): it is to be retried after 1 µs, or the channel halts. -/
def State.busError (s : State) (ch desc : Nat) (o : OutFrame) (st : Status) : State :=
  if o.attempts ≤ s.cfg.unit.movRetry then
    let s := s.modOut o (fun x => { x with resendAt := some (s.now + ticksPerUs) })
    s.modChan ch (fun x => { x with retries := o.attempts })
  else s.haltChan ch 1 st (some desc)

/-- The descriptor a channel's frame belongs to. -/
def Owner.descOf : Owner → Nat
  | .mover _ _ d _ _ => d
  | .moverMerge _ d _ _ _ => d
  | _ => 0

/-- A retried piece goes again at its sequence, under the current map epoch (R435). -/
def State.retryPiece (s : State) (o : OutFrame) : State :=
  let h := { o.hdr with epoch := s.tabs.mapEpoch }
  let s := s.modOut o (fun x => { x with hdr := h.sealed })
  s.resend { o with hdr := h.sealed }

/-- The pieces of a channel whose retry time has come go again; a frame without an answer within its class deadline is a
bus error (R435). -/
def State.retryChan (s : State) (ch : Nat) : State :=
  let s := s.each (s.chanOuts ch) (fun s o =>
    match o.resendAt with
    | some t => if t ≤ s.now then s.retryPiece o else s
    | none =>
      if s.deadlineTicks o.hdr.tc.toNat ≤ s.now - o.sentAt then
        (if o.attempts ≤ s.cfg.unit.movRetry then (s.modChan ch (fun x => { x with retries := o.attempts })).retryPiece o
         else if (s.chan ch).state = 3 then s else s.haltChan ch 1 .targetLost (some o.owner.descOf))
      else s)
  s.pump ch

/-! ## Answers to a channel's frames -/

/-- A frame of a channel has been acknowledged. -/
def State.moverAck (s : State) (o : OutFrame) (st : Status) (payload : Bytes) : State :=
  let s := s.dropOut o
  match o.owner with
  | .mover ch w desc off n =>
    let s := if st = .deadlineMissed then
        s.modChan ch (fun x => { x with status := if (match x.active with | some m => m.index == desc | none => false) then .deadlineMissed else x.status })
      else s
    if w then s.pump ch
    else match (s.chan ch).active with
      | some m =>
        let d := MDesc.of m.bytes
        let data := match s.trayRange o with
          | some (a, _) =>
            if (0x60 ≤ o.hdr.stream.toNat && o.hdr.stream.toNat < 0x68) then
              match s.extentAt a, s.bindingOf ch with
              | some e, some b => match s.moverMap b d.sform (d.srcAt off) 1 false with
                | some (g, _) => (s.decryptUnits e a payload).drop (offOf g - a)
                | none => payload
              | _, _ => payload
            else payload
          | none => payload
        (s.modChan ch (·.stage off (d.keep off n data))).pump ch
      | none => s
  | .moverMerge ch desc off a bs =>
    match s.extentAt a with
    | some e =>
      let (lo, _) := s.coverOf a bs.length
      let plain := s.decryptUnits e lo payload
      let full := plain.take (a - lo) ++ bs ++ plain.drop (a - lo + bs.length)
      let cipher := s.encryptUnits e lo full
      let s := s.updateSector e lo cipher
      let wtc := match (s.chan ch).active with | some m => (MDesc.of m.bytes).wtc | none => 5
      (s.sendTray (.mover ch true desc off bs.length) e 2 wtc lo full.length cipher (s.partOfOut o) 0 0 0).pump ch
    | none => s
  | _ => s

/-- A frame of a channel has been refused (R435, R436). -/
def State.moverNack (s : State) (o : OutFrame) (st : Status) (settled : Bool) : State :=
  match o.owner with
  | .mover ch .. | .moverMerge ch .. =>
    if settled then (s.dropOut o).haltChan ch 2 st (some o.owner.descOf)
    else s.busError ch o.owner.descOf o st
  | _ => s

/-! ## The meanings of the mover rows without a frame -/

/-- A channel number that exists: 64 on each Rim die (R418). -/
def chanOk (ch : Nat) : Bool := ch < 128

/-- `MOVER_DESCRIPTOR_START` (R432). -/
def execMoverDescriptorStart (t ch : Nat) (s : State) : Host.Outcome State Fault Refusal :=
  if chanOk ch then .next ((s.at t).activate ch) else .fault .noSuchUnit

/-- `MOVER_DESCRIPTOR_COMPLETE` (R434). -/
def execMoverDescriptorComplete (t ch : Nat) (s : State) : Host.Outcome State Fault Refusal :=
  if chanOk ch then .next (((s.at t).pump ch).completeDesc ch) else .fault .noSuchUnit

/-- `MOVER_RETRY_TIMER` (R435). -/
def execMoverRetryTimer (t ch : Nat) (s : State) : Host.Outcome State Fault Refusal :=
  if chanOk ch then .next ((s.at t).retryChan ch) else .fault .noSuchUnit

/-- `MOVER_PACE_RESUME` (R431): reads resume below the low watermark. -/
def State.paceResume (s : State) (ch : Nat) : State :=
  if (s.chan ch).fill < s.cfg.unit.paceLow * 2048 then (s.modChan ch (fun x => { x with paused := false })).pump ch
  else s.pump ch

/-- `MOVER_PACE_RESUME` (R431). -/
def execMoverPaceResume (t ch : Nat) (s : State) : Host.Outcome State Fault Refusal :=
  if chanOk ch then .next ((s.at t).paceResume ch) else .fault .noSuchUnit

end Sys2Proof.Machine
end

