-- ==== Sys2Proof/Machine/Prefetch.lean ====
section
/-! DEFINITION. Prefetch schedules (R386 to R389): issue, landing, pins, stalls and depth. The doorbell row stands with
`STORE`. -/

namespace Sys2Proof.Machine

/-! ## Schedules and instances -/

/-- The schedule of a partition (R386). -/
def State.schedule (s : State) (p : Nat) : Option Schedule := s.tabs.schedules.find? (fun x => x.part = p)

/-- Change the schedule of a partition. -/
def State.modSchedule (s : State) (p : Nat) (f : Schedule → Schedule) : State :=
  s.modTabs (fun t =>
    let l := mapIf (fun (x : Schedule) => x.part = p) f t.schedules
    { t with schedules := l })

/-- Change an instance of a partition's schedule. -/
def State.modInstance (s : State) (p step entry : Nat) (f : PfInstance → PfInstance) : State :=
  s.modSchedule p (fun x =>
    let l := mapIf (fun (i : PfInstance) => i.step = step ∧ i.entry = entry) f x.instances
    { x with instances := l })

/-- The parts of an entry that are fetched one frame each. -/
def State.pfParts (s : State) (e : PfEntry) : List (Nat × Nat) :=
  if e.kind = 1 then (sectorsOf e.source e.length).map (fun o => (o, 4096)) else s.farParts (e.length + 1) e.source e.length

/-- The step at which an instance's pin is released (R387). -/
def releaseAt (e : PfEntry) (step : Nat) : Nat := step - e.need + e.release + 1

/-- Pin the sector of a tray address. -/
def State.pinSector (s : State) (die tray at_ : Nat) : State :=
  s.modMem (fun m =>
    let l := mapIf (fun (x : Sector) => x.tray = tray ∧ x.die = die) (fun x => { x with pins := x.pins ++ [at_] }) m.sectors
    { m with sectors := l })

/-- Release the pins of a partition whose release step has been reached (R387). -/
def State.releasePins (s : State) (p c : Nat) : State :=
  s.modMem (fun m =>
    let l := mapIf (fun (x : Sector) => x.part = p) (fun x => { x with pins := x.pins.filter (fun v => c < v) }) m.sectors
    { m with sectors := l })

/-- Release every pin of a partition. -/
def State.dropPins (s : State) (p : Nat) : State :=
  s.modMem (fun m =>
    let l := mapIf (fun (x : Sector) => x.part = p) (fun x => { x with pins := [] }) m.sectors
    { m with sectors := l })

/-- `RIM_PF_STALL` (R387, R388, R393). -/
def State.pfStallEvent (s : State) (p cause step : Nat) : State :=
  s.eventLimited 0x0D01 [p] toFabric (some p) (some p) (.resource 9 p [cause, step])

/-- An instance refused at a check ends the schedule (R387). -/
def State.endSchedule (s : State) (p : Nat) (st : Status) (step : Nat) : State :=
  (s.modSchedule p (fun x => { x with ended := true })).pfStallEvent p st.code.toNat step

/-- The schedule's master holds the rights that an instance's part needs (R387). -/
def State.pfRights (s : State) (x : Schedule) (e : PfEntry) (o n : Nat) : Option Status :=
  match s.accessCheck x.node x.cid o n .rd with
  | .error st => some st
  | .ok _ =>
    if e.kind = 2 then
      let dst := e.dest + (o - e.source)
      match s.accessCheck x.node x.cid dst n .wr with
      | .error st => some st
      | .ok _ => if s.writeBarred dst n then some .denied else none
    else none

/-- Write a part that a kind-2 instance has read (R387). -/
def State.pfWrite (s : State) (p : Nat) (e : PfEntry) (o : Nat) (bs : Bytes) : State :=
  let dst := e.dest + (o - e.source)
  ((s.nearWrite dst bs).sendCopies .fill dst bs 6 p 0 0 0).2

/-- What issuing one part of an instance came to. -/
inductive PfIssue where
  | issued (s : State)
  | quota
  | ways
  | refused (st : Status)
  | gone

/-- Issue one part of an instance: a sector pinned and, where it is missing, filled, or a part copied. -/
def State.pfIssue (s : State) (x : Schedule) (e : PfEntry) (step idx o n : Nat) : PfIssue :=
  match s.pfRights x e o n with
  | some st => .refused st
  | none =>
    match s.extentAt o with
    | none => .gone
    | some ext =>
      let w := weightOf n
      if e.kind = 1 then
        let tray := ext.trayOf o
        match s.sector ext.home tray with
        | some _ => .issued (s.pinSector ext.home tray (releaseAt e step))
        | none =>
          match s.charge x.part 3 w with
          | none => .quota
          | some s1 => match s1.fillSector (.prefetch x.part step idx o) ext o 6 x.part 0 0 0 with
            | some s2 => .issued (s2.pinSector ext.home tray (releaseAt e step))
            | none => .ways
      else
        match (if ext.mode = 2 then s.cachedPlain ext o n else none) with
        | some bs => .issued (s.pfWrite x.part e o bs)
        | none =>
          match s.charge x.part 3 w with
          | none => .quota
          | some s1 =>
            let (lo, hi) := s.coverOf o n
            .issued (s1.sendTray (.prefetch x.part step idx o) ext 1 6 lo (hi - lo) [] x.part 0 0 0)

/-- Issue what an instance has still to issue, up to the first part that must wait. -/
def State.pfIssueAll (p step idx : Nat) (e : PfEntry) : List (Nat × Nat) → State → State
  | [], s => s.modInstance p step idx (fun i => { i with todo := [], quotaWait := false, waysWait := false })
  | (o, n) :: rest, s =>
    match s.schedule p with
    | none => s
    | some x =>
      if x.ended then s
      else match s.pfIssue x e step idx o n with
      | .issued s => State.pfIssueAll p step idx e rest (s.modInstance p step idx (fun i => { i with todo := rest, quotaWait := false, waysWait := false }))
      | .quota => s.modInstance p step idx (fun i => { i with todo := (o, n) :: rest, quotaWait := true, waysWait := false })
      | .ways => s.modInstance p step idx (fun i => { i with todo := (o, n) :: rest, waysWait := true, quotaWait := false })
      | .refused st => s.endSchedule p st step
      | .gone => s.modInstance p step idx (fun i => { i with lost := true })

/-- Instances of the job steps that come due (R387). -/
def State.pfDue (s : State) (x : Schedule) : List PfInstance :=
  let from_ := max x.issuedTo x.cur + 1
  let upTo := x.cur + (s.part x.part).pfDepth
  (List.range (upTo + 1 - from_)).flatMap (fun k =>
    let n := from_ + k
    (x.entries.mapIdx (fun i e => (i, e))).filterMap (fun p =>
      if n % (max 1 x.period) = p.2.need && 0 < p.2.length then some { step := n, entry := p.1, todo := s.pfParts p.2 } else none))

/-- Issue the instances that are due, in order of job step and entry (R387), and the parts that waited. -/
def State.pfPump (s : State) (p : Nat) : State :=
  match s.schedule p with
  | none => s
  | some x =>
    if x.ended || s.hlt.fence ≠ 0 then s
    else
      let due := s.pfDue x
      let s := s.modSchedule p (fun y => { y with instances := y.instances ++ due, issuedTo := max y.issuedTo (y.cur + (s.part p).pfDepth) })
      s.each (x.instances ++ due) (fun s i =>
        match s.schedule p with
        | some y =>
          match y.entries[i.entry]?, y.instances.find? (fun k => k.step = i.step ∧ k.entry = i.entry) with
          | some e, some k => if k.todo.isEmpty || k.lost then s else State.pfIssueAll p i.step i.entry e k.todo s
          | _, _ => s
        | none => s)

/-- Frames of an instance that are not yet answered. -/
def State.pfFlying (s : State) (p step entry : Nat) : List OutFrame :=
  s.jrn.outs.filter (fun o => match o.owner with | .prefetch q n e _ => q == p && n == step && e == entry | _ => false)

/-- Everything an instance fetches has arrived. -/
def State.pfArrived (s : State) (e : PfEntry) (p : Nat) (i : PfInstance) : Bool :=
  i.todo.isEmpty && !i.lost && (s.pfFlying p i.step i.entry).isEmpty &&
  (e.kind != 1 || (s.pfParts e).all (fun x => match s.extentAt x.1 with
    | some ext => match s.sector ext.home (ext.trayOf x.1) with | some y => !y.filling | none => false
    | none => false))

/-- Some job step in `(a, b]` needs an entry: none has an instance yet (R388). -/
def Schedule.needsBetween (x : Schedule) (a b : Nat) : Bool :=
  let P := max 1 x.period
  x.entries.any (fun e => 0 < e.length &&
    -- the first step above `a` that is congruent to the need step
    (let r := (a + 1) % P
     let first := a + 1 + (e.need + P - r) % P
     decide (first ≤ b)))

/-- What an announced step `n` waits for: nothing, a lost instance, or a cause (R388). -/
inductive StepWait where
  | ready
  | lost
  | wait (cause : Nat)
  deriving DecidableEq, Repr

/-- Judge an announced step (R388): the first instance, by step and entry, that has not landed gives the cause. -/
def State.stepWait (s : State) (x : Schedule) (n : Nat) : StepWait :=
  let open_ := x.instances.filter (fun i => x.cur < i.step && i.step ≤ n && !i.landed)
  if open_.any (·.lost) then .lost
  else match open_ with
    | i :: _ =>
      if i.quotaWait then .wait 4
      else if i.waysWait then .wait 3
      else if (s.pfFlying x.part i.step i.entry).any (fun o => 1 < o.attempts || o.resendAt.isSome) then .wait 5
      else .wait 1
    | [] => if x.needsBetween (max x.issuedTo x.cur) n then .wait 2 else .ready

/-- The current step moves (R387, R388): pins passed are released, instances behind it forgotten, and issue goes on. -/
def State.stepTo (s : State) (p n : Nat) (stalled : Bool) : State :=
  let s := s.modSchedule p (fun x => { x with
    cur := n, instances := x.instances.filter (fun i => n < i.step || (!i.landed && !i.lost))
    quietSteps := if stalled then 0 else x.quietSteps + (n - x.cur) })
  (s.releasePins p n).pfPump p

/-- Count a stall under its cause (R388). -/
def State.countStall (s : State) (p cause step : Nat) : State :=
  let s := if cause ≤ 2 then s.modSchedule p (fun x => { x with hungry := true }) else s
  (s.modPart p (fun q => { q with stalls := q.stalls.modify (cause - 1) (fun x => satAdd max64 x 1),
                                  winStalls := q.winStalls.modify (cause - 1) (· + 1) })).pfStallEvent p cause step

/-! ## The far-tier cache fills (R382) -/

/-- A sector's data has arrived: lines written meanwhile keep the written bytes (R382). A fill whose sector has been
invalidated is discarded (R379). -/
def State.sectorArrived (s : State) (tray : Nat) (payload : Bytes) : State :=
  s.modMem (fun m =>
    let l := mapIf (fun (x : Sector) => x.tray = tray && x.filling)
      (fun x => { x with
        filling := false, written := []
        data := x.written.foldl (fun d w => d.take w.1 ++ w.2 ++ d.drop (w.1 + w.2.length)) payload }) m.sectors
    { m with sectors := l })

/-- A fill has failed: its sector is invalid again. -/
def State.sectorLost (s : State) (tray : Nat) : State :=
  s.modMem (fun m => { m with sectors := m.sectors.filter (fun x => !(x.tray = tray && x.filling)) })

/-- The tray global address a frame addresses. -/
def OutFrame.global (o : OutFrame) : Nat := o.hdr.dst.toNat * 2 ^ 48 + o.hdr.offset.toNat

/-- A prefetch frame has been acknowledged. -/
def State.pfAck (s : State) (o : OutFrame) (p step entry at_ : Nat) (payload : Bytes) : State :=
  let s := s.dropOut o
  match (s.schedule p).bind (fun x => x.entries[entry]?) with
  | none => s.sectorArrived o.global payload
  | some e =>
    if e.kind = 1 then s.sectorArrived o.global payload
    else
      let n := match (s.pfParts e).find? (fun x => x.1 = at_) with | some x => x.2 | none => 0
      match s.extentAt at_ with
      | none => s
      | some ext =>
        let (lo, _) := s.coverOf at_ n
        let plain := s.decryptUnits ext lo payload
        let dst := e.dest + (at_ - e.source)
        if s.rangeHeld dst n then s.modInstance p step entry (fun i => { i with todo := (at_, n) :: i.todo })
        else s.pfWrite p e at_ (slice plain (at_ - lo) n)

/-- An instance is lost (R388): a waiting doorbell is refused when it is next judged. -/
def State.pfLost (s : State) (o : OutFrame) (p step entry : Nat) : State :=
  ((s.dropOut o).sectorLost o.global).modInstance p step entry (fun i => { i with lost := true })

/-- Clove changes a schedule's depth by one within its bounds (R389), and logs it. -/
def State.pfDepthAdapt (s : State) (p : Nat) (up : Bool) (cause : Nat) : State :=
  let old := (s.part p).pfDepth
  let c := s.cfg.rim
  let new := if up then min c.pfDepthMax (old + 1) else max c.pfDepthMin (old - 1)
  let ways := ((List.range 16).filter (fun w => (nth c.ftcWays p).testBit w)).length
  let pinnedWays := (s.mem.sectors.filter (fun x => x.part = p && x.pinned)).length
  let held := ways * s.ftcSets
  match s.schedule p with
  | none => s
  | some x =>
    let rested := match x.lastAdapt with | some t => decide (t + ticksPerMs ≤ s.now) | none => true
    let may := if up then x.hungry else decide (256 ≤ x.quietSteps) && decide (3 * held < 4 * pinnedWays)
    if new = old || !may || !rested then s
    else
      let s := s.modPart p (fun q => { q with pfDepth := new })
      let s := s.modSchedule p (fun x => { x with
        lastAdapt := some s.now, hungry := x.hungry && !up, quietSteps := if up then x.quietSteps else 0 })
      (s.cloveLog 3 (some p) p old new cause).pfPump p

/-- `CLOVE_PF_DEPTH_ADAPT` (R389). -/
def execClovePfDepthAdapt (t part : Nat) (up : Bool) (cause : Nat) (s : State) : Host.Outcome State Fault Refusal :=
  if part < 16 then .next ((s.at t).pfDepthAdapt part up cause) else .fault .noSuchUnit

end Sys2Proof.Machine
end

