-- ==== Sys2Proof/Machine/Resync.lean ====
section
/-! DEFINITION. The journal region's offsets (R89, R369) and the frames of a partner resync as the serving device sends them
and the restarting device receives them (R572, R584 to R586). -/

namespace Sys2Proof.Machine

/-! ## The journal region (R89, R369) -/

/-- The Rim die and the byte of its 8 GiB that a near-tier offset of the journal region names. -/
def State.journalAt (s : State) (o : Nat) : Option (Nat × Nat) :=
  let (k, a) := stackOf s.cfg.rim.groupMode o
  if o < nearSize && 94 * gib ≤ a && a < 96 * gib then
    some (k / 4, (a - 94 * gib) / 1024 * 4096 + k % 4 * 1024 + a % 1024)
  else none

/-- The near-tier offset of byte `q` of Rim die `d`'s part of the journal region. -/
def State.journalOffset (s : State) (d q : Nat) : Nat :=
  let k := 4 * d + q / 1024 % 4
  let a := 10 * gib + q / 4096 * 1024 + q % 1024
  match nth s.cfg.rim.groupMode (14 + d) with
  | 2 => (56 + 4 * d) * (12 * gib) + a / 1024 * 4096 + k % 4 * 1024 + a % 1024
  | 3 => 672 * gib + a / 1024 * 8192 + k * 1024 + a % 1024
  | _ => (56 + k) * (12 * gib) + a

/-- The size of a stream table (R89). -/
def tableBytes : Nat := 0x8000000
/-- The size of an entry ring (R89). -/
def ringBytes : Nat := 0xF8000000

/-- The 16 bytes of a stream record (R74). -/
def StreamRec.bytes (r : StreamRec) : Bytes :=
  natLe 2 r.src.toNat ++ [r.stream, if r.solo then 3 else 1] ++ natLe 4 r.hwm.toNat ++ natLe 4 r.next.toNat ++ natLe 4 r.lastIndex.toNat

/-- The stream record of 16 bytes; none where it is not in use. -/
def StreamRec.ofBytes (b : Bytes) : Option StreamRec :=
  if (leAt b 3 1).testBit 0 then
    some { src := BitVec.ofNat 16 (leAt b 0 2), stream := BitVec.ofNat 8 (leAt b 2 1), solo := (leAt b 3 1).testBit 1
           hwm := BitVec.ofNat 32 (leAt b 4 4), next := BitVec.ofNat 32 (leAt b 8 4), lastIndex := BitVec.ofNat 32 (leAt b 12 4) }
  else none

/-- The position of a stream's record in its die's table (R75). -/
def recordPosition (n : Node) (t : Stream) : Nat := n.toNat * 128 + t.toNat / 128 * 64 + t.toNat % 64

/-- A copied record is applied only where it lies ahead, or where the held one is initial (R586). -/
def copyStream (r : StreamRec) (l : List StreamRec) : List StreamRec :=
  match l.find? (fun x => x.src = r.src ∧ x.stream = r.stream) with
  | none => l ++ [r]
  | some x =>
    let d := (r.hwm - x.hwm).toNat
    let first : StreamRec := { src := x.src, stream := x.stream }
    if (1 ≤ d ∧ d < 2 ^ 31) ∨ x = first then mapIf (fun y => y.src = r.src ∧ y.stream = r.stream) (fun _ => r) l else l

/-- Entries in ascending order of index, with one more; an entry of the same index is replaced. -/
def insertEntry (e : JEntry) : List JEntry → List JEntry
  | [] => [e]
  | x :: xs => if x.index < e.index then x :: insertEntry e xs else if x.index = e.index then e :: xs else e :: x :: xs

/-- An entry written at its ring position: it never takes the place of one of a higher index (R97, R586). -/
def ringWrite (e : JEntry) (l : List JEntry) : List JEntry :=
  let here := l.filter (fun x => x.index % ringCapacity = e.index % ringCapacity)
  if here.any (fun x => e.index < x.index) then l
  else insertEntry e (l.filter (fun x => x.index % ringCapacity ≠ e.index % ringCapacity))

/-- The covered index of a MARK (R98). -/
def JEntry.covers (e : JEntry) : Option Nat :=
  if e.state = .mark && e.result ≠ BitVec.allOnes 64 then some e.result.toNat else none

/-- The later of two covered indices. -/
def laterMark (a b : Option Nat) : Option Nat :=
  match a, b with
  | some x, some y => some (max x y)
  | none, y => y
  | x, none => x

/-! ## Resync frames at the restarting device -/

/-- The frame belongs to the resync that runs: from the named partner, on stream 0x7B or a copy of step 6. -/
def State.resyncFrame (s : State) (h : Header) : Bool :=
  s.hlt.resync == 1 && s.tabs.paired && h.src == s.tabs.partner && h.opcode == 2 &&
    (h.stream == 0x7B || (0x68 ≤ h.stream.toNat && h.stream.toNat < 0x70))

/-- Copied bytes of 64 at a byte of a die's journal region: four stream records, or an entry. -/
def State.resyncPut (s : State) (d q : Nat) (b : Bytes) : State :=
  if q < tableBytes then
    s.modJrn (fun j => { j with streams := ((chunks 16 b).filterMap StreamRec.ofBytes).foldl (fun l r => copyStream r l) j.streams })
  else if q < 2 * tableBytes then
    s.modJrn (fun j => { j with shadowStreams := ((chunks 16 b).filterMap StreamRec.ofBytes).foldl (fun l r => copyStream r l) j.shadowStreams })
  else if b.length = 64 && entryCheckOk b then
    match JEntry.ofBytes b s.now with
    | none => s
    | some e =>
      if q < 2 * tableBytes + ringBytes then
        s.modWriter d (fun w => { w with ring := ringWrite e w.ring, lastMark := laterMark w.lastMark e.covers })
      else s.modWriter d (fun w => { w with shadow := ringWrite e w.shadow, shadowMark := laterMark w.shadowMark e.covers })
  else s

/-- A resync frame is applied and acknowledged; it is not journaled (R584). -/
def State.resyncStore (s : State) (d : Delivered) : State :=
  let h := d.hdr
  let o := h.offset.toNat
  let ok := fun (s : State) => s.sendResponse d.pos h d.arrive d.part true .ok true 1 [] false
  if h.carries && d.pcheck != crc32c d.payload then s.turnAway d .checkFail
  else if !s.epochOk h then s.turnAway d .staleEpoch
  else if h.stream = 0x7B then
    ok ((chunks 64 d.payload).zipIdx.foldl (fun s x =>
      match s.journalAt (o + 64 * x.2) with
      | some (die, q) => s.resyncPut die q x.1
      | none => s) s)
  else match s.mirrorAt o with
    | some m => if m.role = 2 && h.cid = m.cid && within o d.payload.length m.base m.length then ok (s.nearWrite o d.payload)
        else s.turnAway d .denied
    | none => s.turnAway d .denied

/-! ## Resync frames at the serving device -/

/-- What the serving device copies (R585 steps 5 and 6): its tables and rings into the other's, then the mirrored ranges. -/
def State.resyncItems (s : State) : List ResyncItem :=
  let die := fun (t : Stream) => if t.getLsbD 6 then 1 else 0
  let rec_ := fun (base : Nat) (r : StreamRec) => ResyncItem.record (s.journalOffset (die r.stream) (base + 16 * recordPosition r.src r.stream)) r.bytes
  let ent := fun (d base : Nat) (e : JEntry) => ResyncItem.record (s.journalOffset d (base + 64 * (e.index % ringCapacity))) e.bytes
  s.jrn.streams.map (rec_ tableBytes) ++
    [0, 1].flatMap (fun d => (s.writer d).ring.map (ent d (2 * tableBytes + ringBytes))) ++
    s.jrn.shadowStreams.map (rec_ 0) ++ (s.jrn.streams.filter (fun r => isPair r.stream)).map (rec_ 0) ++
    [0, 1].flatMap (fun d => (s.writer d).shadow.map (ent d (2 * tableBytes))) ++
    (s.tabs.mirrored.filter (fun m => m.role = 1)).map (fun m => ResyncItem.range m.base m.length)

/-- Send the next frames of the resync, while a stream has room for them. -/
def State.resyncPump : Nat → State → State
  | 0, s => s
  | fuel + 1, s =>
    match s.hlt.resyncTodo with
    | [] => s
    | .record o b :: rest =>
      if 64 ≤ s.openToward s.tabs.partner 0x7B then s
      else
        let (q, s) := s.takeSeq s.tabs.partner 0x7B
        let h := s.ownHeader 2 5 0x7B s.tabs.partner q 0 0 0 b.length 1 o false
        State.resyncPump fuel ((s.originate .resync h b 0 0).modHlt (fun h => { h with resyncTodo := rest }))
    | .range base n :: rest =>
      match s.mirrorAt base with
      | none => State.resyncPump fuel (s.modHlt (fun h => { h with resyncTodo := rest }))
      | some m =>
        let sm := s.sumacAt base
        let st := BitVec.ofNat 8 (0x68 + 4 * s.homeDie base + ((s.homePoint base).getD 0) % 4)
        let step := min n (match sm with | some r => 4096 / blockSize r.profile * blockSize r.profile | none => 4096 - base % 4096)
        if n = 0 then State.resyncPump fuel (s.modHlt (fun h => { h with resyncTodo := rest }))
        else if 64 ≤ s.openToward s.tabs.partner st then s
        else
          let (q, s) := s.takeSeq s.tabs.partner st
          let fmt := match sm with | some r => r.fmt | none => 1
          let (bs, s) := s.nearRead base step
          let h := s.ownHeader 2 5 st s.tabs.partner q m.cid 0 0 step fmt (m.partnerBase + (base - m.base)) sm.isSome
          State.resyncPump fuel ((s.originate .resync h bs m.part 0).modHlt (fun h => { h with
            resyncTodo := if step = n then rest else .range (base + step) (n - step) :: rest }))

/-- The resync goes on as far as its streams allow. -/
def State.resyncGo (s : State) : State := if s.hlt.resync = 2 then State.resyncPump 2048 s else s

end Sys2Proof.Machine
end

