-- ==== Sys2Proof/Machine/MemOps.lean ====
section
/-! DEFINITION. The memory requests: `LOAD`, `STORE`, the doorbell stores, `FLUSH`, `PUBLISH` and the `ATOMIC` variants
(chapters 03, 09, 12, 13, 14, 15, 17). -/

namespace Sys2Proof.Machine

/-! ## Shared parts -/

/-- Present a delivered request (R206, R68 checks 8 to 14): it waits while a line of its range is held; a settled duplicate
and an opened request go on as given. -/
def State.serve (s : State) (d : Delivered) (w : Want) (o n : Nat) (onDup : State → JEntry → Bool → State)
    (onGo : State → Nat → State) : State :=
  if s.rangeHeld o n then s.park d
  else match s.present d w with
    | .done s => s
    | .dup s e tail => onDup s e tail
    | .go s id => onGo s id

/-- A frame command: the frame is received, and a frame of this node past checks 1 to 7 goes on as given. -/
def State.frame (s : State) (a : Arrival) (f : Frame) (op : State → Delivered → State) : State :=
  match s.receive a f with
  | .done s => s
  | .here s d => op s d

/-- The Sumac range a range of bytes touches. -/
def State.sumacTouched (s : State) (o n : Nat) : Option SumacRange := s.tabs.sumac.find? (fun r => overlaps o n r.base r.length)

/-- The length of a request's stored extent (R355): decoded bytes name whole blocks. -/
def State.storedLen (s : State) (h : Header) : Nat :=
  let n := h.length.toNat
  match s.sumacTouched h.offset.toNat n with
  | some r => if h.flagC then n else cdiv n (128 * elemSize h.format.toNat) * blockSize r.profile
  | none => n

/-- The rules of R355 for a `LOAD` or `STORE`: kept. -/
def State.sumacRuleOk (s : State) (h : Header) : Bool :=
  let o := h.offset.toNat
  let n := h.length.toNat
  match s.sumacTouched o n with
  | none => !h.flagC
  | some r =>
    let b := max 1 (blockSize r.profile)
    within o (s.storedLen h) r.base r.length && (o - r.base) % b == 0 &&
      (if h.flagC then n % b == 0 else h.format.toNat == r.fmt && n % (128 * elemSize r.fmt) == 0)

/-- The stack of a near offset. -/
def State.stackAt (s : State) (o : Nat) : Nat := (stackOf s.cfg.rim.groupMode o).1

/-- `RIM_SUMAC_CHECK` (R363, R365): a block fails its check. -/
def State.sumacEvent (s : State) (p o : Nat) : State :=
  let id := match s.sumacAt o with | some r => r.id | none => 0
  s.eventLimited 0x0C01 [s.stackAt o] toFabric (some p) (some p) (.resource 10 id [o])

/-- Damage shown by a near read (R363): whether the request can be served, and the state. -/
def State.damageNear (s : State) (p o : Nat) (d : Damage) : Bool × State :=
  let k := s.stackAt o
  match d with
  | .none => (true, s)
  | .corrected n => (true, (s.count (.eccCorrected k) n).eccInput n)
  | .uncorrectable =>
    let s := (s.count (.eccUncorrected k)).healthInput 104 256
    match s.mirrorAt o with
    | some m =>
      if s.mirrors then (true, s.eventLimited 0x0C03 [k] toFabric (some p) (some p) (.resource 12 m.id [o]))
      else (false, s.eventLimited 0x0C02 [k] toFabric (some p) (some p) (.resource 12 m.id [o]))
    | none =>
      let id := match s.sumacAt o with | some r => r.id | none => 0
      (false, s.eventLimited 0x0C02 [k] toFabric (some p) (some p) (.resource 11 id [o]))

/-- The class of a read that a request of a class needs (R376): `LOAD` travels in TC2, TC4 and TC6 only (log 19). -/
def loadClass (tc : Nat) : Nat := match tc with | 2 => 2 | 6 | 7 => 6 | _ => 4

/-- Send a tray frame for a request (R376). -/
def State.reqTray (s : State) (r : Req) (e : Extent) (op o len : Nat) (payload : Bytes) : State :=
  let tc := if op = 1 then loadClass r.hdr.tc.toNat else storeClass r.hdr.tc.toNat
  s.sendTray (.tray r.id) e op tc o len payload r.part r.age0 (s.remaining r.hdr r.arrive) (s.now - r.arrive)

/-- A tray frame of a request for bytes from an offset is under way. -/
def State.trayFlying (s : State) (id o : Nat) : Bool :=
  s.jrn.outs.any (fun f => f.owner == .tray id && (match s.trayRange f with | some (a, l) => a ≤ o && o < a + l | none => false))

/-- The part of a request's own range in a range. -/
def cut (o : Nat) (bs : Bytes) (a n : Nat) : Nat × Bytes :=
  let lo := max o a
  let hi := min (o + bs.length) (a + n)
  (lo, slice bs (lo - o) (hi - lo))

/-! ## `LOAD` (R26, R78, R355, R378, R482) -/

/-- A load has its stored bytes: verify, decode where asked, and complete (R349, R352, R355). -/
def State.loadDone (s : State) (id : Nat) (stored : Bytes) : State :=
  match s.req id with
  | none => s
  | some r =>
    let o := r.hdr.offset.toNat
    match s.sumacAt o with
    | none => s.finish id .ok stored r.hdr.format
    | some g =>
      match verifyBlocks (blockSize g.profile) stored with
      | some st => ((if st = .checkFail then s.sumacEvent r.part o else s)).refuse id st
      | none =>
        if r.hdr.flagC then s.finish id .ok stored r.hdr.format
        else match fmOfCode g.fmt with
          | none => s.finish id .ok stored r.hdr.format
          | some f =>
            let es := decodeBlocks f (blockSize g.profile) stored
            let xs := es.map (·.2)
            let s := if anyExc xs then s.numericEvent r.hdr r.part (excCounts xs) false else s
            s.finish id (if anyExc xs then .numeric else .ok) (unelems f.size (es.map (·.1))) r.hdr.format

/-- Bring one part of a far load: from the cache, by a fill, or from the tray (R378, R381, R382). -/
def State.farFetch (s : State) (id : Nat) (e : Extent) (part : Nat × Nat) : State :=
  match s.req id with
  | none => s
  | some r =>
    let (o, m) := part
    if r.pendingWrite.any (fun x => x.1 = o) || s.trayFlying id o then s
    else
      let direct := fun (s : State) => let (lo, hi) := s.coverOf o m; s.reqTray r e 1 lo (hi - lo) []
      if e.mode ≠ 2 || (s.sumacAt o).isSome || s.ftcSets = 0 then direct s
      else match s.sector e.home (e.trayOf (sectorOf o)) with
        | some x =>
          if x.filling then s
          else match s.cachedPlain e o m with
            | some bs => (s.touchSector x).modReq id (fun r => { r with pendingWrite := r.pendingWrite ++ [(o, bs)] })
            | none => s
        | none =>
          match s.fillSector (.sector (e.trayOf (sectorOf o))) e (sectorOf o) (loadClass r.hdr.tc.toNat) r.part r.age0
            (s.remaining r.hdr r.arrive) (s.now - r.arrive) with
          | some s => s
          | none => direct s

/-- Advance a far load: fetch what is missing; with every part there it is done. -/
def State.farLoad (s : State) (id : Nat) : State :=
  match s.req id with
  | none => s
  | some r =>
    let o := r.hdr.offset.toNat
    let n := s.storedLen r.hdr
    match s.extentAt o with
    | none => s.refuse id .denied
    | some e =>
      let parts := s.farParts (n + 1) o n
      let s := (s.modReq id (fun r => { r with stage := .frames })).each parts (fun s x => s.farFetch id e x)
      match s.req id with
      | none => s
      | some r =>
        let got := parts.map (fun x => r.pendingWrite.find? (fun y => y.1 = x.1))
        if got.any Option.isNone then s else s.loadDone id ((got.filterMap (fun x => x)).flatMap (·.2))

/-- Damage met by a far load: a cached line is dropped and read again (R363). -/
def State.damageFar (s : State) (o n : Nat) (d : Damage) : State :=
  match d, s.extentAt o with
  | .corrected k, some e => if (s.sector e.home (e.trayOf (sectorOf o))).isSome then (s.count (.eccCorrected (4 * e.home)) k).eccInput k else s
  | .uncorrectable, some e =>
    s.each (sectorsOf o n) (fun s sec => match s.sector e.home (e.trayOf sec) with
      | some x => if x.filling then s else
          (s.modMem (fun m => { m with sectors := m.sectors.filter (fun y => !(y.tray = x.tray && y.die = x.die)) })).count .sectorDropped |>.healthInput 104 256
      | none => s)
  | _, _ => s

/-- Read the near bytes of a load, by the version its view serves (R482). -/
def State.nearLoad (s : State) (id : Nat) (dmg : Damage) : State :=
  match s.req id with
  | none => s
  | some r =>
    let o := r.hdr.offset.toNat
    let n := s.storedLen r.hdr
    match s.viewOf o n with
    | some v =>
      if v.waiting then s.modReq id (fun r => { r with stage := .viewWait v.id v.current })
      else
        let a := v.inBuffer v.current o
        match s.damageNear r.part a dmg with
        | (false, s) => s.refuse id .checkFail
        | (true, s) => let (bs, s) := s.nearRead a n; s.loadDone id bs
    | none =>
      match s.damageNear r.part o dmg with
      | (false, s) => s.refuse id .checkFail
      | (true, s) => let (bs, s) := s.nearRead o n; s.loadDone id bs

/-- A load past check 14: check 15, its entry, and its data. -/
def State.runLoad (s : State) (id : Nat) (dmg : Damage) : State :=
  match s.req id with
  | none => s
  | some r =>
    let o := r.hdr.offset.toNat
    let n := r.hdr.length.toNat
    if n = 0 then (s.journal id .applied).finish id .ok [] 1
    else if !s.sumacRuleOk r.hdr || s.viewStraddled o n then s.refuse id .format
    else
      let s := s.journal id .applied
      if inFar o n then (s.damageFar o (s.storedLen r.hdr) dmg).farLoad id else s.nearLoad id dmg

/-- The presentation of a memory request to its home die. -/
def State.memWant (s : State) (o n : Nat) (right : Right) (copy : Bool) : Want :=
  let die := s.homeDie o
  { die := die, writer := die, off := o, len := n, right := some right, copy := copy }

/-- `LOAD` at its home. -/
def State.opLoad (dmg : Damage) (s : State) (d : Delivered) : State :=
  let o := d.hdr.offset.toNat
  let n := s.storedLen d.hdr
  s.serve d (s.memWant o n .rd false) o n
    (fun s e tail => if e.state = .refused then s.answerDup d e e.status [] 1
      else let (id, s) := s.openDup d (s.homeDie o) e tail; s.runLoad id dmg)
    (fun s id => s.runLoad id dmg)

/-! ## `STORE` (R30, R355, R378, R384, R388, R421, R482, R483) -/

/-- The mover channels whose doorbell word a write has changed read it (R421). -/
def State.ringDoorbells (s : State) (o n : Nat) : State :=
  s.each (s.tabs.bindings.filter (fun b => overlaps o n b.doorbell 8)) (fun s b =>
    let (v, s) := s.nearRead b.doorbell 8
    s.doorbell (64 * b.die + b.ch) (leNat v))

/-- The status a completed store carries. -/
def Req.outcome (r : Req) : Status := if r.numeric then .numeric else .ok

/-- Write a store's stored bytes to the near tier, and copy them to the partner (R384). -/
def State.nearStore (s : State) (id : Nat) (dmg : Damage) : State :=
  match s.req id with
  | none => s
  | some r =>
    match r.pendingWrite with
    | [] => s.finish id r.outcome [] 1
    | (o, bs) :: _ =>
      if s.stagingHeld o bs.length then s.modReq id (fun r => { r with stage := .staging (o / 128 * 128) })
      else
        let partLine := !(o % 128 == 0 && bs.length % 128 == 0)
        match (if partLine then s.damageNear r.part o dmg else (true, s)) with
        | (false, s) => s.refuse id .checkFail
        | (true, s) =>
          let s := s.nearWrite o bs
          let s := if 0x68 ≤ r.hdr.stream.toNat && r.hdr.stream.toNat < 0x70 then s.noteLeafCopy o bs.length else s
          let (k, s) := s.sendCopies (.copy id) o bs r.hdr.tc.toNat r.part r.age0 (s.remaining r.hdr r.arrive) (s.now - r.arrive)
          let s := if k = 0 then s.finish id r.outcome [] 1 else s.modReq id (fun r => { r with stage := .frames, waits := k })
          s.ringDoorbells o bs.length

/-- Write one part of a far store: whole units go to the tray at once; a partial unit is read first, unless cached. -/
def State.farPut (s : State) (id : Nat) (e : Extent) (r : Req) (o : Nat) (part : Bytes) : State :=
  let (lo, hi) := s.coverOf o part.length
  let send := fun (s : State) (a : Nat) (plain : Bytes) =>
    let cipher := s.encryptUnits e a plain
    (s.updateSector e a cipher).reqTray r e 2 a cipher.length cipher
  let s := s.modReq id (fun r => { r with stage := .frames, waits := r.waits + 1 })
  if lo = o && hi = o + part.length then send s o part
  else match (if e.mode = 2 && (s.sumacAt o).isNone then s.cachedPlain e lo (hi - lo) else none) with
    | some old => send s lo (old.take (o - lo) ++ part ++ old.drop (o - lo + part.length))
    | none => s.reqTray r e 1 lo (hi - lo) []

/-- Write a store's stored bytes to the far tier (R378). -/
def State.farStore (s : State) (id : Nat) : State :=
  match s.req id with
  | none => s
  | some r =>
    match r.pendingWrite with
    | [] => s.finish id r.outcome [] 1
    | (o, bs) :: _ =>
      match s.extentAt o with
      | none => s.refuse id .denied
      | some e => s.each (s.farParts (bs.length + 1) o bs.length) (fun s x => s.farPut id e r x.1 (slice bs (x.1 - o) x.2))

/-- Write a store's stored bytes where they belong. -/
def State.storeNow (s : State) (id : Nat) (dmg : Damage) : State :=
  match s.req id with
  | none => s
  | some r => match r.pendingWrite with
    | (o, bs) :: _ => if inFar o bs.length then s.farStore id else s.nearStore id dmg
    | [] => s.finish id r.outcome [] 1

/-- A store to a step word announces its step (R388). -/
def State.doorbellStore (s : State) (id : Nat) (x : Schedule) (dmg : Damage) : State :=
  match s.req id with
  | none => s
  | some r =>
    let n := leNat r.payload
    if n ≤ x.cur then s.storeNow id dmg
    else match s.stepWait x n with
      | .ready => (s.stepTo x.part n false).storeNow id dmg
      | .lost => s.refuse id .targetLost
      | .wait cause => (s.countStall x.part cause n).modReq id (fun r => { r with stage := .doorbell x.part n })

/-- The bytes a store leaves in memory: blocks as given or encoded in a Sumac range (R350, R355), or the payload. -/
def State.storedBytes (s : State) (r : Req) : Except Status (Bytes × List Exc) :=
  match s.sumacTouched r.hdr.offset.toNat r.hdr.length.toNat with
  | none => .ok (r.payload, [])
  | some g =>
    let b := blockSize g.profile
    if r.hdr.flagC then
      match verifyBlocks b r.payload with
      | some st => .error st
      | none => if r.hdr.format.toNat = g.fmt && (chunks b r.payload).all (fun x => leAt x 20 1 = g.profile) then .ok (r.payload, [])
          else .error .format
    else match fmOfCode g.fmt with
      | none => .error .format
      | some f =>
        let (bs, xs) := encodeBlocks g.profile g.scale f (groupsOf 128 (elems f.size r.payload))
        .ok (bs, xs)

/-- A store past check 14: check 15, its entry, and its write. -/
def State.runStore (s : State) (id : Nat) (dmg : Damage) : State :=
  match s.req id with
  | none => s
  | some r =>
    let o := r.hdr.offset.toNat
    let n := r.hdr.length.toNat
    if n = 0 then (s.journal id .applied).finish id .ok [] 1
    else
      let bell := s.tabs.schedules.find? (fun x => !x.ended && overlaps o n x.doorbell 8)
      if (match bell with | some x => !(o == x.doorbell && n == 8) | none => false) then s.refuse id .format
      else if s.writeBarred o (s.storedLen r.hdr) then s.refuse id .denied
      else if !s.sumacRuleOk r.hdr then s.refuse id .format
      else match s.storedBytes r with
        | .error st => ((if st = .checkFail then s.sumacEvent r.part o else s)).refuse id st
        | .ok (bs, xs) =>
          let s := if anyExc xs then s.numericEvent r.hdr r.part (excCounts xs) false else s
          let s := s.modReq id (fun r => { r with pendingWrite := [(o, bs)], numeric := anyExc xs })
          let s := s.journal id .applied
          match bell with
          | some x => s.doorbellStore id x dmg
          | none => s.storeNow id dmg

/-- The store is a copy from the partner into this device's copy of a mirrored range (R385). -/
def State.isCopy (s : State) (h : Header) : Bool :=
  s.tabs.paired && h.src = s.tabs.partner && 0x68 ≤ h.stream.toNat && h.stream.toNat < 0x70 &&
    (match s.mirrorAt h.offset.toNat with | some m => m.role = 2 ∧ h.cid = m.cid | none => false)

/-- `STORE` at its home. -/
def State.opStore (dmg : Damage) (s : State) (d : Delivered) : State :=
  let o := d.hdr.offset.toNat
  let n := s.storedLen d.hdr
  if s.resyncFrame d.hdr then s.resyncStore d
  else s.serve d (s.memWant o n .wr (s.isCopy d.hdr)) o n
    (fun s e tail => if e.state = .refused || !tail then s.answerDup d e e.status [] 1
      else let (id, s) := s.openDup d (s.homeDie o) e tail; s.runStore id dmg)
    (fun s id => s.runStore id dmg)

/-! ## `FLUSH` (R414) -/

/-- The lines of a range that some cluster holds. -/
def State.heldLines (s : State) (o n : Nat) : List Nat :=
  ((s.mem.filter.map (·.1)).filter (fun l => overlaps l 128 o n)).eraseDups

/-- Flush every held line of a range; lines written in a mirrored range are copied (R410). The number of copies sent. -/
def State.flushRange (s : State) (owner : Owner) (o n tc p age budget resid : Nat) : Nat × State :=
  (s.heldLines o n).foldl (fun a line =>
    let (k, s) := a.2.invalidate owner tc p age budget resid line
    (a.1 + k, s)) (0, s)

/-- A flush past check 14. -/
def State.runFlush (s : State) (id : Nat) : State :=
  match s.req id with
  | none => s
  | some r =>
    let o := r.hdr.offset.toNat
    let n := beNat r.payload
    if 2 ^ 48 < o + n then s.refuse id .format
    else
      let s := s.journal id .applied
      let (k, s) := s.flushRange (.copy id) o n 2 r.part r.age0 (s.remaining r.hdr r.arrive) (s.now - r.arrive)
      if k = 0 then s.finish id .ok [] 1 else s.modReq id (fun r => { r with stage := .frames, waits := k })

/-- `FLUSH` at its home. -/
def State.opFlush (s : State) (d : Delivered) : State :=
  let o := d.hdr.offset.toNat
  let n := beNat d.payload
  if s.mem.holds.any (fun h => overlaps h.1 128 o n) then s.park d
  else s.serve d (s.memWant o n .fl false) o 0
    (fun s e tail => if e.state = .refused || !tail then s.answerDup d e e.status [] 1
      else let (id, s) := s.openDup d (s.homeDie o) e tail; s.runFlush id)
    (fun s id => s.runFlush id)

/-! ## `PUBLISH` (R485 to R487) -/

/-- Change a published range. -/
def State.modPublished (s : State) (id : Nat) (f : Published → Published) : State :=
  s.modTabs (fun t =>
    let l := mapIf (fun (p : Published) => p.id = id) f t.published
    { t with published := l })

/-- The new version becomes current (R485 step 4). -/
def State.makeCurrent (s : State) (v : Published) (version : Nat) : State :=
  let s := s.modPublished v.id (fun p => { p with
    current := version, pending := none, flushed := false, stagingOpen := true, waiting := true })
  s.nearWrite v.word (natLe 8 version)

/-- A pending `PUBLISH` goes as far as it can: its leaf (R495), its entry, and the new version (R485, R487). -/
def State.publishStep (id rid : Nat) : Nat → State → State
  | 0, s => s
  | fuel + 1, s =>
    match s.req id, s.tabs.published.find? (fun p => p.id = rid) with
    | some r, some v =>
      if 0 < r.waits then s
      else
        let held := (s.copiesAt v.area).isSome && !v.flushed
        if !held && r.leaf then
          let (k, s) := s.writeLeaf r.part (.copy id)
            { type := 3, op := 0, hdr := r.hdr, again := false, exceptions := false, result := v.pendingVersion,
              request := publishHash v.id v.pendingVersion v.length, input := [], output := [] }
          State.publishStep id rid fuel (s.modReq id (fun r => { r with leaf := false, waits := k }))
        else if !held && r.index.isNone then State.publishStep id rid fuel (s.journal id .applied)
        else if v.flushed then (s.makeCurrent v v.pendingVersion).finish id .ok [] 1
        else s
    | _, _ => s

/-- The two masters of a conflict each see their own in their ring (R486). -/
def State.conflictEvent (s : State) (v : Published) (r : Req) (version : Nat) : State :=
  let who := fun (n : Node) (c : Cid) => n.toNat * 65536 + c.toNat
  let mine := (Detail.resource 6 v.id [version, who r.hdr.src r.hdr.cid])
  let s := s.event 0x1103 toFabric (some r.part) (some r.part) mine
  match v.winner with
  | some (p, n, c) => s.event 0x1103 ⟨false, false⟩ (some p) (some p) (.resource 6 v.id [version, who n c])
  | none => s

/-- A publish past check 14: check 15, and step 1 (R485). -/
def State.runPublish (s : State) (id : Nat) : State :=
  match s.req id with
  | none => s
  | some r =>
    let version := beAt r.payload 0 8
    let n := beAt r.payload 8 8
    if n = 0 then (s.journal id .applied).finish id .ok [] 1
    else match s.tabs.published.find? (fun p => p.view = r.hdr.offset.toNat ∧ p.length = n) with
      | none => s.refuse id .format
      | some v =>
        if v.pending.isSome || version ≠ v.current + 1 then
          let named := version = (if v.pending.isSome then v.pendingVersion else v.current)
          (if named then s.conflictEvent v r version else s).refuse id .publishConflict
        else
          let go := fun (s : State) (leaf : Bool) =>
            let s := s.modReq id (fun r => { r with result := BitVec.ofNat 64 version, stage := .publish v.id, leaf := leaf })
            let s := s.modPublished v.id (fun p => { p with
              pending := some id, pendingVersion := version, stagingOpen := false, flushed := false
              winner := some (r.part, r.hdr.src, r.hdr.cid) })
            State.publishStep id v.id 3 s
          if s.locked r.part then
            match s.reserveLeaf r.part with
            | some s => go s true
            | none => (s.logFull r.part).refuse id .throttled
          else go s false

/-- A `PUBLISH` in the in-doubt tail: the version is applied if it is not yet current (R112). -/
def State.publishAgain (s : State) (d : Delivered) (e : JEntry) : State :=
  let s := match s.tabs.published.find? (fun p => p.view = d.hdr.offset.toNat) with
    | some v => if v.current < beAt d.payload 0 8 && beAt d.payload 8 8 = v.length then
        (s.makeCurrent v (beAt d.payload 0 8)).modPublished v.id (fun p => { p with waiting := false }) else s
    | none => s
  s.answerAgain d e .ok [] 1

/-- `PUBLISH` at its version point. -/
def State.opPublish (s : State) (d : Delivered) : State :=
  let o := d.hdr.offset.toNat
  let n := beAt d.payload 8 8
  s.serve d (s.memWant o n .pb false) o 0
    (fun s e tail => if e.state = .refused || !tail then s.answerDup d e e.status [] 1 else s.publishAgain d e)
    (fun s id => s.runPublish id)

/-- The staging flush of a pending `PUBLISH` ends (R485 step 3): the version moves once its copies are acknowledged. -/
def State.publishFlushed (s : State) (rid : Nat) : State :=
  match s.tabs.published.find? (fun p => p.id = rid) with
  | none => s
  | some v =>
    match v.pending.bind s.req with
    | none => s
    | some r =>
      if v.flushed || 0 < r.waits then s
      else
        let buf := v.area + (v.current + 1) % v.buffers * v.length
        let (k, s) := s.flushRange (.copy r.id) buf v.length 2 r.part r.age0 (s.remaining r.hdr r.arrive) (s.now - r.arrive)
        let s := s.modPublished rid (fun p => { p with flushed := true })
        State.publishStep r.id rid 3 (s.modReq r.id (fun r => { r with waits := k }))

/-- An island reset refuses the pending `PUBLISH` of a range; its current version stays and its staging buffer reopens (R485). -/
def State.publishAbort (s : State) (v : Published) (st : Status) : State :=
  match v.pending with
  | none => s
  | some id => (s.refuse id st).modPublished v.id (fun p => { p with pending := none, flushed := false, stagingOpen := true })

/-- The request of a pending `PUBLISH` has ended: the current version stays and the staging buffer reopens (R485). -/
def State.dropPublish (s : State) (id : Nat) : State :=
  s.modTabs (fun t =>
    let l := mapIf (fun (p : Published) => p.pending = some id)
      (fun (p : Published) => { p with pending := none, flushed := false, stagingOpen := true }) t.published
    { t with published := l })

/-! ## `ATOMIC` (R77, R78, R265) -/

/-- The values of an `ATOMIC` are fixed: entry RECORDED, response ready (R78, R83). -/
def State.fixAtomic (s : State) (id : Nat) (r : Req) (p new : Nat) (exc : Bool) : State :=
  let s := s.modReq id (fun r => { r with result := BitVec.ofNat 64 (p + new * 2 ^ 32) })
  let kind := (Fm.fp32.conv (Fm.fp32.val new)).2
  let s := if exc then s.numericEvent r.hdr r.part (excCounts [kind]) false else s
  (s.journal id .recorded).finish id (if exc then .numeric else .ok) (natLe 4 p) r.hdr.format

/-- The entry of a recorded `ATOMIC` whose write has still to land. -/
def State.notLanded (s : State) (id k : Nat) : State :=
  if k = 0 then s
  else match s.req id with
    | some r => match r.index with | some i => s.modEntry r.writer i (fun e => { e with done := false }) | none => s
    | none => s

/-- The owner of the writes that complete a recorded `ATOMIC` (R657). -/
def State.landingOwner (s : State) (id line : Nat) : Owner :=
  match s.req id with
  | some r => .landing line r.writer (r.index.getD 0)
  | none => .fill

/-- An `ATOMIC` on the near tier: the new value is written under the grant, and copied after the entry (R78, R657). -/
def State.nearAtomic (s : State) (id : Nat) (dmg : Damage) : State :=
  match s.req id with
  | none => s
  | some r =>
    let o := r.hdr.offset.toNat
    if s.stagingHeld o 4 then s.modReq id (fun r => { r with stage := .staging (o / 128 * 128) })
    else match s.damageNear r.part o dmg with
      | (false, s) => s.refuse id .checkFail
      | (true, s) =>
        let (bs, s) := s.nearRead o 4
        let p := leNat bs
        let (new, exc) := atomicNew r.hdr.opcode.toNat p r.payload
        let s := s.fixAtomic id r p new exc
        let s := s.nearWrite o (natLe 4 new)
        let (k, s) := s.sendCopies (s.landingOwner id (o / 128 * 128)) o (natLe 4 new) 5 r.part 0 0 0
        (s.notLanded id k).ringDoorbells o 4

/-- An `ATOMIC` on the far tier with its line at hand. -/
def State.farAtomicLine (s : State) (id : Nat) (r : Req) (e : Extent) (line : Bytes) : State :=
  let o := r.hdr.offset.toNat
  let lo := o / 128 * 128
  let p := leAt line (o - lo) 4
  let (new, exc) := atomicNew r.hdr.opcode.toNat p r.payload
  let s := s.fixAtomic id r p new exc
  let plain := line.take (o - lo) ++ natLe 4 new ++ line.drop (o - lo + 4)
  let cipher := s.encryptUnits e lo plain
  let s := s.updateSector e lo cipher
  (s.sendTray (s.landingOwner id lo) e 2 5 lo 128 cipher r.part 0 0 0).notLanded id 1

/-- An `ATOMIC` on the far tier: the line is read from the cache or the tray first. -/
def State.farAtomic (s : State) (id : Nat) : State :=
  match s.req id with
  | none => s
  | some r =>
    let lo := r.hdr.offset.toNat / 128 * 128
    match s.extentAt lo with
    | none => s.refuse id .denied
    | some e =>
      match (if e.mode = 2 then s.cachedPlain e lo 128 else none) with
      | some line => s.farAtomicLine id r e line
      | none => (s.modReq id (fun r => { r with stage := .frames })).reqTray r e 1 lo 128 []

/-- An atomic past check 14: check 15, then its values. -/
def State.runAtomic (s : State) (id : Nat) (dmg : Damage) : State :=
  match s.req id with
  | none => s
  | some r =>
    let o := r.hdr.offset.toNat
    if s.locked r.part && r.hdr.opcode == 0x11 then s.refuse id .denied
    else if s.writeBarred o 4 then s.refuse id .denied
    else if (s.sumacTouched o 4).isSome then s.refuse id .format
    else if inFar o 4 then (s.damageFar o 4 dmg).farAtomic id
    else s.nearAtomic id dmg

/-- An `ATOMIC` variant at its home. -/
def State.opAtomic (dmg : Damage) (s : State) (d : Delivered) : State :=
  let o := d.hdr.offset.toNat
  s.serve d (s.memWant o 4 .at_ false) o 4
    (fun s e _ => if e.state = .refused then s.answerDup d e e.status [] 1
      else s.answerDup d e e.status (natLe 4 (e.result.toNat % 2 ^ 32)) d.hdr.format)
    (fun s id => s.runAtomic id dmg)

/-! ## Work that waited -/

/-- Judge a request that waits at this device again: a view read, a staging write, a doorbell store, a far read. -/
def State.wakeReq (s : State) (id : Nat) : State :=
  match s.req id with
  | none => s
  | some r =>
    match r.stage with
    | .viewWait .. => s.nearLoad id .none
    | .staging _ => if isAtomic r.hdr.opcode.toNat then s.nearAtomic id .none else s.nearStore id .none
    | .doorbell p n =>
      match s.schedule p with
      | none => s.storeNow id .none
      | some x =>
        if n ≤ x.cur then s.storeNow id .none
        else match s.stepWait x n with
          | .ready => (s.stepTo p n true).storeNow id .none
          | .lost => s.refuse id .targetLost
          | .wait _ => s
    | .frames => if r.hdr.opcode = 1 && inFar r.hdr.offset.toNat (s.storedLen r.hdr) then s.farLoad id else s
    | _ => s

/-- Judge every waiting request again, oldest first. -/
def State.wake (s : State) : State := s.each (s.jrn.reqs.map (·.id)) State.wakeReq

/-- Release the staging writes held at a line of a published range whose readers have passed (R483). -/
def State.releaseStaging (s : State) (rid line : Nat) : State :=
  match s.tabs.published.find? (fun p => p.id = rid) with
  | none => s
  | some v =>
    s.each ((s.jrn.reqs.filter (fun r => r.stage == .staging (line / 128 * 128) &&
      overlaps r.hdr.offset.toNat (max 1 r.hdr.length.toNat) v.area (v.buffers * v.length))).map (·.id)) State.wakeReq

/-- A doorbell store that reaches its effective deadline while it waits is refused (R388). -/
def State.doorbellLate (s : State) (p : Nat) : State :=
  s.each ((s.jrn.reqs.filter (fun r => (match r.stage with | .doorbell q _ => q == p | _ => false) && s.pastDeadline r)).map (·.id))
    (fun s id => s.refuse id .throttled)

/-- An instance of a prefetch schedule has landed (R387): it is marked, and waiting doorbells may apply. -/
def State.pfLanded (s : State) (p step entry : Nat) : State :=
  match s.schedule p with
  | none => s
  | some x =>
    match x.entries[entry]?, x.instances.find? (fun i => i.step = step ∧ i.entry = entry) with
    | some e, some i =>
      let s := if s.pfArrived e p i then s.modInstance p step entry (fun i => { i with landed := true }) else s
      (s.pfPump p).wake
    | _, _ => s

/-! ## The meanings -/

/-- `LOAD` (R26, R30). -/
def execLoad (t : Nat) (a : Arrival) (f : Frame) (d : Damage) (s : State) : Host.Outcome State Fault Refusal :=
  if f.hdr.opcode = 0x01 then .next ((s.at t).frame a f (State.opLoad d)) else .fault .notThisCommand

/-- `STORE` (R30, R77). -/
def execStore (t : Nat) (a : Arrival) (f : Frame) (d : Damage) (s : State) : Host.Outcome State Fault Refusal :=
  if f.hdr.opcode = 0x02 then .next ((s.at t).frame a f (State.opStore d)) else .fault .notThisCommand

/-- `FLUSH` (R414). -/
def execFlush (t : Nat) (a : Arrival) (f : Frame) (s : State) : Host.Outcome State Fault Refusal :=
  if f.hdr.opcode = 0x03 then .next ((s.at t).frame a f State.opFlush) else .fault .notThisCommand

/-- `PUBLISH` (R485). -/
def execPublish (t : Nat) (a : Arrival) (f : Frame) (s : State) : Host.Outcome State Fault Refusal :=
  if f.hdr.opcode = 0x04 then .next ((s.at t).frame a f State.opPublish) else .fault .notThisCommand

/-- `PUBLISH_FLUSH_DONE` (R485). -/
def execPublishFlushDone (t : Nat) (rangeId : BitVec 32) (s : State) : Host.Outcome State Fault Refusal :=
  .next (((s.at t).publishFlushed rangeId.toNat).wake)

/-- `STAGING_WRITE_RELEASE` (R483). -/
def execStagingWriteRelease (t : Nat) (rangeId : BitVec 32) (line : Nat) (s : State) : Host.Outcome State Fault Refusal :=
  .next ((s.at t).releaseStaging rangeId.toNat line)

/-- `ATOMIC_FADD_INTEGER` (R265). -/
def execAtomicFaddInteger (t : Nat) (a : Arrival) (f : Frame) (d : Damage) (s : State) : Host.Outcome State Fault Refusal :=
  if f.hdr.opcode = 0x10 then .next ((s.at t).frame a f (State.opAtomic d)) else .fault .notThisCommand

/-- `ATOMIC_FADD_FLOAT` (R265). -/
def execAtomicFaddFloat (t : Nat) (a : Arrival) (f : Frame) (d : Damage) (s : State) : Host.Outcome State Fault Refusal :=
  if f.hdr.opcode = 0x11 then .next ((s.at t).frame a f (State.opAtomic d)) else .fault .notThisCommand

/-- `ATOMIC_FMIN_INTEGER` (R265). -/
def execAtomicFminInteger (t : Nat) (a : Arrival) (f : Frame) (d : Damage) (s : State) : Host.Outcome State Fault Refusal :=
  if f.hdr.opcode = 0x12 then .next ((s.at t).frame a f (State.opAtomic d)) else .fault .notThisCommand

/-- `ATOMIC_FMIN_FLOAT` (R265). -/
def execAtomicFminFloat (t : Nat) (a : Arrival) (f : Frame) (d : Damage) (s : State) : Host.Outcome State Fault Refusal :=
  if f.hdr.opcode = 0x13 then .next ((s.at t).frame a f (State.opAtomic d)) else .fault .notThisCommand

/-- `ATOMIC_FMAX_INTEGER` (R265). -/
def execAtomicFmaxInteger (t : Nat) (a : Arrival) (f : Frame) (d : Damage) (s : State) : Host.Outcome State Fault Refusal :=
  if f.hdr.opcode = 0x14 then .next ((s.at t).frame a f (State.opAtomic d)) else .fault .notThisCommand

/-- `ATOMIC_FMAX_FLOAT` (R265). -/
def execAtomicFmaxFloat (t : Nat) (a : Arrival) (f : Frame) (d : Damage) (s : State) : Host.Outcome State Fault Refusal :=
  if f.hdr.opcode = 0x15 then .next ((s.at t).frame a f (State.opAtomic d)) else .fault .notThisCommand

/-- `ATOMIC_CAS` (R265). -/
def execAtomicCas (t : Nat) (a : Arrival) (f : Frame) (d : Damage) (s : State) : Host.Outcome State Fault Refusal :=
  if f.hdr.opcode = 0x16 then .next ((s.at t).frame a f (State.opAtomic d)) else .fault .notThisCommand

/-- `ATOMIC_SWAP` (R265). -/
def execAtomicSwap (t : Nat) (a : Arrival) (f : Frame) (d : Damage) (s : State) : Host.Outcome State Fault Refusal :=
  if f.hdr.opcode = 0x17 then .next ((s.at t).frame a f (State.opAtomic d)) else .fault .notThisCommand

/-- `PREFETCH_DOORBELL` (R388): a store to a step word. -/
def execPrefetchDoorbell (t : Nat) (a : Arrival) (f : Frame) (s : State) : Host.Outcome State Fault Refusal :=
  if f.hdr.opcode = 0x02 then .next ((s.at t).frame a f (State.opStore .none)) else .fault .notThisCommand

/-- `PREFETCH_INSTANCE_LANDED` (R387). -/
def execPrefetchInstanceLanded (t part step entry : Nat) (s : State) : Host.Outcome State Fault Refusal :=
  if part < 16 then .next ((s.at t).pfLanded part step entry) else .fault .noSuchUnit

/-- `DOORBELL_STORE_DEADLINE` (R388). -/
def execDoorbellStoreDeadline (t part : Nat) (s : State) : Host.Outcome State Fault Refusal :=
  if part < 16 then .next ((s.at t).doorbellLate part) else .fault .noSuchUnit

/-- `MOVER_DOORBELL` (R421): a store to a channel's doorbell word. -/
def execMoverDoorbell (t ch : Nat) (a : Arrival) (f : Frame) (s : State) : Host.Outcome State Fault Refusal :=
  if ¬ chanOk ch then .fault .noSuchUnit
  else if f.hdr.opcode = 0x02 then .next ((s.at t).frame a f (State.opStore .none)) else .fault .notThisCommand

/-- `MOVER_RESTART` (R439): a doorbell store with bit 63 set. -/
def execMoverRestart (t ch : Nat) (a : Arrival) (f : Frame) (s : State) : Host.Outcome State Fault Refusal :=
  if ¬ chanOk ch then .fault .noSuchUnit
  else if f.hdr.opcode = 0x02 ∧ (leNat f.payload).testBit 63 then .next ((s.at t).frame a f (State.opStore .none))
  else .fault .notThisCommand

end Sys2Proof.Machine
end

