-- ==== Sys2Proof/Machine/OpMath.lean ====
section
/-! DEFINITION. Near-data operators as functions of a descriptor and of operand bytes (chapter 11): fields, the checks of
R318 that need no state, extents, limits and claims, index lists and models, and every operator's output. -/

namespace Sys2Proof.Machine

/-! ## Descriptor fields (R313 to R316) -/

/-- Operator code. -/
def dCode (b : Bytes) : Nat := leAt b 0 1
/-- Flag `RET`. -/
def dRet (b : Bytes) : Bool := (leAt b 2 1).testBit 0
/-- Flag `NB`. -/
def dNb (b : Bytes) : Bool := (leAt b 2 1).testBit 1
/-- Flag `IDX`. -/
def dIdx (b : Bytes) : Bool := (leAt b 2 1).testBit 2
/-- Flag `SKIP`. -/
def dSkip (b : Bytes) : Bool := (leAt b 2 1).testBit 3
/-- Flag `WT`. -/
def dWt (b : Bytes) : Bool := (leAt b 2 1).testBit 4
/-- Pointer form of operand `i`: 0 A, 1 B, 2 C, 3 OUT. -/
def dForm (b : Bytes) (i : Nat) : Nat := bits (leAt b 3 1) (2 * i) 2
/-- Accumulation kind. -/
def dKind (b : Bytes) : Nat := leAt b 4 1
/-- Input format code. -/
def dIn (b : Bytes) : Nat := leAt b 5 1
/-- Output format code. -/
def dOut (b : Bytes) : Nat := leAt b 6 1
/-- Count n. -/
def dN (b : Bytes) : Nat := leAt b 8 4
/-- Row length. -/
def dRow (b : Bytes) : Nat := leAt b 12 2
/-- Pointer of operand `i`. -/
def dPtr (b : Bytes) (i : Nat) : Nat := leAt b (16 + 8 * i) 8
/-- Bytes 48–51: table rows. -/
def dRows (b : Bytes) : Nat := leAt b 48 4
/-- Bytes 52–55: the row base of scatter-add, the index count of embedding-bag. -/
def dBase (b : Bytes) : Nat := leAt b 52 4
/-- Bytes 48–49: k of top-k, M of projection. -/
def dK (b : Bytes) : Nat := leAt b 48 2
/-- Bytes 48–53: model length. -/
def dModel (b : Bytes) : Nat := leAt b 48 6
/-- Byte 54: output count of the tree ensemble. -/
def dO (b : Bytes) : Nat := leAt b 54 1
/-- Mode of embedding-bag. -/
def dMode (b : Bytes) : Nat := leAt b 56 1
/-- Format of embedding-bag's weights. -/
def dWfmt (b : Bytes) : Nat := leAt b 57 1

/-- The format of a descriptor's element-format code (R316). -/
def fmOf (c : Nat) : Option Fm := if c = 8 then some .int8 else fmOfCode c
/-- Bytes in an element of a descriptor's element-format code. -/
def fmSize (c : Nat) : Nat := match fmOf c with | some f => f.size | none => 1
/-- The format, FP32 where the code names none. -/
def fmD (c : Nat) : Fm := (fmOf c).getD .fp32
/-- The code names an integer format. -/
def isIntCode (c : Nat) : Bool := c == 7 || c == 8

/-- The operand is used: 0 A, 1 B, 2 C, 3 OUT. -/
def dUses (b : Bytes) (i : Nat) : Bool :=
  match i with
  | 0 => true
  | 1 => [1, 2, 5, 6, 7].contains (dCode b)
  | 2 => match dCode b with | 2 | 6 => !dNb b | 5 => dWt b | _ => false
  | _ => !dRet b

/-! ## Checks 2 to 7 of R318 -/

/-- Flags legal with an operator (R314). -/
def legalFlags (code : Nat) : Nat :=
  match code with | 1 => 1 | 2 => 2 + 8 | 3 => 1 + 4 | 4 => 1 | 5 => 1 + 16 | 6 => 1 + 2 | 7 => 1 | _ => 0

/-- The first byte of the operator area that an operator leaves unused. -/
def areaEnd (b : Bytes) : Nat :=
  match dCode b with | 1 => 52 | 2 => 56 | 3 => 64 | 4 => 51 | 5 => if dWt b then 58 else 57 | 6 => if dNb b then 51 else 52 | _ => 55

/-- Check 4: reserved fields and bits, flags legal for the operator, unused fields zero. -/
def check4 (b : Bytes) : Bool :=
  let code := dCode b
  let fl := leAt b 2 1
  leAt b 7 1 == 0 && leAt b 14 2 == 0 && (fl &&& legalFlags code) == fl &&
    (List.range 4).all (fun i => dUses b i || (dPtr b i == 0 && dForm b i == 0)) &&
    leAt b (areaEnd b) (64 - areaEnd b) == 0 &&
    (!([1, 3, 4].contains code) || dKind b == 0) && (!([1, 3, 4].contains code) || dOut b == 0) &&
    (code != 4 || dRow b == 0) && (code != 3 || leAt b 59 1 != 0 || leAt b 56 8 == 0)

/-- A code against the accepted ones: 0 malformed, `top` and above unsupported (R275, R316). -/
def codeCheck (c top : Nat) (accepted : List Nat) : Option Status :=
  if c = 0 then some .format else if top ≤ c then some .unsupported else if accepted.contains c then none else some .format

/-- Formats that may be factors of an exact dot (R256). -/
def factorCodes : List Nat := [3, 4, 5, 6, 8]

/-- The first failure of a list. -/
def firstOf (l : List (Option Status)) : Option Status := l.findSome? (fun x => x)

/-- A `FORMAT` where a condition does not hold. -/
def need (c : Bool) : Option Status := if c then none else some .format

/-- Check 5: kind, format and selector codes (R275, R316 and the operators' own tables). -/
def check5 (b : Bytes) : Option Status :=
  let k := dKind b
  let i := dIn b
  let o := dOut b
  let floats := [2, 3, 4, 5, 6]
  match dCode b with
  | 1 => codeCheck i 9 [1]
  | 2 => firstOf [codeCheck k 4 [1, 2], codeCheck i 9 (floats ++ [7, 8]), codeCheck o 9 [2, 3, 4, 7],
      need (k != 1 || isIntCode i == isIntCode o)]
  | 3 =>
    let term := fun p => firstOf [codeCheck (leAt b (p + 2) 1) 9 (floats ++ [7, 8]), need (1 ≤ leAt b (p + 3) 1 && leAt b (p + 3) 1 ≤ 6)]
    firstOf [codeCheck i 9 [1], term 48, if leAt b 59 1 = 0 then none else term 56]
  | 4 => firstOf [codeCheck i 9 (floats ++ [7, 8]), codeCheck (leAt b 50 1) 3 [1, 2]]
  | 5 =>
    let w := dWfmt b
    let combo := match dMode b, dWt b with
      | 1, false => k == 1 || k == 2
      | 1, true => (k == 1 && !isIntCode i && [2, 3, 4].contains w) || (k == 3 && factorCodes.contains i && [3, 4, 5, 6].contains w)
      | 2, false => k == 2
      | 3, false => k == 1
      | _, _ => false
    firstOf [codeCheck k 4 [1, 2, 3], codeCheck i 9 (floats ++ [7, 8]), codeCheck o 9 (floats ++ [7]),
      if dWt b then codeCheck w 9 (floats ++ [7, 8]) else none, need combo, need (k != 1 || isIntCode i == isIntCode o)]
  | 6 =>
    let w := leAt b 50 1
    let bias := leAt b 51 1
    let pair := (i == 3 && w == 3) || (i == 4 && w == 4) || ((i == 5 || i == 6) && (w == 5 || w == 6)) || (i == 8 && w == 8)
    let okBias := if k = 3 then factorCodes.contains bias else bias == (if i = 8 then 7 else 2)
    firstOf [codeCheck k 4 [1, 3], codeCheck i 9 factorCodes, codeCheck o 9 (floats ++ [7, 8]), codeCheck w 9 factorCodes,
      if dNb b then none else codeCheck bias 9 (floats ++ [7, 8]), need pair, need (dNb b || okBias)]
  | _ => firstOf [codeCheck k 4 [1, 2], codeCheck i 9 (floats ++ [7, 8]), codeCheck o 9 [2, 3, 4]]

/-- Check 6: counts, shapes and limits (R325, R330, R344). -/
def check6 (b : Bytes) : Bool :=
  let n := dN b
  let row := dRow b
  let big := 2 ^ 24
  let rowOk := 1 ≤ row && row ≤ 4096
  match dCode b with
  | 1 => n ≤ big && rowOk && 1 ≤ dRows b
  | 2 => n ≤ big && rowOk && 1 ≤ dRows b && dRows b * row ≤ big
  | 3 =>
    let term := fun p => let e := fmSize (leAt b (p + 2) 1); leAt b p 2 % e == 0 && leAt b p 2 + e ≤ row
    n ≤ big && rowOk && term 48 && (leAt b 59 1 == 0 || term 56)
  | 4 => n ≤ 2 ^ 30 && dK b ≤ 1024
  | 5 => n ≤ 2 ^ 20 && rowOk && 1 ≤ dRows b && dBase b ≤ 2 ^ 26
  | 6 => n ≤ big && rowOk && 1 ≤ dK b && dK b ≤ 1024 && row * dK b * fmSize (leAt b 50 1) ≤ 262144
  | _ => n ≤ big && rowOk && 1 ≤ dModel b && dModel b ≤ 67108864 && 1 ≤ dO b && dO b ≤ 16

/-- An empty operation (R344): no operand is read and no byte written. -/
def dEmpty (b : Bytes) : Bool :=
  match dCode b with
  | 4 => dK b == 0
  | 5 => dN b == 0 || dBase b == 0
  | _ => dN b == 0

/-- The extent of operand `i` in bytes (R319): 0 A, 1 B, 2 C, 3 the output. -/
def extentOf (b : Bytes) (i : Nat) : Nat :=
  let n := dN b
  let row := dRow b
  let e := fmSize (dIn b)
  let eo := fmSize (dOut b)
  if dEmpty b then 0
  else match dCode b, i with
    | 1, 0 => 4 * n | 1, 1 => dRows b * row | 1, 3 => n * row
    | 2, 0 => 4 * n | 2, 1 => n * row * e | 2, 2 => dRows b * row * eo | 2, 3 => dRows b * row * eo
    | 3, 0 => n * row | 3, 3 => if dIdx b then 4 * n else n * row
    | 4, 0 => n * e | 4, 3 => dK b * (4 + e)
    | 5, 0 => dRows b * row * e | 5, 1 => 4 * (n + 1 + dBase b) | 5, 2 => dBase b * fmSize (dWfmt b) | 5, 3 => n * row * eo
    | 6, 0 => n * row * e | 6, 1 => row * dK b * fmSize (leAt b 50 1) | 6, 2 => dK b * fmSize (leAt b 51 1) | 6, 3 => n * dK b * eo
    | 7, 0 => n * row * e | 7, 1 => dModel b | 7, 3 => n * dO b * eo
    | _, _ => 0

/-- Checks 2 to 7 of R318. -/
def checkDescriptor (b : Bytes) : Option Status :=
  let code := dCode b
  if code = 0 then some .format
  else if 7 < code then some .unsupported
  else if leAt b 1 1 = 0 then some .format
  else if leAt b 1 1 ≠ 1 then some .unsupported
  else if !check4 b then some .format
  else match check5 b with
    | some st => some st
    | none => if !check6 b || (dRet b && 4088 < extentOf b 3) then some .format else none

/-! ## Tiles and claims (R325) -/

/-- Tiles of an operator. -/
def tilesOf (b : Bytes) : Nat :=
  let n := dN b
  if dEmpty b then 0
  else match dCode b with
    | 1 => cdiv n 256
    | 2 => if dKind b = 1 then 1 else cdiv n 256
    | 3 => cdiv n 1024
    | 4 => cdiv n 16384
    | 5 => n
    | _ => cdiv n 64

/-- Scratchpad granules a tile needs on its core. -/
def granulesOf (b : Bytes) : Nat :=
  cdiv (match dCode b with
    | 4 => 32768
    | 6 => dRow b * dK b * fmSize (leAt b 50 1) + 65536
    | 7 => if dModel b ≤ 393216 then dModel b + 65536 else 65536
    | _ => 65536) 64

/-- Accumulator steps an operator claims. -/
def claimOf (b : Bytes) : Nat :=
  let rl := dRows b * dRow b
  match dCode b, dKind b with
  | 2, 2 => cdiv rl 26214
  | 2, _ => cdiv rl 262144
  | 5, 2 => cdiv (8 * dRow b) 26214
  | 5, 3 => cdiv (8 * dRow b) 14563
  | 5, _ => 1
  | 6, 3 => 1
  | 7, _ => 1
  | _, _ => 0

/-! ## Reading (R321) -/

/-- The operand that is a table of which only selected rows are read (R493): its number and row size in bytes. -/
def tableOperand (b : Bytes) : Option (Nat × Nat) :=
  match dCode b with
  | 1 => some (1, dRow b)
  | 5 => some (0, dRow b * fmSize (dIn b))
  | _ => none

/-- 32-bit values of a byte extent. -/
def words32 (x : Bytes) : List Nat := elems 4 x

/-- The bag list is well formed (R333). -/
def bagListOk (n i rows : Nat) (x : Bytes) : Bool :=
  let ws := words32 x
  let offs := ws.take (n + 1)
  nth offs 0 == 0 && nth offs n == i && (offs.zip (offs.drop 1)).all (fun p => p.1 ≤ p.2) && (ws.drop (n + 1)).all (· < rows)

/-- A node of a tree model (R338). -/
structure TreeNode where
  feature : Nat
  kind : Nat
  flags : Nat
  value : Nat
  left : Nat
  right : Nat

/-- Node `i` of a model's node array. -/
def nodeAt (x : Bytes) (i : Nat) : TreeNode :=
  let b := slice x (16 * i) 16
  { feature := leAt b 0 2, kind := leAt b 2 1, flags := leAt b 3 1, value := leAt b 4 4, left := leAt b 8 4, right := leAt b 12 4 }

/-- The node array of a model with `o` outputs and `t` trees. -/
def modelNodes (x : Bytes) (t o : Nat) : List TreeNode :=
  let a := x.drop (16 + 16 * cdiv o 4 + 8 * t)
  (chunks 16 a).map (nodeAt · 0)

/-- The split nodes on the longest path below each node, one pass further: none where a path is longer than `d`. -/
def depthPass (ns : Array TreeNode) (h : Array (Option Nat)) : Array (Option Nat) :=
  ns.map (fun n => if n.kind = 3 then some 0
    else match h.getD n.left none, h.getD n.right none with
      | some a, some b => some (1 + max a b)
      | _, _ => none)

/-- Heights of nodes after `d` passes: known only where every path ends within `d` split nodes. -/
def heights (ns : Array TreeNode) : Nat → Array (Option Nat)
  | 0 => ns.map (fun n => if n.kind = 3 then some 0 else none)
  | d + 1 => depthPass ns (heights ns d)

/-- The model is well formed (R337 to R339). -/
def modelOk (b x : Bytes) : Bool :=
  let t := leAt x 0 4
  let o := leAt x 7 1
  let d := leAt x 8 1
  let n := leAt x 12 4
  let f := dRow b
  16 ≤ x.length && 1 ≤ t && t ≤ 65536 && leAt x 4 2 == f && leAt x 6 1 == dIn b && 1 ≤ o && o ≤ 16 && o == dO b && 1 ≤ d && d ≤ 32 &&
    leAt x 9 3 == 0 && 1 ≤ n && n ≤ 2 ^ 22 && x.length == 16 + 16 * cdiv o 4 + 8 * t + 16 * n &&
    ((x.drop (16 + 4 * o)).take (16 * cdiv o 4 - 4 * o)).all (· == 0) &&
    (let trees := chunks 8 ((x.drop (16 + 16 * cdiv o 4)).take (8 * t))
     let ns := (modelNodes x t o).toArray
     trees.all (fun e => leAt e 0 4 < n && leAt e 4 1 < o && leAt e 5 3 == 0) &&
     ns.all (fun m => m.flags < 2 &&
       (match m.kind with
        | 3 => m.feature == 0xFFFF && m.left == 0 && m.right == 0
        | 1 | 2 => m.feature < f && m.left < n && m.right < n && !(!isIntCode (dIn b) && (Fm.fp32.val m.value).isNan)
        | _ => false)) &&
     (let h := heights ns d
      trees.all (fun e => (h.getD (leAt e 0 4) none).isSome)))

/-- The index list, bag list or model of an operator is well formed (R321). -/
def listOk (b : Bytes) (ins : List Bytes) : Bool :=
  match dCode b with
  | 1 => (words32 (ins.getD 0 [])).all (· < dRows b)
  | 2 => dSkip b || (words32 (ins.getD 0 [])).all (fun i => dBase b ≤ i && i < dBase b + dRows b)
  | 5 => bagListOk (dN b) (dBase b) (dRows b) (ins.getD 1 [])
  | 7 => modelOk b (ins.getD 1 [])
  | _ => true

/-- The rows of the table operand that are read, in list order (R493). -/
def selectedRows (b : Bytes) (ins : List Bytes) : List Nat :=
  match dCode b with
  | 1 => words32 (ins.getD 0 [])
  | 5 => (words32 (ins.getD 1 [])).drop (dN b + 1)
  | _ => []

/-! ## Outputs -/

/-- What an operator computes: output bytes, its count, and the exceptions of its elements. -/
structure OpOut where
  bytes : Bytes
  count : Nat
  excs : List Exc
  ovf : Bool := false

/-- The output element of a fixed-order accumulation (R253, R260). -/
def Fold.out (a : Fold) (f : Fm) : Nat × Exc :=
  let r := f.conv a.v
  (r.1, if a.sat && r.2 == .none then .sat else r.2)

/-- A fixed-order start from a value. -/
def Fold.from (v : Num) : Fold := { v := v, started := true }

/-- Collect elements into bytes, with their exceptions. -/
def packed (f : Fm) (l : List (Nat × Exc)) : Bytes × List Exc := (unelems f.size (l.map (·.1)), l.map (·.2))

/-- Gather (R327): `ins` holds A and the selected rows of B. -/
def gatherOut (b : Bytes) (ins : List Bytes) : OpOut := { bytes := ins.getD 1 [], count := dN b, excs := [] }

/-- Scatter-add (R328, R329). -/
def scatterOut (b : Bytes) (ins : List Bytes) : OpOut :=
  let fi := fmD (dIn b)
  let fo := fmD (dOut b)
  let l := dRow b
  let idx := words32 (ins.getD 0 [])
  let rows := (chunks (l * fi.size) (ins.getD 1 [])).map (fun x => (elems fi.size x).map fi.val)
  let hits := (idx.zip rows).filterMap (fun p => if dBase b ≤ p.1 && p.1 < dBase b + dRows b then some (p.1 - dBase b, p.2) else none)
  let base := if dNb b then none else some (elems fo.size (ins.getD 2 []))
  let int := isIntCode (dOut b)
  let els := (List.range (dRows b)).flatMap (fun r =>
    let mine := (hits.filter (fun h => h.1 = r)).map (·.2)
    (List.range l).map (fun c =>
      let xs := mine.map (fun v => v.getD c .nan)
      let e := base.map (fun bs => fo.val (nth bs (r * l + c)))
      if dKind b = 2 then
        let w : Acc := match e with | some v => Acc.add wes {} v | none => {}
        (xs.foldl (Acc.add wes) w).round wes fo
      else (xs.foldl (Fold.step int) (Fold.from (e.getD (.fin false 0 1)))).out fo))
  let (bs, es) := packed fo els
  { bytes := bs, count := hits.length, excs := es }

/-- A filter term holds of a row (R330, R331, R266). -/
def termHolds (term row : Bytes) : Bool :=
  let f := fmD (leAt term 2 1)
  let x := f.val (leAt row (leAt term 0 2) f.size)
  let c := (if isIntCode (leAt term 2 1) then Fm.int32 else Fm.fp32).val (leAt term 4 4)
  match leAt term 3 1 with
  | 1 => x.eqv c
  | 2 => !x.eqv c
  | 3 => x.lt c
  | 4 => x.lt c || x.eqv c
  | 5 => c.lt x
  | _ => c.lt x || x.eqv c

/-- Predicate filter with compaction (R330, R331): the bytes written, which may fall short of the extent. -/
def filterOut (b : Bytes) (ins : List Bytes) : OpOut :=
  let t1 := slice b 48 8
  let t2 := slice b 56 8
  let rows := chunks (dRow b) (ins.getD 0 [])
  let kept := rows.zipIdx.filter (fun p => termHolds t1 p.1 && (leAt t2 3 1 == 0 || termHolds t2 p.1))
  { bytes := kept.flatMap (fun p => if dIdx b then natLe 4 p.2 else p.1), count := kept.length, excs := [] }

/-- Insert an element into a ranked list of at most `k` (R267). -/
def rankInsert (largest : Bool) (x : Num × Nat × Nat) : List (Num × Nat × Nat) → List (Num × Nat × Nat)
  | [] => [x]
  | y :: ys => if ranksBefore largest x.1 x.2.1 y.1 y.2.1 then x :: y :: ys else y :: rankInsert largest x ys

/-- Top-k (R332). -/
def topkOut (b : Bytes) (ins : List Bytes) : OpOut :=
  let f := fmD (dIn b)
  let k := dK b
  let xs := (elems f.size (ins.getD 0 [])).zipIdx.map (fun p => (f.val p.1, p.2, p.1))
  let best := xs.foldl (fun l x => (rankInsert (leAt b 50 1 == 1) x l).take k) []
  let pad := k - best.length
  { bytes := best.flatMap (fun p => natLe 4 p.2.1) ++ (List.replicate pad (natLe 4 0xFFFFFFFF)).flatten ++
      best.flatMap (fun p => natLe f.size p.2.2) ++ zeros (pad * f.size)
    count := min (dN b) k, excs := [] }

/-- One element of a bag (R334): its values in bag order, with weights where there are any. -/
def bagElement (b : Bytes) (xs ws : List Num) : Nat × Exc :=
  let fo := fmD (dOut b)
  let int := isIntCode (dIn b)
  if xs.isEmpty then (0, .none)
  else match dMode b, dKind b with
    | 1, 2 => (xs.foldl (Acc.add wes) {}).round wes fo
    | 1, 3 => ((xs.zip ws).foldl (fun w p => Acc.add wed w (p.2.mul p.1)) {}).round wed fo
    | 1, _ =>
      let ps := if dWt b then (xs.zip ws).map (fun p => p.2.mul p.1) else xs
      (ps.foldl (Fold.step int) {}).out fo
    | 2, _ =>
      let w : Acc := xs.foldl (Acc.add wes) {}
      if w.nan || w.ovf || w.pinf || w.ninf || w.value = 0 then w.round wes fo
      else fo.conv (.fin (w.value < 0) w.value.natAbs (2 ^ wes.s * xs.length))
    | _, _ => fo.conv (xs.foldl (fun a x => a.pick true x) .nan)

/-- Embedding-bag (R333, R334): `ins` holds the selected rows of A, the bag list, and the weights. -/
def bagOut (b : Bytes) (ins : List Bytes) : OpOut :=
  let fi := fmD (dIn b)
  let fo := fmD (dOut b)
  let l := dRow b
  let offs := (words32 (ins.getD 1 [])).take (dN b + 1)
  let rows := (chunks (l * fi.size) (ins.getD 0 [])).map (fun x => (elems fi.size x).map fi.val)
  let fw := fmD (dWfmt b)
  let ws := if dWt b then (elems fw.size (ins.getD 2 [])).map fw.val else []
  let els := (List.range (dN b)).flatMap (fun i =>
    let lo := nth offs i
    let hi := nth offs (i + 1)
    let mine := (rows.drop lo).take (hi - lo)
    let wt := (ws.drop lo).take (hi - lo)
    (List.range l).map (fun c => bagElement b (mine.map (fun v => v.getD c .nan)) wt))
  let (bs, es) := packed fo els
  { bytes := bs, count := dN b, excs := es }

/-- Small dense projection (R335, R336). -/
def projectionOut (b : Bytes) (ins : List Bytes) : OpOut :=
  let fi := fmD (dIn b)
  let fw := fmD (leAt b 50 1)
  let fb := fmD (leAt b 51 1)
  let fo := fmD (dOut b)
  let m := dK b
  let int := isIntCode (dIn b)
  let xs := (chunks (dRow b * fi.size) (ins.getD 0 [])).map (fun x => (elems fi.size x).map fi.val)
  let ws := (chunks (m * fw.size) (ins.getD 1 [])).map (fun x => (elems fw.size x).map fw.val)
  let bias := if dNb b then none else some ((elems fb.size (ins.getD 2 [])).map fb.val)
  let els := xs.flatMap (fun x => (List.range m).map (fun j =>
    let ps := x.zip (ws.map (fun w => w.getD j .nan))
    let bj := bias.map (fun l => l.getD j .nan)
    if dKind b = 3 then
      let w : Acc := ps.foldl (fun w p => Acc.add wed w (p.1.mul p.2)) {}
      ((match bj with | some v => Acc.add wed w v | none => w).round wed fo)
    else
      let a := dotFold int ps
      ((match bj with | some v => a.step int v | none => a).out fo)))
  let (bs, es) := packed fo els
  { bytes := bs, count := dN b, excs := es }

/-- Walk a tree for a row (R340): the leaf's value, `fuel` bounding the depth. -/
def walkTree (ns : Array TreeNode) (int : Bool) (row : Array Num) : Nat → Nat → Num
  | 0, _ => .nan
  | fuel + 1, i =>
    match ns[i]? with
    | none => .nan
    | some n =>
      if n.kind = 3 then Fm.fp32.val n.value
      else
        let x := row.getD n.feature .nan
        let t := (if int then Fm.int32 else Fm.fp32).val n.value
        let left := if x.isNan then !n.flags.testBit 0 else if n.kind = 1 then x.lt t else x.lt t || x.eqv t
        walkTree ns int row fuel (if left then n.left else n.right)

/-- Decision-tree-ensemble evaluation (R337 to R340). -/
def treeOut (b : Bytes) (ins : List Bytes) : OpOut :=
  let fi := fmD (dIn b)
  let fo := fmD (dOut b)
  let x := ins.getD 1 []
  let t := leAt x 0 4
  let o := dO b
  let trees := (chunks 8 ((x.drop (16 + 16 * cdiv o 4)).take (8 * t))).map (fun e => (leAt e 0 4, leAt e 4 1))
  let ns := (modelNodes x t o).toArray
  let base := (List.range o).map (fun j => Fm.fp32.val (leAt x (16 + 4 * j) 4))
  let els := (chunks (dRow b * fi.size) (ins.getD 0 [])).flatMap (fun r =>
    let row := ((elems fi.size r).map fi.val).toArray
    let leaves := trees.map (fun e => (e.2, walkTree ns (isIntCode (dIn b)) row 34 e.1))
    base.mapIdx (fun j v =>
      let mine := (leaves.filter (fun p => p.1 = j)).map (·.2)
      if dKind b = 2 then (mine.foldl (Acc.add wes) (Acc.add wes {} v)).round wes fo
      else (mine.foldl (Fold.step false) (Fold.from v)).out fo))
  let (bs, es) := packed fo els
  { bytes := bs, count := dN b, excs := es }

/-- The output of an operator from its operand bytes: whole extents, but selected rows of a table operand. -/
def operatorOut (b : Bytes) (ins : List Bytes) : OpOut :=
  if dEmpty b then { bytes := [], count := 0, excs := [] }
  else match dCode b with
    | 1 => gatherOut b ins
    | 2 => scatterOut b ins
    | 3 => filterOut b ins
    | 4 => topkOut b ins
    | 5 => bagOut b ins
    | 6 => projectionOut b ins
    | _ => treeOut b ins

/-- The result word (R322). -/
def OpOut.word (x : OpOut) : Nat := x.count % 2 ^ 32 + min (excCounts x.excs).sum 0xFFFFFFFF * 2 ^ 32

end Sys2Proof.Machine
end

