-- ==== Sys2Proof/Machine/Operators.lean ====
section
/-! DEFINITION. Near-data operators on the clusters (chapters 08 and 11): arrival, the dispatch queue, operands, tiles, output
and acceptance, and the cross-checks of suspect parts (R599, R600) as both members see them. -/

namespace Sys2Proof.Machine

/-! ## Jobs and claims (R228, R237 to R239) -/

/-- The operator of a request. -/
def State.job (s : State) (id : Nat) : Option OpJob := s.eng.jobs.find? (fun j => j.req = id)

/-- Change the operator of a request. -/
def State.modJob (s : State) (id : Nat) (f : OpJob → OpJob) : State :=
  s.modEng (fun e =>
    let l := mapIf (fun (j : OpJob) => j.req = id) f e.jobs
    { e with jobs := l })

/-- Operators in a cluster's dispatch queue. -/
def State.queueDepth (s : State) (c : Nat) : Nat := (s.eng.jobs.filter (fun j => j.cluster = c && !j.running && dCode j.desc < 8)).length

/-- Slots that a collective reserves at each bound position: WES slots and partial slots (R284). -/
def Collective.slots (k : Collective) : Nat × Nat :=
  let w := cdiv k.open_ (max 1 (leAt k.desc 5 1))
  let e := k.segBytes / formatSize k.fmt
  match k.mode with
  | 1 => (w * e, 0)
  | 2 => (0, w * (e + (k.list.length - 1) * (k.segBytes / 4)))
  | _ => (0, w * e)

/-- Positions of a collective on a cluster. -/
def Collective.positionsOn (k : Collective) (c : Nat) : Nat := (k.positions.filter (fun g => (g - 64) / 2 = c)).length

/-- Accumulator steps in use on a cluster: the collectives' reservations by kind, and the running operators' claims. -/
def State.stepsUsed (s : State) (c : Nat) : Nat :=
  let r := s.eng.colls.map (fun k => (k.slots.1 * k.positionsOn c, k.slots.2 * k.positionsOn c))
  cdiv ((r.map (·.1)).sum) 26214 + cdiv ((r.map (·.2)).sum) 262144 +
    ((s.eng.jobs.filter (fun j => j.cluster = c && j.running)).map (·.steps)).sum

/-- Scratchpad granules claimed on a core of a cluster by other operators. -/
def State.granulesClaimed (s : State) (c core but : Nat) : Nat :=
  ((s.eng.jobs.filter (fun j => j.cluster = c && j.req ≠ but && j.cores.contains core)).map (fun j => granulesOf j.desc)).sum

/-- A core is free for an operator's tile (R239). -/
def State.coreFree (s : State) (j : OpJob) (core : Nat) : Bool :=
  !s.eng.tiles.any (fun t => t.cluster = j.cluster ∧ t.core = core) &&
    s.granulesClaimed j.cluster core j.req + granulesOf j.desc ≤ 8192

/-- The lowest-numbered core that is free for an operator's tile. -/
def State.freeCore (s : State) (j : OpJob) : Option Nat := (List.range 8).find? (s.coreFree j)

/-- Forget an operator: its tiles, claims and place are free again. -/
def State.dropJob (s : State) (id : Nat) : State :=
  s.modEng (fun e => { e with jobs := e.jobs.filter (fun j => j.req ≠ id), tiles := e.tiles.filter (fun t => t.req ≠ id), lastRun := s.now })

/-! ## Refusals while it runs (R134, R320, R321) -/

/-- The frames a request waits for. -/
def State.framesOf (s : State) (id : Nat) : List OutFrame :=
  s.jrn.outs.filter (fun o => match o.owner with
    | .tray r | .copy r | .operand r | .crossCheck r | .relay r _ => r == id
    | _ => false)

/-- End a request with a refusal: its open frames are filled with empty stores (R85, R658). -/
def State.endRequest (s : State) (id : Nat) (st : Status) : State :=
  (((s.each (s.framesOf id) (fun s o => s.fillSeq o false)).dropJob id).dropPublish id).refuse id st

/-- An event of an operator (R343), at most once per (source node, stream) per 1 ms. -/
def State.opEvent (s : State) (code : Nat) (r : Req) (st : Status) : State :=
  s.eventLimited code [r.hdr.src.toNat, r.hdr.stream.toNat] toFabric (some r.part) (some r.part) (.request r.hdr st [])

/-- A malformed index list, bag list or model (R321). -/
def State.opInvalid (s : State) (id : Nat) : State :=
  match s.req id with
  | some r => (s.opEvent 0x0B01 r .format).endRequest id .format
  | none => s

/-- An operand target is lost (R320). -/
def State.opLost (s : State) (id : Nat) : State :=
  match s.req id with
  | some r => (s.opEvent 0x0B02 r .targetLost).endRequest id .targetLost
  | none => s

/-- The master under which an operator reaches its operands: the local context of its partition (R118). -/
def State.opMaster (s : State) (p : Nat) : Cid := match s.localContext p with | some x => x.cid | none => 0

/-- An operand is refused (R134, R145). -/
def State.opDenied (s : State) (id : Nat) (st : Status) : State :=
  match s.req id with
  | some r =>
    let h := { r.hdr with src := s.tabs.node, cid := s.opMaster r.part }
    (s.deniedEvent h r.part st).endRequest id st
  | none => s

/-! ## Arrival (R237, R318) -/

/-- The Rim die that homes a stream record (R75). -/
def recordDie (t : Stream) : Nat := if t.getLsbD 6 then 1 else 0

/-- The frame is a cross-check from the partner (R600). -/
def State.isCrossCheck (s : State) (h : Header) : Bool := s.tabs.paired && h.src == s.tabs.partner && h.stream == 0x7A

/-- Check 8 of R318: every pointer resolved, in the order A, B, C, OUT. -/
def State.resolveAll (s : State) (r : Req) (b : Bytes) (cross : Bool) : Except (Status × Bool) (List (List (Nat × Nat))) :=
  (List.range 4).foldl (fun acc i =>
    match acc with
    | .error e => .error e
    | .ok l =>
      if !dUses b i || (cross && i == 3) then .ok (l ++ [[]])
      else if !pointerOk (dForm b i) (dPtr b i) then .error (.format, false)
      else match s.resolve r.part r.hdr.src r.hdr.cid (dForm b i) (dPtr b i) (extentOf b i) (i == 3) with
        | .ok ps => .ok (l ++ [ps])
        | .windowMiss => .error (.denied, false)
        | .xlateFault => .error (.denied, true)) (.ok [])

/-- An extent touches a Sumac range of this device (R355). -/
def State.touchesSumac (s : State) (ps : List (Nat × Nat)) : Bool :=
  ps.any (fun x => s.isOwn x.1 && (s.sumacTouched (offOf x.1) x.2).isSome)

/-- The checks after check 14 on an operator's descriptor, up to its place in the queue (R272, R318, R228, R495). -/
def State.opChecks (s : State) (r : Req) (cross : Bool) (c : Nat) : Except Status (List (List (Nat × Nat))) × State :=
  let b := r.payload
  match checkDescriptor b with
  | some st => (.error st, s)
  | none =>
    if !dEmpty b && (s.localContext r.part).isNone then (.error .denied, s)
    else match s.resolveAll r b cross with
      | .error (st, fault) => (.error st, if fault then s.xlateFault r.hdr r.part else s)
      | .ok exts =>
        if exts.any s.touchesSumac then (.error .format, s)
        else if (exts.take 3).any (fun a => a.any (fun x => (exts.getD 3 []).any (fun y => overlaps x.1 x.2 y.1 y.2))) then
          (.error .format, s)
        else if (s.cluster c).accMib < claimOf b then (.error .quota, s)
        else if r.dup.isNone && !cross && s.locked r.part then
          match s.reserveLeaf r.part with
          | some s => (.ok exts, s.modReq r.id (fun r => { r with leaf := true }))
          | none => (.error .throttled, s.logFull r.part)
        else (.ok exts, s)

/-- An opened operator passes its checks and enters its cluster's dispatch queue, or is refused. -/
def State.opEnter (s : State) (id c g : Nat) : State :=
  match s.req id with
  | none => s
  | some r =>
    let cross := s.isCrossCheck r.hdr
    match s.opChecks r cross c with
    | (.error st, s) => s.refuse id st
    | (.ok exts, s) =>
      let j : OpJob := { req := id, cluster := c, pos := g, desc := r.payload, arrivedAt := s.now, exts := exts, crossCheck := cross }
      (s.modEng (fun e => { e with jobs := e.jobs ++ [j] })).modReq id (fun r => { r with stage := .queued c g })

/-- The G position, 0 to 63, at which an offload has been received. -/
def State.opPosition (s : State) (d : Delivered) : Nat :=
  if 64 ≤ d.pos ∧ d.pos < 128 then d.pos - 64
  else (s.steerOffload d.part d.hdr.src d.hdr.stream).getD 0

/-- The number of a power state in its event. -/
def powerNumber : Power → Nat
  | .active => 0 | .quiescent => 1 | .standby => 2

/-- The device enters a power state (R583, R591). -/
def State.enterPower (s : State) (p : Power) : State :=
  (s.modHoop (fun h => { h with power := p })).event 0x1405 toBoth none none (.resource 14 0 [powerNumber s.hoop.power, powerNumber p])

/-- The first `OFFLOAD` or `REDUCE_PUT` steered to a cluster ungates the assigned clusters (R583). -/
def State.ungate (s : State) : State :=
  if s.hoop.power = .quiescent then
    (s.modEng (fun e =>
      let l := mapIf (fun (c : Cluster) => c.assigned) (fun (c : Cluster) => { c with gated := false }) e.clusters
      { e with clusters := l, lastRun := s.now })).enterPower .active
  else s

/-- An operator `OFFLOAD` at its cluster (R237, R318): with the queue full it waits in front of it. -/
def State.opOffload (s : State) (d : Delivered) : State :=
  let s := s.ungate
  let g := s.opPosition d
  let c := g / 2
  if 256 ≤ s.queueDepth c then s.park d
  else
    let w := recordDie d.hdr.stream
    match s.present d { die := 2 + c / 8, writer := w, off := 0, len := 0, right := none, clusters := true } with
    | .done s => s
    | .go s id => s.opEnter id c g
    | .dup s e tail =>
      if e.state = .refused then s.answerDup d e e.status [] 1
      else if dRet d.payload || s.isCrossCheck d.hdr || tail then
        let (id, s) := s.openDup d w e tail
        s.opEnter id c g
      else s.answerDup d e e.status (natLe 8 e.result.toNat) 1

/-! ## Start and operands (R238, R319 to R321, R482) -/

/-- A part of an extent that is served at once from the near tier. -/
def State.isNear (s : State) (x : Nat × Nat) : Bool := s.isOwn x.1 && s.addressable (offOf x.1)

/-- A near part waits: a line of it is held, or it lies in a view whose current version is not yet accepted. -/
def State.nearWaits (s : State) (x : Nat × Nat) : Bool :=
  s.isNear x && (s.rangeHeld (offOf x.1) x.2 ||
    (match s.viewOf (offOf x.1) x.2 with | some v => v.waiting | none => false))

/-- An earlier offload of the same stream has not yet written its output or been refused (R238). -/
def State.streamBlocks (s : State) (j : OpJob) : Bool :=
  match s.req j.req with
  | none => false
  | some r =>
    (s.eng.jobs.takeWhile (fun k => k.req ≠ j.req)).any (fun k =>
      (match s.req k.req with
       | some q => q.hdr.src == r.hdr.src && q.hdr.stream == r.hdr.stream
       | none => false) && !(k.written && (s.framesOf k.req).isEmpty)) ||
    s.jrn.reqs.any (fun q => q.id < r.id && q.hdr.src == r.hdr.src && q.hdr.stream == r.hdr.stream &&
      (match q.stage with | .release _ => true | _ => false))

/-- Everything but the accumulator slots allows an operator to start. -/
def State.opReady (s : State) (j : OpJob) : Bool :=
  !s.streamBlocks j && (s.freeCore j).isSome && !(j.exts.take 3).any (fun ps => ps.any s.nearWaits)

/-- The accumulator slots an operator claims are free (R228). -/
def State.slotsFree (s : State) (j : OpJob) : Bool := s.stepsUsed j.cluster + claimOf j.desc ≤ (s.cluster j.cluster).accMib

/-- Remaining budget of an operator, below zero once it is late (R238). -/
def State.opBudget (s : State) (j : OpJob) : Int :=
  match s.req j.req with
  | some r => (s.effDeadline r.hdr : Int) - (s.ageNow r : Int)
  | none => 0

/-- The operator of a cluster that starts next (R238). -/
def State.nextOp (s : State) (c : Nat) : Option OpJob :=
  (s.eng.jobs.filter (fun j => j.cluster = c && !j.running && dCode j.desc < 8 && s.opReady j && s.slotsFree j)).foldl
    (fun (m : Option OpJob) j => match m with
      | none => some j
      | some k => if s.opBudget j < s.opBudget k then some j else m) none

/-- Part `[off, off + n)` of an extent given as parts. -/
def subRange : List (Nat × Nat) → Nat → Nat → List (Nat × Nat)
  | [], _, _ => []
  | (g, l) :: ps, off, n =>
    if n = 0 then []
    else if l ≤ off then subRange ps (off - l) n
    else
      let m := min n (l - off)
      (g + off, m) :: subRange ps 0 (n - m)

/-- Pieces of a global range that one frame each can carry: to the next 4 KiB boundary. -/
def framePieces : Nat → Nat → Nat → List (Nat × Nat)
  | 0, _, _ => []
  | fuel + 1, g, n => if n = 0 then [] else
    let m := min n (4096 - g % 4096)
    (g, m) :: framePieces fuel (g + m) (n - m)

/-- The reads of parts of an operand: near parts whole, others by the frame. -/
def State.planOf (s : State) (i : Nat) (ps : List (Nat × Nat)) : List OpPart :=
  ps.flatMap (fun x => (if s.isNear x then [x] else framePieces (x.2 / 4096 + 2) x.1 x.2).map
    (fun y => { opnd := i, g := y.1, n := y.2 }))

/-- The tagged parts of an extent: near parts inside a view lie in the buffer of its current version (R482). -/
def State.tagParts (s : State) (ps : List (Nat × Nat)) : List (Nat × Nat) :=
  ps.map (fun x => if s.isOwn x.1 then
      (match s.viewOf (offOf x.1) x.2 with
       | some v => (x.1 - offOf x.1 + v.inBuffer v.current (offOf x.1), x.2)
       | none => x)
    else x)

/-- The bytes of an operand read so far: none while a part is missing. -/
def OpJob.input (j : OpJob) (i : Nat) : Option Bytes :=
  let ps := j.plan.filter (fun p => p.opnd = i)
  if ps.any (fun p => p.data.isNone) then none else some (ps.flatMap (fun p => p.data.getD []))

/-- The operand bytes, empty where a part is missing. -/
def OpJob.inputs (j : OpJob) : List Bytes := (List.range 3).map (fun i => (j.input i).getD [])

/-- Every planned part has been read. -/
def OpJob.allRead (j : OpJob) : Bool := j.plan.all (fun p => p.data.isSome)

/-- Issue one read of an operand: from the near tier at once, else by a frame of the local context (R320). -/
def State.opReadPart (s : State) (r : Req) (j : OpJob) (x : OpPart) : State :=
  let fill := fun (bs : Bytes) (s : State) => s.modJob j.req (fun j =>
    let l := mapIf (fun (p : OpPart) => p.opnd = x.opnd ∧ p.g = x.g ∧ p.n = x.n) (fun (p : OpPart) => { p with sent := true, data := some bs }) j.plan
    { j with plan := l })
  if s.isNear (x.g, x.n) then
    if s.rangeHeld (offOf x.g) x.n then s
    else
      let (bs, s) := s.nearRead (offOf x.g) x.n
      fill bs s
  else
    let dst : Node := BitVec.ofNat 16 (nodeOf x.g)
    let st : Stream := BitVec.ofNat 8 (0x40 + j.cluster)
    if 64 ≤ s.openToward dst st then s
    else
      let (q, s) := s.takeSeq dst st
      let h := s.ownHeader 1 r.hdr.tc.toNat st dst q (s.opMaster r.part) r.age0 (s.effDeadline r.hdr) x.n 1 (offOf x.g) false
      let s := s.originate (.operand j.req) h [] r.part (s.now - r.arrive)
      s.modJob j.req (fun j =>
        let l := mapIf (fun (p : OpPart) => p.g = x.g ∧ p.n = x.n) (fun (p : OpPart) => { p with sent := true }) j.plan
        { j with plan := l })

/-- Issue the reads of an operator that can be issued. -/
def State.opReads (s : State) (id : Nat) : State :=
  match s.req id, s.job id with
  | some r, some j => s.each j.plan (fun s x =>
      match s.job id with
      | some j => match j.plan.find? (fun p => p.opnd = x.opnd ∧ p.g = x.g ∧ p.n = x.n) with
        | some p => if p.sent then s else s.opReadPart r j p
        | none => s
      | none => s)
  | _, _ => s

/-- An operator goes on reading: with its index list, bag list or model read it validates them, then reads the selected
rows of its table (R321, R493). -/
def State.opFeed (s : State) (id : Nat) : State :=
  let s := s.opReads id
  match s.job id with
  | none => s
  | some j =>
    if !j.running || j.valid || !j.allRead then s
    else if !dEmpty j.desc && !listOk j.desc j.inputs then s.opInvalid id
    else match tableOperand j.desc with
      | none => s.modJob id (fun j => { j with valid := true })
      | some (i, size) =>
        let parts := (selectedRows j.desc j.inputs).flatMap (fun r => subRange (j.srcs.getD i []) (r * size) size)
        let more := s.planOf i parts
        (s.modJob id (fun j => { j with valid := true, plan := j.plan ++ more,
                                        reads := j.reads ++ (parts.filter (fun x => s.isOwn x.1)).map (fun x => (offOf x.1, x.2)) })).opReads id

/-- The access check of a local near extent of an operator (R131, R319): the refusal, if any. -/
def State.nearCheck (s : State) (r : Req) (write : Bool) (ps : List (Nat × Nat)) : Option Status :=
  ps.findSome? (fun x =>
    if !s.isNear x then none
    else match s.accessCheck s.tabs.node (s.opMaster r.part) (offOf x.1) x.2 (if write then .wr else .rd) with
      | .error st => some st
      | .ok _ =>
        if write then (if s.writeBarred (offOf x.1) x.2 then some .denied else none)
        else if s.viewStraddled (offOf x.1) x.2 then some .format else none)

/-- Start an operator (R238): its slots are claimed, its near extents checked, and its reads begin. -/
def State.opStart (s : State) (j : OpJob) : State :=
  match s.req j.req with
  | none => s.dropJob j.req
  | some r =>
    match (j.exts.take 3).findSome? (s.nearCheck r false) with
    | some st => s.opDenied j.req st
    | none =>
      let srcs := (j.exts.take 3).map s.tagParts
      let tab := (tableOperand j.desc).map (·.1)
      let plan := (List.range 3).flatMap (fun i => if tab = some i then [] else s.planOf i (srcs.getD i []))
      let own := fun (ps : List (Nat × Nat)) => (ps.filter (fun x => s.isOwn x.1)).map (fun x => (offOf x.1, x.2))
      let reads := (List.range 3).flatMap (fun i => if tab = some i then [] else own (srcs.getD i []))
      let s := s.modJob j.req (fun j => { j with running := true, steps := claimOf j.desc, srcs := srcs, plan := plan, reads := reads })
      let s := s.modReq j.req (fun r => { r with stage := .running j.cluster j.pos })
      (s.modEng (fun e => { e with lastRun := s.now })).opFeed j.req

/-! ## Tiles (R239) -/

/-- The next tile that may go to a core of a cluster: of the running operators, the one that started first. -/
def State.tileNext (s : State) (c : Nat) : Option (OpJob × Nat) :=
  if s.eng.stopped.contains c then none
  else s.eng.jobs.findSome? (fun j =>
    if j.cluster = c && j.running && j.valid && j.allRead && j.tilesStarted < tilesOf j.desc then
      (s.freeCore j).map (fun k => (j, k))
    else none)

/-- A tile starts on a core. -/
def State.startTile (s : State) (j : OpJob) (core : Nat) : State :=
  let s := s.modJob j.req (fun j => { j with
    tilesStarted := j.tilesStarted + 1, cores := if j.cores.contains core then j.cores else j.cores ++ [core] })
  s.modEng (fun e => { e with tiles := e.tiles ++ [⟨j.cluster, core, j.req, j.tilesStarted, s.now⟩], lastRun := s.now })

/-- A core finishes its tile: it has written its scratchpad (R225), and its time is metered (R555). -/
def State.endTile (s : State) (x : Tile) : State :=
  let s := s.modEng (fun e => { e with tiles := e.tiles.erase x, lastRun := s.now })
  match s.job x.req with
  | none => s
  | some j =>
    let g := granulesOf j.desc
    let s := s.modJob x.req (fun j => { j with tilesDone := j.tilesDone + 1 })
    let s := s.modPart (s.cluster x.cluster).part (fun p => { p with meter := p.meter.modify 2 (· + (s.now - x.since)) })
    s.modCluster x.cluster (fun c => { c with scratch := put x.core (min 8192 (max g ((look x.core c.scratch).getD 0))) c.scratch })

/-! ## Output and acceptance (R322 to R324, R495, R600) -/

/-- A part is suspect (R598). -/
def State.suspect (s : State) (part : Nat) : Bool := look part s.hlt.states == some .suspect

/-- Operators on a cluster are cross-checked: it, its Weft die or the device is suspect (R599). -/
def State.crossChecks (s : State) (c : Nat) : Bool := s.suspect c || s.suspect (96 + c / 8) || s.suspect 104

/-- The bytes that follow a filter's last kept row in its output extent, where this device can see them (R331, R493). -/
def State.outTail (s : State) (j : OpJob) (have_ : Nat) : Bytes :=
  let ps := j.exts.getD 3 []
  if dRet j.desc || !ps.all s.isNear then []
  else (subRange ps have_ (extentOf j.desc 3 - have_)).flatMap (fun x => s.memRead (offOf x.1) x.2)

/-- The leaf of an operator (R492, R493). -/
def State.opLeaf (s : State) (r : Req) (j : OpJob) (out : Bytes) (word : Nat) : LeafOf :=
  { type := 1, op := dCode j.desc, hdr := r.hdr, again := r.again, exceptions := 2 ^ 32 ≤ word, result := word,
    request := operatorHash j.desc,
    input := inputHash (((List.range 3).filter (dUses j.desc)).map (fun i => (i + 1, j.inputs.getD i [])))
    output := t32 (extHash (out ++ s.outTail j out.length)) }

/-- Send the output parts that a stream can take (R320). -/
def State.opSendOut (s : State) (id : Nat) : State :=
  match s.req id, s.job id with
  | some r, some j => s.each j.outTodo (fun s x =>
      let dst : Node := BitVec.ofNat 16 (nodeOf x.1)
      let st : Stream := BitVec.ofNat 8 (0x40 + j.cluster)
      if 64 ≤ s.openToward dst st then s
      else
        let (q, s) := s.takeSeq dst st
        let tc := if r.hdr.tc.toNat = 2 then 2 else 5
        let h := s.ownHeader 2 tc st dst q (s.opMaster r.part) r.age0 (s.effDeadline r.hdr) x.2.length 1 (offOf x.1) false
        (s.originate (.operand id) h x.2 r.part (s.now - r.arrive)).modJob id (fun j => { j with outTodo := j.outTodo.erase x }))
  | _, _ => s

/-- Copies of a request are outstanding. -/
def State.copying (s : State) (id : Nat) : Bool := s.jrn.outs.any (fun o => o.owner == .copy id)

/-- The end of a written operator: its entry, once its leaf and the leaf's copy are written, and with the last write its
completion (R322, R324, R495). -/
def State.opAdvance (s : State) (id : Nat) : State :=
  match s.req id, s.job id with
  | some r, some j =>
    if !j.written then s
    else match j.output with
      | none => s
      | some (out, word, counts) =>
        let write := !(dRet j.desc || j.crossCheck)
        let lf := s.opLeaf r j out word
        let again := r.again && r.dup.isSome && !j.crossCheck && !r.leaf
        let (k, s) :=
          if r.leaf then (s.modReq id (fun r => { r with leaf := false })).writeLeaf r.part (.copy id) lf
          else if again && r.waits = 0 then (s.modReq id (fun r => { r with waits := 1 })).writeLeafAgain r.part (.copy id) lf
          else (0, s)
        let s := if r.leaf && 0 < k then s.modReq id (fun r => { r with waits := 1 }) else s
        match s.req id with
        | none => s
        | some r =>
          if r.waits = 1 && s.copying id then s
          else
            let s := if r.index.isNone && r.dup.isNone then
                (s.modReq id (fun r => { r with result := if write then BitVec.ofNat 64 word else 0 })).journal id .applied
              else s
            if !(s.framesOf id).isEmpty || !j.outTodo.isEmpty then s
            else
              let s := if counts.any (0 < ·) then s.numericEvent r.hdr r.part counts false else s
              let data := if j.crossCheck then natLe 8 word ++ t32 (extHash out)
                else if dRet j.desc then natLe 8 word ++ out else natLe 8 word
              (s.finish id (if 2 ^ 32 ≤ word then .numeric else .ok) data 1).dropJob id
  | _, _ => s

/-- The output of an operator is written (R324 step 6): near parts at once with their copies, others by frames. -/
def State.opWrite (s : State) (id : Nat) : State :=
  match s.req id, s.job id with
  | some r, some j =>
    match j.output with
    | none => s
    | some (out, _, _) =>
      if j.written then s
      else if dRet j.desc || j.crossCheck || out.isEmpty then (s.modJob id (fun j => { j with written := true })).opAdvance id
      else
        let whole := j.exts.getD 3 []
        let ps := subRange whole 0 out.length
        match s.nearCheck r true whole with
        | some st => s.opDenied id st
        | none =>
          if ps.any (fun x => s.isNear x && (s.rangeHeld (offOf x.1) x.2 || s.stagingHeld (offOf x.1) x.2)) then s
          else
            let (s, todo, _) := ps.foldl (fun (a : State × List (Nat × Bytes) × Nat) x =>
              let (s, todo, at_) := a
              let bs := slice out at_ x.2
              if s.isNear x then
                let s := s.nearWrite (offOf x.1) bs
                let (_, s) := s.sendCopies (.copy id) (offOf x.1) bs r.hdr.tc.toNat r.part r.age0 (s.remaining r.hdr r.arrive) (s.now - r.arrive)
                (s.ringDoorbells (offOf x.1) bs.length, todo, at_ + x.2)
              else (s, todo ++ (framePieces (x.2 / 4096 + 2) x.1 x.2).map (fun y => (y.1, slice out (at_ + (y.1 - x.1)) y.2)), at_ + x.2))
              (s, [], 0)
            ((s.modJob id (fun j => { j with written := true, outTodo := todo })).opSendOut id).opAdvance id
  | _, _ => s

/-- The descriptor of a cross-check: the original with every pointer resolved to form 0 (R600). -/
def crossDescriptor (j : OpJob) : Bytes :=
  let ptr := fun i => if dUses j.desc i then (match j.exts.getD i [] with | x :: _ => x.1 | [] => 0) else 0
  j.desc.take 3 ++ [0] ++ slice j.desc 4 12 ++ (List.range 4).flatMap (fun i => natLe 8 (ptr i)) ++ j.desc.drop 48

/-- Ask the partner for a cross-check (R600 step 1). -/
def State.askCrossCheck (s : State) (r : Req) (j : OpJob) : State :=
  let (q, s) := s.takeSeq s.tabs.partner 0x7A
  let h := s.ownHeader 0x30 r.hdr.tc.toNat 0x7A s.tabs.partner q (s.opMaster r.part) r.age0 (s.effDeadline r.hdr) 64 1 0 false
  (s.originate (.crossCheck r.id) h (crossDescriptor j) r.part (s.now - r.arrive)).modReq r.id
    (fun r => { r with stage := .crossCheck j.cluster j.pos })

/-- An operator whose tiles are done computes its output (R321 to R324); inputs written meanwhile leave it undefined (R323). -/
def State.opComplete (s : State) (id : Nat) : State :=
  match s.req id, s.job id with
  | some r, some j =>
    if !(j.running && j.valid && j.allRead && tilesOf j.desc ≤ j.tilesDone) then s
    else if j.output.isSome then (s.opWrite id).opAdvance id
    else
      let x := operatorOut j.desc j.inputs
      let (out, s) :=
        if j.tainted then
          let (d, s) := s.draw
          let (e, s) := s.draw
          let word := leNat (Config.freeBytes e 8)
          ((Config.freeBytes d x.bytes.length, word, [word / 2 ^ 32]), s)
        else ((x.bytes, x.word, excCounts x.excs), s)
      let s := s.modJob id (fun j => { j with output := some out, cores := [] })
      match s.job id with
      | none => s
      | some j =>
        if s.crossChecks j.cluster && !j.crossCheck && !j.checked && r.dup.isNone && s.tabs.paired then s.askCrossCheck r j
        else s.opWrite id
  | _, _ => s

/-! ## Answers to an operator's frames -/

/-- An operand frame has been acknowledged (R320). -/
def State.operandAck (s : State) (o : OutFrame) (id : Nat) (payload : Bytes) : State :=
  let s := s.dropOut o
  if o.hdr.opcode = 1 then
    (s.modJob id (fun j =>
      let l := mapIf (fun (p : OpPart) => p.sent && p.data.isNone && p.g = o.global && p.n = o.hdr.length.toNat)
        (fun (p : OpPart) => { p with data := some payload }) j.plan
      { j with plan := l })).opFeed id
  else (s.opSendOut id).opAdvance id

/-- An operand frame has been refused for good (R134, R320). -/
def State.operandRefused (s : State) (id : Nat) (st : Status) : State :=
  match st with
  | .targetLost => s.opLost id
  | .denied | .revoked => s.opDenied id st
  | st => s.endRequest id st

/-- A queued operator has reached its effective deadline (R240). -/
def State.opTimeout (s : State) (id : Nat) : State :=
  match s.req id, s.job id with
  | some r, some j =>
    if j.running || !s.pastDeadline r then s
    else
      let s := if s.opReady j && !s.slotsFree j then
          (s.modCluster j.cluster (fun c => { c with slotWait := true })).eventLimited 0x0803 [j.cluster] toFabric (some r.part) (some r.part)
            (.resource 3 j.cluster [])
        else s
      s.endRequest id .throttled
  | _, _ => s

/-- An unanswered cross-check past the operator's effective deadline (R600). -/
def State.crossTimeout (s : State) (id : Nat) : State :=
  match s.req id with
  | some r => match r.stage with
    | .crossCheck .. => if s.pastDeadline r then s.endRequest id .targetLost else s
    | _ => s
  | none => s

/-! ## The meanings -/

/-- Whether a frame is an `OFFLOAD` with an operator code can be decided. -/
abbrev offloadIs (f : Frame) (code : Nat) : Bool := f.hdr.opcode == 0x30 && dCode f.payload == code

/-- `GATHER` (R327). -/
def execGather (t : Nat) (a : Arrival) (f : Frame) (s : State) : Host.Outcome State Fault Refusal :=
  if offloadIs f 1 then .next ((s.at t).frame a f State.opOffload) else .fault .notThisCommand

/-- `SCATTER_ADD` (R328). -/
def execScatterAdd (t : Nat) (a : Arrival) (f : Frame) (s : State) : Host.Outcome State Fault Refusal :=
  if offloadIs f 2 then .next ((s.at t).frame a f State.opOffload) else .fault .notThisCommand

/-- `PREDICATE_FILTER` (R330). -/
def execPredicateFilter (t : Nat) (a : Arrival) (f : Frame) (s : State) : Host.Outcome State Fault Refusal :=
  if offloadIs f 3 then .next ((s.at t).frame a f State.opOffload) else .fault .notThisCommand

/-- `TOP_K` (R332). -/
def execTopK (t : Nat) (a : Arrival) (f : Frame) (s : State) : Host.Outcome State Fault Refusal :=
  if offloadIs f 4 then .next ((s.at t).frame a f State.opOffload) else .fault .notThisCommand

/-- `EMBEDDING_BAG` (R333). -/
def execEmbeddingBag (t : Nat) (a : Arrival) (f : Frame) (s : State) : Host.Outcome State Fault Refusal :=
  if offloadIs f 5 then .next ((s.at t).frame a f State.opOffload) else .fault .notThisCommand

/-- `SMALL_DENSE_PROJECTION` (R335). -/
def execSmallDenseProjection (t : Nat) (a : Arrival) (f : Frame) (s : State) : Host.Outcome State Fault Refusal :=
  if offloadIs f 6 then .next ((s.at t).frame a f State.opOffload) else .fault .notThisCommand

/-- `TREE_ENSEMBLE` (R340). -/
def execTreeEnsemble (t : Nat) (a : Arrival) (f : Frame) (s : State) : Host.Outcome State Fault Refusal :=
  if offloadIs f 7 then .next ((s.at t).frame a f State.opOffload) else .fault .notThisCommand

/-- `XCHECK_OFFLOAD` (R600). -/
def execXcheckOffload (t : Nat) (a : Arrival) (f : Frame) (s : State) : Host.Outcome State Fault Refusal :=
  if f.hdr.opcode = 0x30 ∧ f.hdr.stream = 0x7A then .next ((s.at t).frame a f State.opOffload) else .fault .notThisCommand

/-- `XCHECK_TIMEOUT` (R600). -/
def execXcheckTimeout (t req : Nat) (s : State) : Host.Outcome State Fault Refusal := .next ((s.at t).crossTimeout req)

/-- `OPERATOR_START` (R238). -/
def execOperatorStart (t c : Nat) (s : State) : Host.Outcome State Fault Refusal :=
  if c < 32 then
    let s := s.at t
    .next (match s.nextOp c with | some j => s.opStart j | none => s)
  else .fault .noSuchUnit

/-- `TILE_START` (R239). -/
def execTileStart (t c : Nat) (s : State) : Host.Outcome State Fault Refusal :=
  if c < 32 then
    let s := s.at t
    let s := s.each ((s.eng.jobs.filter (fun j => j.cluster = c && j.running)).map (·.req)) State.opFeed
    .next (match s.tileNext c with | some (j, k) => s.startTile j k | none => s)
  else .fault .noSuchUnit

/-- `TILE_COMPLETE` (R239). -/
def execTileComplete (t c core : Nat) (s : State) : Host.Outcome State Fault Refusal :=
  if c < 32 ∧ core < 8 then
    let s := s.at t
    .next (if s.eng.stopped.contains c then s
      else match s.eng.tiles.find? (fun x => x.cluster = c ∧ x.core = core) with | some x => s.endTile x | none => s)
  else .fault .noSuchUnit

/-- `OPERATOR_COMPLETE` (R324). -/
def execOperatorComplete (t req : Nat) (s : State) : Host.Outcome State Fault Refusal :=
  .next (((s.at t).opFeed req).opComplete req)

/-- `DISPATCH_QUEUE_DEADLINE` (R240). -/
def execDispatchQueueDeadline (t req : Nat) (s : State) : Host.Outcome State Fault Refusal := .next ((s.at t).opTimeout req)

end Sys2Proof.Machine
end

