-- ==== Sys2Proof/Machine/Collectives.lean ====
section
/-! DEFINITION. Collectives (R277 to R299): set-up and release, contributions and partial frames, segment rounds at roots and
stages, expiry, rebinding, and the reduction again after failover (R113). -/

namespace Sys2Proof.Machine

/-! ## Access to collectives and segments -/

/-- The collective of a key. -/
def State.coll (s : State) (k : CollKey) : Option Collective := s.eng.colls.find? (fun c => c.key = k)

/-- Change a collective. -/
def State.modColl (s : State) (k : CollKey) (f : Collective → Collective) : State :=
  s.modEng (fun e =>
    let l := mapIf (fun (c : Collective) => c.key = k) f e.colls
    { e with colls := l })

/-- Segment `i` of a collective: its round, or the round of reissued contributions (R113). -/
def Collective.seg (k : Collective) (i : Nat) (re : Bool) : Segment :=
  (k.segs.find? (fun g => g.index = i ∧ g.reissue = re)).getD { index := i, reissue := re }

/-- Set a segment of a collective. -/
def State.putSeg (s : State) (k : CollKey) (g : Segment) : State :=
  s.modColl k (fun c =>
    let is := fun (x : Segment) => x.index = g.index && x.reissue = g.reissue
    { c with segs := if c.segs.any is then mapIf is (fun _ => g) c.segs else c.segs ++ [g] })

/-- The segment is open: its current round has frames (R287). -/
def Segment.isOpen (g : Segment) : Bool := !g.held.isEmpty || g.closing

/-- Elements of segment `i` (R279). -/
def Collective.segElems (k : Collective) (i : Nat) : Nat := min k.perSeg (k.total - i * k.perSeg)

/-- The format of a collective's elements. -/
def Collective.fm (k : Collective) : Fm := fmD k.fmt

/-- The contributor number of a direct contribution's master (R280). -/
def Collective.directSlot (k : Collective) (n : Node) (c : Cid) : Option Nat :=
  (k.list.zipIdx.find? (fun x => !x.1.stage && x.1.node == n && x.1.cid == c)).map (·.2)

/-- A master is the stage master of some stage entry (R292). -/
def Collective.isStageMaster (k : Collective) (n : Node) (c : Cid) : Bool :=
  k.list.any (fun x => x.stage && x.cid == c && (x.node == n || x.alt == n))

/-! ## Set-up (R278 to R284, R312) -/

/-- The first row of R281: any field of the descriptor outside its range. -/
def setupCheck (node : Node) (b : Bytes) : Option Status :=
  let role := leAt b 2 1
  let mode := leAt b 3 1
  let fmt := leAt b 4 1
  let k := leAt b 5 1
  let seg := leAt b 30 2
  let target := leAt b 16 8
  firstOf [codeCheck (leAt b 1 1) 2 [1], codeCheck role 3 [1, 2], codeCheck mode 4 [1, 2, 3], need (2 ≤ fmt && fmt ≤ 7),
    need (1 ≤ k && k ≤ 8), need (1 ≤ leAt b 6 2 && leAt b 6 2 ≤ 256), need (leAt b 12 2 ≤ 1024), need (leAt b 14 1 < 3),
    need (leAt b 15 1 = 0), need (target % 64 = 0), need (leAt b 24 6 % formatSize fmt = 0 && offOf target + leAt b 24 6 ≤ 2 ^ 48),
    need (64 ≤ seg && seg ≤ 4096 && seg % 64 = 0), need (pointerOk (leAt b 14 1) (leAt b 32 8)), need (leAt b 46 2 ≤ 1000),
    need (if role = 1 then leAt b 48 2 = 0 && leAt b 50 2 = 0 else leAt b 48 2 < 1024), need (leAt b 52 12 = 0),
    need (role ≠ 1 || nodeOf target = node.toNat), need (role ≠ 2 || mode = 1), need (mode = 1 || k = 1)]

/-- A contributor list entry (R280): none where a field is outside its range. -/
def Contributor.of (b : Bytes) : Option Contributor :=
  let kind := leAt b 4 1
  if (kind = 1 ∨ kind = 2) ∧ leAt b 5 1 = 0 ∧ (kind = 2 ∨ leAt b 6 2 = 0) then
    some { node := BitVec.ofNat 16 (leAt b 0 2), cid := BitVec.ofNat 16 (leAt b 2 2), stage := kind = 2, alt := BitVec.ofNat 16 (leAt b 6 2) }
  else none

/-- The contributor list of a set-up (R280, R281): none where it is malformed. -/
def contributorList (b list : Bytes) : Option (List Contributor) :=
  let es := (chunks 8 list).map Contributor.of
  if es.any Option.isNone then none
  else
    let cs := es.filterMap (fun x => x)
    let role := leAt b 2 1
    if !decide ((cs.map (fun c => (c.node, c.cid))).Nodup) then none
    else if cs.any (·.stage) && (role = 2 || leAt b 3 1 ≠ 1) then none
    else if role = 1 && !cs.any (·.stage) && leAt b 40 6 ≠ 0 then none
    else some cs

/-- The collective that a set-up describes, not yet bound. -/
def setupColl (b : Bytes) (cs : List Contributor) (p : Nat) : Collective :=
  let target := leAt b 16 8
  { key := ⟨BitVec.ofNat 16 (nodeOf target), BitVec.ofNat 32 (leAt b 8 4)⟩, desc := b, part := p, root := leAt b 2 1 = 1,
    mode := leAt b 3 1, fmt := leAt b 4 1, open_ := leAt b 6 2, list := cs, target := offOf target, length := leAt b 24 6,
    segBytes := leAt b 30 2, partialArea := leAt b 40 6, skewUs := leAt b 46 2, stageSlot := leAt b 48 2,
    stageCid := BitVec.ofNat 16 (leAt b 50 2), positions := [] }

/-- A collective's slots fit at a cluster, with the positions it names (R228, R284). -/
def State.collFits (s : State) (k : Collective) (c : Nat) : Bool :=
  let others := s.eng.colls.filter (fun x => x.key ≠ k.key)
  (s.modEng (fun e => { e with colls := others ++ [k] })).stepsUsed c ≤ (s.cluster c).accMib

/-- The positions of a partition that are not leaving, in ascending order. -/
def State.positionsOf (s : State) (p : Nat) : List Nat := (s.clustersOf p).flatMap (fun c => [64 + 2 * c, 64 + 2 * c + 1])

/-- Bind a collective to the first positions whose clusters can reserve its slots (R283): none where they do not suffice. -/
def State.bindColl (s : State) (k : Collective) : Option Collective :=
  let n := leAt k.desc 5 1
  let got := (s.positionsOf k.part).foldl (fun (l : List Nat) g =>
    if n ≤ l.length then l
    else if s.collFits { k with positions := l ++ [g] } ((g - 64) / 2) then l ++ [g] else l) []
  if got.length = n then some { k with positions := got } else none

/-- Complete a request at once: its entry, then its completion. -/
def State.settleOk (s : State) (id : Nat) : State := (s.journal id .applied).finish id .ok [] 1

/-- Judge a set-up whose contributor list has been read (R281 from its fourth row, R282). -/
def State.setupJudge (s : State) (id : Nat) (list : Bytes) : State :=
  match s.req id with
  | none => s
  | some r =>
    let b := r.payload
    match contributorList b list with
    | none => s.refuse id .format
    | some cs =>
      let k := setupColl b cs r.part
      let area := 16 + 40 * k.total
      if k.root && k.staged && (nearSize < k.partialArea + area || overlaps k.partialArea area k.target k.length) then s.refuse id .format
      else if k.root && ((s.sumacTouched k.target k.length).isSome || (k.staged && (s.sumacTouched k.partialArea area).isSome)) then
        s.refuse id .format
      else match s.coll k.key with
        | some old => if old.desc = b then s.settleOk id else s.refuse id .denied
        | none =>
          if s.eng.colls.any (fun x => x.key.root == k.key.root && overlaps x.target x.length k.target k.length) then s.refuse id .denied
          else if (s.positionsOf r.part).length < leAt b 5 1 then s.refuse id .denied
          else if nth s.cfg.unit.collMax r.part ≤ (s.eng.colls.filter (fun x => x.part = r.part)).length then s.refuse id .quota
          else match s.bindColl k with
            | none => s.refuse id .quota
            | some k => (s.modEng (fun e => { e with colls := e.colls ++ [k] })).settleOk id

/-- A set-up past check 14: check 15, up to the reading of its contributor list. -/
def State.runSetup (s : State) (id c g : Nat) : State :=
  match s.req id with
  | none => s
  | some r =>
    let b := r.payload
    match setupCheck s.tabs.node b with
    | some st => s.refuse id st
    | none =>
      if leAt b 12 2 = 0 || leAt b 24 6 = 0 then s.settleOk id
      else if s.locked r.part && leAt b 3 1 = 3 then s.refuse id .denied
      else match s.resolve r.part r.hdr.src r.hdr.cid (leAt b 14 1) (leAt b 32 8) (8 * leAt b 12 2) false with
        | .windowMiss => s.refuse id .denied
        | .xlateFault => (s.xlateFault r.hdr r.part).refuse id .denied
        | .ok ps =>
          let bad := ps.findSome? (fun x => if s.isNear x then
              (match s.accessCheck r.hdr.src r.hdr.cid (offOf x.1) x.2 .rd with | .error st => some st | .ok _ => none) else none)
          match bad with
          | some st => (s.deniedEvent r.hdr r.part st).refuse id .denied
          | none =>
            if !ps.all s.isNear && (s.localContext r.part).isNone then s.refuse id .denied
            else
              let j : OpJob := { req := id, cluster := c, pos := g, desc := b, arrivedAt := s.now, exts := [ps],
                                 plan := s.planOf 0 (s.tagParts ps) }
              ((s.modEng (fun e => { e with jobs := e.jobs ++ [j] })).modReq id (fun r => { r with stage := .frames })).opReads id

/-- A set-up whose contributor list is at hand is judged. -/
def State.setupGo (s : State) (id : Nat) : State :=
  match s.job id with
  | some j => if dCode j.desc = 0xC0 && j.allRead then (s.dropJob id).setupJudge id ((j.input 0).getD []) else s
  | none => s

/-- An `OFFLOAD` that sets up or releases a collective, at its cluster (R278). -/
def State.opCollective (go : State → Nat → Nat → Nat → State) (s : State) (d : Delivered) : State :=
  let s := s.ungate
  let g := s.opPosition d
  let c := g / 2
  let w := recordDie d.hdr.stream
  match s.present d { die := 2 + c / 8, writer := w, off := 0, len := 0, right := none, clusters := true } with
  | .done s => s
  | .go s id => go s id c g
  | .dup s e tail =>
    if e.state = .refused || !tail then s.answerDup d e e.status [] 1
    else let (id, s) := s.openDup d w e tail; go s id c g

/-! ## Release (R298) -/

/-- A collective is freed, and the releases that wait for it are answered. -/
def State.freeColl (s : State) (k : CollKey) : State :=
  let ids := (s.jrn.reqs.filter (fun r => r.stage == .release k)).map (·.id)
  let s := s.modEng (fun e => { e with colls := e.colls.filter (fun c => c.key ≠ k) })
  s.each ids State.settleOk

/-- A release past check 14. -/
def State.runRelease (s : State) (id : Nat) : State :=
  match s.req id with
  | none => s
  | some r =>
    let b := r.payload
    match firstOf [codeCheck (leAt b 1 1) 2 [1], need (leAt b 2 6 = 0 && leAt b 12 4 = 0 && leAt b 24 40 = 0)] with
    | some st => s.refuse id st
    | none =>
      let key : CollKey := ⟨BitVec.ofNat 16 (nodeOf (leAt b 16 8)), BitVec.ofNat 32 (leAt b 8 4)⟩
      match s.coll key with
      | none => s.settleOk id
      | some k =>
        if k.part ≠ r.part || k.target ≠ offOf (leAt b 16 8) then s.settleOk id
        else
          let s := (s.modColl key (fun k => { k with releasing := true })).modReq id (fun r => { r with stage := .release key })
          if k.segs.any Segment.isOpen then s else s.freeColl key

/-- The last open round of a released collective has ended. -/
def State.releaseDone (s : State) (key : CollKey) : State :=
  match s.coll key with
  | some k => if k.releasing && !k.segs.any Segment.isOpen then s.freeColl key else s
  | none => s

/-! ## Rounds: values (R262 to R264, R288, R293) -/

/-- The elements of a direct contribution: decoded blocks with flag `C` (R285). -/
def contribElems (k : Collective) (c : Bool) (bytes : Bytes) (n : Nat) : List Nat :=
  if c then (decodeBlocks k.fm (bytes.length / max 1 (n / 128)) bytes).map (·.1) else elems k.fm.size bytes

/-- A contribution as exact accumulators, one for each element of its segment. -/
def Collective.accs (k : Collective) (i : Nat) (compressed : Bool) (c : Contribution) : List Acc :=
  let n := k.segElems i
  match c.words with
  | none => (contribElems k compressed c.bytes n).map (fun x => Acc.add wes {} (k.fm.val x))
  | some (first, count) =>
    let before := first - i * k.perSeg
    List.replicate before {} ++ ((chunks 40 (c.bytes.drop 16)).take count).map (fun w => Acc.ofWord wes (leNat w)) ++
      List.replicate (n - before - count) {}

/-- The exact accumulators of a round. -/
def State.roundAccs (s : State) (k : Collective) (g : Segment) : List Acc :=
  g.held.foldl (fun as c =>
    let comp := match s.req c.req with | some r => r.hdr.flagC | none => false
    List.zipWith (Acc.merge wes) as (k.accs g.index comp c)) (List.replicate (k.segElems g.index) {})

/-- The direct contributions of a round in fold order: by contributor number, or in order of application (R262). -/
def foldOrder (k : Collective) (g : Segment) : List Contribution :=
  if k.mode = 3 then g.held
  else (List.range k.list.length).filterMap (fun n => g.held.find? (fun c => c.slot = n))

/-- The result elements of a round, with their exceptions, and whether an `ovf` was found (R259, R262, R263). -/
def State.roundResult (s : State) (k : Collective) (g : Segment) : List (Nat × Exc) × Bool :=
  if k.mode = 1 then
    let as := s.roundAccs k g
    (as.map (fun a => a.round wes k.fm), as.any (·.ovf))
  else
    let int := isIntCode k.fmt
    let cols := (foldOrder k g).map (fun c =>
      let comp := match s.req c.req with | some r => r.hdr.flagC | none => false
      contribElems k comp c.bytes (k.segElems g.index))
    ((List.range (k.segElems g.index)).map (fun e =>
      (cols.foldl (fun a xs => a.step int (k.fm.val (nth xs e))) ({} : Fold)).out k.fm), false)

/-! ## Rounds: completion (R288, R289, R294 to R296) -/

/-- Refuse every frame of a round, and empty it at the same round (R290, R296). -/
def State.dropRound (s : State) (key : CollKey) (g : Segment) (st : Status) : State :=
  let s := match s.coll key with
    | some k => if g.leaf && !g.closing then s.unreserveLeaf k.part else s
    | none => s
  (s.refuseAll (g.held.map (·.req)) st).putSeg key g.clear

/-- Answer every frame of a completed round; the next round begins (R288 step 5, R294 step 6). -/
def State.endRound (s : State) (key : CollKey) (g : Segment) : State :=
  let s := s.each g.held (fun s c => s.finish c.req (if g.num then .numeric else .ok) [] 1)
  let s := match s.coll key with
    | some k =>
      let main := k.seg g.index false
      s.modColl key (fun c => { c with segs := c.segs.filter (fun x => !(x.index = g.index && x.reissue)) }) |>.putSeg key
        (if g.reissue then { main with round := main.round + 1 } else { main.clear with round := main.round + 1 })
    | none => s
  s.releaseDone key

/-- A completed round at the root goes on (R288 steps 3 to 5): entries once the leaf stands in both copies, then answers once
the result is written. -/
def State.rootAdvance (s : State) (key : CollKey) (g : Segment) : State :=
  if g.leaf && s.copying g.carrier then s
  else
    let s := s.each g.held (fun s c => match s.req c.req with
      | some r => if r.index.isNone && r.dup.isNone then s.journal c.req .applied else s
      | none => s)
    let g := { g with leaf := false }
    if (s.framesOf g.carrier).isEmpty then s.endRound key g else s.putSeg key g

/-- The leaf of a round at its root (R491 to R493). -/
def State.roundLeaf (_ : State) (k : Collective) (g : Segment) (r : Req) (out : Bytes) (excs : Nat) : LeafOf :=
  { type := 2, op := 0, hdr := r.hdr, again := g.reissue, exceptions := 0 < excs, result := g.index + excs * 2 ^ 32,
    request := roundHash k.desc g.index,
    input := roundInputHash ((List.range k.list.length).map (fun n => (n, (g.held.filter (fun c => c.slot = n)).flatMap (·.bytes))))
    output := t32 (extHash out) }

/-- A round at the root is complete: its result is rounded and written (R288). -/
def State.closeRoot (s : State) (k : Collective) (g : Segment) : State :=
  match (g.held.getLast?).bind (fun c => s.req c.req) with
  | none => s
  | some r =>
    let (els, ovf) := s.roundResult k g
    let (out, excs) := packed k.fm els
    let o := k.target + g.index * k.segBytes
    if !inFar o out.length && (s.rangeHeld o out.length || s.stagingHeld o out.length) then s
    else
      let s := if anyExc excs then s.numericEvent r.hdr k.part (excCounts excs) ovf else s
      let s :=
        if inFar o out.length then (s.modReq r.id (fun r => { r with pendingWrite := [(o, out)], waits := 0 })).farStore r.id
        else
          let s := s.nearWrite o out
          (s.sendCopies (.copy r.id) o out 5 r.part r.age0 (s.remaining r.hdr r.arrive) (s.now - r.arrive)).2.ringDoorbells o out.length
      let s := s.modReq r.id (fun x => { x with stage := .round k.key g.index })
      let lf := s.roundLeaf k g r out (excCounts excs).sum
      let (n, s) := if k.mode = 3 then (0, s)
        else if g.reissue then s.writeLeafAgain k.part (.copy r.id) lf
        else if g.leaf then s.writeLeaf k.part (.copy r.id) lf else (0, s)
      let g := { g with closing := true, carrier := r.id, num := anyExc excs, leaf := 0 < n }
      (s.putSeg k.key g).rootAdvance k.key g

/-- The cut of a segment into partial frames (R293): first element of the target and count. -/
def partialCuts (first n : Nat) : List (Nat × Nat) :=
  (List.range (cdiv n 102)).map (fun j => (first + 102 * j, min 102 (n - 102 * j)))

/-- Send the partial frames that the stream can take (R293, R294 step 3). -/
def State.sendPartials (s : State) (k : Collective) (g : Segment) : State :=
  let words := (s.roundAccs k g).map (fun a => natLe 40 (Acc.word wes a))
  g.todo.foldl (fun s x =>
    if 64 ≤ s.openToward k.key.root 0x7C then s
    else
      let (q, s) := s.takeSeq k.key.root 0x7C
      let body := natLe 4 k.key.id.toNat ++ natLe 4 g.round ++ natLe 4 x.1 ++ natLe 2 x.2 ++ natLe 2 k.stageSlot ++
        ((words.drop (x.1 - g.index * k.perSeg)).take x.2).flatten
      let h := s.ownHeader 0x20 3 0x7C k.key.root q k.stageCid 0 0 (16 + 40 * x.2) 1 (k.partialArea + 40 * x.1) false
      let s := s.originate (.partialOf k.key g.index) h body k.part 0
      match s.coll k.key with
      | some c =>
        let y := c.seg g.index g.reissue
        s.putSeg k.key { y with todo := y.todo.erase x, flying := y.flying ++ [x] }
      | none => s) s

/-- A completed round at a stage goes on (R294): its partial frames are sent once its entries are mirrored. -/
def State.stageAdvance (s : State) (k : Collective) (g : Segment) : State :=
  let ready := g.held.all (fun c => match s.req c.req with | some r => r.mirrored || r.dup.isSome | none => true)
  if !ready then s
  else
    let g := if g.planned then g else { g with planned := true, todo := partialCuts (g.index * k.perSeg) (k.segElems g.index) }
    (s.putSeg k.key g).sendPartials k g

/-- A round at a stage is complete: its entries are written RECORDED (R294 step 2). -/
def State.closeStage (s : State) (k : Collective) (g : Segment) : State :=
  let g := { g with closing := true }
  let s := s.each g.held (fun s c => s.journal c.req .recorded)
  (s.putSeg k.key g).stageAdvance k g

/-- A segment goes as far as it can. -/
def State.roundGo (s : State) (key : CollKey) (i : Nat) (re : Bool) : State :=
  match s.coll key with
  | none => s
  | some k =>
    let g := k.seg i re
    if g.closing then (if k.root then s.rootAdvance key g else s.stageAdvance k g)
    else if g.held.isEmpty || g.bits.length < k.list.length then s
    else if k.root then s.closeRoot k g else s.closeStage k g

/-- Every open segment goes as far as it can. -/
def State.roundsGo (s : State) : State :=
  s.each (s.eng.colls.flatMap (fun k => (k.segs.filter Segment.isOpen).map (fun g => (k.key, g.index, g.reissue))))
    (fun s x => s.roundGo x.1 x.2.1 x.2.2)

/-- The stage segment to which an outstanding partial frame belongs. -/
def State.partialSeg (s : State) (key : CollKey) (i first : Nat) : Option Segment :=
  (s.coll key).bind (fun k => k.segs.find? (fun g => g.index = i && g.closing && g.flying.any (fun x => x.1 = first)))

/-- The first element named by a partial frame's payload (R293). -/
def firstElem (payload : Bytes) : Nat := leAt payload 8 4

/-- The root has acknowledged a partial frame (R294 step 6). -/
def State.partialAck (s : State) (o : OutFrame) (key : CollKey) (i : Nat) (st : Status) : State :=
  let s := s.dropOut o
  match s.partialSeg key i (firstElem o.payload) with
  | none => s
  | some g =>
    let g := { g with flying := g.flying.filter (fun x => x.1 ≠ firstElem o.payload), num := g.num || st == .numeric }
    let s := s.putSeg key g
    if g.flying.isEmpty && g.todo.isEmpty then s.endRound key g else s.roundGo key i g.reissue

/-- The root has refused a partial frame (R296): an open sequence is filled. -/
def State.partialNack (s : State) (o : OutFrame) (key : CollKey) (i : Nat) (st : Status) (settled : Bool) : State :=
  let g := s.partialSeg key i (firstElem o.payload)
  let s := if settled then s.dropOut o else s.fillSeq o false
  match g with
  | none => s
  | some g => s.dropRound key g st

/-! ## Contributions (R285 to R287, R295) -/

/-- A block size that divides a compressed contribution into its blocks (R346). -/
def blockOf (len blocks : Nat) : Option Nat := [96, 128, 160, 224].find? (fun b => b * blocks = len)

/-- The shape of a direct contribution (R285): refused with what it answers, or kept. -/
def contributionCheck (k : Collective) (i : Nat) (r : Req) : Option Status :=
  let n := k.segElems i
  let h := r.hdr
  if h.offset.toNat ≠ k.target + i * k.segBytes || h.format.toNat ≠ k.fmt then some .format
  else if h.flagC then
    if !([2, 3, 4].contains k.fmt) || n % 128 ≠ 0 then some .format
    else match blockOf h.length.toNat (n / 128) with
      | none => some .format
      | some b => verifyBlocks b r.payload
  else if h.length.toNat = n * k.fm.size then none else some .format

/-- The shape of a partial frame (R293): its slot, first element and count, or none where it is malformed. -/
def partialOf? (k : Collective) (r : Req) : Option (Nat × Nat × Nat) :=
  let b := r.payload
  let first := leAt b 8 4
  let c := leAt b 12 2
  let slot := leAt b 14 2
  let h := r.hdr
  let ok := h.format = 1 && !h.flagC && leAt b 0 4 = k.key.id.toNat && 1 ≤ c && c ≤ 102 && h.length.toNat = 16 + 40 * c &&
    h.offset.toNat = k.partialArea + 40 * first && first + c ≤ k.total && first / max 1 k.perSeg = (first + c - 1) / max 1 k.perSeg &&
    (match k.list[slot]? with
     | some x => x.stage && x.cid == h.cid && (x.node == h.src || x.alt == h.src)
     | none => false)
  if ok then some (slot, first, c) else none

/-- The position of a segment already holds as many open segments as it may (R284, R287). -/
def Collective.full (k : Collective) (i : Nat) : Bool :=
  let n := max 1 (leAt k.desc 5 1)
  !(k.seg i false).isOpen && cdiv k.open_ n ≤ (k.segs.filter (fun g => g.isOpen && !g.reissue && g.index % n = i % n)).length

/-- Elements of a slot that a round has absorbed (R295). -/
def Segment.absorbedOf (g : Segment) (slot : Nat) : Nat :=
  ((g.held.filter (fun c => c.slot = slot)).map (fun c => match c.words with | some (_, n) => n | none => 0)).sum

/-- A frame joins a round; the frame that completes it closes it. -/
def State.joinRound (s : State) (k : Collective) (g : Segment) (c : Contribution) : State :=
  let g := { g with held := g.held ++ [c], firstAt := if g.held.isEmpty then s.now else g.firstAt }
  let set := match c.words with | none => true | some _ => g.absorbedOf c.slot = k.segElems g.index
  let g := if set && !g.bits.contains c.slot then { g with bits := g.bits ++ [c.slot] } else g
  ((s.putSeg k.key g).modReq c.req (fun r => { r with stage := .round k.key g.index })).roundGo k.key g.index g.reissue

/-- The frame of a locked root round reserves the round's leaf (R495): none where the log is full. -/
def State.roundLeafPlace (s : State) (k : Collective) (g : Segment) : Option (State × Segment) :=
  if k.root && k.mode ≠ 3 && !g.leaf && !g.reissue && s.locked k.part then (s.reserveLeaf k.part).map (fun s => (s, { g with leaf := true }))
  else some (s, g)

/-- A contribution or partial frame past check 14: check 15, and its round. `re` marks a reissue to a survivor (R113). -/
def State.runReduce (s : State) (id : Nat) (re : Bool) : State :=
  match s.req id with
  | none => s
  | some r =>
    let h := r.hdr
    -- a reissue that cannot be reduced again supersedes its tail entry (R113)
    let deny := fun (s : State) => ((if re then (s.writeEntry { s.entryOf r .refused .denied with done := true }).2 else s)).refuse id .denied
    if h.length = 0 then s.settleOk id
    else match s.absorber h with
      | none => deny s
      | some (k, i, part) =>
        let s := s.modReq id (fun r => { r with aux := k.key.id })
        let g := k.seg i re
        let join := fun (s : State) (c : Contribution) =>
          match s.roundLeafPlace k g with
          | some (s, g) => s.joinRound k g c
          | none => (s.logFull k.part).refuse id .throttled
        if k.mode = 3 && s.locked k.part && !re then s.refuse id .denied
        else if !((k.directSlot h.src h.cid).isSome || (k.root && k.isStageMaster h.src h.cid)) then deny s
        else if k.root && ((s.sumacTouched h.offset.toNat h.length.toNat).isSome) then s.refuse id .format
        else if part then
          match partialOf? k r with
          | none => s.refuse id .format
          | some (slot, first, c) =>
            let round := leAt r.payload 4 4
            if !re && round < g.round then s.settleOk id
            else if !re && g.round < round then s.refuse id .format
            else if k.full i && !re then s.refuse id .throttled
            else
              let taken := g.held.any (fun x => x.slot = slot && (match x.words with | some (a, n) => overlaps a n first c | none => false))
              if taken then
                if g.closing then s.settleOk id else join s { slot := slot, req := id, bytes := [], words := some (first, 0) }
              else if g.closing then s.refuse id .throttled
              else join s { slot := slot, req := id, bytes := r.payload, words := some (first, c) }
        else match k.directSlot h.src h.cid with
          | none => s.refuse id .format
          | some slot =>
            match contributionCheck k i r with
            | some st => ((if st = .checkFail then s.sumacEvent r.part h.offset.toNat else s)).refuse id st
            | none =>
              if k.root && s.writeBarred h.offset.toNat (k.segElems i * k.fm.size) then s.refuse id .denied
              else if g.bits.contains slot || g.closing || (k.full i && !re) then s.refuse id .throttled
              else join s { slot := slot, req := id, bytes := r.payload }

/-- A reissue of a sequence whose reissue a round already holds is discarded and counted (R113). -/
def State.reissueHeld (s : State) (h : Header) : Bool :=
  s.jrn.reqs.any (fun r => r.dup.isSome && r.hdr.src == h.src && r.hdr.stream == h.stream && r.hdr.seq == h.seq &&
    (match r.stage with | .round .. => true | _ => false))

/-- A `REDUCE_PUT` at the cluster that absorbs it, or at an M position. -/
def State.opReduce (s : State) (d : Delivered) : State :=
  let s := if 64 ≤ d.pos && d.pos < 128 then s.ungate else s
  let o := d.hdr.offset.toNat
  let n := d.hdr.length.toNat
  let die := if 64 ≤ d.pos ∧ d.pos < 128 then 2 + (d.pos - 64) / 16 else s.homeDie o
  let stage := match s.absorber d.hdr with | some (k, _) => !k.root | none => false
  let w := if stage then recordDie d.hdr.stream else s.homeDie o
  match s.present d { die := die, writer := w, off := o, len := n, right := some .wr, listed := stage } with
  | .done s => s
  | .go s id => s.runReduce id false
  | .dup s e tail =>
    if e.state = .refused || !tail then s.answerDup d e e.status [] 1
    else if s.reissueHeld d.hdr then s.count (.dupDropped d.hdr.src d.hdr.stream)
    else let (id, s) := s.openDup d w e tail; s.runReduce id true

/-! ## Expiry (R113, R290) -/

/-- A collective's skew limit in ticks. -/
def State.skewTicks (s : State) (k : Collective) : Tick := (if k.skewUs = 0 then s.cfg.unit.collSkewUs else k.skewUs) * ticksPerUs

/-- A segment round expires (R290): its frames are refused, and the event names what was missing. -/
def State.expireRound (s : State) (key : CollKey) (i : Nat) : State :=
  match s.coll key with
  | none => s
  | some k =>
    let g := k.seg i false
    let late := g.held.any (fun c => match s.req c.req with | some r => s.pastDeadline r | none => false)
    if g.closing || g.held.isEmpty || !(late || g.firstAt + s.skewTicks k ≤ s.now) then s
    else
      let missing := (List.range k.list.length).filter (fun n => !g.bits.contains n)
      let s := (s.dropRound key g .throttled).eventLimited 0x0A01 [key.root.toNat, key.id.toNat] toFabric (some k.part) (some k.part)
        (.resource 13 key.id.toNat [i, g.round, (missing.headD 0) + missing.length * 2 ^ 32])
      s.releaseDone key

/-- The earliest reissue's deadline passes with contributors absent: the reissues are answered without a write (R113). -/
def State.reissueDeadline (s : State) (key : CollKey) (i : Nat) : State :=
  match s.coll key with
  | none => s
  | some k =>
    let g := k.seg i true
    let late := match g.held.head? with | some c => (match s.req c.req with | some r => s.pastDeadline r | none => true) | none => false
    if g.closing || !late then s
    else (s.each g.held (fun s c => s.finish c.req .deadlineMissed [] 1)).putSeg key g.clear

/-! ## Rebinding (R299) -/

/-- A collective is lost (R299): what it holds is refused, its releases are answered, and it is removed. -/
def State.collLost (s : State) (k : Collective) : State :=
  let s := s.each (k.segs.filter Segment.isOpen) (fun s g => s.dropRound k.key g .targetLost)
  (s.freeColl k.key).event 0x0A02 toFabric (some k.part) (some k.part) (.resource 13 k.key.id.toNat [])

/-- Rebind the positions of a collective whose clusters have gone, by the rule of R283; without room it is lost. -/
def State.rebind (s : State) (k : Collective) (gone : Nat → Bool) : State :=
  let lost := k.positions.filter (fun g => gone ((g - 64) / 2))
  if lost.isEmpty then s
  else
    let step := fun (m : Option Collective) (g : Nat) => m.bind (fun k =>
      let cand := (s.positionsOf k.part).find? (fun x =>
        !gone ((x - 64) / 2) && !k.positions.contains x &&
          s.collFits { k with positions := k.positions.map (fun y => if y = g then x else y) } ((x - 64) / 2))
      cand.map (fun x => { k with positions := k.positions.map (fun y => if y = g then x else y) }))
    match lost.foldl step (some k) with
    | some k' => s.modColl k.key (fun c => { c with positions := k'.positions })
    | none => s.collLost k

/-- The clusters in reset for 1 ms or more. -/
def State.longReset (s : State) (c : Nat) : Bool :=
  s.hoop.resets.any (fun r => r.running && r.since + ticksPerMs ≤ s.now && (r.island == .cluster c || r.island == .weft (c / 8)))

/-! ## The meanings -/

/-- `COLLECTIVE_SETUP` (R281). -/
def execCollectiveSetup (t : Nat) (a : Arrival) (f : Frame) (s : State) : Host.Outcome State Fault Refusal :=
  if offloadIs f 0xC0 then
    .next ((s.at t).frame a f (fun s d => s.opCollective (fun s id c g => (s.runSetup id c g).setupGo id) d))
  else .fault .notThisCommand

/-- `COLLECTIVE_RELEASE` (R298). -/
def execCollectiveRelease (t : Nat) (a : Arrival) (f : Frame) (s : State) : Host.Outcome State Fault Refusal :=
  if offloadIs f 0xC1 then
    .next ((s.at t).frame a f (fun s d => s.opCollective (fun s id _ _ => s.runRelease id) d))
  else .fault .notThisCommand

/-- `COLLECTIVE_RELEASE_DONE` (R298). -/
def execCollectiveReleaseDone (t : Nat) (k : CollKey) (s : State) : Host.Outcome State Fault Refusal := .next ((s.at t).releaseDone k)

/-- `REDUCE_PUT` (R287, R288). -/
def execReducePut (t : Nat) (a : Arrival) (f : Frame) (s : State) : Host.Outcome State Fault Refusal :=
  if f.hdr.opcode = 0x20 then .next ((s.at t).frame a f State.opReduce) else .fault .notThisCommand

/-- `PARTIAL_FRAME` (R295): a `REDUCE_PUT` on stream 0x7C. -/
def execPartialFrame (t : Nat) (a : Arrival) (f : Frame) (s : State) : Host.Outcome State Fault Refusal :=
  if f.hdr.opcode = 0x20 ∧ f.hdr.stream = 0x7C then .next ((s.at t).frame a f State.opReduce) else .fault .notThisCommand

/-- `SEGMENT_ROUND_EXPIRY` (R290). -/
def execSegmentRoundExpiry (t : Nat) (k : CollKey) (seg : Nat) (s : State) : Host.Outcome State Fault Refusal :=
  .next ((s.at t).expireRound k seg)

/-- `REISSUE_ROUND_DEADLINE` (R113). -/
def execReissueRoundDeadline (t : Nat) (k : CollKey) (seg : Nat) (s : State) : Host.Outcome State Fault Refusal :=
  .next ((s.at t).reissueDeadline k seg)

/-- `COLLECTIVE_REBIND` (R299). -/
def execCollectiveRebind (t : Nat) (k : CollKey) (s : State) : Host.Outcome State Fault Refusal :=
  let s := s.at t
  .next (match s.coll k with | some c => s.rebind c s.longReset | none => s)

end Sys2Proof.Machine
end

