-- ==== Sys2Proof/Machine/Multicast.lean ====
section
/-! DEFINITION. `MCAST_STORE` (R300 to R306), and frames whose opcode or operator code is not assigned (R45, R318). -/

namespace Sys2Proof.Machine

/-! ## Groups (R300, R301) -/

/-- The group entry a frame names. -/
def State.groupOf (s : State) (h : Header) : Option Group := s.tabs.groups.find? (fun g => g.id = h.dst.toNat)

/-- The local copies of a frame: member index and the offset written there (R301). -/
def Group.localCopies (g : Group) (o : Nat) : List (Nat × Nat) :=
  (g.members.zipIdx.filter (fun x => x.1.isLocal)).map (fun x => (x.2, o - g.base + x.1.base))

/-- The local copies that a frame of this device makes, none for a range outside its group. -/
def State.mcastLocals (s : State) (h : Header) : List (Nat × Nat) :=
  match s.groupOf h with
  | some g => if h.length ≠ 0 && within h.offset.toNat h.length.toNat g.base g.length then g.localCopies h.offset.toNat else []
  | none => []

/-- A member has failed: the refusal of the first such member in member order stands (R305). -/
def Req.fail (r : Req) (k : Nat) (st : Status) : Req :=
  match r.failure with
  | some (j, _) => if k < j then { r with failure := some (k, st) } else r
  | none => { r with failure := some (k, st) }

/-! ## Copies (R301 to R305) -/

/-- One local copy: check 13 at the member's home point, then the write. -/
def State.mcastLocal (s : State) (id k a : Nat) : State :=
  match s.req id with
  | none => s
  | some r =>
    let n := r.hdr.length.toNat
    match s.accessCheck r.hdr.src r.hdr.cid a n .wr with
    | .error st => (s.deniedEvent r.hdr r.part st).modReq id (fun r => r.fail k st)
    | .ok _ =>
      if inFar a n then
        match s.extentAt a with
        | none => s.modReq id (fun r => r.fail k .denied)
        | some e =>
          let s := s.modReq id (fun r => { r with pendingWrite := r.pendingWrite ++ [(a, r.payload)] })
          s.each (s.farParts (n + 1) a n) (fun s x => s.farPut id e r x.1 (slice r.payload (x.1 - a) x.2))
      else
        let s := s.nearWrite a r.payload
        let (_, s) := s.sendCopies (.copy id) a r.payload r.hdr.tc.toNat r.part r.age0 (s.remaining r.hdr r.arrive) (s.now - r.arrive)
        s.ringDoorbells a n

/-- One relay copy (R303), but never out of the port on which the frame arrived (R301). -/
def State.mcastRelay (s : State) (id k : Nat) (node : Node) : State :=
  match s.req id with
  | none => s
  | some r =>
    if s.route node = some (r.port, r.sub) then s
    else
      let (q, s) := s.takeSeq node 0x7D
      let h := s.ownHeader 0x21 r.hdr.tc.toNat 0x7D r.hdr.dst q r.hdr.cid r.age0 (s.remaining r.hdr r.arrive) r.hdr.length.toNat
        r.hdr.format.toNat r.hdr.offset.toNat r.hdr.flagC
      s.originateTo node (.relay id k) { h with flags := h.flags ||| 16 } r.payload r.part (s.now - r.arrive)

/-- A `MCAST_STORE` whose copies have all finished is accepted, or refused with its first failure (R304, R305). -/
def State.mcastCheck (s : State) (id : Nat) : State :=
  match s.req id with
  | none => s
  | some r =>
    if !(s.framesOf id).isEmpty then s
    else match r.failure with
      | some (_, st) => s.refuse id st
      | none => s.finish id .ok [] 1

/-- A `MCAST_STORE` past check 14: check 15, its entry, and its copies (R302). -/
def State.runMcast (s : State) (id : Nat) : State :=
  match s.req id with
  | none => s
  | some r =>
    let o := r.hdr.offset.toNat
    let n := r.hdr.length.toNat
    match s.groupOf r.hdr with
    | none => s.refuse id .targetLost
    | some g =>
      let s := s.modReq id (fun r => { r with aux := BitVec.ofNat 32 g.id })
      let locals := s.mcastLocals r.hdr
      if n = 0 then s.settleOk id
      else if !within o n g.base g.length then s.refuse id .denied
      else if locals.any (fun x => (s.sumacTouched x.2 n).isSome) then s.refuse id .format
      else if locals.any (fun x => s.writeBarred x.2 n) then s.refuse id .denied
      else
        let s := (s.journal id .applied).modReq id (fun r => { r with stage := .frames })
        let s := s.each g.members.zipIdx (fun s x =>
          if x.1.isLocal then s.mcastLocal id x.2 (o - g.base + x.1.base) else s.mcastRelay id x.2 x.1.node)
        s.mcastCheck id

/-- `MCAST_STORE` at its target: it waits while a line of a local copy is held. -/
def State.opMcast (s : State) (d : Delivered) : State :=
  let n := d.hdr.length.toNat
  let locals := s.mcastLocals d.hdr
  let w := recordDie d.hdr.stream
  let entry := locals.findSome? (fun x => match s.accessCheck d.hdr.src d.hdr.cid x.2 n .wr with | .ok e => e | .error _ => none)
  if locals.any (fun x => s.rangeHeld x.2 n || s.stagingHeld x.2 n) then s.park d
  else match s.present d { die := w, writer := w, off := d.hdr.offset.toNat, len := n, right := some .wr, listed := true, entry := entry } with
    | .done s => s
    | .go s id => s.runMcast id
    | .dup s e tail =>
      if e.state = .refused || !tail then s.answerDup d e e.status [] 1
      else let (id, s) := s.openDup d w e tail; s.runMcast id

/-! ## Codes that are not assigned (R45, R318) -/

/-- The operator codes that are assigned (R325, R278). -/
def knownOperator (c : Nat) : Bool := (1 ≤ c && c ≤ 7) || c == 0xC0 || c == 0xC1

/-- An `OFFLOAD` whose operator code is not assigned: refused at check 15, by the first check of R318. -/
def State.opUnknown (s : State) (d : Delivered) : State :=
  s.opCollective (fun s id _ _ => s.refuse id ((checkDescriptor d.payload).getD .unsupported)) d

/-! ## The meanings -/

/-- `MCAST_STORE` (R302). -/
def execMcastStore (t : Nat) (a : Arrival) (f : Frame) (s : State) : Host.Outcome State Fault Refusal :=
  if f.hdr.opcode = 0x21 then .next ((s.at t).frame a f State.opMcast) else .fault .notThisCommand

/-- `UNSUPPORTED_OPCODE` (R45): the parser's check 3 refuses an opcode that is not assigned; an `OFFLOAD` with an operator
code that is not assigned goes to its cluster and is refused there. -/
def execUnsupportedOpcode (t : Nat) (a : Arrival) (f : Frame) (s : State) : Host.Outcome State Fault Refusal :=
  if (classesOf f.hdr.opcode.toNat).isEmpty then .next ((s.at t).frame a f (fun s _ => s))
  else if f.hdr.opcode = 0x30 ∧ ¬ knownOperator (dCode f.payload) then .next ((s.at t).frame a f State.opUnknown)
  else .fault .notThisCommand

end Sys2Proof.Machine
end

