-- ==== Sys2Proof/Machine/Health.lean ====
section
/-! DEFINITION. Witnesses, quorum and fences (R604 to R607), clusters that leave a partition (R233), health scores, expulsion,
spares and suspects (R593 to R599). -/

namespace Sys2Proof.Machine

/-! ## Witnesses and quorum (R604) -/

/-- A contact is younger than `HLT_FENCE_MS`. -/
def State.fresh (s : State) (c : Option Tick) : Bool :=
  match c with
  | some t => decide (s.now < t + s.cfg.hoop.fenceMs * ticksPerMs)
  | none => false

/-- The partner is reached. -/
def State.reachedP (s : State) : Bool := s.tabs.paired && s.fresh s.hlt.contactP && s.hlt.partnerLost.isNone

/-- The reached members as `HLT_DEVICE_STATUS` shows them: bit 0 manager A, bit 1 manager B, bit 2 the partner (R619). -/
def State.reached (s : State) : Nat :=
  (if s.fresh s.hlt.contactA then 1 else 0) + (if s.fresh s.hlt.contactB then 2 else 0) + (if s.reachedP then 4 else 0)

/-- The device has quorum. -/
def State.hasQuorum (s : State) : Bool :=
  let a := s.fresh s.hlt.contactA
  let b := s.fresh s.hlt.contactB
  if s.tabs.paired then (a && b) || (a && s.reachedP) || (b && s.reachedP) else a || b

/-- The partner has been heard: a `MIRROR` from it, or an `ACK` to one of this device's. -/
def State.contactPartner (s : State) : State := s.modHlt (fun h => { h with contactP := some s.now, partnerLost := none })

/-! ## Fences (R605 to R607) -/

/-- An open request is forgotten without a response (R606): its frames are filled, its claims given back. -/
def State.abandonReq (s : State) (id : Nat) : State :=
  match s.req id with
  | none => s
  | some r =>
    let s := ((s.each (s.framesOf id) (fun s o => s.fillSeq o false)).dropJob id).dropPublish id
    let s := s.modPart r.part (fun p => { p with inFlight := p.inFlight - r.weight })
    let s := if r.leaf then s.unreserveLeaf r.part else s
    let s := s.modJrn (fun j => { j with reqs := j.reqs.filter (fun x => x.id ≠ id) })
    if r.dup.isSome then s else (s.release r).reap

/-- Open work of the collectives is cleared before its frames are refused; a collective being released is freed. -/
def State.clearRounds (s : State) (mine : Collective → Bool) : State :=
  s.each (s.eng.colls.filter mine) (fun s k =>
    s.each (k.segs.filter Segment.isOpen) (fun s g =>
      (if g.leaf && !g.closing then s.unreserveLeaf k.part else s).putSeg k.key g.clear))

/-- End every request that is not yet accepted (R606): refused where the refusal can be mirrored, else abandoned. -/
def State.endUnaccepted (s : State) (mine : Req → Bool) (st : Status) (answer : Bool) : State :=
  let ids := (s.jrn.reqs.filter (fun r => mine r && (r.dup.isSome || !(r.refused || (r.applied && r.mirrored))))).map (·.id)
  s.each ids (fun s id => match s.req id with
    | some r => if answer && r.dup.isNone then s.endRequest id st else s.abandonReq id
    | none => s)

/-- Fence `f` may be entered from the fence in force: a health fence replaces any other, an exclusion fence a quorum fence. -/
def fenceEnters (cur f : Nat) : Bool :=
  match f with
  | 4 => cur != 4
  | 3 => cur == 0 || cur == 2
  | 2 => cur == 0
  | _ => false

/-- The device enters a fence (R606). -/
def State.enterFence (s : State) (f : Nat) : State :=
  if !fenceEnters s.hlt.fence f then s
  else
    let answer := !s.tabs.paired || s.reachedP || s.jrn.solo
    let s := s.modHlt (fun h => { h with
      fence := f, fenceEvent := true, fenceEpoch := s.tabs.compEpoch, rejoined := false, admitted := h.admitted && f = 2 })
    let s := s.modJrn (fun j => { j with soloHold := none })
    let s := s.clearRounds (fun _ => true)
    let s := s.endUnaccepted (fun _ => true) .fenced answer
    let s := s.each (s.eng.colls.filter (·.releasing)) (fun s k => s.freeColl k.key)
    let s := if s.reachedP then s.finalMarks else s
    let s := s.closeBatches
    let s := s.each ((List.range 128).filter (fun ch => (s.chan ch).active.isSome)) State.pump
    s.event 0x1501 toBoth none none (.resource 14 0 [f, s.reached])

/-- The quorum fence ends (R606). -/
def State.unfence (s : State) : State :=
  let s := s.modHlt (fun h => { h with fence := 0 })
  let s := s.event 0x1502 toBoth none none (.resource 14 0 [2, s.reached])
  s.each (s.tabs.schedules.map (·.part)) State.pfPump

/-- Judge the quorum again (R604, R605, R607). -/
def State.quorumCheck (s : State) : State :=
  if s.tabs.witnesses.isNone then s
  else if s.hlt.fence = 0 && !s.hasQuorum then s.enterFence 2
  else if s.hlt.fence = 2 && s.hasQuorum && s.hlt.fenceEpoch == s.tabs.compEpoch then s.unfence
  else s

/-- The hold of R607 has lasted `HLT_FENCE_MS`: the quorum fence. -/
def State.holdTimeout (s : State) : State :=
  match s.jrn.soloHold with
  | some t => if t + s.cfg.hoop.fenceMs * ticksPerMs ≤ s.now then s.enterFence 2 else s
  | none => s

/-! ## Clusters that leave (R233) -/

/-- Steps 3 and 4: the cluster's lines are written back and announced, and its stores cleared. -/
def State.clearCluster (s : State) (c : Nat) : State :=
  let s := s.each (s.mem.l2.filter (fun l => l.cluster = c && l.state.dirty))
    (fun s l => (s.writeBack .fill 5 (s.mirrorPart l.line) 0 0 0 l.line l.data).2)
  (s.cohDrop c).modCluster c (fun x => { x with scratch := [], tlb := [] })

/-- Steps 3 to 6: a cluster is bound to a partition or to none. -/
def State.assignCluster (s : State) (c : Nat) (part split : Option Nat) : State :=
  let s := s.clearCluster c
  let acc := split.getD (s.cluster c).accMib
  let s := s.modCluster c (fun x => { x with
    part := part.getD 0, assigned := part.isSome, leaving := false, accMib := acc
    gated := part.isNone || s.hoop.power == .quiescent })
  let s := { s with mram := { s.mram with clusters := s.mram.clusters.filter (fun (m : Nat × Option Nat × Nat) => m.1 ≠ c) ++ [(c, part, acc)] } }
  let s := s.modTabs (fun t => { t with leaving := t.leaving.filter (fun l => l.1 ≠ c) })
  s.event 0x0802 toBoth part none (.resource 3 c [part.getD 16, acc])

/-- A leaving cluster goes on (R233): once it has no operator, or at once in a TEARDOWN (R234), its leave is done. -/
def State.leaveProceed (s : State) (c : Nat) : State :=
  match s.tabs.leaving.find? (fun l => l.1 = c) with
  | none => s
  | some (_, part, split) =>
    if s.eng.jobs.any (fun j => j.cluster = c) then s
    else (s.assignCluster c part split).unwait (.cluster c)

/-! ## Parts (R593, R594, R620) -/

/-- The kind of a part: 0 cluster, 1 port, 2 Weft die, 3 Osier die, 4 device. -/
def kindOf (part : Nat) : Nat := if part < 32 then 0 else if part < 96 then 1 else if part < 100 then 2 else if part < 104 then 3 else 4

/-- The state of a part. -/
def State.partState (s : State) (part : Nat) : PartState := (look part s.hlt.states).getD .inService
/-- The score of a part. -/
def State.score (s : State) (part : Nat) : Nat := (look part s.hlt.scores).getD 0
/-- The threshold of a part's kind. -/
def State.threshold (s : State) (part : Nat) : Nat := nth s.hlt.thresholds (kindOf part)
/-- A quarter of the span of a kind's thresholds. -/
def State.thresholdStep (s : State) (kind : Nat) : Nat := (nth s.cfg.hoop.expelMax kind - nth s.cfg.hoop.expelMin kind) / 4

/-- The number of a part's state. -/
def PartState.code : PartState → Nat
  | .inService => 0 | .suspect => 1 | .expelled => 2 | .spare => 3

/-- Set the state of a part. -/
def State.setPart (s : State) (part : Nat) (st : PartState) : State :=
  s.modHlt (fun h => { h with states := if st = .inService then del part h.states else put part st h.states,
                              suspects := if st = .suspect then h.suspects ++ [part] else h.suspects.filter (· ≠ part) })

/-- The number an event gives a part: its kind's resource kind and its number in the kind. -/
def partDetail (part : Nat) (vs : List Nat) : Detail :=
  match kindOf part with
  | 0 => .resource 3 part vs
  | 1 => .resource 0 (part - 32) vs
  | 2 => .resource 4 (48 + (part - 96)) vs
  | 3 => .resource 4 (54 + (part - 100)) vs
  | _ => .resource 14 0 vs

/-- The partition of a part that is an assigned cluster. -/
def State.partOfPart (s : State) (part : Nat) : Option Nat :=
  if part < 32 && (s.cluster part).assigned then some (s.cluster part).part else none

/-- A partner that can cross-check is admitted (R599). -/
def State.hasPartner (s : State) : Bool := s.tabs.paired && !s.jrn.solo

/-- Expulsions within the window (R597). -/
def State.expelledNow (s : State) : Nat :=
  (s.hlt.expulsions.filter (fun t => s.now < t + s.cfg.hoop.expelWindowS * 1000 * ticksPerMs)).length

/-- The budget has room (R597). -/
def State.expelRoom (s : State) : Bool := s.expelledNow < s.cfg.hoop.expelBudget

/-! ## Expulsion (R595 to R597) -/

/-- The lowest-numbered spare cluster that is neither assigned nor expelled. -/
def State.spareCluster (s : State) : Option Nat :=
  (List.range 32).find? (fun k => s.cfg.hoop.spareClusters.testBit k && !(s.cluster k).assigned && s.partState k != .expelled)

/-- A cluster is taken out of service (R596). -/
def State.expelCluster (s : State) (c : Nat) : State :=
  let x := s.cluster c
  let s := s.clusterStop c s.lostStatus
  let s := if x.assigned then (s.assignCluster c none none).unwait (.cluster c) else s
  let s := match (if x.assigned then s.spareCluster else none) with
    | some k =>
      let s := (s.assignCluster k (some x.part) (some x.accMib)).setPart k .inService
      let s := s.event 0x1504 toBoth (some x.part) (some x.part) (.resource 3 c [k])
      s.cloveLog 7 none c c k (s.score c)
    | none => s
  s.each s.eng.colls (fun s k => s.rebind k (· == c))

/-- A port is taken out of service: its lasers are dark, and frames routed to it are refused (R596). -/
def State.expelPort (s : State) (p : Nat) : State :=
  let l := mapIf (fun (l : Link) => l.port = p)
    (fun (l : Link) => { l with lit := false, spareLit := false, state := .dark, holdExpired := true }) s.links
  { s with links := l }

/-- One part is marked expelled, and the event and the log entry written. -/
def State.markExpelled (s : State) (part : Nat) (counted : Bool) : State :=
  let old := s.partState part
  let p := s.partOfPart part
  let s := s.setPart part .expelled
  let s := if counted then s.modHlt (fun h => { h with expulsions := h.expulsions ++ [s.now] }) else s
  let s := s.event 0x1503 toBoth p p (partDetail part [s.score part])
  s.cloveLog 8 none part old.code 2 (s.score part)

/-- Expel one part that has no parts of its own. -/
def State.expelOne (s : State) (counted : Bool) (part : Nat) : State :=
  if s.partState part = .expelled then s
  else
    let s := s.markExpelled part counted
    match kindOf part with
    | 0 => s.expelCluster part
    | 1 => s.expelPort (part - 32)
    | 4 => (s.modHlt (fun h => { h with expelledDevice := true })).enterFence 4
    | _ => s

/-- Expel a part; a die takes its clusters or ports with it (R596). -/
def State.expel (s : State) (counted : Bool) (part : Nat) : State :=
  if s.partState part = .expelled then s
  else
    let s := s.expelOne counted part
    match kindOf part with
    | 2 => s.each ((List.range 8).map (8 * (part - 96) + ·)) (State.expelOne · false ·)
    | 3 => s.each ((List.range 16).map (32 + 16 * (part - 100) + ·)) (State.expelOne · false ·)
    | _ => s

/-- A hard failure takes a part out of service at once (R595). -/
def State.hardFailure (s : State) (part : Nat) : State := s.expel true part

/-! ## Suspects (R598, R599) -/

/-- Change a kind's threshold, and log the change (R594). -/
def State.setThreshold (s : State) (kind new cause : Nat) : State :=
  let old := nth s.hlt.thresholds kind
  if new = old then s
  else (s.modHlt (fun h => { h with thresholds := h.thresholds.set kind new })).cloveLog 6 none (kind + 1) old new cause

/-- A candidate for which the budget has no room keeps serving as a suspect; without a partner to check it, it is expelled. -/
def State.enterSuspect (s : State) (part : Nat) : State :=
  let k := kindOf part
  let p := s.partOfPart part
  let s := (s.setPart part .suspect).modHlt (fun h => { h with suspectEvent := true })
  let s := s.event 0x1505 toBoth none none (partDetail part [s.score part])
  let s := s.cloveLog 9 p part 0 1 (s.score part)
  s.setThreshold k (min (nth s.cfg.hoop.expelMax k) (nth s.hlt.thresholds k + s.thresholdStep k)) (s.score part)

/-- A suspect's score has fallen: it serves as any other part. -/
def State.leaveSuspect (s : State) (part : Nat) : State :=
  let s := (s.setPart part .inService).event 0x1506 toBoth none none (partDetail part [s.score part])
  s.cloveLog 10 (s.partOfPart part) part 1 0 (s.score part)

/-- Judge a part after its score has moved (R594, R597, R598). -/
def State.judgePart (s : State) (part : Nat) : State :=
  match s.partState part with
  | .inService =>
    if s.threshold part ≤ s.score part then
      let s := s.modHlt (fun h => { h with lastCandidate := h.lastCandidate.set (kindOf part) s.now })
      if s.expelRoom then s.expel true part else s.enterSuspect part
    else s
  | .suspect => if 2 * s.score part < s.threshold part then s.leaveSuspect part else s
  | _ => s

/-- Suspect clusters, Weft dies and the device are expelled outside the budget where no partner can check them (R599). -/
def State.expelUnchecked (s : State) : State :=
  if s.hasPartner then s
  else s.each (s.hlt.suspects.filter (fun p => kindOf p = 0 || kindOf p = 2 || kindOf p = 4)) (State.expel · false ·)

/-- The scores of a millisecond (R593), then the parts in order. -/
def State.healthTick (s : State) : State :=
  let sum := fun (p : Nat) => ((s.hlt.inputs.filter (fun i => i.1 = p)).map (·.2)).sum
  let new := (List.range 105).filterMap (fun p =>
    let v := min 65535 (s.score p - s.score p / 8 + sum p)
    if v = 0 then none else some (p, v))
  let s := s.modHlt (fun h => { h with scores := new, inputs := [] })
  (s.each (List.range 105) State.judgePart).expelUnchecked

/-- Room has appeared in the budget: the suspect that has waited longest goes, if its score still reaches the threshold (R598). -/
def State.budgetRoom (s : State) : State :=
  match s.hlt.suspects with
  | p :: _ => if s.expelRoom && s.threshold p ≤ s.score p then s.expel true p else s
  | [] => s

/-- A whole window has passed without a candidate of a kind: its threshold is lowered (R594). -/
def State.lowerThreshold (s : State) (kind : Nat) : State :=
  let w := s.cfg.hoop.expelWindowS * 1000 * ticksPerMs
  let last := s.hlt.lastCandidate.getD kind 0
  if last + w ≤ s.now then
    let s := s.modHlt (fun h => { h with lastCandidate := h.lastCandidate.set kind s.now })
    s.setThreshold kind (max (nth s.cfg.hoop.expelMin kind) (nth s.hlt.thresholds kind - s.thresholdStep kind)) 0
  else s

/-! ## The meanings -/

/-- `HEALTH_SCORE_TICK` (R593). -/
def execHealthScoreTick (t : Nat) (s : State) : Host.Outcome State Fault Refusal := .next (s.at t).healthTick

/-- `EXPEL_BUDGET_ROOM` (R598). -/
def execExpelBudgetRoom (t : Nat) (s : State) : Host.Outcome State Fault Refusal := .next (s.at t).budgetRoom

/-- `EXPEL_THRESHOLD_LOWER` (R594): `kind` counts from 1, as R593 codes it. -/
def execExpelThresholdLower (t kind : Nat) (s : State) : Host.Outcome State Fault Refusal :=
  if 1 ≤ kind ∧ kind ≤ 5 then .next ((s.at t).lowerThreshold (kind - 1)) else .fault .noSuchUnit

/-- `WITNESS_EXPIRY` (R604). -/
def execWitnessExpiry (t : Nat) (s : State) : Host.Outcome State Fault Refusal := .next (s.at t).quorumCheck

/-- `SOLO_HOLD_TIMEOUT` (R607). -/
def execSoloHoldTimeout (t : Nat) (s : State) : Host.Outcome State Fault Refusal := .next (s.at t).holdTimeout

/-- `CLUSTER_LEAVE_PROCEED` (R233). -/
def execClusterLeaveProceed (t c : Nat) (s : State) : Host.Outcome State Fault Refusal :=
  if c < 32 then .next ((s.at t).leaveProceed c) else .fault .noSuchUnit

end Sys2Proof.Machine
end

