-- ==== Sys2Proof/Machine/Home.lean ====
section
/-! DEFINITION. The coherence protocol message by message: transactions at a line's home (R402 to R405, R410), and the state
table of a cluster's line (R396 to R398, R406). -/

namespace Sys2Proof.Machine

/-! ## The network and the holds (R399, R405) -/

/-- Put messages on the coherent memory network. -/
def State.say (s : State) (ms : List Msg) : State := s.modMem (fun m => { m with net := m.net ++ ms })

/-- Take the first message that satisfies a test off the network. -/
def State.hear (s : State) (p : Msg → Bool) : State := s.modMem (fun m => { m with net := m.net.eraseP p })

/-- What holds a line. -/
def State.holdOf (s : State) (line : Nat) : Option HomeHold := look line s.mem.holds

/-- Hold a line, or let it go. -/
def State.setHold (s : State) (line : Nat) (h : Option HomeHold) : State :=
  s.modMem (fun m => { m with holds := match h with | some x => put line x m.holds | none => del line m.holds })

/-- The line's home may grant a transaction (R206, R213). -/
def State.homeOpen (s : State) (line : Nat) : Bool := !s.rangeHeld line 128

/-! ## Check 13 for clusters (R402) -/

/-- The header that an event shows for a cluster's own access. -/
def State.engineHeader (s : State) (cid : Cid) (write : Bool) (off n : Nat) : Header :=
  s.ownHeader (if write then 2 else 1) (if write then 5 else 4) 0 s.tabs.node 0 cid 0 0 n 1 off false

/-- A cluster's access to a line at its home: the refusal, if any. A write into a published range is barred as for any
master (R482, R483). -/
def State.lineCheck (s : State) (cid : Cid) (line : Nat) (write : Bool) : Option Status :=
  match s.accessCheck s.tabs.node cid line 128 (if write then .wr else .rd) with
  | .error st => some st
  | .ok _ => if write && s.writeBarred line 128 then some .denied else none

/-- Refuse a cluster's request. -/
def State.nakCluster (s : State) (c line : Nat) (cid : Cid) (write : Bool) (st : Status) : State :=
  (s.deniedEvent (s.engineHeader cid write line 128) (s.cluster c).part st).say [.nak c line st]

/-! ## Ends of transactions (R403 to R405) -/

/-- The cluster waits for a completion of a line. -/
def State.awaits (s : State) (c line : Nat) : Bool :=
  match s.l2State c line with | .isD | .imD | .smA => true | _ => false

/-- Grant a cluster its line: the filter lists it, the completion is sent, and the line is held until `CACK`. A cluster that
has been reset meanwhile waits for nothing. -/
def State.complete (s : State) (c line : Nat) (m : Msg) (how : Listed) (data : Option Bytes) : State :=
  if !s.awaits c line then s.setHold line none
  else
    let s := (s.listAs line c (some how)).say (m :: (match data with | some b => [.dataTo c line b] | none => []))
    s.setHold line (some (.cmp c))

/-- What a cluster's uncached read returned. -/
def State.uncached (s : State) (c : Nat) (b : Bytes) : State :=
  s.modMem (fun m => { m with coreValue := put (c, 8) b m.coreValue })

/-- A read transaction completes with the memory value (R403). `named` makes a sharer the responder. -/
def State.homeReply (s : State) (line : Nat) (txn : HomeTxn) (named : Bool) : State :=
  let b := s.memRead line 128
  match txn with
  | .rdS c | .rdSFwd c =>
    let others := (s.holders line).filter (fun h => h.1 ≠ c)
    if others.isEmpty && !named then s.complete c line (.cmpE c line) .exclusive (some b)
    else if others.any (fun h => h.2 == .responder) && !named then s.complete c line (.cmpS c line) .shared (some b)
    else s.complete c line (.cmpN c line) .responder (some b)
  | .rdX c => s.complete c line (.cmpM c line) .exclusive (some b)
  | .upg c => s.complete c line (.cmpM c line) .exclusive none
  | .rdU c => (s.uncached c b).setHold line none
  | .wrU .. | .flush | .evcD _ => s

/-- An uncached write, a flush or an eviction has been applied (R410). -/
def State.homeEnd (s : State) (line : Nat) (txn : HomeTxn) : State :=
  let s := s.setHold line none
  match txn with
  | .wrU c _ => s.say [.cmpW c line]
  | .evcD c => (s.listAs line c none).say [.cmpEvc c line]
  | _ => s

/-- Copies to the partner of a line's write are unanswered. -/
def State.copiesOut (s : State) (line : Nat) : Bool := s.jrn.outs.any (fun o => o.owner == .home line)

/-- The snoops of a transaction have been answered, and their data has come (R403, R404). -/
def State.snoopsDone (s : State) (line : Nat) (txn : HomeTxn) (data : Option Bytes) (dirty sr : Bool) : State :=
  let owner := match txn with | .wrU .. | .flush => Owner.home line | _ => .fill
  let back := fun (s : State) => match data with
    | some b => (s.writeBack owner 5 (s.mirrorPart line) 0 0 0 line b).2
    | none => s
  let s := if dirty then back s else s
  match txn with
  | .rdSFwd _ => if data.isSome && !dirty then s.homeReply line txn (!sr) else s.setHold line (some (.memWait txn none (!sr)))
  | .rdS _ | .rdX _ | .rdU _ => s.setHold line (some (.memWait txn none false))
  | .upg _ => s.homeReply line txn false
  | .wrU c _ => (s.say [.bufGnt c line]).setHold line (some (.dat txn))
  | .flush => if dirty then s.setHold line (some (.memWait txn none false)) else s.setHold line none
  | .evcD _ => s.setHold line none

/-- A transaction in `H_SNP` goes on once nothing is awaited any more. -/
def State.snoopsGo (s : State) (line : Nat) : State :=
  match s.holdOf line with
  | some (.snp txn [] [] _ data dirty sr _) => s.snoopsDone line txn data dirty sr
  | _ => s

/-- Snoop clusters for a transaction. -/
def State.snoopAll (s : State) (line : Nat) (txn : HomeTxn) (l : List (Nat × Msg)) : State :=
  (s.say (l.map (·.2))).setHold line (some (.snp txn (l.map (·.1)) [] [] none false false s.now))

/-! ## Grants (R402, R403) -/

/-- The other holders of a line. -/
def State.others (s : State) (c line : Nat) : List (Nat × Listed) := (s.holders line).filter (fun h => h.1 ≠ c)

/-- Invalidate every other holder, or go to memory at once. -/
def State.takeLine (s : State) (c line : Nat) (txn : HomeTxn) : State :=
  let hs := s.others c line
  if hs.isEmpty then s.snoopsDone line txn none false false else s.snoopAll line txn (hs.map (fun h => (h.1, .snpI h.1 line)))

/-- `RD_S` is granted. -/
def State.grantRdS (s : State) (c line : Nat) (cid : Cid) : State :=
  match s.lineCheck cid line false with
  | some st => s.nakCluster c line cid false st
  | none =>
    let hs := s.others c line
    match hs.find? (fun h => h.2 = .exclusive), hs.find? (fun h => h.2 = .responder) with
    | some o, _ => s.snoopAll line (.rdS c) [(o.1, .snpShr o.1 line)]
    | none, some n => s.snoopAll line (.rdSFwd c) [(n.1, .snpFwd n.1 line)]
    | none, none => s.setHold line (some (.memWait (.rdS c) none (!hs.isEmpty)))

/-- `RD_X` is granted, or an `UPG` of a cluster that is no longer listed. -/
def State.grantRdX (s : State) (c line : Nat) (cid : Cid) : State :=
  match s.lineCheck cid line true with
  | some st => s.nakCluster c line cid true st
  | none => s.takeLine c line (.rdX c)

/-- `UPG` is granted. -/
def State.grantUpg (s : State) (c line : Nat) (cid : Cid) : State :=
  if !(s.holders line).any (fun h => h.1 = c) then s.grantRdX c line cid
  else match s.lineCheck cid line true with
    | some st => s.nakCluster c line cid true st
    | none => s.takeLine c line (.upg c)

/-- The line that serves an uncached read: in a view, the line of the current version's buffer; none while that version waits
to be accepted (R482, R485). -/
def State.servedLine (s : State) (line : Nat) : Option Nat :=
  match s.viewOf line 128 with
  | some v => if v.waiting then none else some (v.inBuffer v.current line)
  | none => some line

/-- Send a tray frame of a line's home transaction. -/
def State.homeTray (s : State) (line : Nat) (e : Extent) (op o len : Nat) (payload : Bytes) : State :=
  s.sendTray (.home line) e op (if op = 1 then 4 else 5) o len payload e.part 0 0 0

/-- `RD_U` is granted: the line it holds is the one that serves it. -/
def State.grantRdU (s : State) (c line served : Nat) (cid : Cid) : State :=
  match s.lineCheck cid line false with
  | some st => s.nakCluster c line cid false st
  | none =>
    if s.addressable served then
      match s.exclusive served with
      | some o => s.snoopAll served (.rdU c) [(o, .snpShr o served)]
      | none => s.setHold served (some (.memWait (.rdU c) none false))
    else match s.extentAt line with
      | none => s
      | some e =>
        match s.cachedPlain e line 128 with
        | some b => s.uncached c b
        | none =>
          let (lo, hi) := s.coverOf line 128
          (s.setHold line (some (.memWait (.rdU c) none false))).homeTray line e 1 lo (hi - lo) []

/-- `WR_U` is granted. -/
def State.grantWrU (s : State) (c line : Nat) (cid : Cid) (mask : BitVec 128) : State :=
  match s.lineCheck cid line true with
  | some st => s.nakCluster c line cid true st
  | none => s.takeLine 32 line (.wrU c mask.toNat)

/-- `EVC_C` is granted. -/
def State.grantEvcC (s : State) (c line : Nat) : State := (s.listAs line c none).say [.cmpEvc c line]

/-- `EVC_D` is granted. -/
def State.grantEvcD (s : State) (c line : Nat) : State :=
  if s.exclusive line = some c then (s.say [.bufGnt c line]).setHold line (some (.dat (.evcD c)))
  else (s.listAs line c none).say [.cmpEvc c line]

/-! ## Answers and data at the home (R403, R404, R410) -/

/-- A snoop answer reaches the home. -/
def State.snoopAnswer (s : State) (c line : Nat) (n withData dirty : Bool) : State :=
  match s.holdOf line with
  | some (.snp txn waiting datas got data d _ since) =>
    if !waiting.contains c then s
    else
      let datas := if withData && !got.contains c then datas ++ [c] else datas
      ((s.listAs line c (if n then some .responder else none)).setHold line
        (some (.snp txn (waiting.erase c) datas (got.erase c) data (d || (withData && dirty)) n since))).snoopsGo line
  | _ => s

/-- Bytes written under a byte mask. -/
def maskMerge (old new : Bytes) (mask : Nat) : Bytes :=
  (List.range 128).map (fun i => if mask.testBit i then new.getD i 0 else old.getD i 0)

/-- The data of an uncached write is at its home: written, or on its way to the tray. -/
def State.writeUncached (s : State) (line : Nat) (txn : HomeTxn) (b : Bytes) (mask : Nat) : State :=
  if s.addressable line then
    let new := maskMerge (s.memRead line 128) b mask
    let s := (s.writeBack (.home line) 5 (s.mirrorPart line) 0 0 0 line new).2.taint line 128
    s.setHold line (some (.memWait txn none false))
  else match s.extentAt line with
    | none => s.setHold line none
    | some e =>
      let (lo, hi) := s.coverOf line 128
      let old := if hi - lo = 128 && (List.range 128).all mask.testBit then some (zeros 128) else s.cachedPlain e lo (hi - lo)
      match old with
      | some p =>
        let new := maskMerge (slice p (line - lo) 128) b mask
        let cipher := s.encryptUnits e lo (p.take (line - lo) ++ new ++ p.drop (line - lo + 128))
        ((s.setHold line (some (.memWait txn none true))).updateSector e lo cipher).homeTray line e 2 lo cipher.length cipher
      | none =>
        let txn := match txn with | .wrU c _ => HomeTxn.wrU c mask | x => x
        (s.setHold line (some (.memWait txn (some b) false))).homeTray line e 1 lo (hi - lo) []

/-- Line data reaches the home. -/
def State.homeData (s : State) (c line : Nat) (b : Bytes) (mask : Nat) : State :=
  match s.holdOf line with
  | some (.snp txn waiting datas got _ d sr since) =>
    if datas.contains c then (s.setHold line (some (.snp txn waiting (datas.erase c) got (some b) d sr since))).snoopsGo line
    else if waiting.contains c then s.setHold line (some (.snp txn waiting datas (got ++ [c]) (some b) d sr since))
    else s
  | some (.dat (.evcD e)) =>
    if e = c then ((s.writeBack .fill 5 (s.mirrorPart line) 0 0 0 line b).2.setHold line (some (.memWait (.evcD c) none false)))
    else s
  | some (.dat (.wrU e m)) => if e = c then s.writeUncached line (.wrU e m) b mask else s
  | _ => s

/-- The stack controller has returned a read or ordered a write of a line (R405). -/
def State.stackDone (s : State) (line : Nat) : State :=
  if !s.addressable line then s
  else match s.holdOf line with
    | some (.memWait txn d named) =>
      match txn with
      | .wrU .. | .flush => if s.copiesOut line then s.setHold line (some (.memWait txn d true)) else s.homeEnd line txn
      | .evcD _ => s.homeEnd line txn
      | _ => s.homeReply line txn named
    | _ => s

/-- A tray or the partner has acknowledged a frame of a line's home transaction. -/
def State.homeAck (s : State) (o : OutFrame) (line : Nat) (payload : Bytes) : State :=
  let s := s.dropOut o
  match s.holdOf line with
  | some (.memWait txn d ready) =>
    if s.addressable line then (if ready && !s.copiesOut line then s.homeEnd line txn else s)
    else match txn, s.extentAt line with
      | .rdU c, some e =>
        let (lo, _) := s.coverOf line 128
        (s.uncached c (slice (s.decryptUnits e lo payload) (line - lo) 128)).setHold line none
      | .wrU c m, some e =>
        if ready then s.homeEnd line txn
        else
          let (lo, _) := s.coverOf line 128
          let p := s.decryptUnits e lo payload
          let new := maskMerge (slice p (line - lo) 128) (d.getD []) m
          let cipher := s.encryptUnits e lo (p.take (line - lo) ++ new ++ p.drop (line - lo + 128))
          ((s.setHold line (some (.memWait (.wrU c m) none true))).updateSector e lo cipher).homeTray line e 2 lo cipher.length cipher
      | _, _ => s.setHold line none
  | _ => s

/-- A frame of a line's home transaction is refused for good: so is the uncached access. -/
def State.homeLost (s : State) (line : Nat) (st : Status) : State :=
  match s.holdOf line with
  | some (.memWait txn _ ready) =>
    match txn with
    | .rdU c | .wrU c _ => (s.say [.nak c line st]).setHold line none
    | _ => if ready && !s.copiesOut line then s.homeEnd line txn else s
  | _ => s

/-! ## The cluster's line (R396 to R398, R406) -/

/-- A core access that hits: a read returns the line, a write makes it M. -/
def State.hit (s : State) (x : Stalled) : State :=
  match s.l2Line x.cluster x.line with
  | none => s
  | some l =>
    match x.data with
    | none =>
      s.modMem (fun m =>
        let ls := mapIf (fun (y : L2Line) => y.cluster = x.cluster ∧ y.line = x.line)
          (fun (y : L2Line) => { y with presence := y.presence ||| 2 ^ x.core }) m.l2
        { m with l2 := ls, coreValue := put (x.cluster, x.core) l.data m.coreValue })
    | some b => s.setL2 x.cluster x.line .m (some (l.data.take x.off ++ b ++ l.data.drop (x.off + b.length)))

/-- A core access waits at its line. -/
def State.stall (s : State) (x : Stalled) : State := s.modMem (fun m => { m with stalled := m.stalled ++ [x] })

/-- A core access meets its line (R406): it hits, stalls, or sends a request. -/
def State.access (s : State) (cid : Cid) (x : Stalled) : State :=
  let c := x.cluster
  match s.l2State c x.line, x.data with
  | .m, _ | .e, _ => s.hit x
  | .s, none | .n, none | .smA, none => s.hit x
  | .s, some _ | .n, some _ => ((s.setL2 c x.line .smA none).say [.upg c x.line cid]).stall x
  | .i, none => ((s.setL2 c x.line .isD none).say [.rdS c x.line cid]).stall x
  | .i, some _ => ((s.setL2 c x.line .imD none).say [.rdX c x.line cid]).stall x
  | _, _ => s.stall x

/-- The stalled accesses of a line replay in arrival order (R398). -/
def State.replay (s : State) (c line : Nat) : State :=
  let mine := fun (x : Stalled) => x.cluster == c && x.line == line
  let l := s.mem.stalled.filter mine
  let s := s.modMem (fun m => { m with stalled := m.stalled.filter (fun x => !mine x) })
  match s.localContext (s.cluster c).part with
  | some k => s.each l (fun s x => s.access k.cid x)
  | none => s

/-- A cluster answers a snoop (R406). -/
def State.answerSnoop (s : State) (c line : Nat) (k : Snoop) : State :=
  match s.snoopCluster c line k with
  | (none, s) => s
  | (some (n, data, dirty), s) =>
    let a := if n then Msg.srN c line data.isSome dirty else Msg.srI c line data.isSome dirty
    s.say (a :: (match data with | some b => [.dataHome c line b (BitVec.allOnes 128)] | none => []))

/-- A completion reaches its cluster (R406): the line enters the granted state, stalled accesses replay, and `CACK` is sent. -/
def State.completed (s : State) (c line : Nat) (st : L2State) (bytes : Option Bytes) : State :=
  let flying := s.mem.net.findSome? (fun m => match m with | .dataTo d l b => if d = c ∧ l = line then some b else none | _ => none)
  let s := s.hear (fun m => match m with | .dataTo d l _ => d == c && l == line | _ => false)
  let b := match flying with | some x => some x | none => bytes
  let ok := match s.l2State c line, st with
    | .isD, .e | .isD, .s | .isD, .n | .imD, .m | .smA, .m => true
    | _, _ => false
  if ok then ((s.setL2 c line st b).replay c line).say [.cack c line] else s.cohFault c line

/-- A refusal reaches its cluster: the line keeps the state it had (R402), and what waited for the line is refused. -/
def State.refused (s : State) (c line : Nat) : State :=
  let drop := fun (s : State) => s.modMem (fun m => { m with stalled := m.stalled.filter (fun x => !(x.cluster = c ∧ x.line = line)) })
  match s.l2State c line with
  | .isD | .imD => drop (s.setL2 c line .i none)
  | .smA => drop (s.setL2 c line (if s.responder line = some c then .n else .s) none)
  | .i => drop s
  | _ => s

/-- A buffer has been granted: the cluster sends its eviction data, or the data of its uncached write. -/
def State.granted (s : State) (c line : Nat) : State :=
  match s.l2Line c line with
  | some l =>
    if l.state = .miA then (s.say [.dataHome c line l.data (BitVec.allOnes 128)]).setL2 c line .xiA none else s.cohFault c line
  | none =>
    match s.holdOf line with
    | some (.dat (.wrU d _)) =>
      if d ≠ c then s.cohFault c line
      else match s.mem.stalled.find? (fun x => x.cluster = c ∧ x.line = line ∧ x.data.isSome) with
        | some x =>
          let b := x.data.getD []
          let s := s.modMem (fun m => { m with stalled := m.stalled.erase x })
          s.say [.dataHome c line (padTo 128 (zeros x.off ++ b)) (BitVec.ofNat 128 ((2 ^ b.length - 1) * 2 ^ x.off))]
        | none => s
    | _ => s.cohFault c line

/-- An eviction has completed: the line is not held any more, and what waited for it replays. -/
def State.evicted (s : State) (c line : Nat) : State :=
  if s.l2State c line = .xiA then (s.setL2 c line .i none).replay c line else s.cohFault c line

/-- A line is chosen as victim (R406); a line in a transient state is never chosen (R398). -/
def State.victim (s : State) (c line : Nat) : State :=
  match s.l2State c line with
  | .m => (s.setL2 c line .miA none).say [.evcD c line]
  | .e | .s | .n => (s.setL2 c line .xiA none).say [.evcC c line]
  | _ => s

end Sys2Proof.Machine
end

