-- ==== Sys2Proof/Machine/Shaper.lean ====
section
/-! DEFINITION. Subscribers, services, buckets and the wheel (R179 to R191), and the samples of chapter 06. -/

namespace Sys2Proof.Machine

/-! ## Services (R180, R181) -/

/-- The partition of a subscriber. -/
def State.subPart (s : State) (sub : Nat) : Nat :=
  match s.tabs.subs.find? (fun x => x.num = sub) with | some x => x.part | none => sub % 16

/-- The quantum of a subscriber. -/
def State.subQuantum (s : State) (sub : Nat) : Nat :=
  match s.tabs.subs.find? (fun x => x.num = sub) with | some x => x.quantum | none => Config.defaultQuantum

/-- A subscriber's service as installed; none for service 0 before a record replaces it. -/
def State.service (s : State) (sub svc : Nat) : Option Service := s.tabs.services.find? (fun x => x.sub = sub ∧ x.svc = svc)

/-- The quantum of a service. -/
def State.svcQuantum (s : State) (sub svc : Nat) : Nat := match s.service sub svc with | some x => x.quantum | none => 65

/-- Change a service. -/
def State.modService (s : State) (sub svc : Nat) (f : Service → Service) : State :=
  s.modTabs (fun t =>
    let l := mapIf (fun (x : Service) => x.sub = sub ∧ x.svc = svc) f t.services
    { t with services := l })

/-- The service conforms (R184). -/
def State.conforms (s : State) (sub svc : Nat) : Bool :=
  match s.service sub svc with
  | none => true
  | some x => if x.shaping = 0 then true else if x.bucket then 0 ≤ x.tokens else x.due ≤ s.warp.wheel

/-- Its rate, burst or binding has changed (R190). -/
def State.restart (s : State) (x : Service) : Service := { x with tokens := 0, due := s.warp.wheel }

/-- In each slot the tokens of a bucket rise by its rate (R187). -/
def State.refillTokens (s : State) : State :=
  s.modTabs (fun t =>
    let l := mapIf (fun (x : Service) => x.bucket) (fun x => { x with tokens := min (x.tokens + x.rate) (x.burst * 64000 : Nat) }) t.services
    { t with services := l })

/-- A frame of a service has been matched (R185, R188). -/
def State.chargeService (s : State) (sub svc bytes : Nat) : State :=
  s.modService sub svc (fun x =>
    if x.shaping = 0 then x
    else if x.bucket then { x with tokens := x.tokens - (1000 * bytes : Nat) }
    else { x with due := max x.due s.warp.wheel + cdiv (bytes * 25) (4 * max 1 x.rate) })

/-! ## Buckets (R189) -/

/-- Buckets that a partition uses. -/
def State.bucketsUsed (s : State) (p : Nat) : Nat := (s.tabs.services.filter (fun x => x.bucket && s.subPart x.sub == p)).length

/-- A bucket of a partition is free. -/
def State.bucketFree (s : State) (p : Nat) : Bool :=
  s.bucketsUsed p < nth s.cfg.shp.buckets p && (s.tabs.services.filter (·.bucket)).length < 16384

/-- A bucket of a partition has become free: the wheel service that asked for a bucket and has the highest rate maximum moves
to it (R189, R190). -/
def State.moveToBucket (s : State) (p : Nat) : State :=
  if !s.bucketFree p then s
  else
    let cand := s.tabs.services.filter (fun x => x.asked && !x.bucket && !x.leaving && s.subPart x.sub == p)
    match cand.foldl (fun (m : Option Service) x => match m with
      | none => some x
      | some y => if y.rateMax < x.rateMax || (y.rateMax == x.rateMax && (x.sub < y.sub || (x.sub == y.sub && x.svc < y.svc))) then some x
          else m) none with
    | none => s
    | some x =>
      let s := s.modService x.sub x.svc (fun y => { s.restart y with bucket := true, shaping := 1 })
      s.event 0x0604 toFabric (some p) (some p) (.resource 0 (x.sub + 4096 * x.svc) [])

/-- A service or subscriber that is leaving is freed once its last stamped frame has left the switch core (R182). -/
def State.freeLeaving (s : State) : State :=
  let busy := fun (sub : Nat) (svc : Option Nat) => s.warp.voq.any (fun v => v.subscriber == some sub && (match svc with | some k => v.service == k | none => true))
  let gone := s.tabs.services.filter (fun x => x.leaving && !busy x.sub (some x.svc))
  let ps := (gone.filter (·.bucket)).map (fun x => s.subPart x.sub)
  let s := s.modTabs (fun t => { t with
    services := t.services.filter (fun x => !gone.contains x), subs := t.subs.filter (fun x => !(x.leaving && !busy x.num none)) })
  s.each ps State.moveToBucket

/-! ## Samples (R200, R201) -/

/-- Hold the largest depth and head wait of a VOQ in the sampling period. -/
def State.sampleVoq (s : State) (k : Nat × Nat × Nat) (depth wait : Nat) : State :=
  s.modWarp (fun w =>
    let old := (look k w.samples).getD (0, 0)
    { w with samples := put k (max old.1 depth, max old.2 wait) w.samples })

/-- Add to the sample of a service: bytes matched, head wait, and a frame held back. -/
def State.sampleSvc (s : State) (sub svc bytes wait held : Nat) : State :=
  s.modWarp (fun w =>
    let old := (look (sub, svc) w.svcSamples).getD (0, 0, 0)
    { w with svcSamples := put (sub, svc) (old.1 + bytes, max old.2.1 wait, old.2.2 + held) w.svcSamples })

/-- Every VOQ that holds a cell now goes into the period's samples. -/
def State.sampleNow (s : State) : State :=
  let keys := (s.warp.voq.map (fun v => (v.src, v.dst, v.tc))).eraseDups
  s.each keys (fun s k =>
    let q := s.voq k.1 k.2.1 k.2.2
    let wait := match q.head?.bind (·.headAt) with | some t => s.now - t | none => 0
    s.sampleVoq k ((q.map (fun v => v.cells - v.moved)).sum) wait)

/-- Ticks as whole AU. -/
def asAu (t : Tick) : Nat := t / ticksPerAu

/-- The 16 bytes of a VOQ sample (R200). -/
def voqSample (period : Nat) (x : (Nat × Nat × Nat) × Nat × Nat) : Bytes :=
  natLe 1 x.1.1 ++ natLe 1 x.1.2.1 ++ natLe 1 x.1.2.2 ++ zeros 1 ++ natLe 4 (min x.2.1 0xFFFFF) ++
    natLe 3 (min (asAu x.2.2) 0xFFFFFF) ++ zeros 1 ++ natLe 4 period

/-- The counters of a link as a sample (R526), its port and sub-port at the end (DESIGN CHOICE, log 43). -/
def linkSample (l : Link) : Bytes :=
  natLe 4 l.blkBad ++ natLe 6 l.blkReplayed ++ (l.creditStall.flatMap (natLe 4)).take 32 ++ natLe 2 l.retrains ++
    natLe 2 l.substitutions ++ natLe 1 l.port ++ natLe 1 l.sub

/-- The counters of a wavelength as a sample (R526), its port and number at the end (DESIGN CHOICE, log 43). -/
def waveSample (port wave : Nat) (w : WaveCount) : Bytes :=
  natLe 6 w.cwCorrected ++ natLe 6 w.symCorrected ++ natLe 4 w.cwUncorrected ++ natLe 2 w.rxPower.toNat ++
    natLe 2 w.laserBias ++ natLe 1 port ++ natLe 1 wave

/-- The owner's samples of a period (R200, R526, R550). -/
def State.ownerSamples (s : State) : State :=
  let s := s.sampleNow
  let voqs := chunks 48 ((s.warp.samples.map (voqSample s.warp.period)).flatten)
  let s := s.each voqs (fun s c => s.each (pieces 0x8001 0 c) State.toOwner)
  let s := s.each s.links (fun s l => s.each (pieces 0x8003 0 (linkSample l)) State.toOwner)
  let ports := (s.links.map (·.port)).eraseDups
  let s := s.each (ports.flatMap (fun p => (List.range 9).map (fun w => (p, w)))) (fun s k =>
    s.each (pieces 0x8003 0 (waveSample k.1 k.2 ((look k s.waves).getD {}))) State.toOwner)
  s.modWarp (fun w => { w with samples := [], period := (w.period + 1) % 2 ^ 32 })

/-- A quantity in sixteenths of its full scale. -/
def sixteenths (x full : Nat) : Nat := if full = 0 then 0 else min 16 (16 * x / full)

/-- The 12 bytes of a service sample (R201, R550). -/
def State.svcSample (s : State) (x : (Nat × Nat) × Nat × Nat × Nat) : Bytes :=
  let (k, b, w, h) := x
  let full := match s.service k.1 k.2 with
    | some y => if y.shaping = 0 then 200000000 else y.rateMax * 625
    | none => 200000000
  let tcs := (List.range 8).filter (fun c => 2 ≤ c && s.serviceOf k.1 c == k.2)
  let dl := least (tcs.map s.deadlineTicks)
  natLe 2 k.1 ++ natLe 1 k.2 ++ natLe 1 (sixteenths b full) ++ natLe 1 (sixteenths w dl) ++ natLe 1 (sixteenths h 1024) ++
    zeros 2 ++ natLe 4 s.windowNow

/-- The partitions' samples of a 1 ms window (R201, R550): per service, and stalls and numeric exceptions. -/
def State.partSamples (s : State) : State :=
  let s := s.each (List.range 16) (fun s p =>
    let mine := s.warp.svcSamples.filter (fun x => s.subPart x.1.1 = p)
    let s := s.each (chunks 48 ((mine.map s.svcSample).flatten)) (fun s c => s.each (pieces 0x8002 p c) (fun s e => s.toPartRing p e))
    let s :=
      if (s.part p).state == .active then
        s.each (pieces 0x8008 p ((List.range 6).map (fun i => Config.windowSixteenths i (nth (s.part p).winStalls i))))
          (fun s e => s.toPartRing p e)
      else s
    s.modPart p (fun q => { q with winStalls := List.replicate 6 0 }))
  s.modWarp (fun w => { w with svcSamples := [] })

end Sys2Proof.Machine
end

