-- ==== Sys2Proof/Machine/Partitions.lean ====
section
/-! DEFINITION. Partition keys (R447 to R451), consents that end (R468), scrubs (R459 to R463) and teardown (R615), with the
writes that must land on a tray (R657). -/

namespace Sys2Proof.Machine

/-! ## Frames to a tray that must land (R657) -/

/-- `RIM_TRAY_LOST` for the extent a frame addresses (R377, R657). -/
def State.trayLost (s : State) (o : OutFrame) : State :=
  match (s.trayRange o).bind (fun x => s.extentAt x.1) with
  | some e => s.eventLimited 0x0D02 [e.id] toFabric (some e.part) (some e.part) (.resource 15 e.id [o.global])
  | none => s

/-- A write that completes accepted work has landed, or ended: with the last one its entry counts as applied (R98). -/
def State.landed (s : State) (o : OutFrame) (w i : Nat) : State :=
  let s := s.dropOut o
  if s.jrn.outs.any (fun x => match x.owner with | .landing _ w' i' => w' == w && i' == i | _ => false) then s
  else s.modEntry w i (fun e => { e with done := true })

/-- An extent leaves the device: tray writes that must land on it end without landing (R657). -/
def State.extentGone (s : State) (e : Extent) : State :=
  s.each s.jrn.outs (fun s o => match o.owner with
    | .landing _ w i => (match s.trayRange o with
      | some (a, _) => if e.base ≤ a && a < e.base + e.length then (s.trayLost o).landed o w i else s
      | none => s)
    | _ => s)

/-- Cached sectors of an extent are invalidated (R379). -/
def State.dropSectors (s : State) (e : Extent) : State :=
  s.modMem (fun m => { m with sectors := m.sectors.filter (fun x => !(e.tray ≤ x.tray && x.tray < e.tray + e.length)) })

/-! ## Ranges -/

/-- What remains of a range without another. -/
def minusOne (r x : Nat × Nat) : List (Nat × Nat) :=
  if overlaps r.1 r.2 x.1 x.2 then
    [(r.1, x.1 - r.1), (max r.1 (x.1 + x.2), r.1 + r.2 - (x.1 + x.2))].filter (fun y => 0 < y.2)
  else [r]

/-- What remains of ranges without others. -/
def minusAll (rs xs : List (Nat × Nat)) : List (Nat × Nat) := xs.foldl (fun rs x => rs.flatMap (minusOne · x)) rs

/-- The near-tier ranges of a partition (R444, R459): those of its access entries and its mirrored ranges. -/
def Tables.nearOf (t : Tables) (p : Nat) : List (Nat × Nat) :=
  (t.access.filter (fun e => e.part = p ∧ e.tier ≠ 3)).map (fun e => (e.base, e.length)) ++
    (t.mirrored.filter (fun m => m.part = p)).map (fun m => (m.base, m.length))

/-! ## Keys (R447 to R450) -/

/-- A fresh key for a partition, under the next key ID (R448, R449). -/
def State.generateKey (s : State) (p : Nat) : State :=
  let (d, s) := s.draw
  let id := s.mram.keyCounter + 1
  let s := { s with mram := { s.mram with keyCounter := id } }
  s.modPart p (fun q => { q with key := some (Config.randomBytes d 64), keyId := id, keyPresent := true, consents := 0, nonces := [] })

/-- A partition's key is destroyed: in the key slots and in MRAM. -/
def State.eraseKey (s : State) (p : Nat) : State :=
  s.modPart p (fun q => { q with key := none, keyId := 0, keyPresent := false, consents := 0, nonces := [] })

/-- A partition begins to serve (R446). -/
def State.activatePart (s : State) (p : Nat) : State :=
  s.modPart p (fun q => { q with state := .active, awaiting := false, meter := (s.uptimeUs / 1000) :: List.replicate 8 0 })

/-! ## Consents (R466 to R468) -/

/-- The consent event's detail: the nonce in two halves, and the scope or the reason. -/
def consentDetail (p : Nat) (nonce : Bytes) (v : Nat) : Detail := .resource 5 p [beAt nonce 0 8, beAt nonce 8 8, v]

/-- The consent in force ends for a reason (R468, R479). -/
def State.endConsent (s : State) (p reason : Nat) : State :=
  match (s.part p).consent with
  | none => s
  | some c =>
    let s := s.modPart p (fun q => { q with consent := none })
    (s.event 0x1005 toBoth (some p) (some p) (consentDetail p c.nonce reason)).extendChain 8 (c.nonce ++ natBe 4 reason)

/-! ## Scrubs (R459 to R463) -/

/-- Memory that some scrub still covers (R462). -/
def State.scrubbing (s : State) (o n : Nat) : Bool :=
  s.parts.any (fun q => match q.scrub with
    | some x => x.near.any (fun r => overlaps o n r.1 r.2) || x.far.any (fun e => overlaps o n e.1.base e.1.length)
    | none => false)

/-- One scrub frame (R460 step 3b): zero bytes under the scrub key with the tray tweak, in TC7, on the extent's tray stream. -/
def State.scrubFrame (s : State) (p : Nat) (key : Bytes) (e : Extent) (o n : Nat) : State :=
  let g := e.trayOf o
  let dst : Node := BitVec.ofNat 16 (g / 2 ^ 48)
  let st : Stream := BitVec.ofNat 8 (0x60 + 4 * e.home + (o - e.base) / 4096 % 4)
  let (q, s) := s.takeSeq dst st
  let b := ((linesOf o n).map (fun l => xtsEncrypt key (e.trayOf l) (zeros 128))).flatten
  s.originate (.scrub p) (s.ownHeader 2 7 st dst q e.cid 0 0 n 1 (g % 2 ^ 48) false) b p 0

/-- The tray stream of a scrub's next frame toward an extent has room (R82). -/
def State.scrubRoom (s : State) (e : Extent) (o : Nat) : Bool :=
  s.openToward (BitVec.ofNat 16 (e.trayOf o / 2 ^ 48)) (BitVec.ofNat 8 (0x60 + 4 * e.home + (o - e.base) / 4096 % 4)) < 64

/-- A scrub sends frames while its streams have room. -/
def State.scrubPump (p : Nat) : Nat → State → State
  | 0, s => s
  | fuel + 1, s =>
    match (s.part p).scrub with
    | none => s
    | some x =>
      match x.far.find? (fun y => y.2 < y.1.base + y.1.length) with
      | none => s
      | some (e, o) =>
        if !s.scrubRoom e o then s
        else
          let n := min 4096 (e.base + e.length - o)
          let s := s.scrubFrame p x.key e o n
          let far := x.far.map (fun (y : Extent × Nat) => if y == (e, o) then (e, o + n) else y)
          State.scrubPump p fuel (s.modPart p (fun q => { q with scrub := some { x with far := far } }))

/-- Steps 2 and 3 of R460 begin, or take in more memory. -/
def State.beginScrub (s : State) (p : Nat) (near : List (Nat × Nat)) (far : List Extent) (whole : Bool) : State :=
  let new := far.map (fun (e : Extent) => (e, e.base))
  let s := match (s.part p).scrub with
    | some x => s.modPart p (fun q => { q with scrub := some { x with near := x.near ++ near, far := x.far ++ new, whole := whole } })
    | none =>
      let (d, s) := s.draw
      let x : Scrub := { near := near, far := new, whole := whole, started := s.now, key := Config.randomBytes d 64 }
      s.modPart p (fun q => { q with scrub := some x, scrubBytes := 0 })
  State.scrubPump p 256 s

/-- Bytes that a scrub covers. -/
def Scrub.bytes (x : Scrub) : Nat := (x.near.map (·.2)).sum + (x.far.map (fun e => e.1.length)).sum

/-- The writes of a scrub are complete (R460 step 4): every tray frame is acknowledged, the near-tier ranges hold nothing of
the tenant, the scrub key is destroyed, and the partition is FREE or the memory released. -/
def State.scrubComplete (s : State) (p : Nat) : State :=
  match (s.part p).scrub with
  | none => s
  | some x =>
    if x.far.any (fun y => y.2 < y.1.base + y.1.length) || s.jrn.outs.any (fun o => o.owner == .scrub p) then s
    else
      let s := s.modMem (fun m => { m with near := m.near.filter (fun c => !x.near.any (fun r => r.1 ≤ c.1 && c.1 < r.1 + r.2)) })
      let s := s.modPart p (fun q =>
        let q := { q with scrub := none, scrubDone := true, scrubBytes := x.bytes }
        if x.whole then { q with state := .free, leafIndex := 0, signedIndex := 0, tenantKey := [], primary := false } else q)
      s.event 0x1003 toBoth (some p) none (.resource 5 p [x.bytes])

/-- A resend of a scrub frame would carry half the TC7 ageing limit or more (R462, R657). -/
def State.scrubOld (s : State) (o : OutFrame) : Bool :=
  s.ageLimit 7 ≤ 2 * ageAfter 7 o.hdr.age.toNat (s.now - o.firstAt)

/-- The extent of a scrub that a frame writes. -/
def State.scrubExtent (s : State) (o : OutFrame) (p : Nat) : Option Extent :=
  match (s.part p).scrub with
  | some x => (x.far.find? (fun y => y.1.tray ≤ o.global && o.global < y.1.tray + y.1.length)).map (·.1)
  | none => none

/-- A scrub frame has been refused or lost (R462): `RIM_TRAY_LOST`, at most once per extent per 1 ms. -/
def State.scrubLost (s : State) (o : OutFrame) (p : Nat) : State :=
  match s.scrubExtent o p with
  | some e => s.eventLimited 0x0D02 [e.id] toFabric (some p) (some p) (.resource 15 e.id [o.global])
  | none => s

/-- After a reset, a scrub resumes from its progress anchor, kept each 64 MiB, under a new scrub key (R462). -/
def State.scrubResume (s : State) (p : Nat) : State :=
  match (s.part p).scrub with
  | none => s
  | some x =>
    let (d, s) := s.draw
    let step := 64 * 1048576
    let back := fun (y : Extent × Nat) =>
      let open_ := (s.jrn.outs.filter (fun o => o.owner == .scrub p && y.1.tray ≤ o.global && o.global < y.1.tray + y.1.length)).map
        (fun o => y.1.base + (o.global - y.1.tray))
      let o := open_.foldl min y.2
      (y.1, y.1.base + (o - y.1.base) / step * step)
    s.modPart p (fun q => { q with scrub := some { x with far := x.far.map back, key := Config.randomBytes d 64 } })

/-! ## Teardown (R615) -/

/-- Step 1 to 3: the partition is refused at check 9, its engines, movers and lock are stopped, and its open work that is not
yet accepted is refused. -/
def State.teardown (s : State) (p : Nat) : State :=
  let s := s.modPart p (fun q => { q with state := .teardown, awaiting := false, keyTransfer := none })
  let s := s.endConsent p 3
  let s := s.clearRounds (fun k => k.part = p)
  let s := s.endUnaccepted (fun r => r.part = p) .teardown true
  let s := s.each (s.eng.colls.filter (fun k => k.part = p)) (fun s k => s.freeColl k.key)
  let s := s.each (s.tabs.bindings.filter (fun b => b.part = p)) (fun s b => (s.abandonChan (64 * b.die + b.ch)).unbindChan (64 * b.die + b.ch))
  let s := (s.modSchedule p (fun x => { x with ended := true })).dropPins p
  let s := s.closeBatch p
  let s := s.modPart p (fun q => { q with lock := none, oldLock := none, reserved := 0 })
  if s.mirrors && !s.reachedP then
    s.modJrn (fun j =>
      let l := mapIf (fun (r : Req) => r.part = p) (fun (r : Req) => { r with mirrored := true }) j.reqs
      { j with reqs := l })
  else s

/-- Step 4: every table entry of the partition goes, whatever its accepted count (R455), and its clusters leave for none. -/
def State.removeTables (s : State) (p : Nat) : State :=
  let mine := fun (n : Node) (c : Cid) => match s.context n c with | some x => x.part == p | none => false
  let gone := s.tabs.access.filter (fun e => e.part = p || mine e.node e.cid)
  let s := s.each (gone.filter (fun e => e.revoking && e.byGrant)) (fun s e =>
    s.event 0x1001 toFabric (some e.part) (some e.part) (.resource 1 e.grant [e.node.toNat * 65536 + e.cid.toNat, e.drained, 0]))
  let ctxs := s.tabs.contexts.filter (fun c => c.part = p)
  let runs := s.tabs.runs.filter (fun r => r.part = p)
  let exts := s.tabs.extents.filter (fun e => e.part = p)
  let s := s.each exts (fun s e => (s.extentGone e).dropSectors e)
  let s := s.modTabs (fun t =>
    let subs := mapIf (fun (x : Subscriber) => x.part = p) (fun (x : Subscriber) => { x with leaving := true }) t.subs
    let svcs := mapIf (fun (x : Service) => s.subPart x.sub = p) (fun (x : Service) => { x with leaving := true }) t.services
    { t with
      access := t.access.filter (fun e => !gone.contains e), contexts := t.contexts.filter (fun c => c.part ≠ p)
      runs := t.runs.filter (fun r => r.part ≠ p), subs := subs, services := svcs
      groups := t.groups.filter (fun g => g.part ≠ p), sumac := t.sumac.filter (fun r => r.part ≠ p)
      extents := t.extents.filter (fun e => e.part ≠ p), mirrored := t.mirrored.filter (fun m => m.part ≠ p)
      schedules := t.schedules.filter (fun x => x.part ≠ p), published := t.published.filter (fun x => x.part ≠ p)
      shares := t.shares.filter (fun x => x.part ≠ p), rings := t.rings.filter (fun x => x.part ≠ p) })
  let s := s.freeLeaving
  let s := s.each ctxs (fun s c => s.unwait (.context c.node c.cid))
  let s := s.each (runs.filter (·.removing)) (fun s r => s.unwait (.run p r.virtBase))
  let cs := (List.range 32).filter (fun c => (s.cluster c).assigned && (s.cluster c).part == p)
  s.each cs (fun s c => (s.assignCluster c none none).unwait (.cluster c))

/-- Steps 4 and 5, once the partition's open work has settled: the tables go, the key is erased and the scrub begins. -/
def State.teardownGo (s : State) (p : Nat) : State :=
  if (s.part p).state ≠ .teardown || s.jrn.reqs.any (fun r => r.part = p) then s
  else
    let near := s.tabs.nearOf p
    let serving := !s.tabs.paired || s.tabs.role == 1
    let far := s.tabs.extents.filter (fun e => e.part = p ∧ (serving ∨ !e.dual))
    let s := (s.removeTables p).eraseKey p
    let s := s.modPart p (fun q => { q with state := .scrubbing })
    let s := s.modMem (fun m => { m with sectors := m.sectors.filter (fun x => x.part ≠ p) })
    let s := s.event 0x1002 toBoth (some p) none (.resource 5 p [])
    let s := s.beginScrub p near far true
    (s.event 0x150A toBoth (some p) none (.resource 5 p [])).unwait (.teardown p)

/-- Every teardown goes on as far as it can. -/
def State.teardownsGo (s : State) : State := s.each (List.range 16) State.teardownGo

end Sys2Proof.Machine
end

