-- ==== Sys2Proof/Machine/Responses.lean ====
section
/-! DEFINITION. Answers to the frames the device originates (R51 to R53, R657, R658), solo acceptance (R99, R100), and the
outcome of cross-checks (R600). -/

namespace Sys2Proof.Machine

/-! ## Work that goes on -/

/-- Whatever waited for something that has completed goes on: requests, operators, rounds and channels. -/
def State.stir (s : State) : State :=
  let s := s.wake
  let s := s.each ((s.eng.jobs.filter (·.running)).map (·.req)) State.opFeed
  let s := s.roundsGo
  s.each ((List.range 128).filter (fun ch => (s.chan ch).active.isSome)) State.pump

/-- A frame of a request has completed: the request goes on as far as it can. -/
def State.reqGo (s : State) (id : Nat) : State :=
  match s.req id with
  | none => s
  | some r =>
    let idle := (s.framesOf id).isEmpty
    match r.stage with
    | .publish rid => if idle then State.publishStep id rid 3 (s.modReq id (fun r => { r with waits := 0 })) else s
    | .round key seg => (s.roundGo key seg false).roundGo key seg true
    | .queued .. | .running .. | .crossCheck .. => s.opAdvance id
    | .frames =>
      if !idle then s
      else match r.hdr.opcode.toNat with
        | 0x02 => s.finish id r.outcome [] 1
        | 0x03 => s.finish id .ok [] 1
        | 0x21 => s.mcastCheck id
        | 0x30 => s.setupGo id
        | _ => s
    | _ => s

/-- A request ends with a refusal before its frames have completed (R658); a round's carrier takes its round with it. -/
def State.endOf (s : State) (id : Nat) (st : Status) : State :=
  match s.req id with
  | none => s
  | some r =>
    match r.stage with
    | .round key seg =>
      let s := s.each (s.framesOf id) (fun s o => s.fillSeq o false)
      match (s.coll key).bind (fun k => k.segs.find? (fun g => g.index = seg && g.held.any (fun c => c.req = id))) with
      | some g => s.dropRound key g st
      | none => s.refuse id st
    | _ => s.endRequest id st

/-- A frame waits 1 µs to be sent again (R658). -/
def State.again (s : State) (o : OutFrame) : State := s.modOut o (fun x => { x with resendAt := some (s.now + ticksPerUs) })

/-! ## Trays (R376 to R378) -/

/-- A tray frame of a request has been acknowledged: a read goes to the work that asked for it, a partial write is merged and
sent, a write is done. -/
def State.trayAck (s : State) (o : OutFrame) (id : Nat) (payload : Bytes) : State :=
  match s.req id, s.trayRange o with
  | some r, some (a, _) =>
    let s := s.dropOut o
    match s.extentAt a with
    | none => s
    | some e =>
      if o.hdr.opcode = 2 then s.reqGo id
      else
        let plain := s.decryptUnits e a payload
        let n := plain.length
        if r.hdr.opcode = 1 then
          let len := s.storedLen r.hdr
          let parts := (s.farParts (len + 1) r.hdr.offset.toNat len).filter (fun x =>
            within x.1 x.2 a n && !r.pendingWrite.any (fun y => y.1 = x.1))
          (s.modReq id (fun r => { r with pendingWrite := r.pendingWrite ++ parts.map (fun x => (x.1, slice plain (x.1 - a) x.2)) })).farLoad id
        else if isAtomic r.hdr.opcode.toNat then s.farAtomicLine id r e plain
        else
          let full := r.pendingWrite.foldl (fun old x =>
            let (lo, bs) := cut x.1 x.2 a n
            if bs.isEmpty then old else old.take (lo - a) ++ bs ++ old.drop (lo - a + bs.length)) plain
          let cipher := s.encryptUnits e a full
          (s.updateSector e a cipher).reqTray r e 2 a cipher.length cipher
  | _, _ => s.dropOut o

/-- The sectors a load touches. -/
def State.sectorsOfReq (s : State) (r : Req) : List Nat := sectorsOf r.hdr.offset.toNat (s.storedLen r.hdr)

/-- The loads that wait at a filling sector (R382). -/
def State.sectorWaiters (s : State) (tray : Nat) : List Nat :=
  (s.jrn.reqs.filter (fun r => r.stage == .frames && r.hdr.opcode == 1 &&
    (s.sectorsOfReq r).any (fun sec => match s.extentAt sec with | some e => e.trayOf sec == tray | none => false))).map (·.id)

/-- A fill of the far-tier cache is refused for good: its sector is invalid and the loads that wait at it end. -/
def State.sectorRefused (s : State) (tray : Nat) (st : Status) : State :=
  let ids := s.sectorWaiters tray
  (s.each ids (fun s id => s.endOf id st)).sectorLost tray

/-! ## Writes that must land (R657) -/

/-- The new value that a RECORDED entry of a tail holds. -/
def State.tailValue (s : State) (w i : Nat) : Option (Nat × Nat) :=
  ((s.writer (w - 2)).tail.find? (fun e => e.index = i)).map (fun e => (e.offset.toNat, e.result.toNat / 2 ^ 32))

/-- The line of a RECORDED tail entry has been read from its tray: the new value goes into it, and it is written back. -/
def State.landingMerge (s : State) (o : OutFrame) (line w i : Nat) (payload : Bytes) : State :=
  let s := s.dropOut o
  match s.extentAt line, s.tailValue w i with
  | some e, some (at_, v) =>
    let plain := s.decryptUnits e line payload
    let cipher := s.encryptUnits e line (plain.take (at_ - line) ++ natLe 4 v ++ plain.drop (at_ - line + 4))
    (s.updateSector e line cipher).sendTray (.landing line w i) e 2 5 line 128 cipher e.part 0 0 0
  | _, _ => s

/-- A resend of a landing write would carry half the TC5 ageing limit or more. -/
def State.landingOld (s : State) (o : OutFrame) : Bool :=
  s.ageLimit 5 ≤ 2 * ageAfter 5 o.hdr.age.toNat (s.now - o.firstAt)

/-- The open sequence of a landing write is filled, and the write goes on under the next one. -/
def State.landingRefill (s : State) (o : OutFrame) : State :=
  let s := s.fillSeq o true
  let (q, s) := s.takeSeq o.toward o.hdr.stream
  s.originate o.owner { o.hdr with seq := q, age := 0, epoch := s.tabs.mapEpoch } o.payload (s.partOfOut o) 0

/-- A landing write goes again (R657). -/
def State.landingResend (s : State) (o : OutFrame) : State := if s.landingOld o then s.landingRefill o else s.resend o

/-- A scrub frame goes again, filled and continued like a landing write (R462). -/
def State.scrubResend (s : State) (o : OutFrame) : State := if s.scrubOld o then s.landingRefill o else s.resend o

/-- The partner has acknowledged a key transfer (R450): the record that set the partition up waits for it no longer. -/
def State.keyAck (s : State) (p : Nat) : State :=
  let s := s.modPart p (fun q => { q with keyTransfer := none })
  match s.hoop.running with
  | some (_, ws) => (match ws.find? (fun w => match w with | .key q _ => q == p | _ => false) with
    | some w => s.unwait w
    | none => s)
  | none => s

/-! ## Solo acceptance (R99, R100, R385, R607) -/

/-- The device is declared to have lost its partner: it holds new work until the managers are heard, or fences itself. -/
def State.declareLost (s : State) : State :=
  if s.jrn.solo || (s.hlt.partnerLost.isSome && (s.jrn.soloHold.isSome || s.hlt.fence ≠ 0)) then s
  else
    let s := s.event 0x0305 toBoth none none (.resource 14 0 [s.tabs.partner.toNat])
    let s := s.modHlt (fun h => { h with partnerLost := some s.now })
    if s.hlt.fence ≠ 0 then s
    else
      let s := s.modJrn (fun j => { j with soloHold := some s.now })
      if !s.hasQuorum then s.enterFence 2 else s

/-- An attempt to mirror has failed (R99): it is made once more, then the partner is lost. -/
def State.mirrorFail (s : State) (o : OutFrame) : State := if o.attempts < 2 then s.resend o else s.declareLost

/-- A copy to the partner (R384). -/
def State.isCopyOut (s : State) (o : OutFrame) : Bool :=
  o.toward == s.tabs.partner && 0x68 ≤ o.hdr.stream.toNat && o.hdr.stream.toNat < 0x70

/-- What a frame served goes on without it: a copy has been acknowledged or abandoned. -/
def State.without (s : State) (o : OutFrame) : State :=
  match o.owner with
  | .copy id => (s.dropOut o).reqGo id
  | .landing _ w i => s.landed o w i
  | .mover ch .. => (s.dropOut o).pump ch
  | .home line => s.homeAck o line []
  | _ => s.dropOut o

/-- The device enters solo acceptance (R100): its own ring stands in for the mirror, and copies are abandoned (R385). -/
def State.enterSolo (s : State) : State :=
  let s := s.modJrn (fun j =>
    let ws := j.writers.map (fun (w : Writer) =>
      let l := mapIf (fun (e : JEntry) => !e.mirrored) (fun (e : JEntry) => { e with mirrored := true, solo := true, at_ := s.now }) w.ring
      { w with ring := l })
    let rs := mapIf (fun (r : Req) => r.index.isSome) (fun (r : Req) => { r with mirrored := true }) j.reqs
    { j with solo := true, soloHold := none, writers := ws, reqs := rs
             outs := j.outs.filter (fun o => match o.owner with | .mirror .. => false | _ => true) })
  let s := s.event 0x0306 toBoth none none (.resource 14 0 [s.tabs.partner.toNat])
  let s := s.each (s.tabs.mirrored.filter (fun m => m.role = 1)) (fun s m =>
    s.event 0x0D03 toFabric (some m.part) (some m.part) (.resource 12 m.id []))
  (s.each (s.jrn.outs.filter s.isCopyOut) State.without).stir

/-- A publish-witness of the current epoch has been heard from each manager since the hold began: solo acceptance (R607). -/
def State.soloCheck (s : State) : State :=
  match s.jrn.soloHold with
  | none => s
  | some t =>
    let since := fun (c : Option Tick) => match c with | some x => decide (t < x) | none => false
    if since s.hlt.contactA && since s.hlt.contactB then s.enterSolo else s

/-! ## Mirrors (R96 to R99, R613) -/

/-- Every pair-stream entry of a writer is covered by a MARK that the partner has. -/
def pairCovered (w : Writer) : Bool :=
  w.ring.all (fun e => e.state == .mark || !isPair e.stream ||
    w.ring.any (fun m => m.state == .mark && m.mirrored && m.result ≠ BitVec.allOnes 64 && e.index ≤ m.result.toNat))

/-- The former primary has settled its pair-stream entries, and the MARKs that cover them are acknowledged (R613). -/
def State.drained (s : State) : State :=
  if s.jrn.draining && !s.jrn.reqs.any (fun r => isPair r.hdr.stream) && s.jrn.writers.all pairCovered then
    (s.modJrn (fun j => { j with draining := false })).event 0x1509 toBoth none none (.resource 14 0 [])
  else s

/-- The partner has acknowledged a `MIRROR`. -/
def State.mirrorAck (s : State) (o : OutFrame) (w i : Nat) : State :=
  let s := (s.dropOut o).contactPartner
  let s := s.modEntry w i (fun e => { e with mirrored := true, at_ := s.now })
  let s := s.modJrn (fun j =>
    let l := mapIf (fun (r : Req) => r.writer = w && r.index == some i) (fun (r : Req) => { r with mirrored := true }) j.reqs
    { j with reqs := l })
  s.drained.roundsGo

/-! ## Cross-checks (R600) -/

/-- The suspect part on which an operator of a cluster ran. -/
def State.suspectOf (s : State) (c : Nat) : Nat := if s.suspect c then c else if s.suspect (96 + c / 8) then 96 + c / 8 else 104

/-- The cluster's part, its Weft die and the device are neither suspect nor expelled. -/
def State.sound (s : State) (c : Nat) : Bool :=
  [c, 96 + c / 8, 104].all (fun p => s.partState p != .suspect && s.partState p != .expelled)

/-- The operator's position for its second execution: least outstanding weight among sound positions (R236). -/
def State.soundPosition (s : State) (p : Nat) : Option Nat :=
  (((s.clustersOf p).filter s.sound).flatMap (fun c => [2 * c, 2 * c + 1])).foldl (fun (m : Option Nat) g => match m with
    | none => some g
    | some h => if s.posWeight g < s.posWeight h then some g else m) none

/-- A cross-check has been answered. -/
def State.crossAck (s : State) (o : OutFrame) (id : Nat) (payload : Bytes) : State :=
  let s := s.dropOut o
  match s.req id, s.job id with
  | some r, some j =>
    match j.output with
    | none => s
    | some (out, word, _) =>
      if payload = natLe 8 word ++ t32 (extHash out) then
        ((s.modJob id (fun j => { j with checked := true })).modReq id (fun r => { r with stage := .running j.cluster j.pos })).opWrite id
      else
        let part := s.suspectOf j.cluster
        let p := s.partOfPart part
        let s := s.event 0x1507 toBoth p p (partDetail part [])
        let s := match s.soundPosition r.part with
          | none => s.endRequest id .targetLost
          | some g =>
            let fresh : OpJob := { req := id, cluster := g / 2, pos := g, desc := j.desc, arrivedAt := j.arrivedAt, exts := j.exts, checked := true }
            let s := s.modEng (fun e => { e with tiles := e.tiles.filter (fun x => x.req ≠ id) })
            (s.modJob id (fun _ => fresh)).modReq id (fun r => { r with stage := .queued (g / 2) g })
        s.hardFailure part
  | _, _ => s

/-! ## Responses -/

/-- An `ACK` reaches the frame it answers. -/
def State.onAck (s : State) (o : OutFrame) (st : Status) (payload : Bytes) : State :=
  match o.owner with
  | .mirror w i => s.mirrorAck o w i
  | .tray id => s.trayAck o id payload
  | .copy _ => s.without o
  | .relay id _ => (s.dropOut o).mcastCheck id
  | .operand id => (s.operandAck o id payload).setupGo id
  | .crossCheck id => s.crossAck o id payload
  | .partialOf k i => s.partialAck o k i st
  | .mover .. | .moverMerge .. => s.moverAck o st payload
  | .prefetch p step e a => (s.pfAck o p step e a payload)
  | .sector tray => (s.dropOut o).sectorArrived tray payload
  | .landing line w i => if o.hdr.opcode = 1 then s.landingMerge o line w i payload else s.landed o w i
  | .resync => (s.dropOut o).resyncGo
  | .home line => s.homeAck o line payload
  | .core c k =>
    let s := s.dropOut o
    if o.hdr.opcode = 1 then s.modMem (fun m => { m with coreValue := put (c, k) payload m.coreValue }) else s
  | .scrub p => State.scrubPump p 256 (s.dropOut o)
  | .keyTransfer p => (s.dropOut o).keyAck p
  | .fill | .admission => s.dropOut o

/-- A frame of a request is refused: for good, or it is sent again (R658). -/
def State.frameRefused (s : State) (o : OutFrame) (st : Status) (settled : Bool) (ends : State → State) : State :=
  if settled then ends (s.dropOut o)
  else if st = .targetLost then ends s
  else s.again o

/-- A relay copy is refused (R305): the target waits for the other copies. -/
def State.relayRefused (s : State) (o : OutFrame) (id k : Nat) (st : Status) (settled : Bool) : State :=
  if settled then ((s.dropOut o).modReq id (fun r => r.fail k st)).mcastCheck id
  else if st = .targetLost then ((s.fillSeq o false).modReq id (fun r => r.fail k st)).mcastCheck id
  else s.again o

/-- A `NACK`, or a response that counts as one, reaches the frame it answers. -/
def State.onNack (s : State) (o : OutFrame) (st : Status) (settled : Bool) : State :=
  match o.owner with
  | .mirror _ _ => s.mirrorFail o
  | .tray id => s.frameRefused o st settled (fun s => (if st = .targetLost then s.trayLost o else s).endOf id st)
  | .copy id => s.frameRefused o st settled (fun s => s.endOf id st)
  | .relay id k => s.relayRefused o id k st settled
  | .operand id => s.frameRefused o st settled (fun s => s.operandRefused id st)
  | .crossCheck id => (if settled then s.dropOut o else s).endRequest id .targetLost
  | .partialOf k i => s.partialNack o k i st settled
  | .mover .. | .moverMerge .. => s.moverNack o st settled
  | .prefetch p step e _ => s.frameRefused o st settled (fun s =>
      (if st = .targetLost then s.trayLost o else s).pfLost o p step e)
  | .sector tray => s.frameRefused o st settled (fun s =>
      let s := (if st = .targetLost then s.trayLost o else s).sectorRefused tray st
      if settled then s else s.fillSeq o false)
  | .landing .. => (s.trayLost o).again o
  | .home line => s.frameRefused o st settled (fun s => (if st = .targetLost then s.trayLost o else s).homeLost line st)
  | .fill | .resync | .core .. => if settled then s.dropOut o else s.again o
  | .scrub p => (s.scrubLost o p).again o
  | .keyTransfer _ | .admission => s.dropOut o

/-- A response at its destination (R51 to R53). -/
def State.onResponse (s : State) (d : Delivered) : State :=
  let h := d.hdr
  match s.outFrame h.src h.stream h.seq with
  | none => s.count .unmatched
  | some o =>
    if h.carries && d.pcheck ≠ crc32c d.payload then s.count .unmatched
    else
      let st := responseStatus h
      let odd := statusUnknown st
      let s := if odd then s.count .unknownStatus else s
      let settled := responseSettled h && !odd
      (if h.opcode = 0x80 && settled then s.onAck o st d.payload else s.onNack o st settled).stir

/-! ## Timers of originated frames (R657, R658) -/

/-- A frame that was to be sent again goes, its microsecond having passed. -/
def State.resendDue (s : State) (o : OutFrame) : State :=
  match o.resendAt, o.owner with
  | some t, .landing .. => if t ≤ s.now then s.landingResend o else s
  | some t, .scrub _ => if t ≤ s.now then s.scrubResend o else s
  | _, .mover .. | _, .moverMerge .. => s
  | some t, _ => if t ≤ s.now then s.resend o else s
  | none, _ => s

/-- A frame has had no answer within the effective deadline of its class. -/
def State.unanswered (s : State) (o : OutFrame) : State :=
  if o.resendAt.isSome || s.now < o.sentAt + s.deadlineTicks o.hdr.tc.toNat then s
  else match o.owner with
    | .mirror .. => s.mirrorFail o
    | .mover .. | .moverMerge .. | .crossCheck _ => s
    | .keyTransfer p => if (s.part p).keyTransfer.isSome then s else s.resend o
    | .landing .. => (s.trayLost o).landingResend o
    | .scrub p => (s.scrubLost o p).scrubResend o
    | _ => s.resend o

/-- A request that waits for its frames has reached the ageing limit of its class. -/
def State.requestOld (s : State) (id : Nat) : State :=
  match s.req id with
  | none => s
  | some r =>
    let frames := s.framesOf id
    let waits := !frames.isEmpty || (r.stage == .frames)
    if !waits || r.applied || s.ageNow r < s.ageLimit r.hdr.tc.toNat then s
    else
      let s := s.each (frames.filter (fun o => match o.owner with | .tray _ => true | _ => false)) State.trayLost
      if frames.any (fun o => match o.owner with | .operand _ => true | _ => false) then s.opLost id
      else s.endOf id .targetLost

/-! ## The meanings -/

/-- `FRAME_RESEND_TIMER` (R658). -/
def execFrameResendTimer (t : Nat) (n : BitVec 16) (st : BitVec 8) (q : BitVec 32) (s : State) : Host.Outcome State Fault Refusal :=
  let s := s.at t
  .next (match s.outFrame n st q with | some o => s.resendDue o | none => s)

/-- `FRAME_UNANSWERED` (R658). -/
def execFrameUnanswered (t : Nat) (n : BitVec 16) (st : BitVec 8) (q : BitVec 32) (s : State) : Host.Outcome State Fault Refusal :=
  let s := s.at t
  .next (match s.outFrame n st q with | some o => s.unanswered o | none => s)

/-- `REQUEST_AGE_LIMIT` (R658). -/
def execRequestAgeLimit (t req : Nat) (s : State) : Host.Outcome State Fault Refusal := .next ((s.at t).requestOld req)

/-- `LANDING_WRITE_REFILL` (R657). -/
def execLandingWriteRefill (t : Nat) (n : BitVec 16) (st : BitVec 8) (q : BitVec 32) (s : State) : Host.Outcome State Fault Refusal :=
  let s := s.at t
  .next (match s.outFrame n st q with
    | some o => match o.owner with
      | .landing .. => if s.landingOld o then s.landingRefill o else s
      | .scrub _ => if s.scrubOld o then s.landingRefill o else s
      | _ => s
    | none => s)

end Sys2Proof.Machine
end

