-- ==== Sys2Proof/Machine/Switch.lean ====
section
/-! DEFINITION. The switch core (chapters 05 and 06): virtual output queues, eligibility, the match, the transfer of cells,
spill and refill, and reassembly behind the positions. -/

namespace Sys2Proof.Machine

/-! ## Queued frames -/

/-- Change a queued frame. -/
def State.modV (s : State) (v : VFrame) (f : VFrame → VFrame) : State :=
  s.modWarp (fun w =>
    let l := mapIf (fun (x : VFrame) => x.src = v.src ∧ x.tag = v.tag) f w.voq
    { w with voq := l })

/-- A frame leaves its VOQ. -/
def State.dropV (s : State) (v : VFrame) : State :=
  (s.modWarp (fun w => { w with voq := w.voq.filter (fun x => !(x.src = v.src ∧ x.tag = v.tag)) })).freeLeaving

/-- The residence of a queued frame so far, in ticks (R173). -/
def State.residence (s : State) (v : VFrame) : Tick := v.resid + (s.now - v.enq)

/-- A frame becomes head of its VOQ: too old a frame is discarded, and the next one becomes head (R171). -/
def State.newHead (i j tc : Nat) : Nat → State → State
  | 0, s => s
  | fuel + 1, s =>
    match (s.voq i j tc).head? with
    | none => s
    | some v =>
      if v.moved = 0 && s.tooOld v.frame.hdr (s.residence v) then
        State.newHead i j tc fuel ((s.agedDiscard i v.frame.hdr v.part 1).dropV v)
      else if v.headAt.isNone then s.modV v (fun x => { x with headAt := some s.now }) else s

/-- The heads of the VOQs (R154). -/
def State.heads (s : State) : List VFrame :=
  s.warp.voq.foldl (fun l v => if l.any (fun x => x.src = v.src ∧ x.dst = v.dst ∧ x.tc = v.tc) then l else l ++ [v]) []

/-! ## Storage and spill (R155, R156, R162, R163) -/

/-- A frame that waited for room is stored on chip or in the spill region once there is room (R156, R162). -/
def State.tryStore (s : State) (v : VFrame) : State :=
  if v.stored then s
  else
    let q := (s.voq v.src v.dst v.tc).takeWhile (fun x => x.tag ≠ v.tag)
    let mustSpill := 3 ≤ v.tc && 0 < s.spillCapacity && !(s.cfg.unit.strict.getD v.part false) &&
      ((s.warp.spillOn && s.cfg.xbar.spillHead < voqCells q) || q.any (fun x => 0 < x.spilled))
    if mustSpill then
      if s.spillCells + v.cells ≤ s.spillCapacity then
        let s := (s.modV v (fun x => { x with stored := true, spilled := x.cells, throughSpill := true })).freeCells v.arrival v.frame
        s.modArb 64 (fun a => { a with queue := a.queue ++ [⟨v.src / 8, v.tag, v.frame.hdr.src, v.frame.hdr.stream, v.cells⟩] })
      else s.spillIsFull
    else if s.storageFits v.src v.tc v.part v.cells then (s.modV v (fun x => { x with stored := true })).freeCells v.arrival v.frame
    else s

/-- Every frame that waits for room is tried, in order. -/
def State.storeWaiting (s : State) : State := s.each (s.warp.voq.filter (fun v => !v.stored)) State.tryStore

/-- Spill has ended, and the region holds no cell any more (R177). -/
def State.spillEnd (s : State) : State :=
  if s.warp.spillOpen && !s.warp.spillOn && s.spillCells = 0 then
    (s.modWarp (fun w => { w with spillOpen := false })).event 0x0504 toBoth none none (.resource 0 0 [])
  else s

/-! ## Transfer (R149, R151, R152) -/

/-- A combining candidate (R167). -/
def State.combines (s : State) (h : Header) : Bool :=
  h.dst = s.tabs.node && !h.flagNC && ((h.opcode == 1 && (h.tc == 2 || h.tc == 4)) || isAtomic h.opcode.toNat)

/-- A candidate joins an open group at its M position, or opens one (R168). -/
def State.combine (s : State) (pos p : Nat) (h : Header) : State :=
  if !s.combines h then s
  else
    let me := (h.src, h.stream, h.seq)
    let same := fun (g : CGroup) => g.pos == pos && g.opcode == h.opcode && g.offset == h.offset && g.length == h.length &&
      g.format == h.format && g.part == p && g.members.length < 32
    let earlier := s.warp.arrived.any (fun x => x.pos = pos && x.frame.hdr.src = h.src && x.frame.hdr.stream = h.stream &&
      !isResponse x.frame.hdr && s.homePoint x.frame.hdr.offset.toNat = s.homePoint h.offset.toNat)
    match s.warp.groups.find? same with
    | some g =>
      if earlier then s
      else s.modWarp (fun w => { w with groups := w.groups.map (fun x => if x = g then { x with members := x.members ++ [me] } else x) })
    | none =>
      if (s.warp.groups.filter (fun g => g.pos = pos)).length < 64 then
        s.modWarp (fun w => { w with groups := w.groups ++ [⟨pos, h.opcode, h.offset, h.length, h.format, p, [me]⟩] })
      else s

/-- The last cell of a frame has crossed: it stands whole behind its position (R151, R171). -/
def State.reassembled (s : State) (v : VFrame) : State :=
  let h := v.frame.hdr
  let s := s.modPart v.part (fun q => { q with meter := q.meter.modify 4 (· + v.frame.size) })
  if 64 ≤ v.dst && s.tooOld h (s.residence v + fixedResidence) then s.agedDiscard v.src h v.part 2
  else if !isResponse h && s.posDown v.dst then
    s.refuseOpen v.dst h (v.enq - v.resid) v.part (s.downStatus v.dst)
  else
    let s := if 128 ≤ v.dst && v.dst < 152 then s.combine v.dst v.part h else s
    s.modWarp (fun w => { w with arrived := w.arrived ++
      [⟨v.dst, v.sub, v.frame, v.part, v.enq, v.resid, v.arrival, s.now⟩] })

/-- One cell of a matched pair crosses. -/
def State.transfer (s : State) (m : Nat × Nat × Nat) : State :=
  match (s.voq m.1 m.2.1 m.2.2).head? with
  | none => s
  | some v =>
    if v.onChip = 0 then s
    else if v.moved + 1 < v.cells then s.modV v (fun x => { x with moved := x.moved + 1 })
    else (State.newHead m.1 m.2.1 m.2.2 (s.warp.voq.length + 1) (s.dropV v)).reassembled v

/-! ## Eligibility (R157, R158, R184, R192, R194) -/

/-- Cells of a class that hold egress credit of an output and sub-port (R157). -/
def State.creditUsed (s : State) (j sub tc : Nat) : Nat :=
  ((s.warp.voq.filter (fun v => v.dst = j ∧ v.sub = sub ∧ v.tc = tc)).map (·.moved)).sum +
  ((s.warp.arrived.filter (fun a => a.pos = j ∧ a.sub = sub ∧ a.frame.hdr.tc.toNat = tc)).map (fun a => cellsOf a.frame)).sum

/-- The partition that a slot is reserved for (R194). -/
def State.reservedFor (s : State) (slot : Nat) : Option Nat :=
  (List.range 16).find? (fun p => s.cfg.unit.strict.getD p false && (nth s.cfg.shp.calReserve p).testBit (slot % 1024))

/-- The calendar admits a cell of a partition in a slot (R194). -/
def State.calendarOk (s : State) (slot i j p : Nat) : Bool :=
  let m := fun (x : Nat) => decide (128 ≤ x) && decide (x < 152)
  if m i || m j then match s.reservedFor slot with
    | some q => q == p
    | none => !s.cfg.unit.strict.getD p false
  else true

/-- The head's service conforms; a frame of no subscriber is exempt. -/
def State.svcOk (s : State) (v : VFrame) : Bool := match v.subscriber with | some x => s.conforms x v.service | none => true

/-- Conditions 1, 2 and 4 of R184 for the next cell of a head; a later cell needs no condition 2. The matched cell crosses in the
next slot, so that slot's reservation counts. -/
def State.condition124 (s : State) (v : VFrame) : Bool :=
  v.stored && 0 < v.onChip && s.creditUsed v.dst v.sub v.tc < 32 && s.calendarOk (s.warp.slot + 1) v.src v.dst v.part &&
    !s.posDown v.src && !s.posDown v.dst && (0 < v.moved || s.svcOk v)

/-- The deficit of a key. -/
def deficit {κ : Type} [DecidableEq κ] (l : List (κ × Int)) (k : κ) : Int := (look k l).getD 0

/-- Condition 3 of R184. -/
def State.condition3 (s : State) (v : VFrame) : Bool :=
  0 < v.moved || (match v.subscriber with
    | none => true
    | some x => 0 < deficit s.warp.dp (v.dst, v.sub) && 0 < deficit s.warp.ds (v.dst, x) && 0 < deficit s.warp.dv (v.dst, x, v.service))

/-- Cells of a level sent by an output within the last 1,024 slots (R192). -/
def State.levelCells (s : State) (j level : Nat) : Nat :=
  (s.warp.levelUse.filter (fun x => x.1 = j ∧ x.2.1 = level ∧ s.warp.slot < x.2.2 + 1024)).length

/-- A level has used its share at an output (R192). -/
def State.shareUsed (s : State) (j level : Nat) : Bool := 64 * nth s.cfg.shp.levelShare level ≤ s.levelCells j level

/-- The level of a head before any demotion (R158). -/
def VFrame.level (v : VFrame) : Nat :=
  let base := match v.tc with | 1 => 0 | 0 | 2 => 1 | 3 => 2 | _ => 3
  if v.urgent && 2 ≤ base then 1 else base

/-- The level at which a head competes (R158, R192). -/
def State.competes (s : State) (v : VFrame) : Nat :=
  let l := v.level
  if (l = 1 || l = 2) && s.shareUsed v.dst l then 3 else l

/-- The level shares that are overrun raise `SHP_LEVEL_DEMOTE` (R192). -/
def State.demotions (s : State) (heads : List VFrame) : State :=
  let bad := fun (v : VFrame) => match v.level with
    | 0 => decide (64 * nth s.cfg.shp.levelShare 0 < s.levelCells v.dst 0)
    | 3 => false
    | l => s.shareUsed v.dst l
  s.each ((heads.filter bad).map (fun v => (v.dst, v.level))).eraseDups (fun s x =>
    s.eventLimited 0x0602 [x.1] toBoth none none (.resource 0 x.1 [x.2]))

/-! ## Deficit round robin (R185, R186) -/

/-- The weight of a frame (R183). -/
def frameWeight (f : Frame) : Int := (cdiv f.size 64 : Nat)

/-- One scope of a round: where no entry that could be matched has a deficit above zero, every backlogged entry gains its
quantum, up to one quantum. -/
def roundOf {κ : Type} [DecidableEq κ] (l : List (κ × Int)) (entries able : List κ) (q : κ → Nat) : List (κ × Int) :=
  if able.any (fun e => decide (0 < deficit l e)) then l
  else entries.foldl (fun l e => put e (min (deficit l e + (q e : Nat)) (q e : Nat)) l) l

/-- Entries that are not backlogged keep no positive deficit. -/
def trimDeficits {κ : Type} [DecidableEq κ] (l : List (κ × Int)) (back : List κ) : List (κ × Int) :=
  l.map (fun x => if back.contains x.1 then x else (x.1, min x.2 0))

/-- The rounds at the start of a slot (R185, R186). -/
def State.rounds (s : State) : State :=
  let firsts := s.warp.voq.filter (fun v => v.moved = 0)
  let heads := (s.heads.filter (fun v => v.moved = 0)).filter s.condition124
  let pk := fun (v : VFrame) => (v.dst, v.sub)
  let sk := fun (v : VFrame) => v.subscriber.map (fun x => (v.dst, x))
  let vk := fun (v : VFrame) => v.subscriber.map (fun x => (v.dst, x, v.service))
  let ck := fun (v : VFrame) => (v.src, v.dst, v.tc)
  let sub := firsts.filter (fun v => v.subscriber.isSome)
  let subH := heads.filter (fun v => v.subscriber.isSome)
  let bp := (sub.map pk).eraseDups
  let bs := (sub.filterMap sk).eraseDups
  let bv := (sub.filterMap vk).eraseDups
  let bc := (firsts.map ck).eraseDups
  let outs := (firsts.map (·.dst)).eraseDups
  s.modWarp (fun w =>
    let dp := outs.foldl (fun l j => roundOf l (bp.filter (fun k => k.1 = j)) ((subH.map pk).filter (fun k => k.1 = j))
      (fun _ => s.cfg.shp.subportQuantum)) (trimDeficits w.dp bp)
    let ds := outs.foldl (fun l j => roundOf l (bs.filter (fun k => k.1 = j)) ((subH.filterMap sk).filter (fun k => k.1 = j))
      (fun k => s.subQuantum k.2)) (trimDeficits w.ds bs)
    let dv := bs.foldl (fun l e => roundOf l (bv.filter (fun k => k.1 = e.1 ∧ k.2.1 = e.2))
      ((subH.filterMap vk).filter (fun k => k.1 = e.1 ∧ k.2.1 = e.2)) (fun k => s.svcQuantum k.2.1 k.2.2)) (trimDeficits w.dv bv)
    let pairs := (bc.map (fun k => (k.1, k.2.1))).eraseDups
    let dc := pairs.foldl (fun l e => roundOf l (bc.filter (fun k => k.1 = e.1 ∧ k.2.1 = e.2))
      ((heads.map ck).filter (fun k => k.1 = e.1 ∧ k.2.1 = e.2)) (fun k => nth s.cfg.shp.classQuantum k.2.2)) (trimDeficits w.dc bc)
    { w with dp := dp, ds := ds, dv := dv, dc := dc })

/-! ## The match (R159) -/

/-- A request of an input to an output at a level. -/
structure Ask where
  i : Nat
  j : Nat
  level : Nat
  deriving DecidableEq, Repr

/-- The element of a list with the least key, the first of equals. -/
def leastBy {α : Type} (key : α → Nat) (l : List α) : Option α :=
  l.foldl (fun (m : Option α) x => match m with | none => some x | some y => if key x < key y then some x else m) none

/-- How far a position stands from a pointer, going round. -/
def around (ptr k : Nat) : Nat := (k + 160 - ptr) % 160

/-- One iteration: the pairs that accept. -/
def iteration (asks : List Ask) (g a : List Nat) : List Ask :=
  let outs := (asks.map (·.j)).eraseDups
  let grants := outs.filterMap (fun j =>
    let reqs := asks.filter (fun x => x.j = j)
    let best := least (reqs.map (·.level))
    leastBy (fun (x : Ask) => around (nth g j) x.i) (reqs.filter (fun x => x.level = best)))
  let ins := (grants.map (·.i)).eraseDups
  ins.filterMap (fun i =>
    let gs := grants.filter (fun x => x.i = i)
    let best := least (gs.map (·.level))
    leastBy (fun (x : Ask) => around (nth a i) x.j) (gs.filter (fun x => x.level = best)))

/-- The requests that inputs make: for each pair, the best level among its eligible heads. -/
def State.asks (s : State) (heads : List VFrame) : List Ask :=
  ((heads.map (fun v => (v.src, v.dst))).eraseDups).map (fun k =>
    ⟨k.1, k.2, least ((heads.filter (fun v => v.src = k.1 ∧ v.dst = k.2)).map s.competes)⟩)

/-- Three iterations: the pairs matched, and the pointers (R159). -/
def matching (asks : List Ask) (g a : List Nat) : List Ask × List Nat × List Nat :=
  let free := fun (l : List Ask) => asks.filter (fun x => !l.any (fun y => y.i = x.i ∨ y.j = x.j))
  let m1 := iteration asks g a
  let g1 := m1.foldl (fun l x => l.set x.j ((x.i + 1) % 160)) g
  let a1 := m1.foldl (fun l x => l.set x.i ((x.j + 1) % 160)) a
  let m2 := m1 ++ iteration (free m1) g1 a1
  let m3 := m2 ++ iteration (free m2) g1 a1
  (m3, g1, a1)

/-- The head that a matched pair sends: among its heads at the best level, a class whose deficit is above zero goes first, then
the lowest class (R186; DESIGN CHOICE on the order of classes, log 44). -/
def State.choose (s : State) (heads : List VFrame) (x : Ask) : Option VFrame :=
  let cand := heads.filter (fun v => v.src = x.i ∧ v.dst = x.j ∧ s.competes v = x.level)
  let rich := cand.filter (fun v => 0 < deficit s.warp.dc (v.src, v.dst, v.tc))
  leastBy VFrame.tc (if rich.isEmpty then cand else rich)

/-- The first cell of a frame is matched: its deficits and tokens fall (R185 to R188), and its wait is sampled. -/
def State.charge1 (s : State) (v : VFrame) : State :=
  if 0 < v.moved then s
  else
    let wt := frameWeight v.frame
    let wait := match v.headAt with | some t => s.now - t | none => 0
    let s := s.sampleVoq (v.src, v.dst, v.tc) v.cells wait
    let s := s.modWarp (fun w => { w with dc := put (v.src, v.dst, v.tc) (deficit w.dc (v.src, v.dst, v.tc) - wt) w.dc })
    match v.subscriber with
    | none => s
    | some x =>
      let s := s.modWarp (fun w => { w with
        dp := put (v.dst, v.sub) (deficit w.dp (v.dst, v.sub) - wt) w.dp
        ds := put (v.dst, x) (deficit w.ds (v.dst, x) - wt) w.ds
        dv := put (v.dst, x, v.service) (deficit w.dv (v.dst, x, v.service) - wt) w.dv })
      (s.chargeService x v.service v.frame.size).sampleSvc x v.service v.frame.size wait 0

/-- A matched head: its level is metered (R192), and its cell crosses in the next slot. -/
def State.matched1 (s : State) (heads : List VFrame) (x : Ask) : State :=
  match s.choose heads x with
  | none => s
  | some v =>
    let level := s.competes v
    let s := s.charge1 v
    s.modWarp (fun w => { w with
      levelUse := if level < 3 then w.levelUse ++ [(v.dst, level, w.slot)] else w.levelUse
      matched := w.matched ++ [(v.src, v.dst, v.tc)] })

/-- The heads whose bucket or wheel holds them back (R201). -/
def State.heldBack (s : State) : State :=
  s.each (s.heads.filter (fun v => v.moved = 0 && !v.heldBack && !s.svcOk v)) (fun s v =>
    let s := s.modV v (fun x => { x with heldBack := true })
    match v.subscriber with | some x => s.sampleSvc x v.service 0 0 1 | none => s)

/-- One slot (R152, R159): the cells matched in the previous slot cross, tokens and deficits are brought up to date, and the
next match is made. -/
def State.slot (s : State) : State :=
  let s := s.each s.warp.matched State.transfer
  let s := s.modWarp (fun w => { w with matched := [] })
  let s := (s.storeWaiting.refillTokens.sampleNow).heldBack.rounds
  let all := s.heads
  let s := s.demotions all
  let heads := all.filter (fun v => s.condition124 v && s.condition3 v)
  let (m, g, a) := matching (s.asks heads) s.warp.gPtr s.warp.aPtr
  let s := s.each m (fun s x => s.matched1 heads x)
  s.modWarp (fun w => { w with gPtr := g, aPtr := a, slot := w.slot + 1,
                               levelUse := w.levelUse.filter (fun x => w.slot < x.2.2 + 1024) })

/-! ## Positions -/

/-- A crossbar position, a class and a sub-port. -/
def isPosition (p : Nat) : Bool := decide (p < 160)
/-- A traffic class. -/
def isClass (c : Nat) : Bool := decide (c < 8)

/-- A Warp island in reset transfers nothing. -/
def State.slotGo (s : State) : State := if s.warpDown then s else s.slot

/-- `CROSSBAR_SLOT` (R159). -/
def execCrossbarSlot (t : Nat) (s : State) : Host.Outcome State Fault Refusal :=
  let s := s.at t
  .next (if s.live then s.slotGo.stir else s)

/-- `URGENT_PROMOTION` (R158): a slot is 1.28 ticks. -/
def execUrgentPromotion (t inp out tc : Nat) (s : State) : Host.Outcome State Fault Refusal :=
  if isPosition inp && isPosition out && isClass tc then
    let s := s.at t
    .next (match (s.voq inp out tc).head? with
      | some v => match v.headAt with
        | some h => if 3 ≤ tc && 128 * s.cfg.xbar.urgent < 100 * (s.now - h) then s.modV v (fun x => { x with urgent := true }) else s
        | none => s
      | none => s)
  else .fault .noSuchUnit

/-- `CALENDAR_WHEEL_TICK` (R188). -/
def execCalendarWheelTick (t : Nat) (s : State) : Host.Outcome State Fault Refusal :=
  .next ((s.at t).modWarp (fun w => { w with wheel := w.wheel + 1 }))

/-- `SPILL_ON` (R162). -/
def execSpillOn (t : Nat) (s : State) : Host.Outcome State Fault Refusal :=
  let s := s.at t
  .next (if !s.warp.spillOn && s.cfg.xbar.spillOn * 14336 ≤ s.poolCells then
    (s.modWarp (fun w => { w with spillOn := true, spillOpen := true })).event 0x0503 toBoth none none (.resource 0 0 [])
    else s)

/-- `SPILL_OFF` (R162). -/
def execSpillOff (t : Nat) (s : State) : Host.Outcome State Fault Refusal :=
  let s := s.at t
  .next (if s.warp.spillOn && s.poolCells < s.cfg.xbar.spillOff * 14336 then
    (s.modWarp (fun w => { w with spillOn := false })).spillEnd
    else s)

/-- `SPILL_REFILL` (R162): the oldest spilled cell of a VOQ is asked for. -/
def execSpillRefill (t inp out tc : Nat) (s : State) : Host.Outcome State Fault Refusal :=
  if isPosition inp && isPosition out && isClass tc then
    let s := s.at t
    let q := s.voq inp out tc
    .next (match q.find? (fun v => 0 < v.spilled) with
      | some v =>
        if 2 * voqCells q < s.cfg.xbar.spillHead && !v.refilling then
          let s := s.modV v (fun x => { x with refilling := true })
          s.modArb 64 (fun a => { a with queue := a.queue ++ [⟨20 + inp / 8, v.tag, v.frame.hdr.src, v.frame.hdr.stream, 1⟩] })
        else s
      | none => s)
  else .fault .noSuchUnit

/-- `REFILL_RETURN` (R163): the cell joins its VOQ; a record that cannot be read loses its frame (R166, R363). -/
def execRefillReturn (t inp out tc : Nat) (d : Damage) (s : State) : Host.Outcome State Fault Refusal :=
  if isPosition inp && isPosition out && isClass tc then
    let s := s.at t
    .next (match (s.voq inp out tc).find? (·.refilling) with
      | none => s
      | some v =>
        if !(s.arb 64).granted.any (fun x => x.requester = 20 + inp / 8 ∧ x.line = v.tag) then s
        else
          let s := s.modArb 64 (fun a => { a with granted := a.granted.filter (fun x => !(x.requester = 20 + inp / 8 ∧ x.line = v.tag)) })
          let fuel := s.warp.voq.length + 1
          let s := match d with
            | .uncorrectable =>
              let s := ((s.count .spillLost).healthInput 104 256).eventLimited 0x0C02 [8] toOwnerOnly none none (.resource 11 0 [])
              State.newHead inp out tc fuel (s.dropV v)
            | _ =>
              let s := match d with | .corrected n => s.eccInput n | _ => s
              let s := s.modV v (fun x => { x with spilled := x.spilled - 1, refilling := false, throughSpill := true })
              State.newHead inp out tc fuel s
          s.spillEnd)
  else .fault .noSuchUnit

/-! ## Samples and Clove (R191, R199 to R201) -/

/-- `VOQ_SAMPLE_PERIOD` (R200, R526). -/
def execVoqSamplePeriod (t : Nat) (s : State) : Host.Outcome State Fault Refusal :=
  let s := s.at t
  .next (if s.live then s.ownerSamples else s)

/-- `SERVICE_SAMPLE_WINDOW` (R201). -/
def execServiceSampleWindow (t : Nat) (s : State) : Host.Outcome State Fault Refusal :=
  let s := s.at t
  .next (if s.live then s.partSamples else s)

/-- `CLOVE_RATE_ADAPT` (R191): within the service's bounds, and at most once per `SHP_ADAPT_INTERVAL`. -/
def execCloveRateAdapt (t sub svc rate cause : Nat) (s : State) : Host.Outcome State Fault Refusal :=
  if sub < 4096 ∧ svc < 16 then
    let s := s.at t
    .next (match s.service sub svc with
      | some x =>
        if s.live && x.shaping ≠ 0 && !x.leaving && x.rateMin ≤ rate && rate ≤ x.rateMax && rate ≠ x.rate &&
            (x.lastAdapt = 0 || x.lastAdapt + s.cfg.shp.adaptIntervalMs * ticksPerMs ≤ s.now) then
          let s := s.modService sub svc (fun y => { s.restart y with rate := rate, lastAdapt := s.now })
          s.cloveLog 1 (some (s.subPart sub)) (sub + 4096 * svc) x.rate rate cause
        else s
      | none => s)
  else .fault .noSuchUnit

/-- `CLOVE_ADMIT_ADAPT` (R199). -/
def execCloveAdmitAdapt (t part window cause : Nat) (s : State) : Host.Outcome State Fault Refusal :=
  if part < 16 then
    let s := s.at t
    let old := (s.part part).window
    .next (if s.live && nth s.cfg.shp.admitMin part * 1048576 ≤ window && window ≤ nth s.cfg.shp.admitMax part * 1048576 && window ≠ old then
      (s.modPart part (fun p => { p with window := window })).cloveLog 2 (some part) part old window cause
      else s)
  else .fault .noSuchUnit

/-- A port's threshold for weak wavelengths, `OSR_WEAK_SYM` (R520). -/
def State.weakSym (s : State) (port : Nat) : Nat := (look port s.hoop.weakSym).getD s.cfg.osr.weakMax

/-- `CLOVE_WEAK_SYM_ADAPT` (R520). -/
def execCloveWeakSymAdapt (t port value cause : Nat) (s : State) : Host.Outcome State Fault Refusal :=
  if port < 64 then
    let s := s.at t
    let old := s.weakSym port
    .next (if s.live && s.cfg.osr.weakMin ≤ value && value ≤ s.cfg.osr.weakMax && value ≠ old then
      (s.modHoop (fun h => { h with weakSym := put port value h.weakSym })).cloveLog 4 none port old value cause
      else s)
  else .fault .noSuchUnit

/-- Milliseconds that have passed are metered: for each partition its assigned clusters, and the near-tier bytes that its access
entries grant (R555). -/
def State.meterMs (s : State) (d : Nat) : State :=
  let ps := s.parts.mapIdx (fun p (q : Partition) =>
    let cs := (s.eng.clusters.filter (fun c => c.assigned && c.part == p)).length
    let bytes := ((s.tabs.access.filter (fun e => e.part = p ∧ e.tier ≠ 3)).map (·.length)).sum
    { q with meter := (q.meter.modify 1 (· + d * cs)).modify 5 (· + d * bytes) })
  { s with parts := ps }

/-- `ONE_MS_WINDOW` (R371, R555, R655): a new window of Hoop uptime has begun; the quota totals restart, and waiting fetches go. -/
def execOneMsWindow (t : Nat) (s : State) : Host.Outcome State Fault Refusal :=
  let s := s.at t
  .next (if s.hoop.window < s.windowNow then
    let s := s.meterMs (s.windowNow - s.hoop.window)
    let s := s.modHoop (fun h => { h with window := s.windowNow })
    let ps := s.parts.map (fun (p : Partition) => { p with quota := [0, 0, 0] })
    let s := { s with parts := ps }
    let s := s.modTabs (fun t =>
      let l := t.schedules.map (fun (x : Schedule) =>
        let is := x.instances.map (fun (i : PfInstance) => { i with quotaWait := false })
        { x with instances := is })
      { t with schedules := l })
    s.each (s.tabs.schedules.map (·.part)) State.pfPump
    else s)

end Sys2Proof.Machine
end

