-- ==== Sys2Proof/Machine/Optical.lean ====
section
/-! DEFINITION. Optical ports (chapter 18): link blocks, credits and retry, training and delay, wavelengths and the spare, light
and the down hold, and the transmitting serialiser (R193). Blocks that carry no frame byte are not modelled (log 45). -/

namespace Sys2Proof.Machine

/-! ## Links (R503, R504, R513, R515) -/

/-- Links that a port is split into (R503). -/
def State.split (s : State) (port : Nat) : Nat := max 1 (nth s.cfg.osr.split port)
/-- The nominal lane count of a link of a port. -/
def State.lanes (s : State) (port : Nat) : Nat := 8 / s.split port
/-- The working wavelengths of a link as a mask. -/
def State.working (s : State) (port sub : Nat) : Nat := (2 ^ s.lanes port - 1) * 2 ^ (sub * s.lanes port)
/-- The sub-port that a wavelength serves: the spare's owner for λ8 (R504). -/
def State.waveSub (s : State) (port wave : Nat) : Nat := if wave = 8 then nth s.cfg.osr.spareOwner port else wave / s.lanes port
/-- The credit allocation of a link for each class (R513). -/
def State.allocation (s : State) (port : Nat) : List Nat := s.cfg.osr.classCells.map (· / s.split port)
/-- Blocks that a replay buffer holds (R515). -/
def State.replayRoom (s : State) (port : Nat) : Nat := match s.split port with | 1 => 127 | 2 => 63 | _ => 31
/-- Wavelengths of a mask. -/
def laneCount (m : Nat) : Nat := ((List.range 9).filter m.testBit).length

/-- The port's lasers may be lit (R506): enabled, not expelled, not in STANDBY. -/
def State.mayLight (s : State) (port : Nat) : Bool :=
  s.cfg.osr.portEnable.testBit port && s.hoop.power != .standby && look (32 + port) s.hlt.states != some .expelled

/-- A link that carries frames. -/
def Link.isUp (l : Link) : Bool := l.state == .up || l.state == .degraded

/-- A link that begins its training (R518). -/
def freshLink (port sub : Nat) (lit : Bool) : Link := { port := port, sub := sub, lit := lit, state := if lit then .training else .dark }

/-- The ports that `OSR_PORT_ENABLE` names are lit, and their links train (R570). -/
def State.lightPorts (s : State) : State :=
  { s with links := (List.range 64).flatMap (fun p => (List.range (s.split p)).map (fun b => freshLink p b (s.mayLight p))) }

/-- An event of a link, at most once per link per 1 ms (R528). -/
def State.linkEvent (s : State) (code : Nat) (l : Link) (vs : List Nat) : State :=
  s.eventLimited code [l.port, l.sub] toBoth none none (.resource 0 (l.port + 64 * l.sub) vs)

/-! ## Down, retrain (R516, R518, R522, R523) -/

/-- A link stops carrying frames. -/
def State.stopLink (s : State) (l : Link) (st : LinkState) : State :=
  s.modLink l.port l.sub (fun x => { x with
    state := st, agreed := false, delays := [], downSince := some (x.downSince.getD s.now), retryOut := false
    downEvent := x.downEvent || st == .down })

/-- A link retrains (R516, R529): its replay buffer and sequences are kept. -/
def State.retrain (s : State) (l : Link) : State :=
  let s := (s.stopLink l .retrain).modLink l.port l.sub (fun x => { x with retrains := satAdd 65535 x.retrains 1 })
  (s.healthInput (32 + l.port) 64).healthInput (100 + l.port / 16) 8

/-- The hold of a link has run (R523): its frames and its replay buffer are discarded, and new frames are refused. -/
def State.linkDown (s : State) (l : Link) : State :=
  let vs := s.warp.voq.filter (fun v => v.dst = l.port && v.sub = l.sub)
  let s := s.each vs State.dropV
  let s := s.modWarp (fun w => { w with arrived := w.arrived.filter (fun a => !(a.pos = l.port && a.sub = l.sub)) })
  let s := s.modLink l.port l.sub (fun x => { x with
    state := if x.lit then .down else .dark, replay := [], holdExpired := true, downEvent := true })
  let s := s.each (vs.map (fun v => (v.src, v.dst, v.tc))).eraseDups (fun s k => State.newHead k.1 k.2.1 k.2.2 (s.warp.voq.length + 1) s)
  (s.linkEvent 0x1202 l []).healthInput (32 + l.port) 512

/-! ## Wavelengths (R520 to R522) -/

/-- The spare of a port is brought in: its laser is lit, unless it already serves or has failed (R521 step 1). -/
def State.lightSpare (s : State) (port sub : Nat) : State :=
  if nth s.cfg.osr.spareOwner port ≠ sub then s
  else s.modLink port sub (fun l => if l.spareInUse || l.failed.contains 8 then l else { l with spareLit := true })

/-- A working wavelength is found weak at its sender (R520, R521). -/
def State.weakWave (s : State) (l : Link) (wave : Nat) : State :=
  if l.weak.contains wave || l.failed.contains wave then s
  else (s.modLink l.port l.sub (fun x => { x with weak := x.weak ++ [wave], laneEvent := true })).lightSpare l.port l.sub

/-- A wavelength has failed at its sender (R522): it is removed, and the link runs on one lane fewer. -/
def State.failWave (s : State) (l : Link) (wave : Nat) : State :=
  if l.failed.contains wave then s
  else
    let left := l.txActive &&& (0x1FF - 2 ^ wave)
    let s := s.modLink l.port l.sub (fun x => { x with
      failed := x.failed ++ [wave], weak := x.weak.filter (· ≠ wave), laneEvent := true, txActive := left
      spareInUse := x.spareInUse && wave ≠ 8, spareLit := x.spareLit && wave ≠ 8
      state := if x.isUp && laneCount left < s.lanes l.port then .degraded else x.state })
    let s := (s.linkEvent 0x1203 l [wave]).healthInput (32 + l.port) 128
    let s := s.lightSpare l.port l.sub
    if left = 0 && l.isUp then s.stopLink l .down else s

/-- The spare takes the lane of a weak or failed wavelength (R521 step 3). -/
def State.spareIn (s : State) (l : Link) : State :=
  match (l.weak ++ l.failed.filter (· ≠ 8)).head? with
  | none => s
  | some wave =>
    let active := l.txActive &&& (0x1FF - 2 ^ wave) ||| 0x100
    let s := s.modLink l.port l.sub (fun x => { x with
      txActive := active, spareInUse := true, weak := x.weak.filter (· ≠ wave), substitutions := satAdd 65535 x.substitutions 1
      state := if x.isUp then (if laneCount active < s.lanes l.port then .degraded else .up) else x.state })
    (s.linkEvent 0x1204 l [wave]).cloveLog 5 none (l.port + 64 * l.sub) wave 8 l.substitutions

/-- One wavelength's counters after a window (R526). -/
def WaveCount.add (w : WaveCount) (r : WaveReading) : WaveCount :=
  { cwCorrected := satAdd (2 ^ 48 - 1) w.cwCorrected r.cwCorrected, symCorrected := satAdd (2 ^ 48 - 1) w.symCorrected r.symCorrected,
    cwUncorrected := satAdd (2 ^ 32 - 1) w.cwUncorrected r.cwUncorrected, rxPower := r.rxPower, laserBias := r.laserBias }

/-- A reading of one wavelength of a port (R520): the receive side loses a wavelength that is not good, and the transmit side
learns that its laser is at its end of life. -/
def State.waveReading (s : State) (port : Nat) (r : WaveReading) : State :=
  let s := { s with waves := put (port, r.wave) (((look (port, r.wave) s.waves).getD {}).add r) s.waves }
  match s.link port (s.waveSub port r.wave) with
  | none => s
  | some l =>
    let failed := r.lockLost || 64 ≤ r.cwUncorrected
    let weak := s.weakSym port < r.symCorrected || 4 ≤ r.cwUncorrected
    let s := if (failed || weak) && l.rxGood.testBit r.wave then
        let s := s.modLink l.port l.sub (fun x => { x with rxGood := x.rxGood &&& (0x1FF - 2 ^ r.wave), laneEvent := true })
        let s := if failed then s.healthInput (32 + port) 128 else s
        if l.isUp && l.rxGood &&& (0x1FF - 2 ^ r.wave) = 0 then (if failed then s.stopLink l .down else s.retrain l) else s
      else s
    if l.txActive.testBit r.wave && 10 * s.cfg.osr.laserEol < r.laserBias then s.weakWave l r.wave else s

/-! ## Blocks (R509 to R517) -/

/-- A block fails its check, or is out of sequence (R516): a retry is asked for. -/
def State.blockLost (s : State) (l : Link) (badCheck : Bool) : State :=
  let s := s.modLink l.port l.sub (fun x => { x with retryOut := true, blkBad := if badCheck then satAdd (2 ^ 32 - 1) x.blkBad 1 else x.blkBad })
  if badCheck then s.healthInput (32 + l.port) 1 else s

/-- Blocks up to an acknowledged sequence leave the replay buffer (R509, R515). -/
def State.acknowledge (s : State) (l : Link) (acked : BitVec 16) : State :=
  s.modLink l.port l.sub (fun x => { x with replay := x.replay.filter (fun b => decide (2 ^ 15 ≤ (acked - BitVec.ofNat 16 b.seq).toNat)) })

/-- The sender replays every block from the acknowledged sequence on (R516). -/
def State.replayBlocks (s : State) (l : Link) (acked : BitVec 16) : State :=
  (s.acknowledge l acked).modLink l.port l.sub (fun x =>
    let bs := x.replay.map (fun (b : TxBlock) => { b with replays := b.replays + 1 })
    { x with replay := bs, blkReplayed := satAdd (2 ^ 48 - 1) x.blkReplayed bs.length })

/-- A frame received whole on a link: through the parser into the switch core. -/
def State.arrive (s : State) (port sub replay : Nat) (f : Frame) : State :=
  if !s.live then s
  else if s.warpDown then s.freeCells (some (port, sub)) f
  else match s.parse { port := port, sub := sub, replay := replay } f with
    | (s, none) => s.freeCells (some (port, sub)) f
    | (s, some (f, p)) =>
      if s.takesIn f.hdr then s.enqueue port (s.steer f.hdr p) 0 f p 0 (some (port, sub))
      else match s.routable f.hdr.dst with
        | some (q, b) => s.enqueue port q b f p 0 (some (port, sub))
        | none => s.freeCells (some (port, sub)) f

/-- What the bytes of a link hold next (R510). -/
inductive Cut where
  /-- nothing, or only gap bytes. -/
  | idle
  /-- a frame that goes on in a later block. -/
  | part
  /-- a frame whose header check fails. -/
  | bad (h : Header)
  | frame (f : Frame) (rest : Bytes)

/-- Cut the next frame off the bytes of a link (R39, R510). -/
def cutFrame (b : Bytes) : Cut :=
  let b := b.dropWhile (· == 0)
  if b.isEmpty then .idle
  else if b.length < 32 then .part
  else
    let h := Header.ofBytes b
    if h.check ≠ h.goodCheck then .bad h
    else
      let n := if h.carries then h.length.toNat else 0
      let size := if h.carries then 36 + n else 32
      if b.length < size then .part
      else .frame ⟨h, slice b 32 n, if h.carries then BitVec.ofNat 32 (beAt b (32 + n) 4) else 0⟩ (b.drop size)

/-- Deliver the frames of a link's bytes; a frame that is not yet whole is kept. -/
def State.takeFrames (port sub delay : Nat) : Nat → Bytes → State → State
  | 0, _, s => s
  | fuel + 1, b, s =>
    match cutFrame b with
    | .idle => s.modLink port sub (fun l => { l with partialIn := [], partialDelay := 0 })
    | .part => s.modLink port sub (fun l => { l with partialIn := b.dropWhile (· == 0), partialDelay := delay })
    | .bad _ =>
      let s := s.modLink port sub (fun l => { l with partialIn := [], partialDelay := 0 })
      (s.count (.hdrBad port)).eventLimited 0x0502 [port] toFabric none none (.resource 0 port [])
    | .frame f rest => State.takeFrames port sub delay fuel rest (s.arrive port sub delay f)

/-- The frames of a block's data region (R510, R517): the frame begun earlier goes on at its first byte, and a new one begins at
the first frame offset. -/
def State.takeRegion (s : State) (l : Link) (b : Block) (bytes : Bytes) : State :=
  let d := b.replayDelay.toNat
  if l.partialIn.isEmpty then
    if b.firstFrame = 0x1FFF then s else State.takeFrames l.port l.sub d 129 ((bytes.take 4096).drop b.firstFrame.toNat) s
  else
    -- a frame begun in an earlier block carries the largest replay delay of its blocks; the frames after it carry this block's
    match cutFrame (l.partialIn ++ bytes.take 4096) with
    | .frame f rest =>
      State.takeFrames l.port l.sub d 129 rest
        ((s.modLink l.port l.sub (fun x => { x with partialIn := [], partialDelay := 0 })).arrive l.port l.sub (max d l.partialDelay) f)
    | _ => State.takeFrames l.port l.sub (max d l.partialDelay) 1 (l.partialIn ++ bytes.take 4096) s

/-- The peer's receive lane mask (R521, R522, R529): a working wavelength that it does not receive is weak, or failed where blocks
are being lost; none at all retrains the link. -/
def State.peerMask (s : State) (l : Link) (mask : Nat) (losing : Bool) : State :=
  if mask = 0 then s.retrain l
  else s.each ((List.range 9).filter (fun w => l.txActive.testBit w && !mask.testBit w)) (fun s w =>
    match s.link l.port l.sub with
    | some l => if losing then s.failWave l w else s.weakWave l w
    | none => s)

/-- A DATA block is received (R509, R516). -/
def State.blockIn (s : State) (l : Link) (b : Block) (bytes : Bytes) : State :=
  if !l.isUp then s
  else if b.kind ≠ 1 then s.blockLost l true
  else if b.seq.toNat ≠ l.rxSeq then s.blockLost l false
  else
    let s := s.modLink l.port l.sub (fun x => { x with
      rxSeq := (x.rxSeq + 1) % 65536, retryOut := false, txCredit := x.txCredit.set b.creditClass.toNat b.credits.toNat })
    let s := if b.retry then s.replayBlocks l b.acked else s.acknowledge l b.acked
    let s := s.takeRegion l b bytes
    match s.link l.port l.sub with
    | some l => s.peerMask l b.laneMask.toNat b.retry
    | none => s

/-! ## The transmitting serialiser (R171, R173, R193, R510) -/

/-- The priority level of a class (R158). -/
def levelOf (tc : Nat) : Nat := match tc with | 1 => 0 | 0 | 2 => 1 | 3 => 2 | _ => 3

/-- Complete frames behind a sub-port, by level and, within a level, oldest first. -/
def State.ready (s : State) (port sub : Nat) : List AFrame :=
  let l := s.warp.arrived.filter (fun a => a.pos = port && a.sub = sub)
  (List.range 4).flatMap (fun k => (l.filter (fun a => levelOf a.frame.hdr.tc.toNat = k)).mergeSort (fun a b => a.doneAt ≤ b.doneAt))

/-- Link credit that a class has left (R513). -/
def Link.credit (l : Link) (tc : Nat) : Nat := (nth l.txCredit tc + 65536 - nth l.txUsed tc) % 65536

/-- Ticks that a frame's serialisation takes on a number of lanes: 31.25 bytes per tick and lane. -/
def serialTicks (bytes lanes : Nat) : Tick := cdiv (4 * bytes) (125 * max 1 lanes)

/-- A frame leaves: its residence goes into its age (R173), its cells take credit, and its blocks wait in the replay buffer. -/
def State.serialise (s : State) (l : Link) (a : AFrame) : State :=
  let h := a.frame.hdr
  let tc := h.tc.toNat
  let out := { h with age := BitVec.ofNat 24 (ageAfter tc h.age.toNat (s.now - a.stamp + a.resid + fixedResidence)) }
  let f : Frame := { a.frame with hdr := out.sealed }
  let n := cdiv f.size 4096
  let bs := (List.range n).map (fun i => ({ seq := (l.txSeq + i) % 65536, firstAt := s.now, replays := 0, cells := cellsOf f } : TxBlock))
  let s := s.modLink l.port l.sub (fun x => { x with
    txSeq := (x.txSeq + n) % 65536, replay := x.replay ++ bs, txUsed := x.txUsed.modify tc (fun u => (u + cellsOf f) % 65536) })
  s.modWarp (fun w => { w with
    wire := w.wire ++ [(l.port, l.sub, f)], busy := put (l.port, l.sub) (s.now + serialTicks f.size (laneCount l.txActive)) w.busy })

/-- The serialiser of a link takes its next frame: too old a frame is discarded, one without credit waits (R171, R510). -/
def State.egress (s : State) (l : Link) : Nat → State
  | 0 => s
  | fuel + 1 =>
    let l := (s.link l.port l.sub).getD l
    let idle := match look (l.port, l.sub) s.warp.busy with | some t => decide (t ≤ s.now) | none => true
    if !l.isUp || !idle then s
    else
      let q := s.ready l.port l.sub
      match q.find? (fun a => s.tooOld a.frame.hdr (s.now - a.stamp + a.resid + fixedResidence)) with
      | some a => State.egress ((s.modWarp (fun w => { w with arrived := w.arrived.erase a })).agedDiscard l.port a.frame.hdr a.part 3) l fuel
      | none =>
        let short := fun (a : AFrame) => decide (l.credit a.frame.hdr.tc.toNat < cellsOf a.frame)
        let s := s.modLink l.port l.sub (fun x =>
          let cs := ((q.filter short).map (fun a => a.frame.hdr.tc.toNat)).eraseDups
          { x with creditStall := cs.foldl (fun k tc => k.modify tc (satAdd (2 ^ 32 - 1) 1)) x.creditStall })
        match q.find? (fun a => !short a) with
        | some a =>
          if s.replayRoom l.port < l.replay.length + cdiv a.frame.size 4096 then s
          else (s.modWarp (fun w => { w with arrived := w.arrived.erase a })).serialise l a
        | none => s

/-! ## Training and delay (R518, R519) -/

/-- A TRAIN block (R518 step 4, R519). -/
def State.trainBlock (s : State) (l : Link) (b : TrainBlock) (receipt : Nat) : State :=
  if !(l.state == .training || l.state == .retrain) || b.version ≠ 1 then s
  else if b.split.toNat ≠ s.split l.port || b.sub.toNat ≠ l.sub then
    (s.modLink l.port l.sub (fun x => { x with agreed := false })).linkEvent 0x1205 l [b.split.toNat, b.sub.toNat]
  else
    let trip := (receipt + 2 ^ 33 - b.echoedMark.toNat - b.hold.toNat) % 2 ^ 32
    s.modLink l.port l.sub (fun x => { x with agreed := true, delays := if b.echo then (x.delays ++ [trip]).take 16 else x.delays })

/-- A link that has trained is UP (R518 step 6): credits are at their allocations; a full training starts it anew, and a retrain
keeps its sequences and its replay buffer. -/
def State.trained (s : State) (l : Link) : State :=
  if !(l.agreed && l.delays.length = 16) then s
  else
    let oneWay := min 0xFFFFFF (cdiv l.delays.sum 32)
    let alloc := s.allocation l.port
    let full := s.working l.port l.sub
    let gone := (l.failed.filter (· ≠ 8)).foldl (fun m w => m &&& (0x1FF - 2 ^ w)) full
    let active := if l.state == .training then full else (gone ||| (if l.spareInUse then 0x100 else 0))
    let s := s.modLink l.port l.sub (fun x =>
      let x := if x.state == .training then
          { freshLink l.port l.sub true with
            laneEvent := x.laneEvent, downEvent := x.downEvent, rxGood := full, blkBad := x.blkBad, blkReplayed := x.blkReplayed
            retrains := x.retrains, substitutions := x.substitutions, creditStall := x.creditStall }
        else x
      { x with state := if laneCount active < s.lanes l.port then .degraded else .up, oneWay := oneWay, rxFreed := alloc, txCredit := alloc
               txUsed := List.replicate 8 0, txActive := active, plan := 0, width := s.lanes l.port, lanes := [], agreed := false, delays := []
               downSince := none, holdExpired := false })
    s.linkEvent 0x1201 l [oneWay]

/-! ## Lane markers (R511, R512) -/

/-- A lane marker is read (R512): one that fails its check is ignored, and a new plan number puts its plan into effect. -/
def State.laneMarker (s : State) (port : Nat) (b : Bytes) : State :=
  let wave := leAt b 3 1 % 16
  let plan := leAt b 3 1 / 16
  let lane := leAt b 4 1 % 16
  let width := leAt b 4 1 / 16
  let code := match s.split port with | 1 => 0 | 2 => 1 | _ => 2
  let sub := bits (leAt b 5 1) 2 2
  if b.length ≠ 15 || beAt b 0 3 ≠ 0xC53A96 || (crc16 (b.take 12)).toNat ≠ beAt b 12 2 || 8 < wave || (7 < lane && lane ≠ 15) ||
      width < 1 || 8 < width || bits (leAt b 5 1) 0 2 ≠ code then s
  else s.modLink port sub (fun l =>
    let old := if plan = l.plan then l.lanes else []
    { l with plan := plan, width := width, lanes := if lane = 15 then del wave old else put wave lane old })

/-! ## The meanings -/

/-- Apply a command to a link that exists. -/
def State.onLink (s : State) (port sub : Nat) (f : State → Link → State) : Host.Outcome State Fault Refusal :=
  if port < 64 ∧ sub < 4 then .next (match s.link port sub with | some l => f s l | none => s) else .fault .noSuchUnit

/-- `EGRESS_FRAME_START` (R193). -/
def execEgressFrameStart (t port sub : Nat) (s : State) : Host.Outcome State Fault Refusal :=
  (s.at t).onLink port sub (fun s l => s.egress l (s.warp.arrived.length + 1))

/-- `BLOCK_RECEIVED` (R509): a TRAIN block is another row's. -/
def execBlockReceived (t port sub : Nat) (b : Block) (bytes : Bytes) (s : State) : Host.Outcome State Fault Refusal :=
  if b.kind = 2 then .fault .notThisCommand else (s.at t).onLink port sub (fun s l => s.blockIn l b bytes)

/-- `BLOCK_CHECK_FAIL` (R516). -/
def execBlockCheckFail (t port sub : Nat) (s : State) : Host.Outcome State Fault Refusal :=
  (s.at t).onLink port sub (fun s l => if l.isUp then s.blockLost l true else s)

/-- `RETRY_REQUEST` (R516). -/
def execRetryRequest (t port sub : Nat) (acked : BitVec 16) (s : State) : Host.Outcome State Fault Refusal :=
  (s.at t).onLink port sub (fun s l => if l.isUp then s.replayBlocks l acked else s)

/-- `RETRY_LIMIT_RETRAIN` (R516). -/
def execRetryLimitRetrain (t port sub : Nat) (s : State) : Host.Outcome State Fault Refusal :=
  (s.at t).onLink port sub (fun s l =>
    if l.isUp && l.replay.any (fun b => s.cfg.osr.retryLimit ≤ b.replays) then s.retrain l else s)

/-- `TRAIN_BLOCK_RECEIVED` (R519). -/
def execTrainBlockReceived (t port sub : Nat) (b : TrainBlock) (receiptMark : Nat) (s : State) : Host.Outcome State Fault Refusal :=
  (s.at t).onLink port sub (fun s l => s.trainBlock l b receiptMark)

/-- `LINK_TRAINING_DONE` (R518). -/
def execLinkTrainingDone (t port sub : Nat) (s : State) : Host.Outcome State Fault Refusal :=
  (s.at t).onLink port sub (fun s l => if l.lit then s.trained l else s)

/-- `LANE_MARKER` (R512). -/
def execLaneMarker (t port : Nat) (bytes : Bytes) (s : State) : Host.Outcome State Fault Refusal :=
  if port < 64 then .next ((s.at t).laneMarker port bytes) else .fault .noSuchUnit

/-- `WAVELENGTH_HEALTH_WINDOW` (R520). -/
def execWavelengthHealthWindow (t port : Nat) (readings : List WaveReading) (s : State) : Host.Outcome State Fault Refusal :=
  if port < 64 ∧ readings.all (fun r => r.wave < 9) then .next ((s.at t).each readings (fun s r => s.waveReading port r))
  else .fault .noSuchUnit

/-- `LASER_MONITOR_FAULT` (R522). -/
def execLaserMonitorFault (t port wave : Nat) (s : State) : Host.Outcome State Fault Refusal :=
  if port < 64 ∧ wave < 9 then
    let s := s.at t
    .next (match s.link port (s.waveSub port wave) with | some l => s.failWave l wave | none => s)
  else .fault .noSuchUnit

/-- `SPARE_LOCKED` (R521): λ8 takes a lane toward the peer where this end lit it, and the receive lane mask shows it where the
peer's λ8 stands in for a wavelength that this end has lost. -/
def execSpareLocked (t port : Nat) (s : State) : Host.Outcome State Fault Refusal :=
  if port < 64 then
    let s := s.at t
    .next (match s.link port (s.waveSub port 8) with
      | some l =>
        let s := if l.spareLit && !l.spareInUse then s.spareIn l else s
        let full := s.working port l.sub
        if l.isUp && l.rxGood &&& full ≠ full then s.modLink port l.sub (fun x => { x with rxGood := x.rxGood ||| 0x100 }) else s
      | none => s)
  else .fault .noSuchUnit

/-- `LINK_DOWN_HOLD_EXPIRY` (R523). -/
def execLinkDownHoldExpiry (t port sub : Nat) (s : State) : Host.Outcome State Fault Refusal :=
  (s.at t).onLink port sub (fun s l =>
    match l.downSince with
    | some d => if !l.isUp && !l.holdExpired && d + s.cfg.osr.downHoldUs * ticksPerUs ≤ s.now then s.linkDown l else s
    | none => s)

/-- `RX_LIGHT_LOSS` (R506): the port's lasers go dark. -/
def execRxLightLoss (t port : Nat) (s : State) : Host.Outcome State Fault Refusal :=
  if port < 64 then
    .next ((s.at t).each (s.links.filter (fun l => l.port = port && l.lit)) (fun s l =>
      (s.stopLink l .dark).modLink l.port l.sub (fun x => { x with lit := false, spareLit := false })))
  else .fault .noSuchUnit

/-- `RX_LIGHT_RETURN` (R506): the port's lasers light again, and its links train in full. -/
def execRxLightReturn (t port : Nat) (s : State) : Host.Outcome State Fault Refusal :=
  if port < 64 then
    let s := s.at t
    .next (if s.live && s.mayLight port then
      s.each (s.links.filter (fun l => l.port = port && !l.lit)) (fun s l =>
        s.modLink l.port l.sub (fun x => { x with lit := true, state := .training, agreed := false, delays := [] }))
    else s)
  else .fault .noSuchUnit

end Sys2Proof.Machine
end

