-- ==== Sys2Proof/Machine/Journal.lean ====
section
/-! DEFINITION. The journal's own commands (chapter 03): settlement, pending frames, MARKs, retirement and anchors, the
partner's `MIRROR` frames, hand-over of request state, failover and the end of a partner resync. -/

namespace Sys2Proof.Machine

/-! ## Hand-over (R105 to R108) -/

/-- The form of a state handle (R105): its kind and reserved byte. -/
def handleOk (b : Bytes) : Bool := 1 ≤ beAt b 2 1 && beAt b 2 1 ≤ 3 && beAt b 3 1 == 0

/-- `OFFER` past check 14: the handle is recorded at the taker (R77, R106). -/
def State.runOffer (s : State) (id : Nat) : State :=
  match s.req id with
  | none => s
  | some r =>
    let b := r.payload
    let i := BitVec.ofNat 32 (beAt b 4 4)
    if !handleOk b then s.refuse id .format
    else
      let h : HandOver := { kind := beAt b 2 1, index := i, generation := beAt b 8 8, taker := none }
      let s := s.modJrn (fun j => { j with handOvers := j.handOvers.filter (fun x => !(x.taker.isNone && x.index == i && x.kind == h.kind)) ++ [h] })
      ((s.modReq id (fun r => { r with aux := i })).journal id .offered).finish id .ok [] 1

/-- `TAKE` past check 14: the owner checks the handle and records the hand-over (R106 to R108). -/
def State.runTake (s : State) (id : Nat) : State :=
  match s.req id with
  | none => s
  | some r =>
    let b := r.payload
    let i := BitVec.ofNat 32 (beAt b 4 4)
    if !handleOk b then s.refuse id .format
    else match s.jrn.handOvers.find? (fun x => x.taker.isSome && x.index == i && x.kind == beAt b 2 1) with
      | none => s.refuse id .denied
      | some x =>
        if x.generation ≠ beAt b 8 8 then s.refuse id .denied
        else if x.orphan then s.refuse id .orphanHold
        else if x.taker ≠ some r.hdr.src || beAt b 0 2 ≠ s.tabs.node.toNat then s.refuse id .denied
        else ((s.modReq id (fun r => { r with aux := i })).journal id .handed).finish id .ok [] 1

/-- `OFFER` or `TAKE` at the die that homes its stream record. -/
def State.opHand (run : State → Nat → State) (s : State) (d : Delivered) : State :=
  let w := recordDie d.hdr.stream
  match s.present d { die := w, writer := w, off := 0, len := 0, right := none } with
  | .done s => s
  | .go s id => run s id
  | .dup s e _ => s.answerDup d e e.status [] 1

/-- HANDED has not settled in time: the owner keeps the state (R108). -/
def State.orphanHold (s : State) (i : BitVec 32) : State :=
  match s.jrn.handOvers.find? (fun x => x.taker.isSome && x.index == i && !x.orphan) with
  | none => s
  | some x =>
    match x.ackAt with
    | none => s
    | some t =>
      if s.now < t + s.deadlineTicks 2 then s
      else
        let s := s.modJrn (fun j =>
          let l := mapIf (fun (y : HandOver) => y == x) (fun (y : HandOver) => { y with orphan := true }) j.handOvers
          { j with handOvers := l })
        let ids := (s.jrn.reqs.filter (fun r => r.hdr.opcode == 0x41 && r.aux == i && !r.refused)).map (·.id)
        (s.each ids (fun s id => s.refuse id .orphanHold)).event 0x0308 toBoth none none (.resource 16 i.toNat [x.generation, x.kind])

/-! ## The partner's `MIRROR` (R97, R131, R487, R605) -/

/-- Check 8 for a `MIRROR` (R111, R572, R605). -/
def State.mirrorFenced (s : State) : Bool :=
  s.hoop.resetting || s.hoop.standbyDrain || s.jrn.failover || (s.jrn.solo && s.tabs.role == 1 && s.hlt.resync != 2) ||
  (match s.hlt.fence with
   | 0 | 2 => false
   | _ => !(s.hlt.resync == 1 || s.hlt.rejoined))

/-- A record follows an entry that settles later work of its stream (R97 step 3). -/
def StreamRec.follow (r : StreamRec) (e : JEntry) : StreamRec :=
  let d := (e.seq - r.hwm).toNat
  if 1 ≤ d ∧ d < 2 ^ 31 then { r with hwm := e.seq, next := e.seq + 1, solo := r.solo || e.solo, lastIndex := BitVec.ofNat 32 e.index } else r

/-- The stream record of an entry is updated: in this device's table for a pair stream, in the shadow table otherwise. -/
def State.followEntry (s : State) (e : JEntry) : State :=
  if isPair e.stream then s.modStream e.src e.stream (·.follow e)
  else
    let old := (s.jrn.shadowStreams.find? (fun r => r.src = e.src ∧ r.stream = e.stream)).getD { src := e.src, stream := e.stream }
    s.modJrn (fun j => { j with shadowStreams := putStream (old.follow e) j.shadowStreams })

/-- The partner's entry is written to the shadow ring (R97). -/
def State.takeEntry (s : State) (e : JEntry) : State :=
  let old := (s.writer e.writer).shadow.find? (fun x => x.index = e.index)
  let e := match old with | some x => if x.bytes = e.bytes then x else e | none => e
  let s := s.modWriter e.writer (fun w => { w with shadow := ringWrite e w.shadow, shadowMark := laterMark w.shadowMark e.covers })
  if e.state = .mark then s
  else
    let s := s.followEntry e
    -- the secondary makes a published version current for its own copy (R487)
    match (if e.opcode = 0x04 && e.state = .applied then s.tabs.published.find? (fun p => p.view = e.offset.toNat) else none) with
    | some v => if v.current < e.result.toNat then
        ((s.makeCurrent v e.result.toNat).modPublished v.id (fun p => { p with waiting := false })).wake else s
    | none => s

/-- `MIRROR` at the partner's management position. -/
def State.opMirror (s : State) (d : Delivered) : State :=
  let h := d.hdr
  if s.mirrorFenced then s.turnAway d .fenced
  else if d.pcheck ≠ crc32c d.payload then s.turnAway d .checkFail
  else if !s.epochOk h then s.turnAway d .staleEpoch
  else if !(s.tabs.paired && h.src == s.tabs.partner && (h.stream == 0x7E || h.stream == 0x7F)) then s.turnAway d .denied
  else if !entryCheckOk d.payload then s.turnAway d .checkFail
  else match JEntry.ofBytes d.payload s.now with
    | none => s.turnAway d .checkFail
    | some e => (s.contactPartner.takeEntry e).sendResponse d.pos h d.arrive d.part true .ok true 1 [] false

/-! ## Settlement and frames that waited (R82, R83, R86, R102) -/

/-- The meaning of a request frame of this device, by its opcode. -/
def State.opFrame (dmg : Damage) (s : State) (d : Delivered) : State :=
  match d.hdr.opcode.toNat with
  | 0x01 => s.opLoad dmg d
  | 0x02 => s.opStore dmg d
  | 0x03 => s.opFlush d
  | 0x04 => s.opPublish d
  | 0x20 => s.opReduce d
  | 0x21 => s.opMcast d
  | 0x30 =>
    let c := dCode d.payload
    if c = 0xC0 then s.opCollective (fun s id c g => (s.runSetup id c g).setupGo id) d
    else if c = 0xC1 then s.opCollective (fun s id _ _ => s.runRelease id) d
    else if knownOperator c then s.opOffload d else s.opUnknown d
  | 0x40 => s.opHand State.runOffer d
  | 0x41 => s.opHand State.runTake d
  | 0x90 => s.opMirror d
  | op => if isAtomic op then s.opAtomic dmg d else s

/-- The held frame of a stream. -/
def State.heldFrame (s : State) (n : Node) (t : Stream) (q : Seq) : Option HeldFrame :=
  s.jrn.held.find? (fun x => x.frame.hdr.src = n ∧ x.frame.hdr.stream = t ∧ x.frame.hdr.seq = q)

/-- A held frame as it was delivered. -/
def State.deliver (s : State) (x : HeldFrame) : Delivered :=
  { hdr := x.frame.hdr, payload := x.frame.payload, pcheck := x.frame.pcheck, port := x.port, sub := x.sub,
    pos := s.steer x.frame.hdr x.part, part := x.part, arrive := x.arrive }

/-- Forget a held frame. -/
def State.dropHeld (s : State) (x : HeldFrame) : State := s.modJrn (fun j => { j with held := j.held.erase x })

/-- A held frame whose sequence is next is classified again (R86). -/
def State.releaseHeld (s : State) (n : Node) (t : Stream) (dmg : Damage) : State :=
  match s.heldFrame n t (s.stream n t).next with
  | some x => (s.dropHeld x).opFrame dmg (s.deliver x)
  | none => s

/-- A held frame that reaches its effective deadline is refused (R102). -/
def State.heldLate (s : State) (n : Node) (t : Stream) (q : Seq) : State :=
  match s.heldFrame n t q with
  | some x => if s.late x.frame.hdr x.arrive then (s.dropHeld x).turnAway (s.deliver x) .throttled else s
  | none => s

/-! ## MARKs, retirement, anchors (R92, R94, R98, R604) -/

/-- Some entry other than a MARK has been applied since the last MARK. -/
def markDue (w : Writer) : Bool :=
  match appliedUpTo w with
  | none => false
  | some a => w.ring.any (fun e => e.state != .mark && e.index ≤ a && (match w.lastMark with | some m => m < e.index | none => true))

/-- A writer whose applied index has advanced mirrors a MARK, 2 µs after its last (R98). -/
def State.markInterval (s : State) (w : Nat) : State :=
  let x := s.writer w
  if markDue x && x.lastMarkAt + 2 * ticksPerUs ≤ s.now then s.mark w (appliedUpTo x) else s

/-- A writer that has sent no `MIRROR` for `HLT_FENCE_MS` / 8 repeats its last covered index (R604). -/
def State.idleMark (s : State) (w : Nat) : State :=
  if s.mirrors && (s.writer w).lastMirrorAt + s.cfg.hoop.fenceMs * ticksPerMs / 8 ≤ s.now then s.mark w (s.writer w).lastMark else s

/-- The retention of an entry's class (R92). -/
def State.retention (s : State) (tc : Nat) : Tick := cdiv (s.ageLimit tc * unitTicks tc * 10004) 10000 + 10 * ticksPerUs

/-- The entry is covered by a MARK, and its retention has passed. -/
def State.retires (s : State) (mark : Option Nat) (e : JEntry) : Bool :=
  (match mark with | some m => e.index ≤ m | none => false) && e.at_ + s.retention e.tc.toNat ≤ s.now

/-- An entry is retired (R92). -/
def State.retire (s : State) (w i : Nat) (shadow : Bool) : State :=
  s.modWriter w (fun x =>
    if shadow then { x with shadow := x.shadow.filter (fun e => !(e.index = i && s.retires x.shadowMark e)) }
    else { x with ring := x.ring.filter (fun e => !(e.index = i && s.retires x.lastMark e)) })

/-- A writer's anchor is brought up to date (R94). -/
def State.updateAnchor (s : State) (w : Nat) : State :=
  s.modWriter w (fun x => { x with anchor := { x.anchor with
    head := x.head, mark := x.lastMark, partner := s.tabs.partner, compEpoch := s.tabs.compEpoch
    state := if x.anchor.state = .stale then .stale else .running } })

/-- The grace of the previous map epoch has run for every class (R67). -/
def State.graceOver (s : State) : State :=
  match s.tabs.grace with
  | some g =>
    if (List.range 8).all (fun tc => g + s.deadlineTicks tc ≤ s.now) then s.modTabs (fun t => { t with grace := none }) else s
  | none => s

/-! ## Failover and restart (R109 to R114, R577) -/

/-- A later entry of the same sequence supersedes an entry (R296, R364). -/
def superseded (l : List JEntry) (e : JEntry) : Bool :=
  l.any (fun x => e.index < x.index && x.src == e.src && x.stream == e.stream && x.seq == e.seq)

/-- A RECORDED `ATOMIC` of a tail is completed: its new value is written to the target (R111 step 3, R657). `w` is the writer
number that its tray write completes. -/
def State.completeEntry (s : State) (w : Nat) (e : JEntry) : State :=
  let o := e.offset.toNat
  let v := e.result.toNat / 2 ^ 32
  let line := o / 128 * 128
  if inFar o 4 then
    match s.extentAt o with
    | none => s
    | some x =>
      match (if x.mode = 2 then s.cachedPlain x line 128 else none) with
      | some plain =>
        let cipher := s.encryptUnits x line (plain.take (o - line) ++ natLe 4 v ++ plain.drop (o - line + 4))
        (s.updateSector x line cipher).sendTray (.landing line w e.index) x 2 5 line 128 cipher x.part 0 0 0
      | none => s.sendTray (.landing line w e.index) x 1 4 line 128 [] x.part 0 0 0
  else (s.nearWrite o (natLe 4 v)).ringDoorbells o 4

/-- Complete every RECORDED `ATOMIC` of a writer's tail that nothing supersedes, in index order: a restart tail's entries stand in
the own ring (`base` 0), an in-doubt tail's in the shadow ring (`base` 2). -/
def State.completeTail (s : State) (base w : Nat) : State :=
  let l := (s.writer w).tail
  s.each (l.filter (fun e => e.state == .recorded && isAtomic e.opcode.toNat && !superseded l e)) (fun s e => s.completeEntry (base + w) e)

/-- Failover begins (R110, R111 steps 1 to 3): the tails are fixed and completed. -/
def State.failoverBegin (s : State) : State :=
  let s := s.event 0x0309 toBoth none none (.resource 14 0 [s.tabs.partner.toNat])
  let s := s.modJrn (fun j =>
    let ws := j.writers.map (fun (w : Writer) =>
      let tail := w.shadow.filter (fun e => e.state != .mark && (match w.shadowMark with | some m => m < e.index | none => true))
      { w with tail := tail })
    { j with failover := true, writers := ws })
  (s.completeTail 2 0).completeTail 2 1

/-- The pair streams open (R111 step 4): every write of the tails is acknowledged or being sent again. -/
def State.openStreams (s : State) : State :=
  let ready := s.jrn.outs.all (fun o => match o.owner with | .landing _ w _ => w < 2 || 1 < o.attempts || o.resendAt.isSome | _ => true)
  if !s.jrn.failover || !ready then s
  else
    let s := s.modJrn (fun j => { j with failover := false })
    let s := if s.jrn.solo then s else s.enterSolo
    let s := s.event 0x030A toBoth none none (.resource 14 0 [s.tabs.partner.toNat])
    s.custody

/-! ## Partner resync (R585) -/

/-- The restarting device opens a new generation with empty tables and rings (R585 step 3). -/
def State.resyncReceive (s : State) : State :=
  let s := s.event 0x1403 toBoth none none (.resource 14 0 [s.tabs.partner.toNat])
  let s := s.modHlt (fun h => { h with resync := 1, resyncDone := false, rejoined := false, resyncTodo := [] })
  let ps := s.parts.map (fun (p : Partition) => { p with keyPresent := false })
  let s := { s with parts := ps }
  s.modJrn (fun j =>
    let ws := j.writers.map (fun (w : Writer) =>
      { w with head := 0, ring := [], shadow := [], shadowMark := none, lastMark := none, journal := RimJournal.resync, tail := [],
               anchor := { w.anchor with generation := w.anchor.generation + 1, head := 0, mark := none, state := .stale } })
    { j with writers := ws, streams := [], shadowStreams := [] })

/-- The serving device begins to copy (R585 steps 4 to 6). -/
def State.resyncSend (s : State) : State :=
  let s := s.event 0x1403 toBoth none none (.resource 14 0 [s.tabs.partner.toNat])
  (s.modHlt (fun h => { h with resync := 2, resyncTodo := s.resyncItems })).resyncGo

/-- The copies have ended (R585 steps 7 and 8). -/
def State.resyncEnd (s : State) : State :=
  let done := fun (s : State) => s.event 0x1404 toBoth none none (.resource 14 0 [s.tabs.partner.toNat])
  match s.hlt.resync with
  | 1 =>
    let s := s.modJrn (fun j =>
      let ws := j.writers.map (fun (w : Writer) =>
        let head := match w.ring.getLast? with | some e => e.index + 1 | none => 0
        { w with head := head, journal := RimJournal.ready, anchor := { w.anchor with head := head, mark := w.lastMark, state := .running } })
      { j with writers := ws })
    let ps := s.parts.map (fun (p : Partition) => if p.keyPresent then p else { p with key := none })
    done ({ s with parts := ps }.modHlt (fun h => { h with resync := 0, resyncDone := true, rejoined := true, partnerLost := none, contactP := some s.now }))
  | 2 =>
    let busy := s.jrn.outs.any (fun o => match o.owner with | .resync => true | _ => false)
    if busy || !s.hlt.resyncTodo.isEmpty then s
    else
      let s := s.modHlt (fun h => { h with resync := 0, resyncDone := true, rejoined := true, partnerLost := none, contactP := some s.now })
      let s := s.modJrn (fun j => { j with solo := false, soloHold := none })
      done (s.event 0x0307 toBoth none none (.resource 14 0 [s.tabs.partner.toNat]))
  | _ => s

/-! ## The meanings -/

/-- `OFFER` (R106). -/
def execOffer (t : Nat) (a : Arrival) (f : Frame) (s : State) : Host.Outcome State Fault Refusal :=
  if f.hdr.opcode = 0x40 then .next ((s.at t).frame a f (State.opHand State.runOffer)) else .fault .notThisCommand

/-- `TAKE` (R107). -/
def execTake (t : Nat) (a : Arrival) (f : Frame) (s : State) : Host.Outcome State Fault Refusal :=
  if f.hdr.opcode = 0x41 then .next ((s.at t).frame a f (State.opHand State.runTake)) else .fault .notThisCommand

/-- `ORPHAN_HOLD_EXPIRY` (R108). -/
def execOrphanHoldExpiry (t : Nat) (i : BitVec 32) (s : State) : Host.Outcome State Fault Refusal := .next ((s.at t).orphanHold i)

/-- `MIRROR` (R97). -/
def execMirror (t : Nat) (a : Arrival) (f : Frame) (s : State) : Host.Outcome State Fault Refusal :=
  if f.hdr.opcode = 0x90 then .next ((s.at t).frame a f State.opMirror) else .fault .notThisCommand

/-- `NODE_RETIRE_COMPLETE` (R602). -/
def execNodeRetireComplete (t : Nat) (n : BitVec 16) (s : State) : Host.Outcome State Fault Refusal := .next ((s.at t).retireDone n)

/-- `PENDING_FRAME_RELEASE` (R86). -/
def execPendingFrameRelease (t : Nat) (n : BitVec 16) (st : BitVec 8) (d : Damage) (s : State) : Host.Outcome State Fault Refusal :=
  .next ((s.at t).releaseHeld n st d)

/-- `PENDING_FRAME_DEADLINE` (R102). -/
def execPendingFrameDeadline (t : Nat) (n : BitVec 16) (st : BitVec 8) (q : BitVec 32) (s : State) : Host.Outcome State Fault Refusal :=
  .next ((s.at t).heldLate n st q)

/-- `MIRROR_TIMEOUT` (R99). -/
def execMirrorTimeout (t w i : Nat) (s : State) : Host.Outcome State Fault Refusal :=
  if w < 2 then
    let s := s.at t
    .next (match s.jrn.outs.find? (fun o => o.owner == .mirror w i) with | some o => s.unanswered o | none => s)
  else .fault .noSuchUnit

/-- `MARK_INTERVAL` (R98). -/
def execMarkInterval (t w : Nat) (s : State) : Host.Outcome State Fault Refusal :=
  if w < 2 then .next ((s.at t).markInterval w) else .fault .noSuchUnit

/-- `IDLE_MARK_INTERVAL` (R604). -/
def execIdleMarkInterval (t w : Nat) (s : State) : Host.Outcome State Fault Refusal :=
  if w < 2 then .next ((s.at t).idleMark w) else .fault .noSuchUnit

/-- `ENTRY_RETIRE` (R92). -/
def execEntryRetire (t w i : Nat) (shadow : Bool) (s : State) : Host.Outcome State Fault Refusal :=
  if w < 2 then .next ((s.at t).retire w i shadow) else .fault .noSuchUnit

/-- `ANCHOR_UPDATE` (R94). -/
def execAnchorUpdate (t w : Nat) (s : State) : Host.Outcome State Fault Refusal :=
  if w < 2 then .next ((s.at t).updateAnchor w) else .fault .noSuchUnit

/-- `MAP_EPOCH_GRACE_EXPIRY` (R67). -/
def execMapEpochGraceExpiry (t : Nat) (s : State) : Host.Outcome State Fault Refusal := .next (s.at t).graceOver

/-- `FAILOVER_STREAMS_OPEN` (R111). -/
def execFailoverStreamsOpen (t : Nat) (s : State) : Host.Outcome State Fault Refusal := .next (s.at t).openStreams

/-- `RESYNC_STORE` (R584). -/
def execResyncStore (t : Nat) (a : Arrival) (f : Frame) (s : State) : Host.Outcome State Fault Refusal :=
  if f.hdr.opcode = 0x02 ∧ f.hdr.stream = 0x7B then .next ((s.at t).frame a f (State.opStore .none)) else .fault .notThisCommand

/-- `RESYNC_COPY_DONE` (R585). -/
def execResyncCopyDone (t : Nat) (s : State) : Host.Outcome State Fault Refusal := .next (s.at t).resyncEnd

end Sys2Proof.Machine
end

