-- ==== Sys2Proof/Machine/Tables.lean ====
section
/-! DEFINITION. The tables that composition records install and remove: the item kinds 0x0001 to 0x000F of R542. Each kind has
its layout (`parse…`), the checks of its chapter against the tables as they stand (`check…`), and its effect. -/

namespace Sys2Proof.Machine

/-- A field of an item's body is well formed, or the item is refused with `FORMAT`. -/
def formed {α : Type} (ok : Bool) (x : α) : Except Status α := if ok then .ok x else .error .format

/-- A reserved byte range of a body is zero. -/
def isZero (b : Bytes) (off n : Nat) : Bool := leAt b off n == 0

/-- An item that its table has no room for is refused (R656). -/
def room (c : Bool) : Option Status := if c then none else some .quota

/-- An item over memory that is being scrubbed is refused (R462). -/
def State.clean (s : State) (o n : Nat) : Option Status := if s.scrubbing o n then some .denied else none

/-- No two ranges of a list overlap. -/
def disjoint : List (Nat × Nat) → Bool
  | [] => true
  | x :: xs => xs.all (fun y => !overlaps x.1 x.2 y.1 y.2) && disjoint xs

/-- Install an entry: its form, then its checks, then its effect. -/
def State.install {α : Type} (s : State) (x : Except Status α) (check : α → Option Status) (effect : State → α → State) :
    Except Status State :=
  match x with
  | .error e => .error e
  | .ok v => match check v with
    | some st => .error st
    | none => .ok (effect s v)

/-- Remove an entry: `find` gives the installed entry that it matches, and without one the item is refused (R542). -/
def State.uninstall {α : Type} (s : State) (x : Except Status α) (find : α → Option α) (effect : State → α → State) :
    Except Status State :=
  match x with
  | .error _ => .error .format
  | .ok v => match find v with
    | some e => .ok (effect s e)
    | none => .error .format

/-! ## Contexts (R65, R115, R116, R142) -/

/-- A host window of a context item. -/
def windowOf (b : Bytes) (i : Nat) : Window :=
  { hostBase := leAt b (8 + 20 * i) 6, hostLimit := leAt b (14 + 20 * i) 6, globalBase := leAt b (20 + 20 * i) 8 }

/-- The layout of a context item (R542). -/
def parseContext (b : Bytes) : Except Status Context :=
  let n := leAt b 5 1
  formed (8 ≤ b.length && n ≤ 16 && b.length == 8 + 20 * n && leAt b 4 1 < 32 && isZero b 6 2)
    { node := BitVec.ofNat 16 (leAt b 0 2), cid := BitVec.ofNat 16 (leAt b 2 2), part := leAt b 4 1 % 16
      isLocal := (leAt b 4 1).testBit 4, windows := (List.range n).map (windowOf b) }

/-- A window's limit is not below its base, and its global range stays within its node (R65). -/
def Window.ok (w : Window) : Bool := w.hostBase ≤ w.hostLimit && w.globalBase % 2 ^ 48 + (w.hostLimit - w.hostBase) < 2 ^ 48

/-- The checks of a context (R65, R116). -/
def State.checkContext (s : State) (x : Context) : Option Status :=
  firstOf [need (x.windows.all Window.ok && disjoint (x.windows.map (fun w => (w.hostBase, w.hostLimit + 1 - w.hostBase)))),
    need ((s.context x.node x.cid).all (fun y => y.part == x.part)),
    room ((s.context x.node x.cid).isSome || s.tabs.contexts.length < 4096)]

/-- A context is installed, in the place of its master's slot if it has one. -/
def State.addContext (s : State) (x : Context) : State :=
  s.modTabs (fun t => { t with
    contexts := if t.contexts.any (fun y => y.node = x.node ∧ y.cid = x.cid) then
      mapIf (fun y => y.node = x.node ∧ y.cid = x.cid) (fun _ => x) t.contexts else t.contexts ++ [x] })

/-- Lines of an extent that clusters of a local master's partition hold are invalidated (R413). -/
def State.dropLines (s : State) (e : AccessEntry) : State :=
  match s.context e.node e.cid with
  | some x =>
    if x.isLocal && x.node == s.tabs.node then
      let ls := (s.mem.filter.filter (fun f => overlaps f.1 128 e.base e.length && (s.cluster f.2.1).part == x.part)).map (·.1)
      s.each ls.eraseDups State.snoopForWrite
    else s
  | none => s

/-- Entries enter the state revoking (R139): by a grant of a revocation record, or with their context. -/
def State.revoke (s : State) (mine : AccessEntry → Bool) (byGrant : Bool) : State :=
  let es := s.tabs.access.filter (fun e => mine e && !e.revoking)
  let s := s.modTabs (fun t =>
    let l := mapIf (fun (e : AccessEntry) => mine e && !e.revoking)
      (fun (e : AccessEntry) => { e with revoking := true, byGrant := byGrant, drained := 0 }) t.access
    { t with access := l })
  (s.each es State.dropLines).reap

/-- A context is removed (R142): every entry of its master is revoked, and the slot is freed when they are. -/
def State.removeContext (s : State) (x : Context) : State :=
  let s := s.modTabs (fun t =>
    let l := mapIf (fun (y : Context) => y.node = x.node ∧ y.cid = x.cid) (fun (y : Context) => { y with removing := true }) t.contexts
    { t with contexts := l })
  s.revoke (fun e => e.node = x.node && e.cid = x.cid) false

/-! ## Runs (R119 to R124, R141) -/

/-- The layout of a run (R121). -/
def parseRun (b : Bytes) : Except Status Run :=
  let v := leNat b
  formed (b.length == 16 && bits v 99 29 == 0)
    { virtBase := bits v 0 36 * 65536, globalBase := bits v 36 48 * 65536, size := bits v 84 2, count := bits v 86 7,
      part := bits v 93 4, rd := v.testBit 97, wr := v.testBit 98 }

/-- Runs that a partition holds. -/
def State.runsOf (s : State) (p : Nat) : List Run := s.tabs.runs.filter (fun r => !r.removing && r.part == p)

/-- The checks of a run (R122, R124). -/
def State.checkRun (s : State) (r : Run) : Option Status :=
  let pg := pageSize r.size
  firstOf [need (0 < pg && 1 ≤ r.count && r.count ≤ 64),
    need (r.virtBase % pg == 0 && r.globalBase % 2 ^ 48 % pg == 0),
    need (r.virtBase + r.len ≤ 2 ^ 52 && r.globalBase % 2 ^ 48 + r.len ≤ 2 ^ 48),
    need ((s.runsOf r.part).all (fun x => !overlaps r.virtBase r.len x.virtBase x.len)),
    need (r.rd || r.wr),
    room ((s.runsOf r.part).length < nth s.cfg.unit.runShare r.part && (s.tabs.runs.filter (fun x => !x.removing)).length < 65536)]

/-- A run is installed. -/
def State.addRun (s : State) (r : Run) : State := s.modTabs (fun t => { t with runs := t.runs ++ [r] })

/-- A run leaves the translation stores and the TLBs of its partition's clusters (R141 steps 1 and 2). -/
def State.removeRun (s : State) (r : Run) : State :=
  let s := s.modTabs (fun t =>
    let l := mapIf (fun (x : Run) => x == r) (fun (x : Run) => { x with removing := true }) t.runs
    { t with runs := l })
  s.each ((List.range 32).filter (fun c => (s.cluster c).assigned && (s.cluster c).part == r.part)) (fun s c =>
    s.modCluster c (fun x => { x with tlb := x.tlb.filter (· ≠ r.virtBase) }))

/-- The global address that a frame of the device reaches. -/
def State.outGlobal (s : State) (o : OutFrame) : Nat :=
  match s.trayRange o with
  | some (a, _) => s.tabs.node.toNat * 2 ^ 48 + a
  | none => o.global

/-- A removed run has no access in flight (R141 step 3): the removal is acknowledged. -/
def State.unmapped (s : State) (p virt : Nat) : State :=
  match s.tabs.runs.find? (fun r => r.removing && r.part = p && r.virtBase = virt) with
  | none => s
  | some r =>
    if s.jrn.outs.any (fun o => s.partOfOut o == p && r.globalBase ≤ s.outGlobal o && s.outGlobal o < r.globalBase + r.len) then s
    else
      let s := s.modTabs (fun t => { t with runs := t.runs.erase r })
      let s := s.event 0x0404 toFabric (some p) (some p) (.resource 5 p [r.virtBase, r.globalBase, r.len])
      s.unwait (.run p virt)

/-! ## Access entries (R130, R135, R383) -/

/-- The layout of an access entry (R130); what its state field must read depends on the operation. -/
def parseAccess (b : Bytes) (state : Option Nat) : Except Status AccessEntry :=
  formed (b.length == 32 && isZero b 6 2 && isZero b 14 2 && isZero b 22 2 && leAt b 5 1 < 32 &&
      (match state with | some st => leAt b 4 1 / 64 == st | none => true))
    { node := BitVec.ofNat 16 (leAt b 0 2), cid := BitVec.ofNat 16 (leAt b 2 2), part := leAt b 4 1 % 16, tier := bits (leAt b 4 1) 4 2
      rights := leAt b 5 1, base := leAt b 8 6, length := leAt b 16 6, grant := leAt b 28 4 }

/-- The extent lies in the region of its tier, and against the mirrored ranges as R383 asks. -/
def State.tierOk (s : State) (e : AccessEntry) : Bool :=
  match e.tier with
  | 1 => s.rangeAddressable e.base e.length && s.tabs.mirrored.all (fun m => !overlaps e.base e.length m.base m.length)
  | 2 => s.rangeAddressable e.base e.length && s.tabs.mirrored.any (fun m => within e.base e.length m.base m.length)
  | 3 => inFar e.base e.length
  | _ => false

/-- The checks of an access entry (R130, R135, R383, R462). An empty grant needs no region. -/
def State.checkAccess (s : State) (e : AccessEntry) : Option Status :=
  let own := s.tabs.access.filter (fun x => x.node = e.node ∧ x.cid = e.cid)
  if e.length = 0 then need (e.tier ≠ 0 && (s.context e.node e.cid).any (fun c => !c.removing))
  else firstOf [need (s.tierOk e), need (own.all (fun x => !overlaps e.base e.length x.base x.length)),
    need ((s.context e.node e.cid).any (fun c => !c.removing)), s.clean e.base e.length,
    room (own.length < 256 && s.tabs.access.length < 65536)]

/-- An access entry is installed; an empty grant installs nothing. -/
def State.addAccess (s : State) (e : AccessEntry) : State :=
  if e.length = 0 then s else s.modTabs (fun t => { t with access := t.access ++ [e] })

/-- An access entry is removed. -/
def State.removeAccess (s : State) (e : AccessEntry) : State :=
  let s := (s.dropLines e).modTabs (fun t => { t with access := t.access.erase e })
  let s := if e.revoking && e.byGrant then
      s.event 0x1001 toFabric (some e.part) (some e.part) (.resource 1 e.grant [e.node.toNat * 65536 + e.cid.toNat, e.drained, 0])
    else s
  s.reap

/-- The installed entry that an access item names: every field but the accepted count and the state. -/
def State.findAccess (s : State) (e : AccessEntry) : Option AccessEntry :=
  s.tabs.access.find? (fun x => x.node = e.node ∧ x.cid = e.cid ∧ x.part = e.part ∧ x.tier = e.tier ∧ x.rights = e.rights ∧
    x.base = e.base ∧ x.length = e.length ∧ x.grant = e.grant)

/-! ## Subscribers and services (R180 to R182, R189 to R191) -/

/-- The layout of a subscriber (R180). -/
def parseSubscriber (b : Bytes) : Except Status Subscriber :=
  formed (b.length == 8 && leAt b 6 2 < 2048)
    { num := leAt b 0 2 % 4096, part := leAt b 0 2 / 4096, node := BitVec.ofNat 16 (leAt b 2 2), cid := BitVec.ofNat 16 (leAt b 4 2)
      quantum := leAt b 6 2 }

/-- A quantum lies in its range. -/
def quantumOk (q : Nat) : Bool := 1 ≤ q && q ≤ 1024

/-- The checks of a subscriber (R180). -/
def State.checkSubscriber (s : State) (x : Subscriber) : Option Status :=
  firstOf [need (quantumOk x.quantum),
    need (x.num < 16 || s.tabs.subs.all (fun y => y.num < 16 || y.leaving || y.num == x.num || y.node != x.node || y.cid != x.cid)),
    need (16 ≤ x.num || x.part == x.num)]

/-- A subscriber is installed, in the place of its number's entry. -/
def State.addSubscriber (s : State) (x : Subscriber) : State :=
  s.modTabs (fun t => { t with subs := t.subs.filter (fun y => y.num ≠ x.num) ++ [x] })

/-- A subscriber is removed: a default subscriber goes on without its entry, another leaves with its services (R182). -/
def State.removeSubscriber (s : State) (x : Subscriber) : State :=
  if x.num < 16 then s.modTabs (fun t => { t with subs := t.subs.erase x })
  else
    let s := s.modTabs (fun t =>
      let a := mapIf (fun (y : Subscriber) => y.num = x.num) (fun (y : Subscriber) => { y with leaving := true }) t.subs
      let b := mapIf (fun (y : Service) => y.sub = x.num) (fun (y : Service) => { y with leaving := true }) t.services
      { t with subs := a, services := b })
    s.freeLeaving

/-- The layout of a service (R181). -/
def parseService (b : Bytes) : Except Status Service :=
  formed (b.length == 16 && leAt b 2 1 < 4 && leAt b 4 2 < 2048 && leAt b 6 3 < 2 ^ 19 && leAt b 9 3 < 2 ^ 19 && isZero b 14 2)
    { sub := leAt b 0 2 % 4096, svc := leAt b 0 2 / 4096, shaping := leAt b 2 1, classMap := leAt b 3 1, quantum := leAt b 4 2
      rateMin := leAt b 6 3, rateMax := leAt b 9 3, burst := leAt b 12 2, rate := leAt b 9 3, bucket := false, asked := leAt b 2 1 == 1 }

/-- A rate lies in its range. -/
def rateOk (r : Nat) : Bool := 1 ≤ r && r ≤ 320000

/-- The checks of a service (R181). -/
def State.checkService (s : State) (x : Service) : Option Status :=
  firstOf [need (x.shaping ≠ 3), need (x.classMap % 4 == 0), need (quantumOk x.quantum),
    need (x.shaping == 0 || (rateOk x.rateMin && rateOk x.rateMax && x.rateMin ≤ x.rateMax && 1 ≤ x.burst)),
    need (x.shaping ≠ 2 || 7 ≤ x.rateMin),
    need (s.tabs.services.all (fun y => y.sub ≠ x.sub || y.svc == x.svc || y.leaving || (y.classMap &&& x.classMap) == 0))]

/-- A service is installed, in the place of its entry: on a bucket, on the wheel, or on the wheel for want of a bucket (R189). -/
def State.addService (s : State) (x : Service) : State :=
  let p := s.subPart x.sub
  let s := s.modTabs (fun t => { t with services := t.services.filter (fun y => !(y.sub = x.sub && y.svc = x.svc)) })
  let put := fun (s : State) (x : Service) => s.modTabs (fun t => { t with services := t.services ++ [s.restart x] })
  if x.shaping ≠ 1 then (put s x).moveToBucket p
  else if s.bucketFree p then put s { x with bucket := true }
  else
    (put s { x with shaping := 2, rate := max 7 x.rate }).event 0x0601 toFabric (some p) (some p) (.resource 0 (x.sub + 4096 * x.svc) [])

/-- The installed service that a service item names. -/
def State.findService (s : State) (x : Service) : Option Service :=
  s.tabs.services.find? (fun y => y.sub = x.sub ∧ y.svc = x.svc ∧ !y.leaving ∧ (if y.asked then 1 else y.shaping) = x.shaping ∧
    y.classMap = x.classMap ∧ y.quantum = x.quantum ∧ y.rateMin = x.rateMin ∧ y.rateMax = x.rateMax ∧ y.burst = x.burst)

/-- A service is removed: it stays until its last stamped frame has left (R182). -/
def State.removeService (s : State) (x : Service) : State :=
  (s.modService x.sub x.svc (fun y => { y with leaving := true })).freeLeaving

/-! ## Groups (R300) -/

/-- A member of a group item; none where its form is bad. -/
def memberOf (b : Bytes) (m : Nat) : Option Member :=
  let k := leAt b (18 + 16 * m) 1
  let base := leAt b (20 + 16 * m) 6
  if (k = 1 ∨ (k = 2 ∧ base = 0)) ∧ isZero b (19 + 16 * m) 1 ∧ isZero b (26 + 16 * m) 6 then
    some { node := BitVec.ofNat 16 (leAt b (16 + 16 * m) 2), isLocal := k == 1, base := base }
  else none

/-- The layout of a group (R300). -/
def parseGroup (b : Bytes) : Except Status Group :=
  let n := leAt b 2 1
  let ms := (List.range n).filterMap (memberOf b)
  formed (16 ≤ b.length && n ≤ 64 && b.length == 16 + 16 * n && isZero b 3 1 && ms.length == n)
    { id := leAt b 0 2 % 4096, part := leAt b 0 2 / 4096, base := leAt b 4 6, length := leAt b 10 6, members := ms }

/-- The checks of a group (R300). -/
def State.checkGroup (s : State) (g : Group) : Option Status :=
  need (g.members.all (fun m =>
    if m.isLocal then m.node == s.tabs.node && (g.length == 0 || m.base + g.length ≤ nearSize || inFar m.base g.length)
    else m.node != s.tabs.node))

/-- A group is installed, in the place of its id's entry. -/
def State.addGroup (s : State) (g : Group) : State :=
  s.modTabs (fun t => { t with groups := t.groups.filter (fun x => x.id ≠ g.id) ++ [g] })

/-- A group is removed. -/
def State.removeGroup (s : State) (g : Group) : State := s.modTabs (fun t => { t with groups := t.groups.erase g })

/-! ## Sumac ranges (R353, R354) -/

/-- The layout of a Sumac range (R353), its profile among those of R346. -/
def parseSumac (b : Bytes) : Except Status SumacRange :=
  let x : SumacRange := { base := leAt b 0 6, length := leAt b 8 6, part := leAt b 14 1, profile := leAt b 15 1, fmt := leAt b 16 1
                          scale := leAt b 20 4, id := leAt b 24 4 }
  if b.length ≠ 32 || !isZero b 6 2 || 16 ≤ x.part || x.profile = 0 || !isZero b 17 3 || !isZero b 28 4 then .error .format
  else if 5 ≤ x.profile then .error .unsupported
  else .ok x

/-- A positive finite normal FP32 value. -/
def normalPositive (x : Nat) : Bool := x < 2 ^ 31 && 1 ≤ x / 2 ^ 23 && x / 2 ^ 23 < 255

/-- The checks of a Sumac range (R354, R462). -/
def State.checkSumac (s : State) (x : SumacRange) : Option Status :=
  firstOf [need (x.base % 128 == 0 && x.length % (4 * blockSize x.profile) == 0), need (2 ≤ x.fmt && x.fmt ≤ 6), need (normalPositive x.scale),
    if x.length = 0 then none else firstOf [need (s.tabs.sumac.all (fun y => !overlaps x.base x.length y.base y.length)),
      need (s.rangeAddressable x.base x.length || inFar x.base x.length), s.clean x.base x.length, room (s.tabs.sumac.length < 1024)]]

/-- A Sumac range is installed; an empty one installs nothing. -/
def State.addSumac (s : State) (x : SumacRange) : State :=
  if x.length = 0 then s else s.modTabs (fun t => { t with sumac := t.sumac ++ [x] })

/-- A Sumac range is removed: the stored bytes stay as they are. -/
def State.removeSumac (s : State) (x : SumacRange) : State := s.modTabs (fun t => { t with sumac := t.sumac.erase x })

/-! ## Extents (R373, R379) -/

/-- The layout of an extent (R373). -/
def parseExtent (b : Bytes) : Except Status Extent :=
  let f := leAt b 14 1
  formed (b.length == 32 && isZero b 6 2 && f < 128 && leAt b 15 1 < 2 && isZero b 26 2)
    { base := leAt b 0 6, length := leAt b 8 6, part := f % 16, home := bits f 4 1, mode := bits f 5 2, dual := leAt b 15 1 == 1
      tray := leAt b 16 8, cid := BitVec.ofNat 16 (leAt b 24 2), id := leAt b 28 4 }

/-- The checks of an extent (R373). An empty one needs no region (R394). -/
def State.checkExtent (s : State) (e : Extent) : Option Status :=
  firstOf [need (e.base % 4096 == 0 && e.length % 4096 == 0), need (e.mode ≠ 0 && (e.mode ≠ 3 || e.dual)),
    need (e.tray / 2 ^ 48 ≠ s.tabs.node.toNat),
    if e.length = 0 then none else firstOf [need (inFar e.base e.length),
      need (s.tabs.extents.all (fun x => !overlaps e.base e.length x.base x.length)), need (e.tray % 2 ^ 48 + e.length ≤ 2 ^ 48),
      room (s.tabs.extents.length < 4096)]]

/-- An extent is installed; an empty one installs nothing. -/
def State.addExtent (s : State) (e : Extent) : State :=
  if e.length = 0 then s else s.modTabs (fun t => { t with extents := t.extents ++ [e] })

/-- An extent is removed: its cached sectors go, and writes that had to land on it end (R379, R657). -/
def State.removeExtent (s : State) (e : Extent) : State :=
  ((s.extentGone e).dropSectors e).modTabs (fun t => { t with extents := t.extents.erase e })

/-! ## Mirrored near ranges (R383) -/

/-- The layout of a mirrored range (R383). -/
def parseMirrored (b : Bytes) : Except Status MirroredRange :=
  formed (b.length == 32 && isZero b 6 2 && leAt b 14 1 < 64 && isZero b 15 1 && isZero b 22 2 && isZero b 26 2)
    { base := leAt b 0 6, length := leAt b 8 6, part := leAt b 14 1 % 16, role := leAt b 14 1 / 16, partnerBase := leAt b 16 6
      cid := BitVec.ofNat 16 (leAt b 24 2), id := leAt b 28 4 }

/-- The checks of a mirrored range (R383, R462). -/
def State.checkMirrored (s : State) (m : MirroredRange) : Option Status :=
  firstOf [need (m.base % 4096 == 0 && m.length % 4096 == 0), need (m.role == 1 || m.role == 2),
    if m.length = 0 then none else firstOf [need (s.rangeAddressable m.base m.length),
      need (s.tabs.access.all (fun e => e.tier ≠ 1 || !overlaps m.base m.length e.base e.length)),
      need (s.tabs.mirrored.all (fun x => !overlaps m.base m.length x.base x.length)), s.clean m.base m.length,
      room (s.tabs.mirrored.length < 256)]]

/-- A mirrored range is installed; an empty one installs nothing. -/
def State.addMirrored (s : State) (m : MirroredRange) : State :=
  if m.length = 0 then s else s.modTabs (fun t => { t with mirrored := t.mirrored ++ [m] })

/-- A mirrored range in which no tier-2 entry lies. -/
def State.findMirrored (s : State) (m : MirroredRange) : Option MirroredRange :=
  if s.tabs.access.any (fun e => e.tier = 2 && overlaps e.base e.length m.base m.length) then none else s.tabs.mirrored.find? (· == m)

/-- A mirrored range is removed. -/
def State.removeMirrored (s : State) (m : MirroredRange) : State := s.modTabs (fun t => { t with mirrored := t.mirrored.erase m })

/-! ## Prefetch schedules (R386) -/

/-- An entry of a schedule item. -/
def pfEntryOf (b : Bytes) (i : Nat) : PfEntry :=
  let o := 32 + 32 * i
  { source := leAt b o 6, length := leAt b (o + 8) 6, kind := leAt b (o + 14) 1, dest := leAt b (o + 16) 6, need := leAt b (o + 24) 4
    release := leAt b (o + 28) 4 }

/-- The reserved bytes of an entry are zero. -/
def pfEntryReserved (b : Bytes) (i : Nat) : Bool :=
  isZero b (38 + 32 * i) 2 && isZero b (47 + 32 * i) 1 && isZero b (54 + 32 * i) 2

/-- The layout of a schedule (R386). -/
def parseSchedule (b : Bytes) : Except Status Schedule :=
  let n := leAt b 24 4
  formed (32 ≤ b.length && n ≤ 4096 && b.length == 32 + 32 * n && leAt b 4 1 < 16 && isZero b 5 3 && isZero b 14 2 && isZero b 28 4 &&
      (List.range n).all (pfEntryReserved b))
    { node := BitVec.ofNat 16 (leAt b 0 2), cid := BitVec.ofNat 16 (leAt b 2 2), part := leAt b 4 1, doorbell := leAt b 8 6
      period := leAt b 16 4, start := leAt b 20 4, entries := (List.range n).map (pfEntryOf b), cur := leAt b 20 4, issuedTo := leAt b 20 4 }

/-- Numbers never decrease along a list. -/
def ascending : List Nat → Bool
  | x :: y :: ys => x ≤ y && ascending (y :: ys)
  | _ => true

/-- An entry of a schedule is within its ranges (R386). -/
def State.pfEntryOk (s : State) (period : Nat) (e : PfEntry) : Bool :=
  e.length % 4096 == 0 && e.need < period &&
  (match e.kind with
   | 1 => s.tabs.extents.any (fun x => x.mode = 2 && within e.source e.length x.base x.length) && e.dest == 0 &&
       e.need ≤ e.release && e.release < period
   | 2 => inFar e.source e.length && s.rangeAddressable e.dest e.length && e.release == 0
   | _ => false)

/-- The checks of a schedule (R386, R462). -/
def State.checkSchedule (s : State) (x : Schedule) : Option Status :=
  let others := ((s.tabs.schedules.filter (fun y => y.part ≠ x.part)).map (fun y => y.entries.length)).sum
  firstOf [need (x.doorbell % 8 == 0 && s.rangeAddressable x.doorbell 8 && 1 ≤ x.period), need (x.entries.all (s.pfEntryOk x.period)),
    need (ascending (x.entries.map (·.need))),
    if x.entries.any (fun e => s.scrubbing e.source e.length || (e.kind == 2 && s.scrubbing e.dest e.length)) then some .denied else none,
    room (others + x.entries.length ≤ 16384)]

/-- A schedule is removed: its pins are released. -/
def State.removeSchedule (s : State) (x : Schedule) : State :=
  (s.dropPins x.part).modTabs (fun t => { t with schedules := t.schedules.filter (fun y => y.part ≠ x.part) })

/-- A schedule is installed in the place of its partition's, and its fetches begin. -/
def State.addSchedule (s : State) (x : Schedule) : State :=
  ((s.removeSchedule x).modTabs (fun t => { t with schedules := t.schedules ++ [x] })).pfPump x.part

/-- The installed schedule that an item names. -/
def State.findSchedule (s : State) (x : Schedule) : Option Schedule :=
  s.tabs.schedules.find? (fun y => y.part = x.part ∧ y.node = x.node ∧ y.cid = x.cid ∧ y.doorbell = x.doorbell ∧ y.period = x.period ∧
    y.start = x.start ∧ y.entries = x.entries)

/-! ## Channel bindings (R420, R440) -/

/-- The layout of a channel binding (R420). -/
def parseBinding (b : Bytes) : Except Status Binding :=
  let c := leAt b 0 1
  formed (b.length == 32 && c < 128 && leAt b 1 1 < 16 && isZero b 15 1 && isZero b 22 2 && isZero b 30 2)
    { die := bits c 6 1, ch := c % 64, part := leAt b 1 1, cid := BitVec.ofNat 16 (leAt b 2 2), posterNode := BitVec.ofNat 16 (leAt b 4 2)
      posterCid := BitVec.ofNat 16 (leAt b 6 2), ring := leAt b 8 6, log2 := leAt b 14 1, doorbell := leAt b 16 6, completion := leAt b 24 6 }

/-- The channel of a binding, RIM0's first. -/
def Binding.chan (x : Binding) : Nat := 64 * x.die + x.ch

/-- The checks of a channel binding (R420). -/
def State.checkBinding (s : State) (x : Binding) : Option Status :=
  let n := 2 ^ x.log2
  let rs := [(x.ring, 64 * n), (x.doorbell, 8), (x.completion, 32 * n)]
  if !(4 ≤ x.log2 && x.log2 ≤ 12) then some .format
  else firstOf [need ((s.bindingOf x.chan).isNone), need (x.ring % 64 == 0 && x.doorbell % 8 == 0 && x.completion % 32 == 0),
    need (rs.all (fun r => s.rangeAddressable r.1 r.2) && disjoint rs),
    need ((s.context s.tabs.node x.cid).any (fun c => c.isLocal && c.part == x.part && !c.removing))]

/-- A channel is bound. -/
def State.addBinding (s : State) (x : Binding) : State :=
  (s.modTabs (fun t => { t with bindings := t.bindings ++ [x] })).modChan x.chan (fun _ => { state := 1 })

/-- A channel is unbound once its active descriptor has ended (R440); it reads no further slot. -/
def State.removeBinding (s : State) (x : Binding) : State :=
  let c := s.chan x.chan
  if c.active.isNone then s.unbindChan x.chan else s.modChan x.chan (fun y => { y with unbinding := true, shadow := none })

/-! ## Port shares (R445) -/

/-- The layout of a port share (R445). -/
def parseShare (b : Bytes) : Except Status PortShare :=
  formed (b.length == 8 && leAt b 1 1 < 16 && leAt b 2 1 < 2 && isZero b 3 5)
    { port := leAt b 0 1 % 64, sub := leAt b 0 1 / 64, part := leAt b 1 1, ded := leAt b 2 1 == 1 }

/-- The checks of a port share (R445). -/
def State.checkShare (s : State) (x : PortShare) : Option Status :=
  let here := s.tabs.shares.filter (fun y => y.port = x.port)
  firstOf [need (!x.ded || here.all (fun y => y.part == x.part)), need (here.all (fun y => !y.ded || (y.part == x.part && x.ded)))]

/-- A port share is installed, in the place of the partition's on that sub-port. -/
def State.addShare (s : State) (x : PortShare) : State :=
  s.modTabs (fun t => { t with shares := t.shares.filter (fun y => !(y.port = x.port && y.sub = x.sub && y.part = x.part)) ++ [x] })

/-- A port share is removed. -/
def State.removeShare (s : State) (x : PortShare) : State := s.modTabs (fun t => { t with shares := t.shares.erase x })

/-! ## Published ranges (R481) -/

/-- The layout of a published range (R481). -/
def parsePublished (b : Bytes) : Except Status Published :=
  formed (b.length == 40 && leAt b 6 1 < 8 && leAt b 7 1 < 16 && isZero b 14 2 && isZero b 22 2 && isZero b 30 2 && isZero b 36 4)
    { view := leAt b 0 6, buffers := leAt b 6 1, part := leAt b 7 1, length := leAt b 8 6, area := leAt b 16 6, word := leAt b 24 6
      id := leAt b 32 4 }

/-- The view, the buffer area and the version word of a published range. -/
def Published.ranges (p : Published) : List (Nat × Nat) := [(p.view, p.length), (p.area, p.buffers * p.length), (p.word, 8)]

/-- The checks of a published range (R481). -/
def State.checkPublished (s : State) (p : Published) : Option Status :=
  let free := fun (o n : Nat) => p.ranges.all (fun r => !overlaps r.1 r.2 o n)
  firstOf [need (2 ≤ p.buffers && p.buffers ≤ 4),
    need (p.view % 4096 == 0 && p.length % 4096 == 0 && p.length ≤ 64 * gib && p.area % 4096 == 0 && p.word % 8 == 0),
    if p.length = 0 then none else firstOf [
      need (disjoint p.ranges && s.tabs.published.all (fun x => x.ranges.all (fun r => free r.1 r.2)) &&
        s.tabs.sumac.all (fun x => free x.base x.length)),
      need (p.ranges.all (fun r => s.rangeAddressable r.1 r.2)),
      need (s.tabs.mirrored.any (fun m => p.ranges.all (fun r => within r.1 r.2 m.base m.length)) ||
        s.tabs.mirrored.all (fun m => free m.base m.length)),
      room (s.tabs.published.length < 256)]]

/-- A published range is installed: version 0, and its version word reads 0. An empty one installs nothing. -/
def State.addPublished (s : State) (p : Published) : State :=
  if p.length = 0 then s else (s.modTabs (fun t => { t with published := t.published ++ [p] })).nearWrite p.word (zeros 8)

/-- The installed published range that an item names. -/
def State.findPublished (s : State) (p : Published) : Option Published :=
  s.tabs.published.find? (fun x => x.view = p.view ∧ x.buffers = p.buffers ∧ x.part = p.part ∧ x.length = p.length ∧ x.area = p.area ∧
    x.word = p.word ∧ x.id = p.id)

/-- A published range is removed: its pending `PUBLISH`, and reads that wait for its new version, have lost their target. -/
def State.removePublished (s : State) (p : Published) : State :=
  let ids := (s.jrn.reqs.filter (fun r => match r.stage with | .viewWait i _ => i == p.id | .publish i => i == p.id | _ => false)).map (·.id)
  (s.each ids (fun s id => s.endRequest id .targetLost)).modTabs (fun t => { t with published := t.published.filter (fun x => x.id ≠ p.id) })

/-! ## Forwarding and source ranges (R59, R60) -/

/-- The layout of a forwarding item (R542). -/
def parseForwarding (b : Bytes) : Except Status FwdSpan :=
  formed (b.length == 8 && leAt b 5 1 < 2 && isZero b 6 2 && leAt b 0 2 + leAt b 2 2 ≤ 65536)
    { first := leAt b 0 2, count := leAt b 2 2, dest := if leAt b 5 1 == 1 then none else some (leAt b 4 1 % 64, leAt b 4 1 / 64) }

/-- The entries of a span of nodes are loaded; a span of no node loads nothing. -/
def State.addForwarding (s : State) (f : FwdSpan) : State :=
  if f.count = 0 then s else s.modTabs (fun t => { t with fwd := f :: t.fwd })

/-- The installed span that an item names. A span of no node is an empty operation (R558) and names nothing that is installed. -/
def State.findForwarding (s : State) (f : FwdSpan) : Option FwdSpan := if f.count = 0 then some f else s.tabs.fwd.find? (· == f)

/-- A span is removed. -/
def State.removeForwarding (s : State) (f : FwdSpan) : State := s.modTabs (fun t => { t with fwd := t.fwd.erase f })

/-- The layout of a source-ranges item (R542). -/
def parseSources (b : Bytes) : Except Status SourceRanges :=
  let n := leAt b 1 1
  let rs := (List.range n).map (fun i => (leAt b (8 + 4 * i) 2, leAt b (10 + 4 * i) 2))
  formed (8 ≤ b.length && 1 ≤ n && n ≤ 64 && b.length == 8 + 4 * n && isZero b 2 6 && rs.all (fun r => r.1 ≤ r.2))
    { port := leAt b 0 1 % 64, sub := leAt b 0 1 / 64, ranges := rs }

/-- The source ranges of a port or sub-port are replaced. -/
def State.addSources (s : State) (x : SourceRanges) : State :=
  s.modTabs (fun t => { t with sources := t.sources.filter (fun y => !(y.port = x.port && y.sub = x.sub)) ++ [x] })

/-- The source ranges of a port or sub-port are removed. -/
def State.removeSources (s : State) (x : SourceRanges) : State := s.modTabs (fun t => { t with sources := t.sources.erase x })

/-! ## The items -/

/-- An install item of the kinds 0x0001 to 0x000F (R542). -/
def State.installItem (s : State) (kind : Nat) (b : Bytes) : Except Status State :=
  match kind with
  | 0x01 => s.install (parseContext b) s.checkContext State.addContext
  | 0x02 => s.install (parseRun b) s.checkRun State.addRun
  | 0x03 => s.install (parseAccess b (some 1)) s.checkAccess State.addAccess
  | 0x04 => s.install (parseSubscriber b) s.checkSubscriber State.addSubscriber
  | 0x05 => s.install (parseService b) s.checkService State.addService
  | 0x06 => s.install (parseGroup b) s.checkGroup State.addGroup
  | 0x07 => s.install (parseSumac b) s.checkSumac State.addSumac
  | 0x08 => s.install (parseExtent b) s.checkExtent State.addExtent
  | 0x09 => s.install (parseMirrored b) s.checkMirrored State.addMirrored
  | 0x0A => s.install (parseSchedule b) s.checkSchedule State.addSchedule
  | 0x0B => s.install (parseBinding b) s.checkBinding State.addBinding
  | 0x0C => s.install (parseShare b) s.checkShare State.addShare
  | 0x0D => s.install (parsePublished b) s.checkPublished State.addPublished
  | 0x0E => s.install (parseForwarding b) (fun _ => none) State.addForwarding
  | 0x0F => s.install (parseSources b) (fun _ => none) State.addSources
  | _ => .error .unsupported

/-- A remove item of the kinds 0x0001 to 0x000F (R542). -/
def State.removeItem (s : State) (kind : Nat) (b : Bytes) : Except Status State :=
  match kind with
  | 0x01 => s.uninstall (parseContext b) (fun x => s.tabs.contexts.find? (· == x)) State.removeContext
  | 0x02 => s.uninstall (parseRun b) (fun x => s.tabs.runs.find? (· == x)) State.removeRun
  | 0x03 => s.uninstall (parseAccess b none) s.findAccess State.removeAccess
  | 0x04 => s.uninstall (parseSubscriber b) (fun x => s.tabs.subs.find? (· == x)) State.removeSubscriber
  | 0x05 => s.uninstall (parseService b) s.findService State.removeService
  | 0x06 => s.uninstall (parseGroup b) (fun x => s.tabs.groups.find? (· == x)) State.removeGroup
  | 0x07 => s.uninstall (parseSumac b) (fun x => s.tabs.sumac.find? (· == x)) State.removeSumac
  | 0x08 => s.uninstall (parseExtent b) (fun x => s.tabs.extents.find? (· == x)) State.removeExtent
  | 0x09 => s.uninstall (parseMirrored b) s.findMirrored State.removeMirrored
  | 0x0A => s.uninstall (parseSchedule b) s.findSchedule State.removeSchedule
  | 0x0B => s.uninstall (parseBinding b) (fun x => s.tabs.bindings.find? (fun y => y == x && !(s.chan x.chan).unbinding)) State.removeBinding
  | 0x0C => s.uninstall (parseShare b) (fun x => s.tabs.shares.find? (· == x)) State.removeShare
  | 0x0D => s.uninstall (parsePublished b) s.findPublished State.removePublished
  | 0x0E => s.uninstall (parseForwarding b) s.findForwarding State.removeForwarding
  | 0x0F => s.uninstall (parseSources b) (fun x => s.tabs.sources.find? (· == x)) State.removeSources
  | _ => .error .unsupported

/-! ## The meaning of `RUN_UNMAP_COMPLETE` -/

/-- `RUN_UNMAP_COMPLETE` (R141). -/
def execRunUnmapComplete (t part virt : Nat) (s : State) : Host.Outcome State Fault Refusal := .next ((s.at t).unmapped part virt)

end Sys2Proof.Machine
end

