-- ==== Sys2Proof/Machine/Composition.lean ====
section
/-! DEFINITION. Composition records (R540 to R542, R611, R612, R616): the items of clusters, partitions, rings, the device's place and
its witnesses, what a drained device does next (R579, R583), and the record as a whole. -/

namespace Sys2Proof.Machine

/-! ## Meter records (R555) -/

/-- Close the meter record of an ACTIVE partition and begin the next. -/
def State.closeMeter (s : State) (p : Nat) : State :=
  if (s.part p).state ≠ .active then s
  else
    let m := (s.part p).meter
    let t := s.uptimeUs / 1000
    let b := natLe 4 s.tabs.compEpoch.toNat ++ [BitVec.ofNat 8 p] ++ zeros 3 ++ natLe 8 (nth m 0) ++ natLe 8 t ++ natLe 8 (nth m 1) ++
      natLe 8 (nth m 2 / ticksPerUs) ++ natLe 8 (nth m 3) ++ natLe 8 (nth m 4) ++ natLe 8 (nth m 5 / 2 ^ 20) ++ natLe 8 (nth m 6) ++
      natLe 8 (nth m 7) ++ natLe 8 (nth m 8) ++ zeros 8
    let s := s.modPart p (fun q => { q with meter := t :: List.replicate 8 0 })
    s.each (pieces 0x8005 p b) State.toOwner

/-! ## Records to the partner (R448, R535, R547, R618) -/

/-- Send a signed record of this device to its partner in a `RECORD` frame, on local stream 0x7C (DESIGN CHOICE, log 21). -/
def State.sendRecord (s : State) (owner : Owner) (recType : Nat) (body : Bytes) : State :=
  let n := s.mram.sent + 1
  let s := { s with mram := { s.mram with sent := n } }
  let partnerId := (sha512 s.tabs.partnerKey).take 32
  let b := natBe 2 recType ++ [1, 2] ++ natBe 2 body.length ++ zeros 2 ++ natBe 8 n ++ partnerId ++ body
  let b := b ++ edSign identitySeed b
  let (q, s) := s.takeSeq s.tabs.partner 0x7C
  s.originate owner (s.ownHeader 0xA0 0 0x7C s.tabs.partner q 0 0 0 b.length 1 0 false) b 0 0

/-- Send a partition's key to the partner (R448, R544): nothing without a pair transport key. -/
def State.sendKey (s : State) (p : Nat) : State :=
  match s.hoop.transportKey, (s.part p).key with
  | some kek, some key =>
    s.sendRecord (.keyTransfer p) 0x0C60 (natBe 2 0x0C60 ++ [BitVec.ofNat 8 p, 0] ++ natBe 4 (s.part p).keyId ++
      natBe 4 s.tabs.compEpoch.toNat ++ kwWrap kek key)
  | _, _ => s

/-- The body of a pair-admission record (R618). -/
def State.admissionBody (s : State) (step : Nat) (nonce echo : Bytes) : Bytes :=
  natBe 2 0x0C61 ++ [BitVec.ofNat 8 step, 0] ++ natBe 4 s.tabs.compEpoch.toNat ++ x25519Public kaPrivate ++ padTo 16 nonce ++
    padTo 16 echo ++ zeros 8

/-- Offer a pair admission (R618 step 1). -/
def State.sendOffer (s : State) : State :=
  let (d, s) := s.draw
  let nonce := Config.randomBytes d 16
  (s.modHoop (fun h => { h with offerNonce := some nonce })).sendRecord .admission 0x0C61 (s.admissionBody 1 nonce [])

/-! ## Clusters: item 0x0010 (R232 to R235, R596) -/

/-- A collective is bound to a cluster. -/
def State.bound (s : State) (c : Nat) : Bool := s.eng.colls.any (fun k => 0 < k.positionsOn c)

/-- The cluster is held as a spare (R596). -/
def State.heldSpare (s : State) (c : Nat) : Bool := s.cfg.hoop.spareClusters.testBit c && !(s.cluster c).assigned

/-- A cluster item: an unassigned cluster is assigned at once, an assigned one leaves for its new partition or for none. -/
def State.clusterItem (s : State) (b : Bytes) : Except Status State :=
  let c := leAt b 0 1
  let v := leAt b 1 1
  let m := leAt b 2 1
  if b.length ≠ 8 || 32 ≤ c || bits v 4 3 ≠ 0 || !isZero b 3 5 || !((1 ≤ m && m ≤ 14) || m == 0xFF) then .error .format
  else
    let x := s.cluster c
    let part := if 128 ≤ v then none else some (v % 16)
    let cur := if x.assigned then some x.part else none
    let acc := if m = 0xFF then x.accMib else m
    if part.isSome && (s.partState c == .expelled || s.heldSpare c) then .error .denied
    else if part == cur && acc == x.accMib && !x.leaving then .ok s
    else if s.bound c && x.assigned && (s.part x.part).state != .teardown then .error .denied
    else if !x.assigned then .ok (s.assignCluster c part (some acc))
    else
      let s := s.modTabs (fun t => { t with leaving := t.leaving.filter (fun l => l.1 ≠ c) ++ [(c, part, some acc)] })
      .ok ((s.modCluster c (fun x => { x with leaving := true })).leaveProceed c)

/-! ## Partitions: item 0x0011 (R446 to R450, R615, R616) -/

/-- A partition is set up: with its key it begins to serve. The second part names it where its key must first be transferred
(R450). -/
def State.setUpPart (s : State) (p : Nat) (primary : Bool) (tenant : Bytes) : Except Status (State × Option Nat) :=
  let q := s.part p
  let s' := s.modPart p (fun q => { q with tenantKey := tenant, primary := primary })
  match q.state with
  | .teardown | .scrubbing => .error .denied
  | .active => .ok (s, none)
  | .free =>
    if q.awaiting then .ok (s, none)
    else if q.keyPresent then .ok (s'.activatePart p, none)
    else if !s.tabs.paired || (primary && s.jrn.solo) then .ok ((s'.generateKey p).activatePart p, none)
    else if !s.hlt.admitted then .ok (s'.modPart p (fun q => { q with awaiting := true }), none)
    else .ok (s', some p)

/-- A partition is torn down (R615); one that is not set up stays as it is. -/
def State.tearDownPart (s : State) (p : Nat) : State :=
  if (s.part p).state = .active || (s.part p).awaiting then (s.teardown p).teardownGo p else s

/-- A partition item. -/
def State.partitionItem (s : State) (b : Bytes) : Except Status (State × Option Nat) :=
  let p := leAt b 0 1
  let act := leAt b 1 1
  let tenant := slice b 8 32
  if b.length ≠ 40 || 16 ≤ p || !(act == 1 || act == 2) || 2 ≤ leAt b 2 1 || !isZero b 3 5 || (act == 2 && !isZero b 8 32) then .error .format
  else if act = 1 then s.setUpPart p (leAt b 2 1 == 1) tenant
  else .ok (s.tearDownPart p, none)

/-! ## Partition rings: item 0x0012 (R552) -/

/-- The layout of a partition ring (R542). -/
def parseRing (b : Bytes) : Except Status PartRing :=
  formed (b.length == 24 && leAt b 0 1 < 16 && 10 ≤ leAt b 1 1 && leAt b 1 1 ≤ 20 && isZero b 2 6 && leAt b 8 6 % 64 == 0 &&
      isZero b 14 2 && leAt b 16 6 % 8 == 0 && isZero b 22 2)
    { part := leAt b 0 1, log2 := leAt b 1 1, base := leAt b 8 6, producerWord := leAt b 16 6 }

/-- The ring and its producer word lie in the partition's addressable near range (R552). -/
def State.checkRing (s : State) (r : PartRing) : Option Status :=
  let near := s.tabs.nearOf r.part
  let inside := fun (o n : Nat) => (minusAll [(o, n)] near).isEmpty && s.rangeAddressable o n
  need (inside r.base (64 * 2 ^ r.log2) && inside r.producerWord 8)

/-- A ring is installed, in the place of the partition's; its first entry has index 0. -/
def State.addRing (s : State) (r : PartRing) : State :=
  (s.modTabs (fun t => { t with rings := t.rings.filter (fun x => x.part ≠ r.part) ++ [r] })).modPart r.part (fun q => { q with ringIndex := 0 })

/-- A ring is removed. -/
def State.removeRing (s : State) (r : PartRing) : State := s.modTabs (fun t => { t with rings := t.rings.erase r })

/-! ## The device's place: item 0x0013 (R601, R602, R617) -/

/-- A node-and-pair item (R601). -/
structure NodeItem where
  own : Node
  partner : Node
  paired : Bool
  role : Nat
  admits : Bool
  reset : Bool
  standby : Bool
  key : Bytes
  retired : List Node
  deriving DecidableEq, Repr

/-- The layout of a node-and-pair item (R601). -/
def parseNode (b : Bytes) : Except Status NodeItem :=
  let f := leAt b 4 1
  let n := leAt b 5 1
  let paired := f.testBit 0
  let role := bits f 1 2
  formed (40 ≤ b.length && n ≤ 32 && b.length == 40 + 2 * n && f < 64 && isZero b 6 2 && (if paired then role == 1 || role == 2 else role == 0) &&
      (paired || isZero b 8 32))
    { own := BitVec.ofNat 16 (leAt b 0 2), partner := BitVec.ofNat 16 (leAt b 2 2), paired := paired, role := role
      admits := f.testBit 3, reset := f.testBit 4, standby := f.testBit 5, key := slice b 8 32
      retired := (List.range n).map (fun i => BitVec.ofNat 16 (leAt b (40 + 2 * i) 2)) }

/-- A writer that a rebuild of R95 must bring back: STALE, or empty after a cold power-on (R577). -/
def Writer.lost (w : Writer) : Bool := w.anchor.state == .stale || w.journal == .empty

/-- The checks of a node-and-pair item (R601, R617). -/
def State.checkNode (s : State) (x : NodeItem) : Option Status :=
  let t := s.tabs
  let moves := x.own != t.node || x.paired != t.paired || (x.paired && x.partner != t.partner) || x.reset
  if s.hlt.fence ≠ 1 && moves then some .denied
  else if x.reset && !s.jrn.writers.any Writer.lost then some .denied
  else if x.admits && (t.witnesses.isNone || (x.paired && !s.hlt.resyncDone) || (s.hlt.fence == 4 && s.hlt.expelledDevice)) then some .denied
  else none

/-- The journals of the writers that are lost begin a new generation, empty (R95, R601). -/
def State.resetJournals (s : State) : State :=
  s.each [0, 1] (fun s w =>
    if !(s.writer w).lost then s
    else
      let mine := fun (r : StreamRec) => (recordDie r.stream) == w
      s.modJrn (fun j =>
        let ws := j.writers.modify w (fun (x : Writer) =>
          { x with head := 0, ring := [], shadow := [], shadowMark := none, lastMark := none, journal := RimJournal.ready, tail := [],
                   anchor := { x.anchor with generation := x.anchor.generation + 1, head := 0, mark := none, state := .running } })
        { j with writers := ws, streams := j.streams.filter (fun r => !mine r), shadowStreams := j.shadowStreams.filter (fun r => !mine r) }))

/-- The device is admitted (R617 step 5): a start, exclusion or health fence ends, and every witness counts as reached. -/
def State.admitDevice (s : State) : State :=
  if s.hlt.fence = 0 || s.hlt.fence = 2 then s
  else
    let s := s.modHlt (fun h => { h with
      fence := 0, admitted := true, contactA := some s.now, contactB := some s.now, contactP := if s.tabs.paired then some s.now else none
      partnerLost := none })
    let s := s.modJrn (fun j => { j with soloHold := none })
    s.event 0x150B toBoth none none (.resource 14 0 [])

/-- STANDBY begins to be left (R583): steps 6 to 8 of R568 without an image, the ports lit and their links trained, the far-tier
cache empty, a new spill key drawn, the assigned clusters ungated. Counters of the links stand. -/
def State.leaveStandby (s : State) : State :=
  let (d, s) := s.draw
  let s := (s.modHoop (fun h => { h with spillKey := Config.randomBytes d 64 })).modMem (fun m => { m with sectors := [] })
  let s := s.modEng (fun e =>
    let l := e.clusters.map (fun (c : Cluster) => { c with gated := !c.assigned })
    { e with clusters := l, lastRun := s.now })
  let s := s.enterPower .active
  let l := s.links.map (fun (x : Link) => { freshLink x.port x.sub (s.mayLight x.port) with
    blkBad := x.blkBad, blkReplayed := x.blkReplayed, retrains := x.retrains, substitutions := x.substitutions
    creditStall := x.creditStall, laneEvent := x.laneEvent, downEvent := x.downEvent })
  { s with links := l }

/-- The standby flag of an item (R583, R601): work begins to drain, or STANDBY is left. -/
def State.standbyFlag (s : State) (on : Bool) : State :=
  if on then (if s.hoop.power = .standby then s else s.modHoop (fun h => { h with standbyDrain := true }))
  else if s.hoop.power = .standby then s.leaveStandby else s

/-- A node-and-pair item takes effect. -/
def State.setNode (s : State) (x : NodeItem) : State :=
  let s := s.modTabs (fun t => { t with
    node := x.own, partner := if x.paired then x.partner else 0, paired := x.paired, role := x.role, partnerKey := if x.paired then x.key else []
    retiring := t.retiring ++ x.retired.filter (fun n => !t.retiring.contains n) })
  let s := if x.reset then s.resetJournals else s
  let s := if x.admits then s.admitDevice else s
  s.standbyFlag x.standby

/-! ## The witness set: item 0x0014 (R601) -/

/-- The layout of a witness-set item (R601). -/
def parseWitness (b : Bytes) : Except Status (Bytes × Bytes) :=
  formed (b.length == 72 && isZero b 64 8 && slice b 0 32 != slice b 32 32 && !isZero b 0 32 && !isZero b 32 32) (slice b 0 32, slice b 32 32)

/-- The witness set is installed: a manager with a new key has not been heard. -/
def State.setWitnesses (s : State) (x : Bytes × Bytes) : State :=
  let s := s.modHlt (fun h => match s.tabs.witnesses with
    | some (a, b) => { h with contactA := if a = x.1 then h.contactA else none, contactB := if b = x.2 then h.contactB else none }
    | none => h)
  s.modTabs (fun t => { t with witnesses := some x })

/-! ## Items (R542) -/

/-- An item and what follows it in a body; none where the body ends inside it. -/
def readItem (b : Bytes) : Option (Item × Bytes) :=
  let n := beAt b 4 2
  if b.length < 8 + n then none
  else some ({ kind := BitVec.ofNat 16 (beAt b 0 2), op := BitVec.ofNat 8 (beAt b 2 1), res3 := BitVec.ofNat 8 (beAt b 3 1)
               len := BitVec.ofNat 16 n, res6 := BitVec.ofNat 16 (beAt b 6 2), body := slice b 8 n }, b.drop (8 + n))

/-- The items of a body, as far as it holds them. -/
def readItems : Nat → Bytes → List Item
  | 0, _ => []
  | n + 1, b => match readItem b with
    | some (x, rest) => x :: readItems n rest
    | none => []

/-- An install item (R542); the second part names a partition whose key must first be transferred. -/
def State.putItem (s : State) (kind : Nat) (b : Bytes) : Except Status (State × Option Nat) :=
  match kind with
  | 0x10 => (s.clusterItem b).map (·, none)
  | 0x11 => s.partitionItem b
  | 0x12 => (s.install (parseRing b) s.checkRing State.addRing).map (·, none)
  | 0x13 => (s.install (parseNode b) s.checkNode State.setNode).map (·, none)
  | 0x14 => (s.install (parseWitness b) (fun _ => none) State.setWitnesses).map (·, none)
  | _ => (s.installItem kind b).map (·, none)

/-- A remove item (R542); a cluster, a partition, the device's place and its witnesses are never removed. -/
def State.takeItem (s : State) (kind : Nat) (b : Bytes) : Except Status (State × Option Nat) :=
  match kind with
  | 0x10 | 0x11 | 0x13 | 0x14 => .error .format
  | 0x12 => (s.uninstall (parseRing b) (fun x => s.tabs.rings.find? (· == x)) State.removeRing).map (·, none)
  | _ => (s.removeItem kind b).map (·, none)

/-- One item, its header judged first. -/
def State.applyItem (s : State) (x : Item) : Except Status (State × Option Nat) :=
  let k := x.kind.toNat
  if k = 0 || 0x14 < k then .error .unsupported
  else if x.op = 0 || 2 < x.op.toNat || x.res3 ≠ 0 || x.len = 0 || x.res6 ≠ 0 then .error .format
  else if x.op = 1 then s.putItem k x.body
  else s.takeItem k x.body

/-- The items of a record in order (R541): the state with all of them applied and the partitions, with their item, whose keys
must first be transferred; or the first refusal and its item, 0xFFFF for bytes beyond the last item. -/
def State.applyItems : Nat → Nat → Bytes → State → List (Nat × Nat) → Except (Status × Nat) (State × List (Nat × Nat))
  | 0, _, b, s, keys => if b.isEmpty then .ok (s, keys) else .error (.format, 0xFFFF)
  | n + 1, i, b, s, keys =>
    match readItem b with
    | none => .error (.format, i)
    | some (x, rest) => match s.applyItem x with
      | .error st => .error (st, i)
      | .ok (s, key) => State.applyItems n (i + 1) rest s (match key with | some p => keys ++ [(p, i)] | none => keys)

/-! ## Epochs (R540, R611, R612, R616) -/

/-- The device takes a composition record of any epoch above its own (R616). -/
def State.takesEpoch (s : State) : Bool := s.hlt.fence == 1 || s.hlt.fence == 3 || s.hlt.fence == 4

/-- The epochs a record names are judged (R540, R616). -/
def State.epochsOk (s : State) (c : BitVec 32) (m : BitVec 16) : Bool :=
  (s.takesEpoch && s.tabs.compEpoch.toNat < c.toNat) ||
    ((c == s.tabs.compEpoch || c == s.tabs.compEpoch + 1) && (m == s.tabs.mapEpoch || m == s.tabs.mapEpoch + 1))

/-- The epochs a record names take effect (R67, R468, R555, R611, R612). -/
def State.setEpochs (s : State) (c : BitVec 32) (m : BitVec 16) : State :=
  let s := if c = s.tabs.compEpoch then s
    else
      let s := s.each (List.range 16) State.closeMeter
      (s.each (List.range 16) (fun s p => s.endConsent p 2)).modTabs (fun t => { t with compEpoch := c })
  if m = s.tabs.mapEpoch then s else s.modTabs (fun t => { t with mapEpoch := m, grace := some s.now })

/-! ## What follows the items -/

/-- The parts of a partition's extents that it no longer holds. -/
def farGiven (old new : List Extent) : List Extent :=
  old.flatMap (fun e => (minusAll [(e.tray, e.length)] (new.map (fun x => (x.tray, x.length)))).map (fun r =>
    { e with base := e.base + (r.1 - e.tray), length := r.2, tray := r.1 }))

/-- Memory that a record takes from an ACTIVE partition is scrubbed (R459, R461). -/
def State.scrubGiven (s : State) (old : State) : State :=
  let serving := !old.tabs.paired || old.tabs.role == 1
  s.each (List.range 16) (fun s p =>
    if (old.part p).state ≠ .active || (s.part p).state ≠ .active then s
    else
      let near := minusAll (old.tabs.nearOf p) (s.tabs.nearOf p)
      let far := (farGiven (old.tabs.extents.filter (·.part = p)) (s.tabs.extents.filter (·.part = p))).filter (fun e => serving || !e.dual)
      if near.isEmpty && far.isEmpty then s else s.beginScrub p near far false)

/-- Far-tier requests that wait at an extent that has gone have lost their target (R610). -/
def State.lostFar (s : State) : State :=
  let ids := (s.jrn.reqs.filter (fun r => r.stage == .frames && (r.hdr.opcode == 1 || r.hdr.opcode == 2 || isAtomic r.hdr.opcode.toNat) &&
    inFar r.hdr.offset.toNat 1 && (s.extentAt r.hdr.offset.toNat).isNone)).map (·.id)
  s.each ids (fun s id => s.endOf id .targetLost)

/-- The primary role has moved between admitted members (R109, R613): the survivor takes over, or the former primary drains. -/
def State.roleMoved (s : State) (old : State) : State :=
  if !old.tabs.paired || !s.tabs.paired || !old.hlt.admitted || !(s.hlt.fence == 0 || s.hlt.fence == 2) then s
  else if old.tabs.role = 2 && s.tabs.role = 1 then
    let s := s.modJrn (fun j => { j with draining := false })
    if s.jrn.solo || s.hlt.partnerLost.isSome || !s.reachedP then s.failoverBegin else s
  else if old.tabs.role = 1 && s.tabs.role = 2 then
    let s := s.modJrn (fun j => { j with draining := true })
    if s.jrn.reqs.any (fun r => isPair r.hdr.stream) then s
    else ((s.mark 0 (appliedUpTo (s.writer 0))).mark 1 (appliedUpTo (s.writer 1))).drained
  else s

/-- A member that a record pairs offers its admission (R617, R618): the start-fenced one, else the secondary without a key. -/
def State.offerDue (s : State) (items : List Item) : State :=
  if s.tabs.paired && items.any (fun x => x.kind == 0x13) &&
      (if s.hlt.fence = 1 then !s.hlt.resyncDone else s.tabs.role == 2 && s.hoop.transportKey.isNone) then s.sendOffer
  else s

/-- What an item makes its record wait for (R541). -/
def itemWaits (x : Item) : List RecWait :=
  let b := x.body
  match x.kind.toNat, x.op.toNat with
  | 0x01, 2 => match parseContext b with | .ok c => [.context c.node c.cid] | .error _ => []
  | 0x02, 2 => match parseRun b with | .ok r => [.run r.part r.virtBase] | .error _ => []
  | 0x0B, 2 => match parseBinding b with | .ok c => [.channel c.chan] | .error _ => []
  | 0x10, _ => [.cluster (leAt b 0 1)]
  | 0x11, _ => [.teardown (leAt b 0 1)]
  | 0x13, _ => match parseNode b with | .ok n => n.retired.map RecWait.retire ++ [.standby] | .error _ => []
  | _, _ => []

/-- The wait is still on. -/
def State.stillWaits (s : State) : RecWait → Bool
  | .cluster c => s.tabs.leaving.any (fun l => l.1 = c)
  | .run p v => s.tabs.runs.any (fun r => r.removing && r.part = p && r.virtBase = v)
  | .context n c => s.tabs.contexts.any (fun x => x.removing && x.node = n && x.cid = c)
  | .channel ch => (s.bindingOf ch).isSome && (s.chan ch).unbinding
  | .retire n => s.tabs.retiring.contains n
  | .teardown p => (s.part p).state == .teardown
  | .standby => s.hoop.standbyDrain
  | .key .. | .reset | .apply => false

/-- The state after a record whose items have all been applied, and what its acknowledgement still waits for. -/
def State.afterItems (s old : State) (items : List Item) : State × List RecWait :=
  let s := (((s.scrubGiven old).lostFar).roleMoved old).offerDue items
  let s := s.each s.tabs.retiring State.retireDone
  let s := if old.hlt.fence ≠ 0 && s.hlt.fence = 0 then s.each (s.tabs.schedules.map (·.part)) State.pfPump else s
  let s := s.wake.quorumCheck
  (s, (items.flatMap itemWaits).eraseDups.filter s.stillWaits)

/-! ## A device that drains (R579, R583) -/

/-- A MARK of a writer covers every entry of its ring; `heard`: one that the partner has acknowledged. -/
def Writer.covered (w : Writer) (heard : Bool) : Bool :=
  w.ring.all (fun e => e.state == .mark || w.ring.any (fun m => m.state == .mark && (m.mirrored || !heard) &&
    m.result ≠ BitVec.allOnes 64 && e.index ≤ m.result.toNat))

/-- Steps 2 and 3 of R579: with no request open the writers mirror their final MARKs, and once the partner has them, where it is
reached, the work is drained. -/
def State.drainStep (s : State) : State × Bool :=
  if !s.jrn.reqs.isEmpty then (s, false)
  else if !s.jrn.writers.all (Writer.covered · false) then
    ((s.mark 0 (appliedUpTo (s.writer 0))).mark 1 (appliedUpTo (s.writer 1)), !(s.mirrors && s.reachedP))
  else (s, !(s.mirrors && s.reachedP) || s.jrn.writers.all (Writer.covered · true))

/-- The anchors are written CLEAN (R94, R579 step 3). -/
def State.cleanAnchors (s : State) : State :=
  s.each [0, 1] (fun s w => (s.updateAnchor w).modWriter w (fun x => { x with anchor := { x.anchor with
    state := if x.anchor.state = .stale then .stale else .clean } }))

/-- Every laser is dark (R583). -/
def State.darkLinks (s : State) : State :=
  let l := s.links.map (fun (x : Link) => { x with lit := false, spareLit := false, state := .dark })
  { s with links := l }

/-- Clusters are gated, lasers dark and the switch core empty (R583). -/
def State.powerDown (s : State) : State :=
  let s := (s.modEng (fun e =>
    let l := e.clusters.map (fun (c : Cluster) => { c with gated := true })
    { e with clusters := l })).darkLinks
  let s := s.modWarp (fun w => { w with voq := [], arrived := [], groups := [], matched := [], spillOn := false, spillOpen := false })
  s.modHoop (fun h => { h with standbyDrain := false })

/-- A drained device enters STANDBY (R583, R581): batches closed, anchors CLEAN, lasers dark, clusters written back and gated,
collectives gone, the switch core empty. It waits for its channels' active descriptors and for its own frames to leave. -/
def State.standbyGo (s : State) : State :=
  if !s.hoop.standbyDrain || s.chans.any (fun c => c.active.isSome) || s.warp.voq.any (fun v => 64 ≤ v.src) then s
  else
    let (s, ready) := s.drainStep
    if !ready then s
    else
      let s := s.closeBatches.cleanAnchors
      let s := s.each (s.eng.colls.map (·.key)) State.freeColl
      let s := s.each ((List.range 32).filter (fun c => (s.cluster c).assigned)) State.clearCluster
      (s.powerDown.enterPower .standby).unwait .standby

end Sys2Proof.Machine
end

