-- ==== Sys2Proof/Machine/Records.lean ====
section
/-! DEFINITION. Signed records (R535 to R548): their paths, checks and queue, and the meaning of every type but the device reset's
later steps; with the timers of consents, batches, scrubs and key transfers. -/

namespace Sys2Proof.Machine

/-! ## The bytes of a record (R535, R540, R542) -/

/-- The whole record of a wrapper and a body. -/
def wrapperBytes (r : RecEnv) (body : Bytes) : Bytes :=
  natBe 2 r.recType.toNat ++ [r.version, r.signer] ++ natBe 2 r.bodyLen.toNat ++ natBe 2 r.reserved.toNat ++ natBe 8 r.number.toNat ++
    padTo 32 r.target ++ body ++ padTo 64 r.signature

/-- The bytes of an item. -/
def itemBytes (x : Item) : Bytes :=
  natBe 2 x.kind.toNat ++ [x.op, x.res3] ++ natBe 2 x.len.toNat ++ natBe 2 x.res6.toNat ++ x.body

/-- The body of a composition record. -/
def compositionBody (r : RecEnv) (items : List Item) : Bytes :=
  natBe 2 0x0C01 ++ natBe 2 items.length ++ natBe 4 r.compEpoch.toNat ++ natBe 2 r.mapEpoch.toNat ++ natBe 6 r.compReserved.toNat ++
    items.flatMap itemBytes

/-- A well-formed header for an item's body. -/
def itemOf (kind op : Nat) (body : Bytes) : Item :=
  { kind := BitVec.ofNat 16 kind, op := BitVec.ofNat 8 op, res3 := 0, len := BitVec.ofNat 16 body.length, res6 := 0, body := body }

/-- A record as it stands in what its path carried: a DOE object pads it to a whole DWORD, and a mailbox slot is longer (R545,
R546). -/
def recordIn (path : RecPath) (b : Bytes) : Bytes :=
  let n := 112 + beAt b 4 2
  match path with
  | .doe _ => if b.length < n + 4 && isZero b n 3 then b.take n else b
  | .mailbox .. => b.take n
  | _ => b

/-- The number that an event gives a path. -/
def pathCode : RecPath → Nat
  | .doe fn => fn | .mailbox fn _ => 2 + fn | .i3c => 4 | .frame _ => 5

/-- The body of a record in the queue. -/
def QRec.body (q : QRec) : Bytes := slice q.bytes 48 (q.bytes.length - 112)

/-! ## Checks 1 to 5 (R536 to R538, R571) -/

/-- Check 1 of R536. -/
def wrapperOk (b : Bytes) : Bool :=
  let n := beAt b 4 2
  112 ≤ b.length && 1 ≤ n && n ≤ 3984 && b.length == 112 + n && beAt b 2 1 == 1 && (beAt b 3 1 == 1 || beAt b 3 1 == 2) &&
    isZero b 6 2 && 2 ≤ n && beAt b 48 2 == beAt b 0 2 && beAt b 8 8 != 0

/-- The signer of a record type (R538); none for a type that is not listed as received. -/
def signerOf (t : Nat) : Option Nat :=
  match t with
  | 0x0C01 | 0x0C02 | 0x0C03 | 0x0C51 | 0x0C52 | 0x0C70 | 0x0C80 => some 1
  | 0x0C60 | 0x0C61 => some 2
  | _ => none

/-- The device's ID: zero where no identity was reconstructed (R571). -/
def State.ownId (s : State) : Bytes := if s.hoop.pufOk then deviceId else zeros 32

/-- Check 3 of R536: the target, the signer for the type and path (R535), and in recovery or after a trip a device-reset record
over a DOE mailbox only (R571, R636). -/
def State.recordMayCome (s : State) (path : RecPath) (b : Bytes) : Bool :=
  let t := beAt b 0 2
  let partner := match path with | .frame h => s.tabs.paired && h.src == s.tabs.partner | _ => false
  slice b 16 32 == s.ownId && signerOf t == some (beAt b 3 1) && (beAt b 3 1 == 1 || partner) &&
    (s.hoop.phase == .sealed || t == 0x0C80)

/-- Check 4 of R536: the signature verifies under the signer's key. -/
def State.recordSigned (s : State) (b : Bytes) : Bool :=
  let n := b.length - 64
  let key := if beAt b 3 1 = 1 then s.mram.ownerKey.getD [] else s.tabs.partnerKey
  key.length == 32 && edVerify key (b.take n) (b.drop n)

/-- The history holds this very record (R537): its status. -/
def State.repeated (s : State) (b : Bytes) : Option Status :=
  (s.mram.history.find? (fun e => e.1 = beAt b 3 1 && e.2.1 = beAt b 8 8 && e.2.2.1 = sha512 b)).map (·.2.2.2)

/-! ## The end of a record -/

/-- A record that was consumed is answered (R537, R545). -/
def State.endRecord (s : State) (q : QRec) (st : Status) (item : Nat) : State :=
  (s.rememberRecord q.signer q.number (sha512 q.bytes) st).answerRecord q.path q.number st item true

/-- A record is refused in its body checks. -/
def State.deny (s : State) (q : QRec) (st : Status) : State := s.endRecord q st 0xFFFF

/-- A record has taken effect (R479): it is acknowledged, at once or when what it names has come about (R541). -/
def State.applied (s : State) (q : QRec) (waits : List RecWait) : State :=
  let s := s.extendChain 7 q.bytes
  if waits.isEmpty then s.endRecord q .ok 0xFFFF else s.modHoop (fun h => { h with running := some (q, waits) })

/-! ## Composition (R540, R541, R450) -/

/-- The partition that an item sets up with this device as its primary. -/
def primarySetUp (x : Item) : Option Nat :=
  if x.kind = 0x11 ∧ x.op = 1 ∧ leAt x.body 1 1 = 1 ∧ leAt x.body 2 1 = 1 then some (leAt x.body 0 1) else none

/-- The items of a composition record. -/
def QRec.items (q : QRec) : List Item := readItems (beAt q.body 2 2) (q.body.drop 16)

/-- Keys generated for a record that is refused after all are destroyed, and its key transfers end. -/
def State.undoKeys (s : State) (q : QRec) : State :=
  let s := s.each (q.items.filterMap primarySetUp) (fun s p => if (s.part p).state = .free then s.eraseKey p else s)
  s.each (List.range 16) (fun s p =>
    (s.modPart p (fun x => { x with keyTransfer := none })).modJrn (fun j => { j with outs := j.outs.filter (fun o => o.owner != .keyTransfer p) }))

/-- The keys of a record's set-ups are transferred first (R450). -/
def State.startTransfers (s : State) (q : QRec) (keys : List (Nat × Nat)) : State :=
  let first := keys.filter (fun k => keys.find? (fun x => x.1 = k.1) == some k)
  let s := s.each first (fun s k =>
    let s := if (q.items[k.2]?).any (fun x => (primarySetUp x).isSome) then (s.generateKey k.1).sendKey k.1 else s
    s.modPart k.1 (fun x => { x with keyTransfer := some s.now }))
  s.modHoop (fun h => { h with running := some (q, first.map (fun k => RecWait.key k.1 k.2) ++ [.apply]) })

/-- A composition record in its body checks and application; `ready`: its keys have been transferred. -/
def State.runComposition (s : State) (q : QRec) (ready : Bool) : State :=
  let b := q.body
  let c := BitVec.ofNat 32 (beAt b 4 4)
  let m := BitVec.ofNat 16 (beAt b 8 2)
  if b.length < 16 || 255 < beAt b 2 2 then s.deny q .format
  else if !s.epochsOk c m then (if ready then s.undoKeys q else s).deny q .staleEpoch
  else if !isZero b 10 6 then s.deny q .format
  else match State.applyItems (beAt b 2 2) 0 (b.drop 16) (s.setEpochs c m) [] with
    | .error (st, i) => (if ready then s.undoKeys q else s).endRecord q st i
    | .ok (s', keys) =>
      if keys.isEmpty then
        let (s', waits) := s'.afterItems s q.items
        s'.applied q waits
      else s.startTransfers q keys

/-- The keys of the record being applied have been transferred: it takes effect. -/
def State.recordGo (s : State) : State :=
  match s.hoop.running with
  | some (q, [.apply]) => (s.modHoop (fun h => { h with running := none })).runComposition q true
  | _ => s

/-- A key transfer has not been acknowledged within the TC0 deadline (R450): the record is refused, and nothing of it has happened. -/
def State.keyTimeout (s : State) (p : Nat) : State :=
  match (s.part p).keyTransfer, s.hoop.running with
  | some t, some (q, ws) =>
    if s.now < t + s.deadlineTicks 0 then s
    else
      let item := (ws.findSome? (fun w => match w with | .key x i => if x = p then some i else none | _ => none)).getD 0xFFFF
      let s := if q.items.any (fun x => primarySetUp x == some p) then
          s.event 0x1006 toBoth (some p) none (.resource 5 p [(s.part p).keyId])
        else s
      ((s.undoKeys q).modHoop (fun h => { h with running := none })).endRecord q .targetLost item
  | _, _ => s

/-! ## Revocation (R139, R453, R543) -/

/-- One grant of a revocation record: its entries enter revoking, or it is found to have none. -/
def State.revokeGrant (s : State) (g : Bytes) : State :=
  let node : Node := BitVec.ofNat 16 (beAt g 0 2)
  let cid : Cid := BitVec.ofNat 16 (beAt g 2 2)
  let mine := fun (e : AccessEntry) => e.node == node && e.cid == cid && e.grant == beAt g 4 4
  if s.tabs.access.any mine then s.revoke mine true
  else s.event 0x1001 toFabric none none (.resource 1 (beAt g 4 4) [node.toNat * 65536 + cid.toNat, 0, 1])

/-- A revocation record. -/
def State.runRevocation (s : State) (q : QRec) : State :=
  let b := q.body
  let n := beAt b 2 2
  if b.length < 8 || 256 < n then s.deny q .format
  else if BitVec.ofNat 32 (beAt b 4 4) ≠ s.tabs.compEpoch then s.deny q .staleEpoch
  else if b.length ≠ 8 + 8 * n then s.deny q .format
  else (s.each (chunks 8 (b.drop 8)) State.revokeGrant).applied q []

/-! ## Publish-witness (R603, R605, R607) -/

/-- The body of a publish-witness record is well formed. -/
def witnessForm (b : Bytes) : Bool :=
  b.length == 80 && (beAt b 2 1 == 1 || beAt b 2 1 == 2) && isZero b 3 1 && isZero b 8 8

/-- The manager's signature verifies, under the witness set in force. -/
def State.witnessSigned (s : State) (q : QRec) : Bool :=
  match s.tabs.witnesses with
  | none => false
  | some (a, b) => edVerify (if beAt q.body 2 1 = 1 then a else b) (natBe 8 q.number ++ slice q.bytes 16 32 ++ q.body.take 16) (slice q.body 16 64)

/-- A composition record in the queue or being applied names an epoch. -/
def State.queuedEpoch (s : State) (e : BitVec 32) : Bool :=
  ((match s.hoop.running with | some (q, _) => [q] | none => []) ++ s.hoop.queue).any
    (fun q => q.recType == 0x0C01 && BitVec.ofNat 32 (beAt q.body 4 4) == e)

/-- A manager has been heard in the current epoch. -/
def State.heard (s : State) (witness : Nat) : State :=
  let s := s.modHlt (fun h => if witness = 1 then { h with contactA := some s.now } else { h with contactB := some s.now })
  s.soloCheck.quorumCheck

/-- A publish-witness record is judged, or waits for the composition ahead of it that names its epoch. -/
def State.runWitness (s : State) (q : QRec) : State :=
  let e := BitVec.ofNat 32 (beAt q.body 4 4)
  if !witnessForm q.body then s.deny q .format
  else if !s.witnessSigned q then s.deny q .denied
  else if e.toNat < s.tabs.compEpoch.toNat then s.deny q .staleEpoch
  else if e = s.tabs.compEpoch then (s.heard (beAt q.body 2 1)).applied q []
  else if s.queuedEpoch e then s.modHoop (fun h => { h with witnessWait := h.witnessWait ++ [q] })
  else (s.enterFence 3).applied q []

/-! ## Consents (R466 to R468) -/

/-- The first field of a consent that fails (R467). -/
def State.consentRefused (s : State) (b : Bytes) : Option Status :=
  let p := beAt b 2 1 % 16
  let scope := beAt b 3 1
  let d := beAt b 12 4
  firstOf [need (b.length == 96 && beAt b 2 1 < 16 && scope < 8),
    if BitVec.ofNat 16 (beAt b 4 2) = s.tabs.node then none else some .denied,
    need (isZero b 6 2),
    if BitVec.ofNat 32 (beAt b 8 4) = s.tabs.compEpoch then none else some .staleEpoch,
    need (1 ≤ d && d ≤ s.cfg.unit.consentMaxMs && (scope ≠ 0 || d == 1)),
    if (s.part p).nonces.contains (slice b 16 16) then some .denied else none,
    if (s.part p).state = .active && edVerify (s.part p).tenantKey (b.take 32) (slice b 32 64) then none else some .denied]

/-- A consent takes effect: the one in force ends, and a scope begins unless it is 0 (R468, R479). -/
def State.runConsent (s : State) (q : QRec) : State :=
  let b := q.body
  match s.consentRefused b with
  | some st => s.deny q st
  | none =>
    let p := beAt b 2 1 % 16
    let scope := beAt b 3 1
    let nonce := slice b 16 16
    let s := (s.endConsent p 4).modPart p (fun x => { x with nonces := x.nonces ++ [nonce] })
    let s := s.extendChain 8 q.bytes
    let s := if scope = 0 then s
      else
        let s := s.modPart p (fun x => { x with
          consents := x.consents + 1, consent := some { scope := scope, until_ := s.now + beAt b 12 4 * ticksPerMs, nonce := nonce } })
        s.event 0x1004 toBoth (some p) (some p) (consentDetail p nonce scope)
    s.applied q []

/-- A consent's duration has passed. -/
def State.consentExpires (s : State) (p : Nat) : State :=
  match (s.part p).consent with
  | some c => if c.until_ ≤ s.now then s.endConsent p 1 else s
  | none => s

/-! ## Replay lock (R488 to R490) -/

/-- The log and the consumer word of a record that turns the lock on. -/
def lockOf (b : Bytes) : LockCfg := { base := beAt b 12 6, size := beAt b 20 4, consumer := beAt b 24 6, body := b }

/-- A range of a lock lies in the addressable near range and clear of the published ranges. -/
def State.lockRange (s : State) (o n : Nat) : Bool :=
  s.rangeAddressable o n && s.tabs.published.all (fun p => p.ranges.all (fun r => !overlaps r.1 r.2 o n))

/-- The fields of the log are in their ranges. -/
def State.lockLogOk (s : State) (b : Bytes) (on : Bool) : Bool :=
  let l := lockOf b
  isZero b 18 2 && isZero b 30 2 &&
    (if on then
      l.base % 128 == 0 && (List.range 13).any (fun k => l.size == 256 * 2 ^ k) && s.lockRange l.base (128 * l.size) &&
        l.consumer % 16 == 0 && s.lockRange l.consumer 16
    else l.base == 0 && l.size == 0 && l.consumer == 0)

/-- The lock in force keeps the same log. -/
def LockCfg.same (x y : LockCfg) : Bool := x.base == y.base && x.size == y.size && x.consumer == y.consumer

/-- The first field of a replay-lock record that fails (R488). -/
def State.lockRefused (s : State) (b : Bytes) : Option Status :=
  let st := beAt b 3 1
  let on := st == 1
  firstOf [need (b.length == 32 && beAt b 2 1 < 16 && st ≠ 0), if 3 ≤ st then some .unsupported else none,
    if BitVec.ofNat 16 (beAt b 4 2) = s.tabs.node then none else some .denied, need (isZero b 6 2),
    if BitVec.ofNat 32 (beAt b 8 4) = s.tabs.compEpoch then none else some .staleEpoch, need (s.lockLogOk b on),
    match (s.part (beAt b 2 1)).lock with
    | some l => if on && !(l.same (lockOf b)) then some .denied else none
    | none => none]

/-- A replay-lock record takes effect (R489, R490); one that changes nothing only completes. -/
def State.runLock (s : State) (q : QRec) : State :=
  let b := q.body
  match s.lockRefused b with
  | some st => s.deny q st
  | none =>
    let p := beAt b 2 1
    let on := beAt b 3 1 == 1
    if on == s.locked p then s.applied q []
    else
      let s := if on then s.modPart p (fun x => { x with lock := some (lockOf b), oldLock := none })
        else (s.closeBatch p).modPart p (fun x => { x with lock := none, oldLock := if 0 < x.reserved then x.lock else none })
      let s := (s.extendChain 8 q.bytes).event 0x1101 toFabric (some p) (some p) (.resource 5 p [if on then 1 else 2])
      s.applied q []

/-! ## The partner's records (R450, R544, R618) -/

/-- A key transfer: the partner's key is unwrapped into MRAM and the key slots. -/
def State.runKey (s : State) (q : QRec) : State :=
  let b := q.body
  let p := beAt b 2 1
  if b.length ≠ 84 || 16 ≤ p || !isZero b 3 1 then s.deny q .format
  else if BitVec.ofNat 32 (beAt b 8 4) ≠ s.tabs.compEpoch then s.deny q .staleEpoch
  else if (s.part p).state = .teardown || (s.part p).state = .scrubbing then s.deny q .denied
  else match s.hoop.transportKey.bind (fun k => kwUnwrap k (slice b 12 72)) with
    | none => s.deny q .denied
    | some key =>
      let id := beAt b 4 4
      let s := s.modPart p (fun x => { x with
        key := some key, keyId := id, keyPresent := true
        consents := if x.keyId = id then x.consents else 0, nonces := if x.keyId = id then x.nonces else [] })
      (if (s.part p).awaiting then s.activatePart p else s).applied q []

/-- The pair transport key (R618), from this device's nonce and the partner's. -/
def State.deriveKey (s : State) (peerKey own peer : Bytes) : Bytes :=
  let theirs := (sha512 s.tabs.partnerKey).take 32
  let first := s.tabs.role == 1
  let salt := if first then own ++ peer else peer ++ own
  let ids := if first then deviceId ++ theirs else theirs ++ deviceId
  (hkdf512 salt (x25519 kaPrivate peerKey) (ascii "dv-pt" ++ ids)).take 32

/-- The first check of a pair-admission record that fails (R618). -/
def State.admissionRefused (s : State) (b : Bytes) : Option Status :=
  let step := beAt b 2 1
  firstOf [need (b.length == 80 && step ≠ 0), if 3 ≤ step then some .unsupported else none, need (isZero b 3 1),
    if BitVec.ofNat 32 (beAt b 4 4) = s.tabs.compEpoch then none else some .denied,
    if (if step = 1 then isZero b 56 16 else s.hoop.offerNonce == some (slice b 56 16)) then none else some .denied,
    need (isZero b 72 8)]

/-- A pair-admission record: an offer is answered and the serving side of the resync begins; an answer begins the restarting
side's (R585, R618). -/
def State.runAdmission (s : State) (q : QRec) : State :=
  let b := q.body
  match s.admissionRefused b with
  | some st => s.deny q st
  | none =>
    let peerKey := slice b 8 32
    let theirs := slice b 40 16
    if beAt b 2 1 = 1 then
      let (d, s) := s.draw
      let nonce := Config.randomBytes d 16
      let key := s.deriveKey peerKey nonce theirs
      let s := (s.sendRecord .admission 0x0C61 (s.admissionBody 2 nonce theirs)).modHoop (fun h => { h with
        transportKey := some key, offerNonce := none })
      let s := s.applied q []
      (s.each ((List.range 16).filter (fun p => (s.part p).keyPresent)) State.sendKey).resyncSend
    else
      let own := s.hoop.offerNonce.getD []
      let s := s.modHoop (fun h => { h with transportKey := some (s.deriveKey peerKey own theirs), offerNonce := none })
      (s.applied q []).resyncReceive

/-! ## Owner certificate and device reset (R544, R579) -/

/-- Every byte of a chain has arrived: the chain. -/
def assembled (n : Nat) (parts : List (Nat × Bytes)) : Option Bytes :=
  if (minusAll [(0, n)] (parts.map (fun x => (x.1, x.2.length)))).isEmpty then
    some (parts.foldl (fun c x => c.take x.1 ++ x.2 ++ c.drop (x.1 + x.2.length)) (zeros n))
  else none

/-- A fragment of the owner's certificate chain; the one that completes it replaces slot 1 where it certifies the identity. -/
def State.runCertificate (s : State) (q : QRec) : State :=
  let b := q.body
  let n := beAt b 4 4
  let o := beAt b 8 4
  let frag := b.drop 12
  if b.length < 12 || !isZero b 2 2 || n = 0 || 16384 < n || n < o + frag.length then s.deny q .format
  else
    let old := match s.hoop.certParts with | some (m, l) => if m = n then l else [] | none => []
    let parts := old ++ [(o, frag)]
    match assembled n parts with
    | none => (s.modHoop (fun h => { h with certParts := some (n, parts) })).applied q []
    | some chain =>
      let s := s.modHoop (fun h => { h with certParts := none })
      if Config.certifies chain then { s with mram := { s.mram with slot1 := chain } }.applied q [] else s.deny q .denied

/-- A device-reset record: the device fences itself and drains (R579); after a trip the reset waits for its temperatures (R636). -/
def State.runReset (s : State) (q : QRec) : State :=
  let b := q.body
  let k := beAt b 2 1
  if b.length ≠ 8 || k = 0 then s.deny q .format
  else if k ≠ 1 then s.deny q .unsupported
  else if !isZero b 3 1 then s.deny q .format
  else if BitVec.ofNat 32 (beAt b 4 4) ≠ s.tabs.compEpoch then s.deny q .staleEpoch
  else
    let s := s.modHoop (fun h => { h with resetting := true, tripWait := if h.phase = .tripped then some .deviceReset else h.tripWait })
    s.applied q [.reset]

/-! ## The queue (R538, R539) -/

/-- A record enters step 6 (R536); one that has become a repeat of a consumed record since it came is answered as one. -/
def State.runRecord (s : State) (q : QRec) : State :=
  match s.mram.history.find? (fun e => e.1 = q.signer && e.2.1 = q.number) with
  | some e =>
    if e.2.2.1 = sha512 q.bytes then s.answerRecord q.path q.number e.2.2.2 0xFFFF true
    else s.answerRecord q.path q.number .staleEpoch 0xFFFF false
  | none =>
    match q.recType with
    | 0x0C01 => s.runComposition q false
    | 0x0C02 => s.runRevocation q
    | 0x0C03 => s.runWitness q
    | 0x0C51 => s.runConsent q
    | 0x0C52 => s.runLock q
    | 0x0C60 => s.runKey q
    | 0x0C61 => s.runAdmission q
    | 0x0C70 => s.runCertificate q
    | _ => s.runReset q

/-- The publish-witness records that waited are judged again. -/
def State.witnessesGo (s : State) : State :=
  let l := s.hoop.witnessWait
  (s.modHoop (fun h => { h with witnessWait := [] })).each l State.runRecord

/-- A marker can be granted: no home arbiter is frozen (R138, R213). -/
def State.markersGo (s : State) : Bool := (List.range 64).all (fun a => !(s.arb a).frozen)

/-- The queue's front record enters step 6, once no record is being applied. -/
def State.queueGo (s : State) : State :=
  match s.hoop.queue with
  | [] => s
  | q :: rest =>
    if s.hoop.running.isSome || !s.markersGo then s else (s.modHoop (fun h => { h with queue := rest })).runRecord q

/-- Records that the queue holds (R539). -/
def State.queueFill (s : State) : Nat := s.hoop.queue.length + s.hoop.witnessWait.length + (if s.hoop.running.isSome then 1 else 0)

/-- A record that has passed checks 1 to 5: it enters step 6 at once if nothing is ahead of it, and otherwise the queue; a
publish-witness waits for none ahead (R539). -/
def State.enterRecord (s : State) (q : QRec) : State :=
  if q.recType = 0x0C03 then s.runRecord q
  else (s.modHoop (fun h => { h with queue := h.queue ++ [q] })).queueGo

/-- `HOOP_RECORD_DENIED`, at most once per path per 1 ms (R557). -/
def State.recordDenied (s : State) (path : RecPath) (t : Nat) : State :=
  s.eventLimited 0x1301 [pathCode path] toBoth none none (.resource 14 0 [t, pathCode path])

/-- A record arrives on a path (R536, R539). -/
def State.submit (s : State) (path : RecPath) (raw : Bytes) : State :=
  let b := recordIn path raw
  let n := beAt b 8 8
  let no := fun (s : State) (st : Status) => s.answerRecord path n st 0xFFFF false
  if 64 ≤ s.queueFill then no s .throttled
  else if !wrapperOk b then no s .format
  else if (signerOf (beAt b 0 2)).isNone then no s .unsupported
  else if !s.recordMayCome path b then no s .denied
  else if !s.recordSigned b then no (s.recordDenied path (beAt b 0 2)) .denied
  else match s.repeated b with
    | some st => s.answerRecord path n st 0xFFFF true
    | none =>
      if n ≤ nth s.mram.high (beAt b 3 1 - 1) then no s .staleEpoch
      else s.enterRecord { path := path, bytes := b, signer := beAt b 3 1, number := n, recType := beAt b 0 2 }

/-- The record protocol answers on a path: every path after the seal, the DOE mailboxes in recovery and after a trip (R571, R636);
frames only while the ports serve. -/
def State.pathServes (s : State) (path : RecPath) : Bool :=
  let up := fun (fn : Nat) => s.hoop.pcieUp.getD fn false
  match s.hoop.phase, path with
  | .sealed, .frame _ => s.live
  | .sealed, .doe fn | .sealed, .mailbox fn _ => up fn
  | .sealed, .i3c => s.hoop.i3c.isSome
  | .recovery, .doe fn | .tripped, .doe fn => up fn
  | _, _ => false

/-- A record reaches the Hoop die; a `RECORD` frame whose payload check fails is turned away (R40, R547). -/
def State.arriveRecord (s : State) (path : RecPath) (b : Bytes) : State :=
  if !s.pathServes path then s
  else match path with
    | .frame h =>
      match s.warp.arrived.find? (fun x => x.pos = 152 && sameFrame x.frame.hdr h && x.frame.payload = b) with
      | none => s.submit path b
      | some x =>
        let s := s.modWarp (fun w => { w with arrived := w.arrived.erase x })
        if x.frame.pcheck ≠ crc32c x.frame.payload then s.sendResponse 152 x.frame.hdr (x.stamp - x.resid) x.part false .checkFail false 1 [] false
        else s.submit (.frame x.frame.hdr) b
    | _ => s.submit path b

/-! ## The meanings -/

/-- The path exists: two functions, 256 slots, and a frame that is a `RECORD`. -/
def pathOk : RecPath → Bool
  | .doe fn => fn < 2
  | .mailbox fn slot => fn < 2 && slot < 256
  | .i3c => true
  | .frame h => h.opcode == 0xA0

/-- A record of a row: its wrapper's type and path must be the row's. -/
def recordRow (t : Nat) (r : RecEnv) (mine : Bool) (body : Bytes) (s : State) : Host.Outcome State Fault Refusal :=
  if mine && pathOk r.path then .next ((s.at t).arriveRecord r.path (wrapperBytes r body)) else .fault .notThisCommand

/-- A composition record of a row about one of its items. -/
def itemRow (t : Nat) (r : RecEnv) (pre : List Item) (kind op : Nat) (body : Bytes) (post : List Item) (mine : Bool) (s : State) :
    Host.Outcome State Fault Refusal :=
  recordRow t r (mine && r.recType == 0x0C01) (compositionBody r (pre ++ [itemOf kind op body] ++ post)) s

/-- `CONTEXT_INSTALL` (R65). -/
def execContextInstall (t : Nat) (r : RecEnv) (pre : List Item) (body : Bytes) (post : List Item) (s : State) :
    Host.Outcome State Fault Refusal := itemRow t r pre 0x1 1 body post true s

/-- `CONTEXT_REMOVE` (R142). -/
def execContextRemove (t : Nat) (r : RecEnv) (pre : List Item) (body : Bytes) (post : List Item) (s : State) :
    Host.Outcome State Fault Refusal := itemRow t r pre 0x1 2 body post true s

/-- `RUN_INSTALL` (R121). -/
def execRunInstall (t : Nat) (r : RecEnv) (pre : List Item) (body : Bytes) (post : List Item) (s : State) :
    Host.Outcome State Fault Refusal := itemRow t r pre 0x2 1 body post true s

/-- `RUN_REMOVE` (R141). -/
def execRunRemove (t : Nat) (r : RecEnv) (pre : List Item) (body : Bytes) (post : List Item) (s : State) :
    Host.Outcome State Fault Refusal := itemRow t r pre 0x2 2 body post true s

/-- `ACCESS_ENTRY_INSTALL` (R135). -/
def execAccessEntryInstall (t : Nat) (r : RecEnv) (pre : List Item) (body : Bytes) (post : List Item) (s : State) :
    Host.Outcome State Fault Refusal := itemRow t r pre 0x3 1 body post true s

/-- `ACCESS_ENTRY_REMOVE` (R542). -/
def execAccessEntryRemove (t : Nat) (r : RecEnv) (pre : List Item) (body : Bytes) (post : List Item) (s : State) :
    Host.Outcome State Fault Refusal := itemRow t r pre 0x3 2 body post true s

/-- `SUBSCRIBER_INSTALL` (R180). -/
def execSubscriberInstall (t : Nat) (r : RecEnv) (pre : List Item) (body : Bytes) (post : List Item) (s : State) :
    Host.Outcome State Fault Refusal := itemRow t r pre 0x4 1 body post true s

/-- `SUBSCRIBER_REMOVE` (R182). -/
def execSubscriberRemove (t : Nat) (r : RecEnv) (pre : List Item) (body : Bytes) (post : List Item) (s : State) :
    Host.Outcome State Fault Refusal := itemRow t r pre 0x4 2 body post true s

/-- `SERVICE_INSTALL` (R181). -/
def execServiceInstall (t : Nat) (r : RecEnv) (pre : List Item) (body : Bytes) (post : List Item) (s : State) :
    Host.Outcome State Fault Refusal := itemRow t r pre 0x5 1 body post true s

/-- `SERVICE_REMOVE` (R182). -/
def execServiceRemove (t : Nat) (r : RecEnv) (pre : List Item) (body : Bytes) (post : List Item) (s : State) :
    Host.Outcome State Fault Refusal := itemRow t r pre 0x5 2 body post true s

/-- `GROUP_INSTALL` (R300). -/
def execGroupInstall (t : Nat) (r : RecEnv) (pre : List Item) (body : Bytes) (post : List Item) (s : State) :
    Host.Outcome State Fault Refusal := itemRow t r pre 0x6 1 body post true s

/-- `GROUP_REMOVE` (R542). -/
def execGroupRemove (t : Nat) (r : RecEnv) (pre : List Item) (body : Bytes) (post : List Item) (s : State) :
    Host.Outcome State Fault Refusal := itemRow t r pre 0x6 2 body post true s

/-- `SUMAC_RANGE_INSTALL` (R353). -/
def execSumacRangeInstall (t : Nat) (r : RecEnv) (pre : List Item) (body : Bytes) (post : List Item) (s : State) :
    Host.Outcome State Fault Refusal := itemRow t r pre 0x7 1 body post true s

/-- `SUMAC_RANGE_REMOVE` (R542). -/
def execSumacRangeRemove (t : Nat) (r : RecEnv) (pre : List Item) (body : Bytes) (post : List Item) (s : State) :
    Host.Outcome State Fault Refusal := itemRow t r pre 0x7 2 body post true s

/-- `EXTENT_INSTALL` (R373). -/
def execExtentInstall (t : Nat) (r : RecEnv) (pre : List Item) (body : Bytes) (post : List Item) (s : State) :
    Host.Outcome State Fault Refusal := itemRow t r pre 0x8 1 body post true s

/-- `EXTENT_REMOVE` (R379). -/
def execExtentRemove (t : Nat) (r : RecEnv) (pre : List Item) (body : Bytes) (post : List Item) (s : State) :
    Host.Outcome State Fault Refusal := itemRow t r pre 0x8 2 body post true s

/-- `MIRRORED_RANGE_INSTALL` (R383). -/
def execMirroredRangeInstall (t : Nat) (r : RecEnv) (pre : List Item) (body : Bytes) (post : List Item) (s : State) :
    Host.Outcome State Fault Refusal := itemRow t r pre 0x9 1 body post true s

/-- `MIRRORED_RANGE_REMOVE` (R542). -/
def execMirroredRangeRemove (t : Nat) (r : RecEnv) (pre : List Item) (body : Bytes) (post : List Item) (s : State) :
    Host.Outcome State Fault Refusal := itemRow t r pre 0x9 2 body post true s

/-- `PREFETCH_SCHEDULE_INSTALL` (R386). -/
def execPrefetchScheduleInstall (t : Nat) (r : RecEnv) (pre : List Item) (body : Bytes) (post : List Item) (s : State) :
    Host.Outcome State Fault Refusal := itemRow t r pre 0xa 1 body post true s

/-- `PREFETCH_SCHEDULE_REMOVE` (R386). -/
def execPrefetchScheduleRemove (t : Nat) (r : RecEnv) (pre : List Item) (body : Bytes) (post : List Item) (s : State) :
    Host.Outcome State Fault Refusal := itemRow t r pre 0xa 2 body post true s

/-- `CHANNEL_BINDING_INSTALL` (R420). -/
def execChannelBindingInstall (t : Nat) (r : RecEnv) (pre : List Item) (body : Bytes) (post : List Item) (s : State) :
    Host.Outcome State Fault Refusal := itemRow t r pre 0xb 1 body post true s

/-- `CHANNEL_BINDING_REMOVE` (R440). -/
def execChannelBindingRemove (t : Nat) (r : RecEnv) (pre : List Item) (body : Bytes) (post : List Item) (s : State) :
    Host.Outcome State Fault Refusal := itemRow t r pre 0xb 2 body post true s

/-- `PORT_SHARE_INSTALL` (R445). -/
def execPortShareInstall (t : Nat) (r : RecEnv) (pre : List Item) (body : Bytes) (post : List Item) (s : State) :
    Host.Outcome State Fault Refusal := itemRow t r pre 0xc 1 body post true s

/-- `PORT_SHARE_REMOVE` (R542). -/
def execPortShareRemove (t : Nat) (r : RecEnv) (pre : List Item) (body : Bytes) (post : List Item) (s : State) :
    Host.Outcome State Fault Refusal := itemRow t r pre 0xc 2 body post true s

/-- `PUBLISHED_RANGE_INSTALL` (R481). -/
def execPublishedRangeInstall (t : Nat) (r : RecEnv) (pre : List Item) (body : Bytes) (post : List Item) (s : State) :
    Host.Outcome State Fault Refusal := itemRow t r pre 0xd 1 body post true s

/-- `PUBLISHED_RANGE_REMOVE` (R542). -/
def execPublishedRangeRemove (t : Nat) (r : RecEnv) (pre : List Item) (body : Bytes) (post : List Item) (s : State) :
    Host.Outcome State Fault Refusal := itemRow t r pre 0xd 2 body post true s

/-- `FORWARDING_INSTALL` (R60). -/
def execForwardingInstall (t : Nat) (r : RecEnv) (pre : List Item) (body : Bytes) (post : List Item) (s : State) :
    Host.Outcome State Fault Refusal := itemRow t r pre 0xe 1 body post true s

/-- `FORWARDING_REMOVE` (R542). -/
def execForwardingRemove (t : Nat) (r : RecEnv) (pre : List Item) (body : Bytes) (post : List Item) (s : State) :
    Host.Outcome State Fault Refusal := itemRow t r pre 0xe 2 body post true s

/-- `SOURCE_RANGES_INSTALL` (R59). -/
def execSourceRangesInstall (t : Nat) (r : RecEnv) (pre : List Item) (body : Bytes) (post : List Item) (s : State) :
    Host.Outcome State Fault Refusal := itemRow t r pre 0xf 1 body post true s

/-- `SOURCE_RANGES_REMOVE` (R542). -/
def execSourceRangesRemove (t : Nat) (r : RecEnv) (pre : List Item) (body : Bytes) (post : List Item) (s : State) :
    Host.Outcome State Fault Refusal := itemRow t r pre 0xf 2 body post true s

/-- `CLUSTER_ITEM` (R233). -/
def execClusterItem (t : Nat) (r : RecEnv) (pre : List Item) (body : Bytes) (post : List Item) (s : State) :
    Host.Outcome State Fault Refusal := itemRow t r pre 0x10 1 body post true s

/-- `PARTITION_SETUP` (R450): not action 2. -/
def execPartitionSetup (t : Nat) (r : RecEnv) (pre : List Item) (body : Bytes) (post : List Item) (s : State) :
    Host.Outcome State Fault Refusal := itemRow t r pre 0x11 1 body post (leAt body 1 1 != 2) s

/-- `PARTITION_TEARDOWN` (R615): action 2. -/
def execPartitionTeardown (t : Nat) (r : RecEnv) (pre : List Item) (body : Bytes) (post : List Item) (s : State) :
    Host.Outcome State Fault Refusal := itemRow t r pre 0x11 1 body post (leAt body 1 1 == 2) s

/-- `PARTITION_RING_INSTALL` (R552). -/
def execPartitionRingInstall (t : Nat) (r : RecEnv) (pre : List Item) (body : Bytes) (post : List Item) (s : State) :
    Host.Outcome State Fault Refusal := itemRow t r pre 0x12 1 body post true s

/-- `PARTITION_RING_REMOVE` (R542). -/
def execPartitionRingRemove (t : Nat) (r : RecEnv) (pre : List Item) (body : Bytes) (post : List Item) (s : State) :
    Host.Outcome State Fault Refusal := itemRow t r pre 0x12 2 body post true s

/-- `NODE_AND_PAIR_INSTALL` (R601). -/
def execNodeAndPairInstall (t : Nat) (r : RecEnv) (pre : List Item) (body : Bytes) (post : List Item) (s : State) :
    Host.Outcome State Fault Refusal := itemRow t r pre 0x13 1 body post true s

/-- `JOURNAL_RESET` (R601): the reset-journal flag set. -/
def execJournalReset (t : Nat) (r : RecEnv) (pre : List Item) (body : Bytes) (post : List Item) (s : State) :
    Host.Outcome State Fault Refusal := itemRow t r pre 0x13 1 body post ((leAt body 4 1).testBit 4) s

/-- `STANDBY_ENTER` (R583): the standby flag set. -/
def execStandbyEnter (t : Nat) (r : RecEnv) (pre : List Item) (body : Bytes) (post : List Item) (s : State) :
    Host.Outcome State Fault Refusal := itemRow t r pre 0x13 1 body post ((leAt body 4 1).testBit 5) s

/-- `STANDBY_LEAVE` (R583): the standby flag clear. -/
def execStandbyLeave (t : Nat) (r : RecEnv) (pre : List Item) (body : Bytes) (post : List Item) (s : State) :
    Host.Outcome State Fault Refusal := itemRow t r pre 0x13 1 body post (!(leAt body 4 1).testBit 5) s

/-- `DEVICE_ADMIT` (R617): the admit flag set. -/
def execDeviceAdmit (t : Nat) (r : RecEnv) (pre : List Item) (body : Bytes) (post : List Item) (s : State) :
    Host.Outcome State Fault Refusal := itemRow t r pre 0x13 1 body post ((leAt body 4 1).testBit 3) s

/-- `WITNESS_SET_INSTALL` (R601). -/
def execWitnessSetInstall (t : Nat) (r : RecEnv) (pre : List Item) (body : Bytes) (post : List Item) (s : State) :
    Host.Outcome State Fault Refusal := itemRow t r pre 0x14 1 body post true s

/-- `COMPOSITION_EPOCH_ADVANCE` (R611). -/
def execCompositionEpochAdvance (t : Nat) (r : RecEnv) (items : List Item) (s : State) : Host.Outcome State Fault Refusal :=
  recordRow t r (r.recType == 0x0C01) (compositionBody r items) s

/-- `MAP_EPOCH_ADVANCE` (R612). -/
def execMapEpochAdvance (t : Nat) (r : RecEnv) (items : List Item) (s : State) : Host.Outcome State Fault Refusal :=
  recordRow t r (r.recType == 0x0C01) (compositionBody r items) s

/-- `REVOCATION` (R543). -/
def execRevocation (t : Nat) (r : RecEnv) (body : Bytes) (s : State) : Host.Outcome State Fault Refusal :=
  recordRow t r (r.recType == 0x0C02) body s

/-- `PUBLISH_WITNESS` (R603). -/
def execPublishWitness (t : Nat) (r : RecEnv) (body : Bytes) (s : State) : Host.Outcome State Fault Refusal :=
  recordRow t r (r.recType == 0x0C03) body s

/-- `CONSENT` (R467). -/
def execConsent (t : Nat) (r : RecEnv) (body : Bytes) (s : State) : Host.Outcome State Fault Refusal :=
  recordRow t r (r.recType == 0x0C51) body s

/-- `REPLAY_LOCK_ON` (R489): state not 2. -/
def execReplayLockOn (t : Nat) (r : RecEnv) (body : Bytes) (s : State) : Host.Outcome State Fault Refusal :=
  recordRow t r (r.recType == 0x0C52 && beAt body 3 1 != 2) body s

/-- `REPLAY_LOCK_OFF` (R490): state 2. -/
def execReplayLockOff (t : Nat) (r : RecEnv) (body : Bytes) (s : State) : Host.Outcome State Fault Refusal :=
  recordRow t r (r.recType == 0x0C52 && beAt body 3 1 == 2) body s

/-- `KEY_TRANSFER` (R544). -/
def execKeyTransfer (t : Nat) (r : RecEnv) (body : Bytes) (s : State) : Host.Outcome State Fault Refusal :=
  recordRow t r (r.recType == 0x0C60) body s

/-- `PAIR_ADMISSION_OFFER` (R618): step not 2. -/
def execPairAdmissionOffer (t : Nat) (r : RecEnv) (body : Bytes) (s : State) : Host.Outcome State Fault Refusal :=
  recordRow t r (r.recType == 0x0C61 && beAt body 2 1 != 2) body s

/-- `PAIR_ADMISSION_ANSWER` (R618): step 2. -/
def execPairAdmissionAnswer (t : Nat) (r : RecEnv) (body : Bytes) (s : State) : Host.Outcome State Fault Refusal :=
  recordRow t r (r.recType == 0x0C61 && beAt body 2 1 == 2) body s

/-- `OWNER_CERTIFICATE_FRAGMENT` (R544). -/
def execOwnerCertificateFragment (t : Nat) (r : RecEnv) (body : Bytes) (s : State) : Host.Outcome State Fault Refusal :=
  recordRow t r (r.recType == 0x0C70) body s

/-- `UNSUPPORTED_RECORD_TYPE` (R538): a type that R538 does not list as received. -/
def execUnsupportedRecordType (t : Nat) (r : RecEnv) (body : Bytes) (s : State) : Host.Outcome State Fault Refusal :=
  recordRow t r ((signerOf r.recType.toNat).isNone) body s

/-- `DEVICE_RESET` (R579). -/
def execDeviceReset (t : Nat) (r : RecEnv) (body : Bytes) (s : State) : Host.Outcome State Fault Refusal :=
  recordRow t r (r.recType == 0x0C80) body s

/-- `MCTP_SUBMIT_RECORD` (R548): the out-of-band path. -/
def execMctpSubmitRecord (t : Nat) (r : RecEnv) (body : Bytes) (s : State) : Host.Outcome State Fault Refusal :=
  recordRow t r (r.path == .i3c) body s

/-- `RECORD_QUEUE_ADVANCE` (R539). -/
def execRecordQueueAdvance (t : Nat) (s : State) : Host.Outcome State Fault Refusal := .next ((s.at t).standbyGo.recordGo.queueGo)

/-- `PUBLISH_WITNESS_DEFERRED` (R603). -/
def execPublishWitnessDeferred (t : Nat) (s : State) : Host.Outcome State Fault Refusal := .next (s.at t).witnessesGo

/-- `KEY_TRANSFER_TIMEOUT` (R450). -/
def execKeyTransferTimeout (t p : Nat) (s : State) : Host.Outcome State Fault Refusal :=
  if p < 16 then .next ((s.at t).keyTimeout p) else .fault .noSuchUnit

/-- `CONSENT_EXPIRY` (R468). -/
def execConsentExpiry (t p : Nat) (s : State) : Host.Outcome State Fault Refusal :=
  if p < 16 then .next ((s.at t).consentExpires p) else .fault .noSuchUnit

/-- `SCRUB_COMPLETE` (R460). -/
def execScrubComplete (t p : Nat) (s : State) : Host.Outcome State Fault Refusal :=
  if p < 16 then .next ((s.at t).scrubComplete p) else .fault .noSuchUnit

/-- `BATCH_CLOSE` (R496): the open batch's first leaf is `HOOP_BATCH_MS` old. -/
def execBatchClose (t p : Nat) (s : State) : Host.Outcome State Fault Refusal :=
  if p < 16 then
    let s := s.at t
    .next (match (s.part p).batch with
      | some b => if b.since + s.cfg.hoop.batchMs * ticksPerMs ≤ s.now then s.closeBatch p else s
      | none => s)
  else .fault .noSuchUnit

/-- `METER_CLOSE` (R555): `HOOP_METER_S` seconds have passed since the partition's record began. -/
def execMeterClose (t p : Nat) (s : State) : Host.Outcome State Fault Refusal :=
  if p < 16 then
    let s := s.at t
    .next (if nth (s.part p).meter 0 + 1000 * s.cfg.hoop.meterS ≤ s.uptimeUs / 1000 then s.closeMeter p else s)
  else .fault .noSuchUnit

/-- `ENTRY_SETTLE` (R83), and what waited for it: a drained primary, requests, teardowns, STANDBY. -/
def execEntrySettle (t : Nat) (n : BitVec 16) (st : BitVec 8) (s : State) : Host.Outcome State Fault Refusal :=
  .next (((s.at t).trySettle n st).drained.wake.teardownsGo.standbyGo)

/-- `RESPONSE_ACK` (R51). -/
def execResponseAck (t : Nat) (a : Arrival) (f : Frame) (s : State) : Host.Outcome State Fault Refusal :=
  if f.hdr.opcode = 0x80 then .next ((s.at t).frame a f State.onResponse).recordGo else .fault .notThisCommand

/-- `RESPONSE_NACK` (R658). -/
def execResponseNack (t : Nat) (a : Arrival) (f : Frame) (s : State) : Host.Outcome State Fault Refusal :=
  if f.hdr.opcode = 0x81 then .next ((s.at t).frame a f State.onResponse).recordGo else .fault .notThisCommand

end Sys2Proof.Machine
end

