-- ==== Sys2Proof/Machine/Image.lean ====
section
/-! DEFINITION. The configuration card and its images (R559 to R567), every IMG field with its place and range (R651), and the check of
retained record state against new settings (R574). -/

namespace Sys2Proof.Machine

/-! ## IMG fields (R563, R651) -/

/-- An IMG field, or one 64-bit part of a wider one: its place in its register, its range, and how the settings hold it. -/
structure Field where
  low : Nat
  width : Nat
  ok : Nat → Bool
  get : Settings → Nat
  set : Nat → Settings → Settings

/-- A range. -/
def span (lo hi v : Nat) : Bool := lo ≤ v && v ≤ hi
/-- No range but the field's width. -/
def anyValue (_ : Nat) : Bool := true

/-- A field of the crossbar settings. -/
def xbarField (low width : Nat) (ok : Nat → Bool) (get : XbarCfg → Nat) (set : Nat → XbarCfg → XbarCfg) : Field :=
  ⟨low, width, ok, fun c => get c.xbar, fun v c => { c with xbar := set v c.xbar }⟩
/-- A field of the scheduling settings. -/
def shpField (low width : Nat) (ok : Nat → Bool) (get : ShpCfg → Nat) (set : Nat → ShpCfg → ShpCfg) : Field :=
  ⟨low, width, ok, fun c => get c.shp, fun v c => { c with shp := set v c.shp }⟩
/-- A field of the unit settings. -/
def unitField (low width : Nat) (ok : Nat → Bool) (get : UnitCfg → Nat) (set : Nat → UnitCfg → UnitCfg) : Field :=
  ⟨low, width, ok, fun c => get c.unit, fun v c => { c with unit := set v c.unit }⟩
/-- A field of the tier settings. -/
def rimField (low width : Nat) (ok : Nat → Bool) (get : RimCfg → Nat) (set : Nat → RimCfg → RimCfg) : Field :=
  ⟨low, width, ok, fun c => get c.rim, fun v c => { c with rim := set v c.rim }⟩
/-- A field of the port settings. -/
def osrField (low width : Nat) (ok : Nat → Bool) (get : OsrCfg → Nat) (set : Nat → OsrCfg → OsrCfg) : Field :=
  ⟨low, width, ok, fun c => get c.osr, fun v c => { c with osr := set v c.osr }⟩
/-- A field of the Hoop and health settings. -/
def hoopField (low width : Nat) (ok : Nat → Bool) (get : HoopCfg → Nat) (set : Nat → HoopCfg → HoopCfg) : Field :=
  ⟨low, width, ok, fun c => get c.hoop, fun v c => { c with hoop := set v c.hoop }⟩

/-- The default deadline of a class and the least that R55 allows. -/
def deadlineRange (tc v : Nat) : Bool := span (if tc = 7 then 2 else 100) (nth ({} : XbarCfg).deadline tc) v

/-- The fields of the identity and Hoop block. -/
def hoopFields (o : Nat) : List Field :=
  match o with
  | 0x100 => [hoopField 0 2 (span 1 2) (·.pcieSplit) (fun v h => { h with pcieSplit := v }),
      hoopField 8 7 (span 8 0x77) (·.i3cAddr) (fun v h => { h with i3cAddr := v }),
      hoopField 16 10 (span 1 1000) (·.irqUs) (fun v h => { h with irqUs := v }),
      hoopField 26 12 (span 1 3600) (·.meterS) (fun v h => { h with meterS := v }),
      hoopField 38 14 (span 1 10000) (·.quiesceMs) (fun v h => { h with quiesceMs := v }),
      hoopField 52 10 (fun v => span 300 600 v && v % 8 == 0) (·.powerCap) (fun v h => { h with powerCap := v })]
  | 0x108 => [hoopField 0 16 anyValue (·.subsysVendor) (fun v h => { h with subsysVendor := v }),
      hoopField 16 16 anyValue (·.subsysDevice) (fun v h => { h with subsysDevice := v }),
      hoopField 32 7 (span 1 100) (·.batchMs) (fun v h => { h with batchMs := v }),
      hoopField 40 13 (span 64 4096) (·.batchLeaves) (fun v h => { h with batchLeaves := v })]
  | 0x110 => [unitField 0 32 (span 1 0xFFFFFFFF) (·.lotSeed) (fun v u => { u with lotSeed := v })]
  | _ => []

/-- The fields of the port block. -/
def portFields (o : Nat) : List Field :=
  let cells := fun (tc : Nat) => osrField (16 * (tc % 4)) 11 (span 32 1024) (fun r => nth r.classCells tc)
    (fun v r => { r with classCells := r.classCells.set tc v })
  if o = 0x201000 then [osrField 0 64 anyValue (·.portEnable) (fun v r => { r with portEnable := v })]
  else if 0x201100 ≤ o ∧ o < 0x201300 then
    let p := (o - 0x201100) / 8
    [osrField 0 3 (fun v => v == 1 || v == 2 || v == 4) (fun r => nth r.split p) (fun v r => { r with split := r.split.set p v }),
     osrField 4 2 anyValue (fun r => nth r.spareOwner p) (fun v r => { r with spareOwner := r.spareOwner.set p v })]
  else if o = 0x201300 then (List.range 4).map cells
  else if o = 0x201308 then (List.range 4).map (fun i => cells (4 + i))
  else if o = 0x201310 then
    [osrField 0 5 (span 2 16) (·.retryLimit) (fun v r => { r with retryLimit := v }),
     osrField 8 14 (span 100 10000) (·.downHoldUs) (fun v r => { r with downHoldUs := v }),
     osrField 24 8 (span 110 200) (·.laserEol) (fun v r => { r with laserEol := v })]
  else if o = 0x201318 then
    [osrField 0 32 (span 1000 1000000000) (·.weakMin) (fun v r => { r with weakMin := v }),
     osrField 32 32 (span 1000 1000000000) (·.weakMax) (fun v r => { r with weakMax := v })]
  else []

/-- The fields of the crossbar block. -/
def crossbarFields (o : Nat) : List Field :=
  if 0x400000 ≤ o ∧ o < 0x400040 then
    let c := (o - 0x400000) / 8
    [xbarField 0 24 anyValue (fun x => nth x.ageLimit c) (fun v x => { x with ageLimit := x.ageLimit.set c v }),
     xbarField 32 24 (deadlineRange c) (fun x => nth x.deadline c) (fun v x => { x with deadline := x.deadline.set c v })]
  else if o = 0x400040 then
    [xbarField 0 4 (span 8 15) (·.spillOn) (fun v x => { x with spillOn := v }),
     xbarField 4 4 (span 7 14) (·.spillOff) (fun v x => { x with spillOff := v }),
     xbarField 8 11 (span 32 1024) (·.spillHead) (fun v x => { x with spillHead := v }),
     xbarField 20 3 (span 1 4) (·.spillShare) (fun v x => { x with spillShare := v }),
     xbarField 32 12 (span 64 4095) (·.urgent) (fun v x => { x with urgent := v })]
  else if o = 0x400048 then
    [xbarField 0 8 anyValue (·.spillTickets.1) (fun v x => { x with spillTickets := (v, x.spillTickets.2) }),
     xbarField 8 8 anyValue (·.spillTickets.2) (fun v x => { x with spillTickets := (x.spillTickets.1, v) }),
     xbarField 16 10 (span 1 1023) (·.spillWait) (fun v x => { x with spillWait := v })]
  else []

/-- The fields of the scheduling block. -/
def schedulingFields (o : Nat) : List Field :=
  let quantum := fun (tc : Nat) => shpField (16 * (tc % 4)) 11 (span 1 1024) (fun r => nth r.classQuantum tc)
    (fun v r => { r with classQuantum := r.classQuantum.set tc v })
  let share := fun (l : Nat) => shpField (16 + 4 * l) 4 (span 1 8) (fun r => nth r.levelShare l)
    (fun v r => { r with levelShare := r.levelShare.set l v })
  if o = 0x600000 then (List.range 4).map quantum
  else if o = 0x600008 then (List.range 4).map (fun i => quantum (4 + i))
  else if o = 0x600010 then
    [shpField 0 11 (span 1 1024) (·.subportQuantum) (fun v r => { r with subportQuantum := v })] ++ (List.range 3).map share ++
    [shpField 32 7 (span 1 100) (·.adaptIntervalMs) (fun v r => { r with adaptIntervalMs := v }),
     shpField 48 14 (span 100 10000) (·.samplePeriodUs) (fun v r => { r with samplePeriodUs := v })]
  else if o = 0x600018 then [shpField 0 15 (span 256 16384) (·.admitCapacity) (fun v r => { r with admitCapacity := v })]
  else if 0x600100 ≤ o ∧ o < 0x600180 then
    let p := (o - 0x600100) / 8
    [shpField 0 15 (span 0 16384) (fun r => nth r.buckets p) (fun v r => { r with buckets := r.buckets.set p v }),
     shpField 16 15 (span 1 16384) (fun r => nth r.admitMin p) (fun v r => { r with admitMin := r.admitMin.set p v }),
     shpField 32 15 (span 1 16384) (fun r => nth r.admitMax p) (fun v r => { r with admitMax := r.admitMax.set p v }),
     shpField 48 10 (span 64 512) (fun r => nth r.strictFloor p) (fun v r => { r with strictFloor := r.strictFloor.set p v })]
  else if 0x601000 ≤ o ∧ o < 0x601800 then
    let p := (o - 0x601000) / 128
    let k := 64 * ((o - 0x601000) % 128 / 8)
    [shpField 0 64 anyValue (fun r => bits (nth r.calReserve p) k 64)
      (fun v r => { r with calReserve := r.calReserve.set p (nth r.calReserve p - bits (nth r.calReserve p) k 64 * 2 ^ k + v * 2 ^ k) })]
  else []

/-- The fields of the engine block. The two of `ENG_CLUSTER_INIT` are told together, by `clusterInits`. -/
def engineFields (o : Nat) : List Field :=
  if 0x800100 ≤ o ∧ o < 0x800200 then
    let c := (o - 0x800100) / 8
    let part := fun (u : UnitCfg) => u.clusterInit.getD c none
    [unitField 0 4 (span 1 14) (fun u => nth u.accMib c) (fun v u => { u with accMib := u.accMib.set c v }),
     unitField 8 4 anyValue (fun u => (part u).getD 0) (fun _ u => u),
     unitField 12 1 anyValue (fun u => if (part u).isSome then 1 else 0) (fun _ u => u)]
  else if o = 0x800200 then [unitField 0 10 (span 10 1000) (·.collSkewUs) (fun v u => { u with collSkewUs := v })]
  else if 0x800280 ≤ o ∧ o < 0x800300 then
    let p := (o - 0x800280) / 8
    [unitField 0 11 (span 0 1024) (fun u => nth u.collMax p) (fun v u => { u with collMax := u.collMax.set p v })]
  else []

/-- The fields of the tier block. -/
def tierFields (o : Nat) : List Field :=
  if o = 0xC00000 then (List.range 16).map (fun g =>
    rimField (2 * g) 2 (span 1 3) (fun r => nth r.groupMode g) (fun v r => { r with groupMode := r.groupMode.set g v }))
  else if o = 0xC00008 then
    [rimField 0 4 (span 0 8) (·.spillGib / 8) (fun v r => { r with spillGib := 8 * v }),
     rimField 8 7 (span 0 74) (·.ftcGib / 8) (fun v r => { r with ftcGib := 8 * v }),
     rimField 16 7 (span 1 64) (·.pfDepthMin) (fun v r => { r with pfDepthMin := v }),
     rimField 24 7 (span 1 64) (·.pfDepthMax) (fun v r => { r with pfDepthMax := v })]
  else if 0xC00010 ≤ o ∧ o < 0xC00030 then (List.range 4).map (fun j =>
    let p := 4 * ((o - 0xC00010) / 8) + j
    rimField (16 * j) 16 anyValue (fun r => nth r.ftcWays p) (fun v r => { r with ftcWays := r.ftcWays.set p v }))
  else if 0xC00100 ≤ o ∧ o < 0xC00180 then (List.range 3).map (fun t =>
    let p := (o - 0xC00100) / 8
    rimField (16 * t) 15 (span 1 16384) (fun r => nth (r.quotaMib.getD p []) t)
      (fun v r => { r with quotaMib := r.quotaMib.modify p (fun l => l.set t v) }))
  else if 0xC00200 ≤ o ∧ o < 0xC00218 then
    let q := 8 * ((o - 0xC00200) / 8)
    (List.range (min 8 (19 - q))).map (fun m =>
      unitField (8 * m) 8 anyValue (fun u => nth u.lotTickets (q + m)) (fun v u => { u with lotTickets := u.lotTickets.set (q + m) v }))
  else if 0xC00220 ≤ o ∧ o < 0xC00240 then
    let q := 6 * ((o - 0xC00220) / 8)
    (List.range (min 6 (19 - q))).map (fun m =>
      unitField (10 * m) 10 (span 1 1023) (fun u => nth u.lotWait (q + m)) (fun v u => { u with lotWait := u.lotWait.set (q + m) v }))
  else []

/-- The fields of the mover, partition and health blocks. -/
def otherFields (o : Nat) : List Field :=
  if o = 0xE00800 then
    [unitField 0 3 anyValue (·.movRetry) (fun v u => { u with movRetry := v }),
     unitField 4 4 (span 4 15) (·.paceHigh) (fun v u => { u with paceHigh := v }),
     unitField 8 4 (span 1 12) (·.paceLow) (fun v u => { u with paceLow := v }),
     unitField 16 10 (span 1 1023) (·.movLotWait) (fun v u => { u with movLotWait := v })]
  else if 0x1000000 ≤ o ∧ o < 0x1000080 then
    let p := (o - 0x1000000) / 8
    [unitField 2 1 anyValue (fun u => if u.strict.getD p false then 1 else 0) (fun v u => { u with strict := u.strict.set p (v == 1) })]
  else if o = 0x1000100 then
    [unitField 0 9 (span 10 400) (·.scrubRate) (fun v u => { u with scrubRate := v }),
     unitField 32 27 (span 1 86400000) (·.consentMaxMs) (fun v u => { u with consentMaxMs := v })]
  else if 0x1000400 ≤ o ∧ o < 0x1000480 then
    let p := (o - 0x1000400) / 8
    [unitField 0 17 (span 0 65536) (fun u => nth u.runShare p) (fun v u => { u with runShare := u.runShare.set p v })]
  else if o = 0x1200500 then
    [hoopField 0 14 (span 10 10000) (·.fenceMs) (fun v h => { h with fenceMs := v }),
     hoopField 16 5 (span 0 16) (·.expelBudget) (fun v h => { h with expelBudget := v }),
     hoopField 32 17 (span 1 86400) (·.expelWindowS) (fun v h => { h with expelWindowS := v })]
  else if o = 0x1200508 then [hoopField 0 32 anyValue (·.spareClusters) (fun v h => { h with spareClusters := v })]
  else if 0x1200510 ≤ o ∧ o < 0x1200538 then
    let k := (o - 0x1200510) / 8
    [hoopField 0 16 (span 64 65535) (fun h => nth h.expelMin k) (fun v h => { h with expelMin := h.expelMin.set k v }),
     hoopField 16 16 (span 64 65535) (fun h => nth h.expelMax k) (fun v h => { h with expelMax := h.expelMax.set k v })]
  else []

/-- The IMG fields of the register at a BAR0 offset that is a multiple of 8 (R651). -/
def fieldsAt (o : Nat) : List Field :=
  if o % 8 ≠ 0 then []
  else hoopFields o ++ portFields o ++ crossbarFields o ++ schedulingFields o ++ engineFields o ++ tierFields o ++ otherFields o

/-! ## The settings section (R563) -/

/-- An entry of the settings section. -/
structure SEntry where
  off : Nat
  low : Nat
  width : Nat
  value : Nat
  deriving DecidableEq, Repr

/-- The entry of 16 bytes; none where its reserved bytes or its value break R563. -/
def sEntry (b : Bytes) : Option SEntry :=
  let e : SEntry := { off := leAt b 0 4, low := leAt b 4 1, width := leAt b 5 1, value := leAt b 8 8 }
  if b.length = 16 ∧ isZero b 6 2 ∧ 1 ≤ e.width ∧ e.width ≤ 64 ∧ e.value < 2 ^ e.width then some e else none

/-- One entry applied: it names a whole field, with a value in its range. -/
def applyEntry (e : SEntry) (c : Settings) : Option Settings :=
  match (fieldsAt e.off).find? (fun f => f.low = e.low && f.width = e.width) with
  | some f => if f.ok e.value then some (f.set e.value c) else none
  | none => none

/-- Entries in ascending order of offset and then of low bit, each applied. -/
def applyEntries : Option (Nat × Nat) → List SEntry → Settings → Option Settings
  | _, [], c => some c
  | last, e :: es, c =>
    let after := match last with | none => true | some (o, l) => o < e.off || (o == e.off && l < e.low)
    if after then (applyEntry e c).bind (applyEntries (some (e.off, e.low)) es) else none

/-- The value that the entries give a field. -/
def named (es : List SEntry) (o l : Nat) : Option Nat := (es.find? (fun e => e.off = o && e.low = l)).map (·.value)

/-- The assignments at boot that the entries give (R245): the partition, and the bit that assigns. -/
def clusterInits (es : List SEntry) : List (Option Nat) :=
  (List.range 32).map (fun c => if named es (0x800100 + 8 * c) 12 = some 1 then some ((named es (0x800100 + 8 * c) 8).getD 0) else none)

/-- The ageing limits (R170): an unnamed one keeps its class's ratio to the deadline in effect. -/
def ageLimits (es : List SEntry) (c : Settings) : List Nat :=
  (List.range 8).map (fun tc =>
    let d := nth c.xbar.deadline tc
    (named es (0x400000 + 8 * tc) 0).getD (min 0xFFFFFE (if tc = 0 then cdiv (8 * d) 5 else 2 * d)))

/-- The set bits of a bitmap of `n` bits. -/
def popCount (n m : Nat) : Nat := ((List.range n).filter m.testBit).length

/-- No two masks of a list share a bit. -/
def masksDisjoint : List Nat → Bool
  | [] => true
  | m :: ms => ms.all (fun x => m &&& x == 0) && masksDisjoint ms

/-- The ranges that several fields share. -/
def Settings.rangesOk (c : Settings) (es : List SEntry) : Bool :=
  let cal := fun (p : Nat) => (es.filter (fun e => 0x601000 + 128 * p ≤ e.off && e.off < 0x601080 + 128 * p)).length
  let modes := c.rim.groupMode
  (List.range 8).all (fun tc =>
      let d := nth c.xbar.deadline tc
      let a := nth c.xbar.ageLimit tc
      a ≤ 0xFFFFFE && ((named es (0x400000 + 8 * tc) 0).isNone || (5 * d ≤ 4 * a && a ≤ 4 * d))) &&
    c.xbar.spillOff + 1 ≤ c.xbar.spillOn && c.shp.levelShare.sum ≤ 15 && c.shp.buckets.sum ≤ 16384 &&
    c.shp.admitMax.sum ≤ c.shp.admitCapacity && (List.range 16).all (fun p => nth c.shp.admitMin p ≤ nth c.shp.admitMax p) &&
    (List.range 16).all (fun p =>
      (cal p == 0 && !c.unit.strict.getD p false) || (cal p == 16 && span 16 512 (popCount 1024 (nth c.shp.calReserve p)))) &&
    c.unit.collMax.sum ≤ 1024 && c.unit.runShare.sum ≤ 65536 && c.unit.paceLow + 1 ≤ c.unit.paceHigh && c.unit.lotSeed ≠ 0 &&
    (List.range 8).all (fun r => (nth modes (2 * r) == 3) == (nth modes (2 * r + 1) == 3)) && masksDisjoint c.rim.ftcWays &&
    c.rim.pfDepthMin ≤ c.rim.pfDepthMax && (List.range 64).all (fun p => nth c.osr.spareOwner p < nth c.osr.split p) &&
    c.osr.classCells.sum ≤ 2048 && c.osr.weakMin ≤ c.osr.weakMax &&
    (List.range 32).all (fun k => !(c.hoop.spareClusters.testBit k && (c.unit.clusterInit.getD k none).isSome)) &&
    (List.range 5).all (fun k => nth c.hoop.expelMin k ≤ nth c.hoop.expelMax k)

/-- The settings that entries give; none where an entry or a value fails. -/
def settingsOf (es : List SEntry) : Option Settings :=
  (applyEntries none es {}).bind (fun c =>
    let c := { c with unit := { c.unit with clusterInit := clusterInits es }, xbar := { c.xbar with ageLimit := ageLimits es c } }
    if c.rangesOk es then some c else none)

/-- The settings of a section; none where it breaks R563 (cause SETTINGS). -/
def parseSettings (b : Bytes) : Option Settings :=
  let es := (chunks 16 b).map sEntry
  if es.all Option.isSome then settingsOf (es.filterMap id) else none

/-! ## The image (R560 to R562) -/

/-- A row of the section table. -/
structure Section where
  type : Nat
  kind : Nat
  off : Nat
  len : Nat
  reserved : Nat
  deriving DecidableEq, Repr

/-- The rows of an image's section table. -/
def sectionsOf (b : Bytes) : List Section :=
  (List.range (leAt b 6 2)).map (fun i =>
    let o := 128 + 16 * i
    { type := leAt b o 2, kind := leAt b (o + 2) 2, off := leAt b (o + 4) 4, len := leAt b (o + 8) 4, reserved := leAt b (o + 12) 4 })

/-- The bytes of a section. -/
def Section.bytes (x : Section) (b : Bytes) : Bytes := slice b x.off x.len

/-- Sections follow the table in table order, without overlap, up to the signature block. -/
def sectionsFit (limit : Nat) : Nat → List Section → Bool
  | pos, [] => pos ≤ limit
  | pos, x :: xs => pos ≤ x.off && x.off % 64 == 0 && sectionsFit limit (x.off + x.len) xs

/-- A section's own row is well formed: its type, its die kind, its reserved bytes, and a content where its type needs one. -/
def Section.ok (x : Section) : Bool :=
  x.reserved == 0 && (if x.type = 3 then span 1 4 x.kind else x.kind == 0) &&
    (match x.type with
     | 0x01 | 0x02 | 0x03 => 0 < x.len
     | 0x10 => true
     | 0x20 => x.len == 32
     | _ => false)

/-- The sections required are there once each (R562). -/
def sectionCounts (xs : List Section) : Bool :=
  let n := fun (t k : Nat) => (xs.filter (fun x => x.type = t ∧ x.kind = k)).length
  n 1 0 == 1 && n 2 0 == 1 && [1, 2, 3, 4].all (fun k => n 3 k == 1) && n 0x10 0 == 1 && n 0x20 0 ≤ 1

/-- The section of a type. -/
def sectionOf (b : Bytes) (t : Nat) : Option Bytes := ((sectionsOf b).find? (fun x => x.type = t)).map (·.bytes b)

/-- The header and the section table hold (R561, R562); byte 5 copies the setting. -/
def headerOk (b : Bytes) : Bool :=
  let n := leAt b 6 2
  let xs := sectionsOf b
  let split := ((chunks 16 ((sectionOf b 0x10).getD [])).find? (fun e => leAt e 0 4 = 0x100 ∧ leAt e 4 1 = 0)).map (fun e => leAt e 8 8)
  320 ≤ b.length && leAt b 0 4 == 0x06401A9E && leAt b 4 1 == 1 && span 7 64 n && leAt b 8 4 == b.length && leAt b 16 4 ≤ leAt b 12 4 &&
    leAt b 24 4 ≤ leAt b 20 4 && isZero b 28 4 && isZero b 64 64 && (isZero b 32 32 || slice b 32 32 == deviceId) &&
    128 + 16 * n + 192 ≤ b.length && xs.all Section.ok && sectionCounts xs && sectionsFit (b.length - 192) (128 + 16 * n) xs &&
    leAt b 5 1 == split.getD 1

/-- The vendor digest (R564). -/
def vendorDigest (b : Bytes) : Bytes :=
  sha512 (slice b 12 8 ++ ((sectionsOf b).filter (fun x => x.type ≤ 3)).flatMap (·.bytes b))

/-- The image digest (R564). -/
def imageDigest (b : Bytes) : Bytes := sha512 (b.take (b.length - 192))

/-- The vendor signature verifies under the key that mask ROM knows (R564, R565). -/
def vendorSigned (b : Bytes) : Bool :=
  let n := b.length - 192
  let key := slice b n 32
  sha512 key == Config.vendorKeyHash && isZero b (n + 32) 32 && edVerify key (vendorDigest b) (slice b (n + 64) 64)

/-- The owner key that the image's owner signature must verify under (R565). -/
def State.ownerKeyFor (s : State) (b : Bytes) : Option Bytes := s.mram.ownerKey.orElse (fun _ => sectionOf b 0x20)

/-- The owner signature verifies (R565). -/
def State.ownerSigned (s : State) (b : Bytes) : Bool :=
  match s.ownerKeyFor b with
  | some key => edVerify key (sha512 (b.take (b.length - 64))) (b.drop (b.length - 64))
  | none => false

/-! ## Retained record state against new settings (R574) -/

/-- The near-tier ranges that installed entries name. -/
def State.installedNear (s : State) : List (Nat × Nat) :=
  let t := s.tabs
  (t.access.filter (fun e => e.tier ≠ 3)).map (fun e => (e.base, e.length)) ++ t.mirrored.map (fun m => (m.base, m.length)) ++
    t.sumac.map (fun x => (x.base, x.length)) ++ t.published.flatMap Published.ranges ++
    t.schedules.flatMap (fun x => (x.doorbell, 8) :: (x.entries.filter (fun e => e.kind = 2)).map (fun e => (e.dest, e.length))) ++
    t.bindings.flatMap (fun b => [(b.ring, 64 * 2 ^ b.log2), (b.doorbell, 8), (b.completion, 32 * 2 ^ b.log2)]) ++
    t.rings.flatMap (fun r => [(r.base, 64 * 2 ^ r.log2), (r.producerWord, 8)]) ++
    s.parts.flatMap (fun p => match p.lock with | some l => [(l.base, 128 * l.size), (l.consumer, 16)] | none => [])

/-- The mode of a die group changes while an installed entry lies in its bands. -/
def State.groupConflict (s : State) (c : Settings) : Bool :=
  (List.range 16).any (fun g =>
    nth c.rim.groupMode g ≠ nth s.mram.settings.rim.groupMode g &&
      s.installedNear.any (fun r => overlaps r.1 r.2 (g * 48 * gib) (48 * gib)))

/-- Some installed entry would be refused by its record's checks, the others standing. -/
def State.entryConflict (s : State) : Bool :=
  let t := s.tabs
  let bad := fun (without : State) (check : State → Option Status) => (check without).isSome
  t.runs.any (fun r => !r.removing && bad (s.modTabs (fun t => { t with runs := t.runs.erase r })) (·.checkRun r)) ||
  t.access.any (fun e => !e.revoking && bad (s.modTabs (fun t => { t with access := t.access.erase e })) (·.checkAccess e)) ||
  t.sumac.any (fun x => bad (s.modTabs (fun t => { t with sumac := t.sumac.erase x })) (·.checkSumac x)) ||
  t.mirrored.any (fun m => bad (s.modTabs (fun t => { t with mirrored := t.mirrored.erase m })) (·.checkMirrored m)) ||
  t.extents.any (fun e => bad (s.modTabs (fun t => { t with extents := t.extents.erase e })) (·.checkExtent e)) ||
  t.schedules.any (fun x => bad s (·.checkSchedule x)) ||
  t.bindings.any (fun b => bad (s.modTabs (fun t => { t with bindings := t.bindings.erase b })) (·.checkBinding b)) ||
  t.published.any (fun p => bad (s.modTabs (fun t => { t with published := t.published.erase p })) (·.checkPublished p)) ||
  t.rings.any (fun r => bad s (·.checkRing r)) ||
  s.parts.any (fun p => match p.lock with
    | some l => !(s.lockRange l.base (128 * l.size) && s.lockRange l.consumer 16)
    | none => false)

/-- The strict partitions' calendars overlap (R194). -/
def Settings.calendarsClash (c : Settings) : Bool :=
  !masksDisjoint (((List.range 16).filter (fun p => c.unit.strict.getD p false)).map (nth c.shp.calReserve))

/-- Retained record state breaks the new settings (cause RECORD_CONFLICT). -/
def State.conflicts (s : State) (c : Settings) : Bool :=
  c.calendarsClash || s.groupConflict c || { s with cfg := c }.entryConflict

/-! ## Loading a slot (R560, R567) -/

/-- The directory is readable (R567, NO_CARD). -/
def directoryOk (d : Card) : Bool :=
  let b := d.bytes
  d.present && 28 ≤ b.length && leAt b 0 4 == 0x0640DC01 && leAt b 4 1 == 1 && leAt b 24 4 == (crc32c (b.take 24)).toNat

/-- The slots that are tried: the preferred one first, none of length zero. -/
def slotsOf (b : Bytes) : List Nat :=
  let first := leAt b 5 1 % 2
  [first, 1 - first].filter (fun k => leAt b (12 + 8 * k) 4 ≠ 0)

/-- A slot's bytes; none where the directory or the slot breaks R560. -/
def slotBytes (d : Card) (k : Nat) : Option Bytes :=
  let b := d.bytes
  let off := leAt b (8 + 8 * k) 4
  let len := leAt b (12 + 8 * k) 4
  if leAt b 5 1 < 2 ∧ isZero b 6 2 ∧ off % 4096 = 0 ∧ len ≤ 120 * 1048576 ∧ off + len ≤ b.length then some (slice b off len) else none

/-- Steps 3 to 5 of R568 on one slot: the image, or the first cause that fails it, in the order of R567. -/
def State.loadSlot (s : State) (d : Card) (k : Nat) : Except Nat (Bytes × Settings) :=
  match slotBytes d k with
  | none => .error 3
  | some b =>
    if !headerOk b then .error 3
    else if !vendorSigned b then .error 4
    else if !s.ownerSigned b then .error 5
    else if leAt b 12 4 < s.mram.vendorCounter || leAt b 20 4 < s.mram.ownerCounter then .error 6
    else match parseSettings ((sectionOf b 0x10).getD []) with
      | none => .error 7
      | some c => if s.conflicts c then .error 8 else .ok (b, c)

end Sys2Proof.Machine
end

