-- ==== Sys2Proof/Machine/Start.lean ====
section
/-! DEFINITION. Resets and starts (R568 to R581, R638): what each reset leaves, the steps of a start, the boot seal, recovery, and the
last step of an orderly device reset (R579). -/

namespace Sys2Proof.Machine

/-! ## What a reset of every die leaves (R573, R581) -/

/-- A record that has taken effect is consumed, though its acknowledgement is lost with the reset. -/
def State.consumeRunning (s : State) : State :=
  match s.hoop.running with
  | some (q, ws) => if ws.contains .apply then s else s.rememberRecord q.signer q.number (sha512 q.bytes) .ok
  | none => s

/-- Clusters that were leaving have left: their new assignment stands in MRAM. -/
def State.finishLeaves (s : State) : State :=
  s.each s.tabs.leaving (fun s l =>
    let acc := l.2.2.getD (s.cluster l.1).accMib
    { s with mram := { s.mram with
        clusters := s.mram.clusters.filter (fun (m : Nat × Option Nat × Nat) => m.1 ≠ l.1) ++ [(l.1, l.2.1, acc)] } })

/-- The leaf index that a partition resumes at (R576): one past the last leaf whose work was accepted. -/
def State.acceptedLeaves (s : State) (p : Nat) : Nat :=
  match (s.part p).batch with
  | none => (s.part p).leafIndex
  | some b =>
    let unaccepted := fun (l : Bytes) => s.jrn.reqs.any (fun r => r.part = p && !(r.applied && r.mirrored) &&
      beAt l 8 2 == r.hdr.src.toNat && beAt l 10 1 == r.hdr.stream.toNat && beAt l 12 4 == r.hdr.seq.toNat)
    b.first + (b.leaves.reverse.dropWhile unaccepted).length

/-- What a partition keeps. -/
def Partition.restart (q : Partition) (lost : Bool) (leaf : Nat) : Partition :=
  { state := q.state, keyId := q.keyId, key := q.key, awaiting := q.awaiting, tenantKey := q.tenantKey, primary := q.primary
    lock := q.lock, consents := q.consents, nonces := q.nonces, scrub := q.scrub, leafIndex := leaf, signedIndex := q.signedIndex
    batchNumber := q.batchNumber, prevBatch := q.prevBatch, logTail := if lost then 0 else q.logTail, window := q.window
    pfDepth := q.pfDepth }

/-- A schedule as it stands at its installation (R386). -/
def Schedule.restart (x : Schedule) : Schedule :=
  { x with cur := x.start, issuedTo := x.start, instances := [], ended := false, quietSteps := 0, hungry := false, lastAdapt := none }

/-- A published range keeps its current version. -/
def Published.restart (p : Published) : Published :=
  { p with pending := none, pendingVersion := 0, waiting := false, stagingOpen := true, flushed := false, winner := none }

/-- The record state without what was being removed. -/
def State.restartTables (s : State) : Tables :=
  let t := s.tabs
  let access := (t.access.filter (fun e => !e.revoking)).map (fun (e : AccessEntry) => { e with accepted := 0, drained := 0 })
  { t with
    grace := none, access := access, contexts := t.contexts.filter (fun c => !c.removing), runs := t.runs.filter (fun r => !r.removing)
    subs := t.subs.filter (fun x => !x.leaving), services := t.services.filter (fun x => !x.leaving)
    schedules := t.schedules.map Schedule.restart, published := t.published.map Published.restart
    bindings := t.bindings.filter (fun b => !(s.chan b.chan).unbinding), leaving := [] }

/-- A bound channel: as newly bound where memory is lost, else halted with cause RESET at its last completion record (R440). -/
def State.restartChannels (s : State) (lost : Bool) : List Channel :=
  (List.range 128).map (fun ch =>
    let c := s.chan ch
    if (s.bindingOf ch).isNone || c.unbinding then {}
    else if lost then { state := 1 }
    else { state := 3, cause := 6, halted := true, consumer := c.consumer })

/-- A writer: STALE where R95 says so, empty after a cold power-on on a CLEAN anchor (R577). -/
def Writer.restart (w : Writer) (cold lost : Bool) : Writer :=
  let st := if cold && w.anchor.state == .running then AnchorState.stale else w.anchor.state
  let a := { w.anchor with state := st }
  if lost then { anchor := a, head := a.head, journal := if st = .stale then .stale else .empty }
  else { w with anchor := a, high := false, ringHigh := false, tail := [], lastMarkAt := 0, lastMirrorAt := 0
                journal := if st = .stale then .stale else w.journal }

/-- Stream records: a sequence that was opened and has no entry is open no more. -/
def restartStreams (l : List StreamRec) : List StreamRec := l.map (fun (r : StreamRec) => { r with next := r.hwm + 1 })

/-- Every die but the Hoop is reset, or has lost its power (R581, R635): `cold` for a cold power-on, `lost` where the stacks lose
their contents. -/
def State.dropDies (s : State) (cold lost : Bool) : State :=
  let s := (s.each (List.range 16) State.scrubResume).finishLeaves
  let ws := s.jrn.writers.map (fun (w : Writer) => w.restart cold lost)
  let h := s.hlt
  { s with
    tabs := s.restartTables
    jrn := { writers := ws, streams := if lost then [] else restartStreams s.jrn.streams
             shadowStreams := if lost then [] else s.jrn.shadowStreams, nextReq := s.jrn.nextReq, devSeq := s.jrn.devSeq
             handOvers := if lost then [] else s.jrn.handOvers }
    mem := { near := if lost then [] else s.mem.near }
    warp := { wire := s.warp.wire }
    arbs := List.replicate 67 {}, links := [], waves := [], eng := {}, chans := s.restartChannels lost
    parts := s.parts.mapIdx (fun p (q : Partition) => q.restart lost (s.acceptedLeaves p))
    hlt := { fenceEpoch := s.tabs.compEpoch, scores := h.scores, states := h.states, thresholds := h.thresholds, suspects := h.suspects
             expulsions := h.expulsions, lastCandidate := List.replicate 5 s.now, expelledDevice := h.expelledDevice }
    ctrs := [] }

/-- What the Hoop die keeps through a reset; the PCIe links and their configuration only through a device reset. -/
def Hoop.restart (h : Hoop) (now cause : Nat) (cold : Bool) (ph : Phase) : Hoop :=
  { phase := ph, startedAt := now, lastReset := cause, cold := cold, weakSym := h.weakSym, irqs := h.irqs
    pcieUp := if cause = 3 then h.pcieUp else [false, false], aer := if cause = 3 then h.aer else [0, 0] }

/-- The device is reset and begins a start (R578): 1 cold power-on, 2 PERST, 3 device reset, 4 Hoop restart. -/
def State.resetAll (s : State) (cause : Nat) (cold lost : Bool) (ph : Phase) : State :=
  let s := s.consumeRunning.dropDies cold lost
  { s with cfg := {}, hoop := s.hoop.restart s.now cause cold ph }

/-! ## The boot seal (R568 steps 7 to 9, R570, R572, R575, R577) -/

/-- The nearer bound of a value outside its bounds. -/
def clampTo (lo hi v : Nat) : Nat := min hi (max lo v)

/-- The ADAPT values within the new bounds; a device that has never been sealed takes the Reset column's (R575). -/
def State.restoreAdapt (s : State) (first : Bool) : State :=
  let c := s.cfg
  let ps := s.parts.mapIdx (fun p (q : Partition) =>
    let hi := nth c.shp.admitMax p * 1048576
    { q with window := if first then hi else clampTo (nth c.shp.admitMin p * 1048576) hi q.window
             pfDepth := if first then c.rim.pfDepthMin else clampTo c.rim.pfDepthMin c.rim.pfDepthMax q.pfDepth })
  let ts := s.hlt.thresholds.mapIdx (fun k v =>
    if first then nth c.hoop.expelMin k else clampTo (nth c.hoop.expelMin k) (nth c.hoop.expelMax k) v)
  let ws := if first then [] else s.hoop.weakSym.map (fun (x : Nat × Nat) => (x.1, clampTo c.osr.weakMin c.osr.weakMax x.2))
  let s := { s with parts := ps }
  (s.modHlt (fun h => { h with thresholds := ts })).modHoop (fun h => { h with weakSym := ws })

/-- At a cold power-on an expelled part that passes the start tests returns to service with a score of zero (R597). -/
def State.startTests (s : State) (failed : List Nat) : State :=
  if !s.hoop.cold then s
  else
    let back := (s.hlt.states.filter (fun x => x.2 == .expelled && !failed.contains x.1)).map (·.1)
    let s := s.each back (fun s p => (s.setPart p .inService).modHlt (fun h => { h with scores := del p h.scores }))
    s.modHlt (fun h => { h with expelledDevice := h.expelledDevice && failed.contains 104 })

/-- A cluster is given its partition at the start. -/
def State.startCluster (s : State) (c : Nat) (part : Option Nat) (acc : Nat) : State :=
  s.modCluster c (fun _ => { part := part.getD 0, assigned := part.isSome, gated := part.isNone, accMib := acc })

/-- Clusters at the start (R575, R596): the assignments that records last set, where the image is unchanged, else the image's; a
spare takes the place of a cluster that is expelled, and the spares that serve no partition are held. -/
def State.startClusters (s : State) : State :=
  let s := s.each (List.range 32) (fun s c =>
    match s.mram.clusters.find? (fun m => m.1 = c) with
    | some (_, p, acc) => s.startCluster c p acc
    | none => s.startCluster c (s.cfg.unit.clusterInit.getD c none) (nth s.cfg.unit.accMib c))
  let lost := (List.range 32).filter (fun c => (s.cluster c).assigned && s.partState c == .expelled)
  let s := s.each lost (fun s c =>
    let x := s.cluster c
    let s := s.startCluster c none x.accMib
    let note := fun (s : State) (k : Nat) (p : Option Nat) =>
      { s with mram := { s.mram with clusters := s.mram.clusters.filter (fun (m : Nat × Option Nat × Nat) => m.1 ≠ k) ++ [(k, p, x.accMib)] } }
    let s := note s c none
    match s.spareCluster with
    | some k => note (s.startCluster k (some x.part) x.accMib) k (some x.part)
    | none => s)
  let s := s.modHlt (fun h => { h with states := h.states.filter (fun x => x.2 != .spare) })
  let held := (List.range 32).filter (fun c => s.cfg.hoop.spareClusters.testBit c && !(s.cluster c).assigned && s.partState c == .inService)
  (s.each held (fun s c => s.setPart c .spare)).modEng (fun e => { e with lastRun := s.now })

/-- The arbiters are seeded (R208). -/
def State.seedArbiters (s : State) (l : List Nat) : State :=
  s.each l (fun s a => s.modArb a (fun x => { queue := x.queue, lfsr := rotl32 s.cfg.unit.lotSeed (a % 32) }))

/-- Partition keys enter the Rim key slots, and a spill key is drawn (R568 step 7). -/
def State.loadKeys (s : State) : State :=
  let ps := s.parts.map (fun (q : Partition) => { q with keyPresent := q.key.isSome })
  let (d, s) := { s with parts := ps }.draw
  s.modHoop (fun h => { h with spillKey := Config.randomBytes d 64 })

/-- The services take their buckets anew (R189). -/
def State.startServices (s : State) : State :=
  let l := s.tabs.services
  (s.modTabs (fun t => { t with services := [] })).each l (fun s (x : Service) =>
    s.addService { x with shaping := if x.asked then 1 else x.shaping, bucket := false })

/-- A RECORDED entry whose write to a tray is still to come. -/
def stillToLand (tail : List JEntry) (e : JEntry) : Bool :=
  tail.contains e && e.state == .recorded && isAtomic e.opcode.toNat && inFar e.offset.toNat 4 && !superseded tail e

/-- The scan of a writer that keeps its journal (R98, R577): the entries above its last MARK form a restart tail, the stream
records advance over it, its RECORDED entries are completed, and every other entry counts as applied. -/
def State.restartTail (s : State) (w : Nat) : State :=
  let x := s.writer w
  if s.tabs.paired || x.lost then s
  else
    let tail := x.ring.filter (fun e => e.state != .mark && (match x.lastMark with | some m => m < e.index | none => true))
    let s := s.modWriter w (fun x =>
      let l := x.ring.map (fun (e : JEntry) => { e with done := !stillToLand tail e, mirrored := true })
      { x with tail := tail, ring := l })
    (s.each tail (fun s e => s.modStream e.src e.stream (·.follow e))).completeTail 0 w

/-- The boot seal. -/
def State.seal (s : State) (l : Loaded) : State :=
  let b := l.image
  let d := imageDigest b
  let first := s.mram.imageDigest == zeros 64
  let key := (sectionOf b 0x20).orElse (fun _ => s.mram.ownerKey)
  let changed := s.mram.ownerKey.isSome && key != s.mram.ownerKey
  let m := { s.mram with
    ownerKey := key, vendorCounter := max s.mram.vendorCounter (leAt b 16 4), ownerCounter := max s.mram.ownerCounter (leAt b 24 4)
    high := if changed then s.mram.high.set 0 0 else s.mram.high
    history := if changed then s.mram.history.filter (fun e => e.1 ≠ 1) else s.mram.history
    imageDigest := d, slot := l.slot, settings := l.settings, clusters := if d = s.mram.imageDigest then s.mram.clusters else [] }
  let s := { s with cfg := l.settings, mram := m }
  let s := ((s.restoreAdapt first).startTests l.cond.failedParts).startClusters
  let s := (s.seedArbiters (List.range 67)).loadKeys.startServices
  let fallback : Bool := s.hoop.cause != 0
  let s := s.modHoop (fun h => { h with
    phase := .sealed, loaded := none, sealMs := (s.now - h.startedAt) / ticksPerMs, fallback := fallback, cloveIndex := 0
    chains := List.replicate 3 (zeros 64, 0), window := s.windowNow
    measured := [sha512 ((sectionOf b 1).getD [] ++ (sectionOf b 2).getD []), d,
      sha512 (slice b (b.length - 192) 32) ++ sha512 (key.getD [])] })
  let s := s.modHlt (fun h => { h with fence := if h.expelledDevice then 4 else 1, fenceEpoch := s.tabs.compEpoch })
  let s := (s.restartTail 0).restartTail 1
  let s := s.each [0, 1] (fun s w => if (s.writer w).lost then s else s.updateAnchor w)
  let s := s.each s.tabs.published (fun s p => s.nearWrite p.word (natLe 8 p.current))
  let s := s.lightPorts
  let s := (s.each (List.range 16) (fun s p => State.scrubPump p 256 s)).teardownsGo
  if fallback then s.event 0x1401 toBoth none none (.resource 14 0 [s.hoop.cause]) else s

/-! ## The steps of a start (R568, R569, R571) -/

/-- The device enters recovery (R571): the settings are not loaded, and retained state stands. -/
def State.recover (s : State) (cause : Nat) : State :=
  s.modHoop (fun h => { h with phase := .recovery, loaded := none, cause := cause
                               pcieUp := if h.pcieUp.any id then h.pcieUp else [true, false] })

/-- Steps 6 to 9 on an image: wait for `VIN12`, then for a reference, then seal; none where a die fails. -/
def State.stepSix (s : State) (l : Loaded) (locked : Bool) : Option State :=
  let wait := fun (ph : Phase) => some (s.modHoop (fun h => { h with phase := ph, loaded := some l }))
  if !l.cond.vin12 then wait .waitVin
  else if !l.cond.refClock && !locked then wait .waitReference
  else if l.cond.dieFault then none
  else some (s.seal l)

/-- PCIe training starts from byte 5 of the slot chosen (R532), unless the links were held. -/
def State.trainPcie (s : State) (d : Card) (k : Nat) : State :=
  if s.hoop.lastReset = 3 then s
  else s.modHoop (fun h => { h with pcieUp := [true, (match slotBytes d k with | some b => leAt b 5 1 == 2 | none => false)] })

/-- Steps 3 onwards on the slots in turn: the first that does not fail. -/
def State.trySlots (d : Card) (c : StartCond) : List Nat → State → State
  | [], s => s.recover s.hoop.cause
  | k :: rest, s =>
    let s := (s.modHoop (fun h => { h with slot := k })).trainPcie d k
    match s.loadSlot d k with
    | .error cause => State.trySlots d c rest (s.modHoop (fun h => { h with cause := cause }))
    | .ok (b, cfg) =>
      match s.stepSix { image := b, settings := cfg, slot := k, rest := rest, card := d, cond := c } false with
      | some s' => s'
      | none => State.trySlots d c rest (s.modHoop (fun h => { h with cause := 10 }))

/-- A start that waited goes on. -/
def State.resume (s : State) (l : Loaded) (locked : Bool) : State :=
  match s.stepSix l locked with
  | some s' => s'
  | none => State.trySlots l.card l.cond l.rest (s.modHoop (fun h => { h with cause := 10 }))

/-- The start from step 1 to where it ends or waits. -/
def State.boot (s : State) (d : Card) (c : StartCond) : State :=
  let s := if s.hoop.phase = .off then s.resetAll 1 true true .waitCard else s
  if s.hoop.phase ≠ .waitCard then s
  else if !c.pufOk then (s.modHoop (fun h => { h with pufOk := false })).recover 1
  else if !directoryOk d then s.recover 2
  else State.trySlots d c (slotsOf d.bytes) s

/-! ## The meanings -/

/-- A reset that a trip holds back until the dies are cool (R636), or that runs at once. -/
def State.resetAsked (s : State) (cause : ResetCause) (go : State → State) : State :=
  match s.hoop.phase with
  | .off => s
  | .tripped => s.modHoop (fun h => { h with tripWait := some cause })
  | _ => go s

/-- `COLD_POWER_ON` (R578). -/
def execColdPowerOn (t : Nat) (s : State) : Host.Outcome State Fault Refusal :=
  let s := s.at t
  .next (if s.hoop.phase = .off then s.resetAll 1 true true .waitCard
    else s.resetAsked .coldPowerOn (fun s => s.resetAll 1 true true .waitCard))

/-- `PERST_WARM_RESET` (R578). -/
def execPerstWarmReset (t : Nat) (s : State) : Host.Outcome State Fault Refusal :=
  .next ((s.at t).resetAsked .perst (fun s => s.resetAll 2 false false .waitCard))

/-- `HOOP_RESTART` (R578). -/
def execHoopRestart (t : Nat) (s : State) : Host.Outcome State Fault Refusal :=
  .next ((s.at t).resetAsked .perst (fun s => s.resetAll 4 false false .waitCard))

/-- `PERST_LINK1` (R578, R531): only function 1 is reset. -/
def execPerstLink1 (t : Nat) (s : State) : Host.Outcome State Fault Refusal :=
  .next ((s.at t).modHoop (fun h => { h with
    spdm := h.spdm.set 1 {}, answers := del 1 h.answers, msix := h.msix.filter (fun x => x.1.1 ≠ 1), aer := h.aer.set 1 0
    mailbox := h.mailbox.filter (fun x => x.1.1 ≠ 1), responses := h.responses.filter (fun x => x.1.1 ≠ 1)
    eventRings := h.eventRings.set 1 {} }))

/-- `VIN12_LOSS` (R638): the Hoop die restarts itself, and the return of `VIN12` will be a cold power-on. -/
def execVin12Loss (t : Nat) (s : State) : Host.Outcome State Fault Refusal :=
  let s := s.at t
  .next (match s.hoop.phase with
    | .off => s
    | .tripped => (s.dropDies true true).modHoop (fun h => { h with tripWait := some .coldPowerOn })
    | _ => s.resetAll 4 true true .waitCard)

/-- `VAUX3_LOSS` (R638): everything is off until its return. -/
def execVaux3Loss (t : Nat) (s : State) : Host.Outcome State Fault Refusal := .next ((s.at t).resetAll 0 true true .off)

/-- `VIN12_IN_RANGE` (R638). -/
def execVin12InRange (t : Nat) (s : State) : Host.Outcome State Fault Refusal :=
  let s := s.at t
  .next (match s.hoop.phase, s.hoop.loaded with
    | .waitVin, some l =>
      let s := s.modHoop (fun h => { h with lastReset := if h.cold then 1 else h.lastReset })
      s.resume { l with cond := { l.cond with vin12 := true } } false
    | _, _ => s)

/-- `BOOT_START` (R568). -/
def execBootStart (t : Nat) (card : Card) (c : StartCond) (s : State) : Host.Outcome State Fault Refusal :=
  .next ((s.at t).boot card c)

/-- `REFERENCE_LOCK` (R569): a port that locks, or none within the time. -/
def execReferenceLock (t : Nat) (port : Option Nat) (s : State) : Host.Outcome State Fault Refusal :=
  let s := s.at t
  match port with
  | some p =>
    if 64 ≤ p then .fault .noSuchUnit
    else .next (match s.hoop.phase, s.hoop.loaded with
      | .waitReference, some l => if l.settings.osr.portEnable.testBit p then s.resume l true else s
      | _, _ => s)
  | none => .next (match s.hoop.phase, s.hoop.loaded with
      | .waitReference, some l => State.trySlots l.card l.cond l.rest (s.modHoop (fun h => { h with cause := 9 }))
      | _, _ => s)

/-- A device reset whose record is in force goes on (R579 steps 2 to 5, R571): once all is drained, its record is acknowledged, and
the device starts again; in recovery there is nothing to drain. -/
def State.resetProceed (s : State) : State :=
  if !s.hoop.resetting || s.hoop.phase = .tripped then s
  else if s.hoop.phase = .recovery then (s.unwait .reset).resetAll 3 false false .waitCard
  else
    let (s, ready) := s.drainStep
    if ready then (s.closeBatches.cleanAnchors.unwait .reset).resetAll 3 false false .waitCard else s

/-- `DEVICE_RESET_PROCEED` (R579). -/
def execDeviceResetProceed (t : Nat) (s : State) : Host.Outcome State Fault Refusal := .next ((s.at t).resetProceed)

end Sys2Proof.Machine
end

