-- ==== Sys2Proof/Machine/Power.lean ====
section
/-! DEFINITION. Island resets as a whole (R213 to R216, R580, R582, R595), replays and sidebands (R20, R24), power states entered by
time (R583), holds, thermal trips and power reports (R630 to R636). -/

namespace Sys2Proof.Machine

/-! ## Island resets (R582) -/

/-- The package has the island (R624). -/
def islandOk : Island → Bool
  | .warpSched | .warpData => true
  | .cluster c => c < 32
  | .weft d | .osier d => d < 4
  | .rim d => d < 2

/-- The scan of a Rim die's writer that has kept its ring (R577, R581): the entries above its last MARK form a restart tail. -/
def State.rescan (s : State) (w : Nat) : State :=
  s.modWriter w (fun x => { x with
    tail := x.ring.filter (fun e => e.state != .mark && (match x.lastMark with | some m => m < e.index | none => true)) })

/-- A Rim die is held in reset (R582, R581, R440): unaccepted work on it is refused, its cached sectors, its channels' register sets, its
pending store and the spill records on its stacks are lost. -/
def State.rimLost (s : State) (d : Nat) : State :=
  let s := s.endUnaccepted (fun r => r.writer == d && r.index.isNone) s.lostStatus true
  let s := s.refuseArrived (fun p => 128 ≤ p && p < 152 && (p - 128) / 12 == d)
  let held := s.jrn.held.filter (fun x => x.die = d)
  let s := s.modJrn (fun j => { j with held := j.held.filter (fun x => x.die ≠ d) })
  let s := s.each held (fun s x => s.refuseOpen (128 + 12 * d) x.frame.hdr x.arrive x.part (s.downStatus (128 + 12 * d)))
  let s := s.modMem (fun m => { m with sectors := m.sectors.filter (fun x => x.die ≠ d) })
  let s := s.each ((List.range 64).map (64 * d + ·)) State.resetChan
  let s := s.each (s.warp.voq.filter (fun v => 0 < v.spilled)) State.dropV
  let mine := fun (c : Ctr) => match c with
    | .eccCorrected k | .eccUncorrected k => k / 4 == d
    | .ri _ t | .dup _ t | .dupDropped _ t => recordDie t == d
    | _ => false
  ({ s with ctrs := s.ctrs.filter (fun c => !mine c.1) }).rescan d

/-- A Warp island is held in reset (R166, R581, R582): VOQs, spill and pointers are lost, and a new spill key is drawn. -/
def State.warpLost (s : State) : State :=
  let s := s.each (s.warp.voq.filter (·.stored)) State.dropV
  let w := s.warp
  let services := s.tabs.services.map (fun (x : Service) => { x with tokens := 0, due := 0 })
  let parts := s.parts.map (fun (q : Partition) => { q with aged := List.replicate 8 0 })
  let mine := fun (c : Ctr) => match c with | .hdrBad _ | .budgetCut | .spillLost => true | _ => false
  let (d, s) := s.draw
  let s := { s with warp := { wire := w.wire, arrived := w.arrived, busy := w.busy, voq := w.voq }, parts := parts
                    ctrs := s.ctrs.filter (fun c => !mine c.1) }
  ((s.modTabs (fun t => { t with services := services })).modHoop (fun h => { h with spillKey := Config.randomBytes d 64 })).freeLeaving

/-- The island of a reset whose arbiters have drained is held (R582 step 3). -/
def State.holdIsland (s : State) (i : Island) : State :=
  let s := s.modHoop (fun h =>
    let l := mapIf (fun (r : IslandReset) => r.island == i) (fun (r : IslandReset) => { r with running := true, since := s.now }) h.resets
    { h with resets := l })
  match i with
  | .rim d => s.rimLost d
  | .warpSched | .warpData => s.warpLost
  | _ => s

/-- The reset that waits for its arbiters proceeds once none of them is draining (R214 step 4). -/
def State.drainGo (s : State) (arb : Nat) : State :=
  match s.hoop.resets.head? with
  | some r =>
    let l := islandArbiters r.island
    if !r.running && l.contains arb && l.all (fun a => !(s.arb a).draining) then s.holdIsland r.island else s
  | none => s

/-- The last granted transfer of a frozen arbiter has completed (R214 steps 2 and 3). -/
def State.drainDone (s : State) (arb : Nat) : State :=
  if !(s.arb arb).frozen then s
  else (s.modArb arb (fun a => { a with granted := [], draining := false })).drainGo arb

/-- A drain has exceeded 2 µs (R215). -/
def State.drainLate (s : State) (arb : Nat) : State :=
  let a := s.arb arb
  if a.frozen && a.draining && a.frozenAt + 2 * ticksPerUs ≤ s.now then
    let s := s.modArb arb (fun a => { a with granted := [], draining := false, timeout := true })
    let s := (s.event 0x0701 toBoth none none (.resource 14 0 [arb])).healthInput 104 64
    s.drainGo arb
  else s

/-- An island has recovered (R582 steps 4 to 6, R208, R518, R587): its arbiters are seeded anew and granted again, its links train, a
resync restarts, and the next reset that waits begins. -/
def State.islandBack (s : State) (i : Island) : State :=
  if !s.islandDown i then s
  else
    let s := s.modHoop (fun h => { h with resets := h.resets.filter (fun r => !(r.island == i)) })
    let s := s.seedArbiters (islandArbiters i)
    let l := mapIf (fun (x : Link) => i == .osier (x.port / 16)) (fun (x : Link) =>
      { freshLink x.port x.sub (s.mayLight x.port) with downSince := x.downSince, holdExpired := x.holdExpired }) s.links
    let s := ({ s with links := l }).islandEvent i true
    let s := match i, s.hlt.resync with
      | .rim _, 1 => s.resyncReceive
      | .rim _, 2 => s.resyncSend
      | _, _ => s
    let s := match s.hoop.resets.head? with
      | some r => s.beginReset r.island
      | none => s
    s.stir

/-- Twice the bound of an island's recovery (R582, R518). -/
def resetLimit : Island → Tick
  | .cluster _ => 100 * ticksPerUs
  | .weft _ => 400 * ticksPerUs
  | .rim _ => 1000 * ticksPerUs
  | .warpSched | .warpData => 600 * ticksPerUs
  | .osier _ => 3540 * ticksPerUs

/-- The part that an island belongs to (R593). -/
def islandPart : Island → Nat
  | .cluster c => c
  | .weft d => 96 + d
  | .osier d => 100 + d
  | .rim _ | .warpSched | .warpData => 104

/-- An island reset has not completed within twice its bound (R595). -/
def State.resetOvertime (s : State) (i : Island) : State :=
  if s.hoop.resets.any (fun r => r.island == i && r.running && r.since + resetLimit i ≤ s.now) then s.hardFailure (islandPart i) else s

/-! ## Crossings and sidebands (R20, R24) -/

/-- The package has the crossing. -/
def crossingOk : Crossing → Bool
  | .osierWarp d | .weftWarp d => d < 4
  | .rimWarp d => d < 2
  | .hoopWarp => true
  | .weftRim w r => w < 4 && r < 2

/-- The parts whose scores a replay weighs on (R593). -/
def replayParts : Crossing → List Nat
  | .osierWarp d => [100 + d]
  | .weftWarp d => [96 + d]
  | .rimWarp _ | .hoopWarp => [104]
  | .weftRim w _ => [96 + w, 104]

/-- The island that a crossing's failure resets. -/
def crossingIsland : Crossing → Island
  | .osierWarp d => .osier d
  | .weftWarp d => .weft d
  | .rimWarp d => .rim d
  | .hoopWarp => .warpData
  | .weftRim w _ => .weft w

/-- A flit fails its check and is replayed; eight failures in a row reset the island (R20). -/
def State.flitReplay (s : State) (x : Crossing) (again : Bool) : State :=
  let n := (if again then (look x s.hlt.replays).getD 0 else 0) + 1
  let s := s.each (replayParts x) (fun s p => s.healthInput p 1)
  let s := (s.count (.flits x)).modHlt (fun h => { h with replays := if 8 ≤ n then del x h.replays else put x n h.replays })
  if 8 ≤ n then s.askReset (crossingIsland x) else s

/-- The part that a die is: none for the Hoop die, which has no sideband of its own (R24). -/
def diePart : Die → Option Nat
  | .hoop => none
  | .warp => some 104
  | .weft d => if d < 4 then some (96 + d) else none
  | .rim d => if d < 2 then some 104 else none
  | .osier d => if d < 4 then some (100 + d) else none

/-- A die's sideband is lost: the Hoop die reports it failed (R24, R595). -/
def State.sidebandLost (s : State) (d : Die) (part : Nat) : State :=
  (s.modHlt (fun h => { h with lostDies := if h.lostDies.contains d then h.lostDies else h.lostDies ++ [d] })).hardFailure part

/-! ## Quiescence (R583) -/

/-- No cluster has run an operator for `HOOP_QUIESCE_MS`, and no collective is installed: the device becomes QUIESCENT. -/
def State.quiesce (s : State) : State :=
  let busy := !s.eng.jobs.isEmpty || !s.eng.colls.isEmpty || s.hoop.resetting || s.hoop.standbyDrain
  if s.hoop.phase ≠ .sealed || s.hoop.power ≠ .active || busy || s.now < s.eng.lastRun + s.cfg.hoop.quiesceMs * ticksPerMs then s
  else
    let s := s.finalMarks.closeBatches
    let s := s.each ((List.range 32).filter (fun c => (s.cluster c).assigned))
      (fun s c => (s.clearCluster c).modCluster c (fun x => { x with gated := true }))
    s.enterPower .quiescent

/-! ## Holds (R631, R632) -/

/-- The hold h. -/
def Hoop.hold (h : Hoop) : Nat := max h.powerHold h.thermalHold

/-- A hold has been computed anew: 1 names the power hold, 2 the thermal hold. -/
def State.stepHolds (s : State) (which : Nat) (f : Hoop → Hoop) : State :=
  let old := s.hoop.hold
  let s := s.modHoop f
  let h := s.hoop.hold
  if old = 0 ∧ h ≠ 0 then (s.modHoop (fun h => { h with holdEvent := true })).event 0x1601 toBoth none none (.resource 14 0 [which, h])
  else if old ≠ 0 ∧ h = 0 then s.event 0x1602 toBoth none none (.resource 14 0 [which, h])
  else s

/-- A hold is raised or lowered by one sixteenth. -/
def stepHold (up down : Bool) (h : Nat) : Nat := if up then min 12 (h + 1) else if down then h - 1 else h

/-- Warn and trip temperatures, in the order of `hottest_die` (R634, R641). -/
def dieLimits (k : Nat) : Nat × Nat :=
  if k = 0 then (90, 105) else if k < 6 then (95, 110) else if k < 8 then (90, 105) else if k < 16 then (85, 95) else (80, 95)

/-- Every die is at least `d` °C below its warn temperature. -/
def coolBy (temps : List Nat) (d : Nat) : Bool := (List.range 20).all (fun k => nth temps k + d ≤ (dieLimits k).1)

/-- The package trips (R635): work in flight is lost without refusal, and every die but the Hoop die and the stacks is down. -/
def State.trip (s : State) (k : Nat) : State :=
  let s := s.event 0x1603 toBoth none none (.resource 14 0 [k, nth s.hoop.temps k])
  let s := s.consumeRunning.dropDies false false
  let s := { s with mram := { s.mram with trips := satAdd 65535 s.mram.trips 1 } }
  s.modHoop (fun h => { h with
    phase := .tripped, thermTrip := true, loaded := none, power := .active, resetting := false, standbyDrain := false, resets := []
    queue := [], running := none, witnessWait := [], tripWait := none })

/-- The die temperatures of a millisecond (R632, R634, R635). -/
def State.thermalSample (s : State) (l : List Nat) : State :=
  if s.hoop.phase = .off then s
  else
    let temps := (List.range 20).map (fun k => min 255 (nth l k))
    let s := s.modHoop (fun h => { h with temps := temps })
    match (List.range 20).find? (fun k => decide ((dieLimits k).2 ≤ nth temps k)) with
    | some k => if s.hoop.phase = .tripped then s else s.trip k
    | none =>
      if s.hoop.phase = .sealed then
        let up := (List.range 20).any (fun k => decide ((dieLimits k).1 ≤ nth temps k))
        s.stepHolds 2 (fun h => { h with thermalHold := stepHold up (coolBy temps 5) h.thermalHold })
      else s

/-- The package power of a millisecond (R632). -/
def State.powerSample (s : State) (mw : Nat) : State :=
  if s.hoop.phase ≠ .sealed then s
  else
    let cap := s.cfg.hoop.powerCap * 1000
    s.stepHolds 1 (fun h => { h with powerHold := stepHold (decide (cap < mw)) (decide (mw + 16000 < cap)) h.powerHold })

/-- A held cluster's core clocks stop, or start again (R631). -/
def State.stopWindow (s : State) (c : Nat) (opening : Bool) : State :=
  let x := s.cluster c
  let stop := opening && s.hoop.phase == .sealed && s.hoop.hold != 0 && x.assigned && !x.gated
  s.modEng (fun e => { e with stopped := e.stopped.filter (· ≠ c) ++ (if stop then [c] else []) })

/-- Package power over the last second is reported to the owner, in 8 W steps (R630, R550). -/
def State.powerReport (s : State) (mw : Nat) : State :=
  if s.hoop.phase = .off then s
  else
    let s := s.modHoop (fun h => { h with power1s := mw })
    if s.hoop.phase = .sealed then s.each (pieces 0x8007 0 (natLe 2 (min 65535 (mw / 8000)))) State.toOwner else s

/-- A restart asked for after a trip is honoured once every die is cool (R636). -/
def State.tripGo (s : State) (cause : ResetCause) : State :=
  if s.hoop.phase = .tripped && s.hoop.tripWait == some cause && coolBy s.hoop.temps 10 then
    match cause with
    | .perst => s.resetAll 2 false false .waitCard
    | .deviceReset => (s.unwait .reset).resetAll 3 false false .waitCard
    | .coldPowerOn => s.resetAll 1 true false .waitCard
  else s

/-! ## The meanings -/

/-- `ISLAND_RESET` (R582). -/
def execIslandReset (t : Nat) (i : Island) (s : State) : Host.Outcome State Fault Refusal :=
  if islandOk i then
    let s := s.at t
    .next (if s.live then s.askReset i else s)
  else .fault .noSuchUnit

/-- `ISLAND_RECOVERY_DONE` (R582). -/
def execIslandRecoveryDone (t : Nat) (i : Island) (s : State) : Host.Outcome State Fault Refusal :=
  if islandOk i then .next ((s.at t).islandBack i) else .fault .noSuchUnit

/-- `ISLAND_RESET_OVERTIME` (R595). -/
def execIslandResetOvertime (t : Nat) (i : Island) (s : State) : Host.Outcome State Fault Refusal :=
  if islandOk i then .next ((s.at t).resetOvertime i) else .fault .noSuchUnit

/-- `FLIT_REPLAY` (R20). -/
def execFlitReplay (t : Nat) (x : Crossing) (again : Bool) (s : State) : Host.Outcome State Fault Refusal :=
  if crossingOk x then
    let s := s.at t
    .next (if s.live then s.flitReplay x again else s)
  else .fault .noSuchUnit

/-- `SIDEBAND_LOSS` (R24). -/
def execSidebandLoss (t : Nat) (d : Die) (s : State) : Host.Outcome State Fault Refusal :=
  match diePart d with
  | some p =>
    let s := s.at t
    .next (if s.hoop.phase = .sealed then s.sidebandLost d p else s)
  | none => .fault .noSuchUnit

/-- `LOT_DRAIN_COMPLETE` (R214). -/
def execLotDrainComplete (t arb : Nat) (s : State) : Host.Outcome State Fault Refusal :=
  if arb < 67 then .next ((s.at t).drainDone arb) else .fault .noSuchUnit

/-- `LOT_DRAIN_TIMEOUT` (R215). -/
def execLotDrainTimeout (t arb : Nat) (s : State) : Host.Outcome State Fault Refusal :=
  if arb < 67 then .next ((s.at t).drainLate arb) else .fault .noSuchUnit

/-- `QUIESCE_TIMER` (R583). -/
def execQuiesceTimer (t : Nat) (s : State) : Host.Outcome State Fault Refusal := .next (s.at t).quiesce

/-- `THERMAL_SAMPLE` (R634). -/
def execThermalSample (t : Nat) (temps : List Nat) (s : State) : Host.Outcome State Fault Refusal := .next ((s.at t).thermalSample temps)

/-- `TRIP_RESTART` (R636). -/
def execTripRestart (t : Nat) (cause : ResetCause) (s : State) : Host.Outcome State Fault Refusal := .next ((s.at t).tripGo cause)

/-- `POWER_SAMPLE` (R632). -/
def execPowerSample (t milliwatts : Nat) (s : State) : Host.Outcome State Fault Refusal := .next ((s.at t).powerSample milliwatts)

/-- `CLUSTER_STOP_WINDOW` (R631). -/
def execClusterStopWindow (t c : Nat) (opening : Bool) (s : State) : Host.Outcome State Fault Refusal :=
  if c < 32 then .next ((s.at t).stopWindow c opening) else .fault .noSuchUnit

/-- `POWER_REPORT_WINDOW` (R630). -/
def execPowerReportWindow (t milliwatts : Nat) (s : State) : Host.Outcome State Fault Refusal := .next ((s.at t).powerReport milliwatts)

end Sys2Proof.Machine
end

