-- ==== Sys2Proof/Machine/Registers.lean ====
section
/-! DEFINITION. The host's windows (chapters 19 and 23): BAR0 as it is read (R645 to R652), BAR2 as it is read (R534), W1C bits and
dropped writes (R646, R647), the mailbox doorbell (R546), AER (R533) and the MSI-X holdoff (R554). -/

namespace Sys2Proof.Machine

/-! ## Fields -/

/-- A one-bit value. -/
def bit (b : Bool) : Nat := if b then 1 else 0

/-- A register from its fields: the low bit and the value of each. -/
def packBits (l : List (Nat × Nat)) : Nat := (l.map (fun f => f.2 * 2 ^ f.1)).sum

/-- The IMG fields of a register (R651). -/
def Settings.imgBits (c : Settings) (o : Nat) : Nat := packBits ((fieldsAt o).map (fun f => (f.low, f.get c)))

/-! ## Islands that answer (R647) -/

/-- The dies other than the Hoop die are powered and running. -/
def State.diesRun (s : State) : Bool := s.hoop.phase == .sealed && s.hoop.power != .standby
/-- A crossing island answers. -/
def State.weftAvail (s : State) (d : Nat) : Bool := s.diesRun && !s.islandDown (.weft d) && s.partState (96 + d) != .expelled
/-- A Rim island answers. -/
def State.rimAvail (s : State) (d : Nat) : Bool := s.diesRun && !s.islandDown (.rim d)
/-- An Osier island answers. -/
def State.osierAvail (s : State) (d : Nat) : Bool := s.diesRun && !s.islandDown (.osier d) && s.partState (100 + d) != .expelled
/-- The Warp datapath island answers. -/
def State.warpAvail (s : State) : Bool := s.diesRun && !s.islandDown .warpData

/-- `HOOP_ISLAND_AVAIL` (R647). -/
def State.islandAvail (s : State) : Nat :=
  packBits ([(0, 1), (1, bit (s.diesRun && !s.islandDown .warpSched)), (2, bit s.warpAvail)] ++
    (List.range 4).map (fun d => (3 + d, bit (s.weftAvail d))) ++ (List.range 2).map (fun d => (7 + d, bit (s.rimAvail d))) ++
    (List.range 4).map (fun d => (9 + d, bit (s.osierAvail d))))

/-- An offset lies among `n` registers of a stride from a base. -/
def among (o base n stride : Nat) : Bool := base ≤ o && o < base + n * stride

/-- The island that holds a register answers; a register of no particular die is held on the Hoop die (R647). -/
def State.holderAvail (s : State) (o : Nat) : Bool :=
  if among o 0x200000 64 32 then s.osierAvail ((o - 0x200000) / 512)
  else if among o 0x201100 64 8 then s.osierAvail ((o - 0x201100) / 128)
  else if among o 0x201400 64 8 then s.osierAvail ((o - 0x201400) / 128)
  else if among o 0x208000 64 1024 then s.osierAvail ((o - 0x208000) / 16384)
  else if among o 0x400000 1 0x400000 then s.warpAvail
  else if among o 0x800000 32 8 then s.weftAvail ((o - 0x800000) / 64)
  else if among o 0x800100 32 8 then s.weftAvail ((o - 0x800100) / 64)
  else if among o 0xC01000 64 8 then s.rimAvail ((o - 0xC01000) / 256)
  else if among o 0xC02000 8 8 then s.rimAvail ((o - 0xC02000) / 32)
  else if among o 0xC02040 8 8 then s.rimAvail ((o - 0xC02040) / 32)
  else if among o 0xE00000 2 512 then s.rimAvail ((o - 0xE00000) / 512)
  else if among o 0xE00400 2 8 then s.rimAvail ((o - 0xE00400) / 8)
  else if among o 0x1400000 2 64 then s.rimAvail ((o - 0x1400000) / 64)
  else true

/-- The block answers: every block after the seal, and two of them in recovery and after a trip (R571, R636). -/
def State.blockAnswers (s : State) (o : Nat) : Bool :=
  match s.hoop.phase with
  | .sealed => true
  | .recovery | .tripped => o < 0x200000
  | _ => false

/-! ## Layouts -/

/-- `HOOP_BOOT_STATUS` (R588). -/
def State.bootStatus (s : State) : Nat :=
  let j := fun (w : Nat) => match (s.writer w).journal with | .ready => 0 | .stale => 1 | .empty => 2 | .resync => 3
  let h := s.hoop
  packBits [(0, bit (h.phase == .sealed)), (1, bit (h.phase == .recovery)), (2, h.slot), (3, bit h.fallback), (4, bit (s.hlt.fence == 1)),
    (8, h.cause), (12, h.lastReset), (16, j 0), (18, j 1), (32, h.sealMs % 2 ^ 32)]

/-- `HOOP_THERMAL_STATUS` (R641). -/
def State.thermalStatus (s : State) : Nat :=
  let h := s.hoop
  let hot := h.temps.foldl max 0
  packBits [(0, h.hold), (4, bit (h.powerHold != 0)), (5, bit (h.thermalHold != 0)), (6, bit h.holdEvent), (16, s.mram.trips), (32, hot),
    (40, h.temps.findIdx (· == hot))]

/-- The number of a link's state (R525). -/
def LinkState.code : LinkState → Nat
  | .dark => 0 | .training => 1 | .up => 2 | .degraded => 3 | .retrain => 4 | .down => 5

/-- `OSR_LINK_STATUS` (R525): a sub-port beyond the split reads zero. -/
def State.linkStatus (s : State) (port sub : Nat) : Nat :=
  match s.link port sub with
  | none => 0
  | some l => packBits [(0, l.state.code), (3, match s.split port with | 1 => 0 | 2 => 1 | _ => 2), (5, l.rxGood), (14, l.txActive),
      (23, bit l.spareInUse), (24, bit l.laneEvent), (25, bit l.downEvent), (32, l.oneWay)]

/-- An arbiter's status (R217). -/
def Arbiter.status (a : Arbiter) : Nat :=
  packBits [(0, bit a.frozen), (1, bit a.draining), (2, bit a.timeout), (8, a.waitMax), (32, a.forced)]

/-- `ENG_CLUSTER_STATUS` (R244). -/
def State.clusterStatus (s : State) (c : Nat) : Nat :=
  let x := s.cluster c
  packBits [(0, x.part), (4, bit x.assigned), (5, bit x.gated), (6, bit (s.tabs.leaving.any (fun l => l.1 = c))), (8, x.accMib),
    (16, s.queueDepth c), (32, bit x.fault), (33, bit x.slotWait)]

/-- `MOV_CH_STATUS` (R441). -/
def State.chanStatus (s : State) (ch : Nat) : Nat :=
  let x := s.chan ch
  packBits [(0, x.state), (2, bit (ch % 64 < 8)), (3, bit (match x.shadow with | some d => d.bad.isNone | none => false)), (4, bit x.barrier),
    (8, if x.state = 3 then x.cause else 0), (12, x.retries), (16, match s.bindingOf ch with | some b => b.part | none => 0),
    (24, bit x.halted), (32, x.consumer)]

/-- `PRT_PART_STATUS` (R469) without `strict`, which is an IMG field. -/
def State.partStatus (s : State) (p : Nat) : Nat :=
  let q := s.part p
  let st := match q.state with | .free => 0 | .active => 1 | .teardown => 2 | .scrubbing => 3
  packBits [(0, st), (3, bit q.lock.isSome), (4, bit q.consent.isSome), (5, bit q.keyPresent), (6, bit q.scrubDone),
    (16, match q.consent with | some c => c.scope | none => 0), (32, q.keyId)]

/-- `HLT_DEVICE_STATUS` (R619). -/
def State.deviceStatus (s : State) : Nat :=
  packBits [(0, s.hlt.fence), (3, bit s.jrn.solo), (4, bit s.jrn.soloHold.isSome), (5, s.reached), (8, s.expelledNow),
    (13, s.hlt.suspects.length), (18, bit s.hlt.fenceEvent), (19, bit s.hlt.suspectEvent), (32, s.tabs.compEpoch.toNat)]

/-- `HLT_PART_STATUS` (R620). -/
def State.healthStatus (s : State) (i : Nat) : Nat :=
  packBits [(0, (s.partState i).code), (8, s.score i), (32, s.threshold i)]

/-- A journal writer's registers. -/
def State.writerRegister (s : State) (w k : Nat) : Nat :=
  let x := s.writer w
  match k with
  | 0 => x.anchor.generation
  | 1 => x.head
  | 2 => x.lastMark.getD 0
  | 3 => packBits [(0, match x.anchor.state with | .clean => 0 | .running => 1 | .stale => 2), (2, bit s.jrn.solo), (3, bit x.ringHigh),
      (16, x.anchor.partner.toNat), (32, x.ring.length)]
  | _ => 0

/-- A wavelength's or a link's counter (R526). -/
def State.portCounter (s : State) (port k : Nat) : Nat :=
  let w := (look (port, k / 5) s.waves).getD {}
  let l := fun (b : Nat) => (s.link port b).getD { port := port, sub := b }
  if k < 45 then
    match k % 5 with
    | 0 => w.cwCorrected
    | 1 => w.symCorrected
    | 2 => w.cwUncorrected
    | 3 => (w.rxPower.signExtend 64).toNat
    | _ => w.laserBias
  else if k < 48 then 0
  else if k < 64 then
    match (k - 48) % 4 with
    | 0 => (l ((k - 48) / 4)).blkBad
    | 1 => (l ((k - 48) / 4)).blkReplayed
    | 2 => (l ((k - 48) / 4)).retrains
    | _ => (l ((k - 48) / 4)).substitutions
  else if k < 96 then nth (l ((k - 64) / 8)).creditStall ((k - 64) % 8)
  else 0

/-- A counter without a field of its own. -/
def State.counter (s : State) (c : Ctr) : Nat := (look c s.ctrs).getD 0

/-- The fields of a register that are not IMG fields. -/
def State.runBits (s : State) (o : Nat) : Nat :=
  let at_ := fun (base : Nat) => (o - base) / 8
  if among o 0 4 8 then leAt s.ownId o 8
  else if o = 0x20 then packBits [(0, 0x0640), (16, 0x0A00), (32, 1), (40, 1)]
  else if o = 0x28 then s.uptimeUs
  else if o = 0x40 then s.thermalStatus
  else if o = 0x48 then s.islandAvail
  else if o = 0x100000 then s.bootStatus
  else if o = 0x100008 then packBits [(0, s.mram.vendorCounter), (32, s.mram.ownerCounter)]
  else if among o 0x100010 2 8 then nth s.mram.high (at_ 0x100010)
  else if among o 0x100040 8 8 then leAt s.mram.imageDigest (o - 0x100040) 8
  else if among o 0x200000 256 8 then s.linkStatus (at_ 0x200000 / 4) (at_ 0x200000 % 4)
  else if among o 0x201400 64 8 then s.weakSym (at_ 0x201400)
  else if among o 0x208000 8192 8 then s.portCounter (at_ 0x208000 / 128) (at_ 0x208000 % 128)
  else if o = 0x400080 then (s.arb 64).status
  else if o = 0x400100 then packBits [(0, bit s.warp.spillOn), (1, bit s.warp.spillFull), (32, s.spillCells)]
  else if o = 0x400108 then 229376 - s.poolCells
  else if among o 0x401000 128 8 then nth (s.part (at_ 0x401000 % 16)).aged (at_ 0x401000 / 16)
  else if among o 0x402000 160 8 then s.counter (.hdrBad (at_ 0x402000))
  else if among o 0x600200 16 8 then (s.part (at_ 0x600200)).window
  else if among o 0x800000 32 8 then s.clusterStatus (at_ 0x800000)
  else if among o 0x800400 16 8 then (s.part (at_ 0x800400)).numericCount
  else if among o 0xC00300 16 8 then (s.part (at_ 0xC00300)).pfDepth
  else if among o 0xC01000 64 8 then (s.arb (at_ 0xC01000)).status
  else if among o 0xC02000 8 8 then s.counter (.eccCorrected (at_ 0xC02000))
  else if among o 0xC02040 8 8 then s.counter (.eccUncorrected (at_ 0xC02040))
  else if among o 0xC03000 128 8 then (if at_ 0xC03000 % 8 < 5 then nth (s.part (at_ 0xC03000 / 8)).stalls (at_ 0xC03000 % 8) else 0)
  else if among o 0xE00000 128 8 then s.chanStatus (at_ 0xE00000)
  else if among o 0xE00400 2 8 then (s.arb (65 + at_ 0xE00400)).status
  else if among o 0x1000000 16 8 then s.partStatus (at_ 0x1000000)
  else if among o 0x1000200 16 8 then (s.part (at_ 0x1000200)).scrubBytes
  else if among o 0x1000300 16 8 then (s.part (at_ 0x1000300)).deniedCount
  else if o = 0x1200000 then s.deviceStatus
  else if among o 0x1200100 105 8 then s.healthStatus (at_ 0x1200100)
  else if among o 0x1201000 128 8 then nth (s.part (at_ 0x1201000 % 16)).missed (at_ 0x1201000 / 16)
  else if among o 0x1400000 2 64 then s.writerRegister (at_ 0x1400000 / 8) (at_ 0x1400000 % 8)
  else if o = 0x1400100 then packBits [(0, s.tabs.compEpoch.toNat), (32, s.tabs.mapEpoch.toNat), (48, s.tabs.node.toNat)]
  else if o = 0x1400108 then packBits [(0, s.tabs.partner.toNat), (16, bit s.tabs.paired), (17, s.tabs.role), (19, bit s.tabs.grace.isSome)]
  else 0

/-- The register at a BAR0 offset that is a multiple of 8, as an 8-byte read returns it (R645, R647). -/
def State.register (s : State) (o : Nat) : Nat :=
  if s.hoop.phase = .tripped && 0x200000 ≤ o && !s.holderAvail o then max64
  else if !s.blockAnswers o then 0
  else if !s.holderAvail o then max64
  else s.cfg.imgBits o + s.runBits o

/-- The slot of a ring as BAR2 shows it. -/
def Ring.slot (r : Ring) (cap k : Nat) : Bytes := ((r.entries.find? (fun e => e.1 % cap = k)).map (·.2)).getD []

/-- A byte of BAR2 as a function reads it (R534, R546); in recovery all of it reads zero (R571). -/
def State.bar2 (s : State) (fn o : Nat) : Byte :=
  let h := s.hoop
  if h.phase ≠ .sealed then 0
  else if o < 0x100000 then ((look (fn, o / 4096) h.mailbox).getD []).getD (o % 4096) 0
  else if o < 0x101000 then ((look (fn, (o - 0x100000) / 16) h.responses).getD []).getD (o % 16) 0
  else if among o 0x1000000 131072 64 then ((h.eventRings.getD fn {}).slot 131072 ((o - 0x1000000) / 64)).getD (o % 64) 0
  else if among o 0x2000000 524288 64 then (h.ownerRing.slot 524288 ((o - 0x2000000) / 64)).getD (o % 64) 0
  else if among o 0x4000000 1 16 then (natLe 8 (h.eventRings.getD fn {}).producer ++ natLe 8 h.ownerRing.producer).getD (o - 0x4000000) 0
  else 0

/-! ## Writes (R646, R647) -/

/-- Clear the W1C bits of a register that a written value sets. -/
def State.clearBits (s : State) (o v : Nat) : State :=
  let at_ := fun (base : Nat) => (o - base) / 8
  let keep := fun (k : Nat) (b : Bool) => b && !v.testBit k
  let arbiter := fun (a : Nat) => s.modArb a (fun x => { x with timeout := keep 2 x.timeout })
  if o = 0x40 then s.modHoop (fun h => { h with holdEvent := keep 6 h.holdEvent })
  else if o = 0x100000 then s.modHoop (fun h => { h with fallback := keep 3 h.fallback })
  else if among o 0x200000 256 8 then s.modLink (at_ 0x200000 / 4) (at_ 0x200000 % 4) (fun l => { l with
    laneEvent := keep 24 l.laneEvent, downEvent := keep 25 l.downEvent })
  else if o = 0x400080 then arbiter 64
  else if o = 0x400100 then s.modWarp (fun w => { w with spillFull := keep 1 w.spillFull })
  else if among o 0x800000 32 8 then s.modCluster (at_ 0x800000) (fun c => { c with fault := keep 32 c.fault, slotWait := keep 33 c.slotWait })
  else if among o 0xC01000 64 8 then arbiter (at_ 0xC01000)
  else if among o 0xE00000 128 8 then s.modChan (at_ 0xE00000) (fun c => { c with halted := keep 24 c.halted })
  else if among o 0xE00400 2 8 then arbiter (65 + at_ 0xE00400)
  else if among o 0x1000000 16 8 then s.modPart (at_ 0x1000000) (fun q => { q with scrubDone := keep 6 q.scrubDone })
  else if o = 0x1200000 then s.modHlt (fun h => { h with fenceEvent := keep 18 h.fenceEvent, suspectEvent := keep 19 h.suspectEvent })
  else if among o 0x1400018 2 64 && (o - 0x1400018) % 64 = 0 then s.modWriter ((o - 0x1400018) / 64) (fun x => { x with ringHigh := keep 3 x.ringHigh })
  else s

/-- A function's link carries requests. -/
def State.fnUp (s : State) (fn : Nat) : Bool := s.hoop.pcieUp.getD fn false

/-- A write of 8 bytes to BAR0 other than the doorbell: it clears W1C bits, and any other byte of it is dropped. -/
def State.barWrite (s : State) (fn o v : Nat) : State :=
  if s.fnUp fn && o % 8 = 0 && s.blockAnswers o && s.holderAvail o then s.clearBits o v else s

/-! ## The mailbox (R546) -/

/-- The bytes 0 to 7 of a response that is still to come. -/
def pendingMark : Bytes := List.replicate 8 0xFF

/-- The response of a slot is pending. -/
def State.slotPending (s : State) (fn slot : Nat) : Bool := ((look (fn, slot) s.hoop.responses).getD []).take 8 == pendingMark

/-- A doorbell write: the slot's record is submitted, unless a bit above [7:0] is set or the slot is pending. -/
def State.mailboxRing (s : State) (fn v : Nat) (b : Bytes) : State :=
  if !s.fnUp fn || s.hoop.phase ≠ .sealed || 256 ≤ v || s.slotPending fn v then s
  else
    let old := padTo 16 ((look (fn, v) s.hoop.responses).getD [])
    let s := s.modHoop (fun h => { h with
      mailbox := put (fn, v) (padTo 4096 b) h.mailbox, responses := put (fn, v) (pendingMark ++ old.drop 8) h.responses })
    s.arriveRecord (.mailbox fn v) (padTo 4096 b)

/-! ## AER and MSI-X (R533, R554) -/

/-- An error is recorded in a function's AER, and vector 3 asked for. -/
def State.aerRecord (s : State) (fn : Nat) (err : BitVec 32) : State :=
  (s.modHoop (fun h => { h with aer := h.aer.set fn ((BitVec.ofNat 32 (nth h.aer fn) ||| err).toNat) })).fire fn 3

/-- A vector whose holdoff has passed fires if it waits. -/
def State.holdoffOver (s : State) (fn vec : Nat) : State :=
  match look (fn, vec) s.hoop.msix with
  | some (last, true) =>
    if last + s.cfg.hoop.irqUs * ticksPerUs ≤ s.now then
      s.modHoop (fun h => { h with msix := put (fn, vec) (s.now, false) h.msix, irqs := h.irqs ++ [(fn, vec)] })
    else s
  | _ => s

/-! ## The meanings -/

/-- `HOOP_MBX_DOORBELL` (R546). -/
def execHoopMbxDoorbell (t fn : Nat) (value : BitVec 64) (slotBytes : Bytes) (s : State) : Host.Outcome State Fault Refusal :=
  if fn < 2 then .next ((s.at t).mailboxRing fn value.toNat slotBytes) else .fault .noSuchUnit

/-- `W1C_CLEAR` (R646). -/
def execW1cClear (t fn offset : Nat) (value : BitVec 64) (s : State) : Host.Outcome State Fault Refusal :=
  if fn < 2 then .next ((s.at t).barWrite fn offset value.toNat) else .fault .noSuchUnit

/-- `REGISTER_WRITE_DROPPED` (R646): bytes that hold no W1C bit are dropped. -/
def execRegisterWriteDropped (t fn offset : Nat) (value : BitVec 64) (s : State) : Host.Outcome State Fault Refusal :=
  if fn < 2 then .next ((s.at t).barWrite fn offset value.toNat) else .fault .noSuchUnit

/-- `UNSUPPORTED_REQUEST_TLP` (R533): Unsupported Request is bit 20 of the uncorrectable errors (PRESUMED, PCI Express, log 46). -/
def execUnsupportedRequestTlp (t fn _addr : Nat) (_isRead : Bool) (s : State) : Host.Outcome State Fault Refusal :=
  if fn < 2 then
    let s := s.at t
    .next (if s.fnUp fn then s.aerRecord fn 0x100000 else s)
  else .fault .noSuchUnit

/-- `AER_ERROR` (R533). -/
def execAerError (t fn : Nat) (err : BitVec 32) (s : State) : Host.Outcome State Fault Refusal :=
  if fn < 2 then
    let s := s.at t
    .next (if s.fnUp fn then s.aerRecord fn err else s)
  else .fault .noSuchUnit

/-- `MSIX_HOLDOFF_EXPIRY` (R554). -/
def execMsixHoldoffExpiry (t fn vec : Nat) (s : State) : Host.Outcome State Fault Refusal :=
  if fn < 2 ∧ vec < 4 then .next ((s.at t).holdoffOver fn vec) else .fault .noSuchUnit

end Sys2Proof.Machine
end

