-- ==== Sys2Proof/Machine/Attest.lean ====
section
/-! DEFINITION. Attestation and the management endpoints (R475 to R480, R545, R548): DOE discovery, the SPDM responder, MCTP on I3C.
SPDM message layouts and codes are those of DMTF SPDM 1.3 (PRESUMED, log 47). -/

namespace Sys2Proof.Machine

/-! ## Requesters (R477) -/

/-- The place of a requester's state and of its last response. -/
def requesterIndex : Requester → Nat
  | .doe fn => fn
  | .mctp => 2

/-- The requester exists. -/
def requesterOk (q : Requester) : Bool := requesterIndex q < 2 || q == .mctp

/-- The Hoop die serves its management paths: after the seal, in recovery and after a trip (R571, R636). -/
def State.managed (s : State) : Bool := s.hoop.phase == .sealed || s.hoop.phase == .recovery || s.hoop.phase == .tripped

/-- A requester is served SPDM: after the seal; in recovery over DOE only, and only with an identity (R571). -/
def State.servesSpdm (s : State) : Requester → Bool
  | .doe fn => s.managed && s.fnUp fn && s.hoop.pufOk
  | .mctp => s.hoop.phase == .sealed && s.hoop.i3c.isSome

/-- A response is given on a path: a DOE mailbox raises vector 3 (R554). -/
def State.respond (s : State) (q : Requester) (b : Bytes) : State :=
  let s := s.modHoop (fun h => { h with answers := put (requesterIndex q) b h.answers })
  match q with
  | .doe fn => s.fire fn 3
  | .mctp => s

/-- The SPDM state of a requester. -/
def State.spdm (s : State) (q : Requester) : Spdm := s.hoop.spdm.getD (requesterIndex q) {}

/-- An SPDM response is sent, and the requester's state changed. -/
def State.spdmSend (s : State) (q : Requester) (b : Bytes) (f : Spdm → Spdm) : State :=
  (s.modHoop (fun h => { h with spdm := h.spdm.modify (requesterIndex q) (fun x => { f x with response := b }) })).respond q b

/-- `ERROR` with a code. -/
def State.spdmError (s : State) (q : Requester) (code data : Nat) : State :=
  s.spdmSend q [0x13, 0x7F, BitVec.ofNat 8 code, BitVec.ofNat 8 data] (fun x => { x with meas := [] })

/-- An SPDM command: what the device does for a requester that it serves. -/
def spdmRow (t : Nat) (q : Requester) (f : State → State) (s : State) : Host.Outcome State Fault Refusal :=
  if requesterOk q then
    let s := s.at t
    .next (if s.servesSpdm q then f s else s)
  else .fault .noSuchUnit

/-! ## Certificates (R475) -/

/-- The length of the first DER element of a chain: its root certificate. -/
def derLength (b : Bytes) : Nat := if leAt b 1 1 = 0x82 then 4 + beAt b 2 2 else if leAt b 1 1 = 0x81 then 3 + leAt b 2 1 else 2 + leAt b 1 1

/-- The chain of a slot as SPDM carries it: its length, the hash of its root, and its certificates. -/
def State.chainOf (s : State) (slot : Nat) : Option Bytes :=
  let wrap := fun (c : Bytes) => natLe 2 (68 + c.length) ++ zeros 2 ++ sha512 (c.take (derLength c)) ++ c
  match slot with
  | 0 => some (wrap Config.slot0Chain)
  | 1 => if s.mram.slot1.isEmpty then none else some (wrap s.mram.slot1)
  | _ => none

/-- The slots that hold a chain. -/
def State.chainMask (s : State) : Nat := if s.mram.slot1.isEmpty then 1 else 3

/-! ## Measurement blocks (R478, R571) -/

/-- The blocks that are served: all nine after the seal, blocks 1, 4, 5 and 6 otherwise. -/
def State.blocks (s : State) : List Nat := if s.hoop.phase == .sealed then [1, 2, 3, 4, 5, 6, 7, 8, 9] else [1, 4, 5, 6]

/-- The content of a block; before a seal the keys are those that mask ROM and MRAM hold. -/
def State.blockContent (s : State) (i : Nat) : Bytes :=
  if i = 4 && s.hoop.phase != .sealed then Config.vendorKeyHash ++ sha512 (s.mram.ownerKey.getD []) else s.measurement i

/-- The DMTF value type of a block, bit 7 set for a raw value. -/
def blockType (i : Nat) : Byte :=
  match i with
  | 1 => 0x00 | 2 => 0x01 | 3 => 0x03 | 4 => 0x83 | 5 => 0x87 | 6 => 0x82 | _ => 0x84

/-- A measurement block as SPDM carries it. -/
def State.spdmBlock (s : State) (i : Nat) : Bytes :=
  let v := s.blockContent i
  [BitVec.ofNat 8 i, 1] ++ natLe 2 (3 + v.length) ++ [blockType i] ++ natLe 2 v.length ++ v

/-- The device signs the hash of a transcript, under the prefix of SPDM 1.3 and a context. -/
def spdmSign (context : String) (m : Bytes) : Bytes :=
  let p := ascii "dmtf-spdm-v1.3.*"
  let c := ascii context
  edSign identitySeed (p ++ p ++ p ++ p ++ zeros (36 - c.length) ++ c ++ sha512 m)

/-! ## The responder -/

/-- `GET_VERSION`: the list holds 1.3 only, and the exchange begins anew. -/
def State.version (s : State) (q : Requester) : State :=
  let r : Bytes := [0x10, 0x04, 0, 0, 0, 1] ++ natLe 2 0x1300
  s.spdmSend q r (fun _ => { version := true, vca := Config.spdmRequest 0x84 [] ++ r })

/-- `GET_CAPABILITIES`: `CERT_CAP`, `CHAL_CAP`, and `MEAS_CAP` with signature. -/
def State.capabilities (s : State) (q : Requester) (v : BitVec 8) : State :=
  if !(s.spdm q).version then s.spdmError q 0x04 0
  else if v ≠ 0x13 then s.spdmError q 0x41 0
  else
    let r : Bytes := [0x13, 0x61, 0, 0, 0, BitVec.ofNat 8 (Config.spdmValue 0), 0, 0] ++ natLe 4 0x16 ++
      natLe 4 (Config.spdmValue 1) ++ natLe 4 (Config.spdmValue 2)
    s.spdmSend q r (fun x => { x with caps := true, vca := x.vca ++ Config.spdmRequest 0xE1 [v] ++ r, meas := [] })

/-- `NEGOTIATE_ALGORITHMS`: Ed25519 is bit 10 of the asymmetric algorithms, SHA-512 bit 2 of the hashes. -/
def State.algorithms (s : State) (q : Requester) (asym hash : BitVec 32) : State :=
  let ed := asym.getLsbD 10
  let sha := hash.getLsbD 2
  if !(s.spdm q).caps then s.spdmError q 0x04 0
  else if !ed && !sha then s.spdmError q 0x01 0
  else
    let r : Bytes := [0x13, 0x63, 0, 0] ++ natLe 2 36 ++ [1, 0] ++ natLe 4 8 ++ natLe 4 (if ed then 0x400 else 0) ++
      natLe 4 (if sha then 4 else 0) ++ zeros 16
    s.spdmSend q r (fun x => { x with
      algs := true, vca := x.vca ++ Config.spdmRequest 0xE3 (natLe 4 asym.toNat ++ natLe 4 hash.toNat) ++ r, meas := [] })

/-- `GET_DIGESTS`. -/
def State.digests (s : State) (q : Requester) : State :=
  if !(s.spdm q).algs then s.spdmError q 0x04 0
  else
    let r : Bytes := [0x13, 0x01, 3, BitVec.ofNat 8 s.chainMask] ++ [0, 1].flatMap (fun k => match s.chainOf k with | some c => sha512 c | none => [])
    s.spdmSend q r (fun x => { x with certs := x.certs ++ Config.spdmRequest 0x81 [] ++ r, meas := [] })

/-- `GET_CERTIFICATE`: a part of a slot's chain. -/
def State.certificate (s : State) (q : Requester) (slot off len : Nat) : State :=
  if !(s.spdm q).algs then s.spdmError q 0x04 0
  else match s.chainOf slot with
    | none => s.spdmError q 0x01 0
    | some c =>
      if c.length ≤ off then s.spdmError q 0x01 0
      else
        let part := slice c off len
        let r : Bytes := [0x13, 0x02, BitVec.ofNat 8 slot, 0] ++ natLe 2 part.length ++ natLe 2 (c.length - off - part.length) ++ part
        let m := Config.spdmRequest 0x82 ([BitVec.ofNat 8 slot] ++ natLe 2 off ++ natLe 2 len)
        s.spdmSend q r (fun x => { x with certs := x.certs ++ m ++ r, meas := [] })

/-- The measurement summary of a challenge: none, the trusted computing base, or every block. -/
def State.summary (s : State) (kind : Nat) : Bytes :=
  if kind = 0 then []
  else sha512 ((s.blocks.filter (fun i => kind = 0xFF || Config.inTcb i)).flatMap s.spdmBlock)

/-- `CHALLENGE`: a signed `CHALLENGE_AUTH`. The requester's context is the part of its request that the command does not name. -/
def State.challenge (s : State) (q : Requester) (slot : Nat) (nonce : Bytes) (kind : Nat) : State :=
  if !(s.spdm q).algs then s.spdmError q 0x04 0
  else match s.chainOf slot with
    | none => s.spdmError q 0x01 0
    | some c =>
      if kind ≠ 0 ∧ kind ≠ 1 ∧ kind ≠ 0xFF then s.spdmError q 0x01 0
      else
        let (d, s) := s.draw
        let x := s.spdm q
        let m := Config.spdmRequest 0x83 ([BitVec.ofNat 8 slot, BitVec.ofNat 8 kind] ++ padTo 32 nonce)
        let body : Bytes := [0x13, 0x03, BitVec.ofNat 8 slot, BitVec.ofNat 8 s.chainMask] ++ sha512 c ++ Config.randomBytes d 32 ++
          s.summary kind ++ zeros 2 ++ slice (padTo 44 m) 36 8
        let r := body ++ spdmSign "responder-challenge_auth signing" (x.vca ++ x.certs ++ m ++ body)
        s.spdmSend q r (fun x => { x with certs := [], meas := [] })

/-- `GET_MEASUREMENTS` (R478, R480): operation 0 asks how many blocks there are, 0xFF for all, any other for one. -/
def State.measurements (s : State) (q : Requester) (op : Nat) (signed : Bool) (nonce : Bytes) (slot : Nat) : State :=
  if !(s.spdm q).algs then s.spdmError q 0x04 0
  else if op ≠ 0 ∧ op ≠ 0xFF ∧ !s.blocks.contains op then s.spdmError q 0x01 0
  else if signed && (s.chainOf slot).isNone then s.spdmError q 0x01 0
  else
    let l := if op = 0 then [] else if op = 0xFF then s.blocks else [op]
    let record := l.flatMap s.spdmBlock
    let (d, s) := s.draw
    let x := s.spdm q
    let m := Config.spdmRequest 0xE0 ([BitVec.ofNat 8 (bit signed), BitVec.ofNat 8 op] ++ (if signed then padTo 32 nonce ++ [BitVec.ofNat 8 slot] else []))
    let body : Bytes := [0x13, 0x60, BitVec.ofNat 8 (if op = 0 then s.blocks.length else 0), BitVec.ofNat 8 (if signed then slot else 0),
        BitVec.ofNat 8 l.length] ++ natLe 3 record.length ++ record ++ Config.randomBytes d 32 ++ zeros 2 ++
        slice (padTo 45 m) (if signed then 37 else 4) 8
    let all := x.meas ++ m ++ body
    let r := body ++ (if signed then spdmSign "responder-measurements signing" (x.vca ++ all) else [])
    s.spdmSend q r (fun x => { x with meas := if signed then [] else all })

/-- The codes of the requests that are answered (R477). -/
def spdmCodes : List Nat := [0x84, 0xE1, 0xE3, 0x81, 0x82, 0x83, 0xE0]

/-! ## MCTP on I3C (R548) -/

/-- The endpoint has an address and the Hoop die serves it. -/
def State.mctpUp (s : State) : Bool := s.managed && s.hoop.i3c.isSome

/-- A die's place in the order of `hottest_die` (R641). -/
def dieNumber : Die → Nat
  | .hoop => 0 | .warp => 1 | .weft d => 2 + d | .rim d => 6 + d | .osier d => 16 + d

/-- The answer to the status command: power over the last 1 s in 8 W steps, die temperatures, die failure mask (log 48). -/
def State.statusAnswer (s : State) : Bytes :=
  natLe 2 (min 65535 (s.hoop.power1s / 8000)) ++ (List.range 20).map (fun k => BitVec.ofNat 8 (nth s.hoop.temps k)) ++
    natLe 4 ((s.hlt.lostDies.map (fun d => 2 ^ dieNumber d)).foldl (· ||| ·) 0)

/-- The answer to the ring command: the entries that the ring still holds of those asked for (log 48). -/
def State.ringAnswer (s : State) (ring start count : Nat) : Bytes :=
  let r := if ring = 0 then s.hoop.ownerRing else s.hoop.eventRings.getD 0 {}
  if 1 < ring ∨ count = 0 ∨ 16 < count then []
  else (List.range count).flatMap (fun i => ((r.entries.find? (fun e => e.1 = start + i)).map (·.2)).getD [])

/-! ## The meanings -/

/-- `DOE_DISCOVERY` (R545): the protocol at an index, and the next index. -/
def execDoeDiscovery (t fn index : Nat) (s : State) : Host.Outcome State Fault Refusal :=
  if fn < 2 then
    let s := s.at t
    let r : Bytes := match index with
      | 0 => natLe 2 0x0001 ++ [0, 1]
      | 1 => natLe 2 0x0001 ++ [1, 2]
      | 2 => natLe 2 0x1F4C ++ [1, 0]
      | _ => natLe 2 0xFFFF ++ [0, 0]
    .next (if s.managed && s.fnUp fn then s.respond (.doe fn) r else s)
  else .fault .noSuchUnit

/-- `GET_VERSION` (R477). -/
def execGetVersion (t : Nat) (q : Requester) (s : State) : Host.Outcome State Fault Refusal := spdmRow t q (·.version q) s

/-- `GET_CAPABILITIES` (R477). -/
def execGetCapabilities (t : Nat) (q : Requester) (version : BitVec 8) (s : State) : Host.Outcome State Fault Refusal :=
  spdmRow t q (·.capabilities q version) s

/-- `NEGOTIATE_ALGORITHMS` (R477). -/
def execNegotiateAlgorithms (t : Nat) (q : Requester) (baseAsym baseHash : BitVec 32) (s : State) : Host.Outcome State Fault Refusal :=
  spdmRow t q (·.algorithms q baseAsym baseHash) s

/-- `GET_DIGESTS` (R477). -/
def execGetDigests (t : Nat) (q : Requester) (s : State) : Host.Outcome State Fault Refusal := spdmRow t q (·.digests q) s

/-- `GET_CERTIFICATE` (R475). -/
def execGetCertificate (t : Nat) (q : Requester) (slot offset length : Nat) (s : State) : Host.Outcome State Fault Refusal :=
  spdmRow t q (·.certificate q slot offset length) s

/-- `CHALLENGE` (R477). -/
def execChallenge (t : Nat) (q : Requester) (slot : Nat) (nonce : Bytes) (measType : BitVec 8) (s : State) :
    Host.Outcome State Fault Refusal :=
  spdmRow t q (·.challenge q slot nonce measType.toNat) s

/-- `GET_MEASUREMENTS` (R480). -/
def execGetMeasurements (t : Nat) (q : Requester) (op : Nat) (signed : Bool) (nonce : Bytes) (slot : Nat) (s : State) :
    Host.Outcome State Fault Refusal :=
  spdmRow t q (·.measurements q op signed nonce slot) s

/-- `SPDM_UNSUPPORTED_REQUEST` (R477). -/
def execSpdmUnsupportedRequest (t : Nat) (q : Requester) (code : BitVec 8) (s : State) : Host.Outcome State Fault Refusal :=
  if spdmCodes.contains code.toNat then .fault .notThisCommand else spdmRow t q (·.spdmError q 0x07 code.toNat) s

/-- `MCTP_CONTROL` (R548). -/
def execMctpControl (t : Nat) (bytes : Bytes) (s : State) : Host.Outcome State Fault Refusal :=
  let s := s.at t
  .next (if s.mctpUp then s.respond .mctp (Config.mctpReply bytes) else s)

/-- `MCTP_STATUS` (R548). -/
def execMctpStatus (t : Nat) (s : State) : Host.Outcome State Fault Refusal :=
  let s := s.at t
  .next (if s.mctpUp then s.respond .mctp s.statusAnswer else s)

/-- `MCTP_READ_RING` (R548); in recovery and after a trip the command is not served (R571). -/
def execMctpReadRing (t ring start count : Nat) (s : State) : Host.Outcome State Fault Refusal :=
  let s := s.at t
  .next (if s.mctpUp && s.hoop.phase == .sealed then s.respond .mctp (s.ringAnswer ring start count) else s)

/-- `ENTDAA` (R548). -/
def execEntdaa (t : Nat) (addr : BitVec 7) (s : State) : Host.Outcome State Fault Refusal :=
  let s := s.at t
  .next (if s.hoop.phase = .off then s else s.modHoop (fun h => { h with i3c := some addr }))

/-- `SETDASA` (R548): the target with the static address `HOOP_I3C_ADDR` takes the dynamic address. -/
def execSetdasa (t : Nat) (static dynamic : BitVec 7) (s : State) : Host.Outcome State Fault Refusal :=
  let s := s.at t
  .next (if s.hoop.phase = .off || static.toNat ≠ s.cfg.hoop.i3cAddr then s
    else s.modHoop (fun h => { h with i3c := some dynamic }))

end Sys2Proof.Machine
end

