-- ==== Sys2Proof/Machine/Coherence.lean ====
section
/-! DEFINITION. The commands of the package coherence protocol (chapter 14). A row that names a message stands for its arrival:
the message leaves the network where it is in flight. A cluster's request that is not in flight is first issued, where the
line's state lets the cluster issue it (DEDUCED, log 41). -/

namespace Sys2Proof.Machine

/-! ## Cluster requests at the home -/

/-- A cluster's request for a line reaches its home: it is issued where it is not in flight and may be, and it is granted
where the line is free. -/
def State.ask (s : State) (c line : Nat) (m : Msg) (is : Msg → Bool) (fromStates : List L2State) (goal : Option L2State) (near : Bool)
    (grant : State → State) : State :=
  let flying := s.mem.net.any is
  let may := fromStates.contains (s.l2State c line) && (!near || (s.addressable line && (s.viewTouched line 128).isNone))
  let s := if flying || !may then s else (match goal with | some st => s.setL2 c line st none | none => s).say [m]
  if (flying || may) && s.homeOpen line then (grant (s.hear is)).stir else s

/-- The line of an address. -/
def lineAt (a : Nat) : Nat := a / 128 * 128

/-- A cluster of the package. -/
def isCluster (c : Nat) : Bool := decide (c < 32)

/-- `RD_S` (R403). -/
def execRdS (t c line : Nat) (cid : BitVec 16) (s : State) : Host.Outcome State Fault Refusal :=
  if isCluster c then
    let l := lineAt line
    .next ((s.at t).ask c l (.rdS c l cid) (fun m => match m with | .rdS d k _ => d == c && k == l | _ => false) [.i] (some .isD) true
      (fun s => s.grantRdS c l cid))
  else .fault .noSuchUnit

/-- `RD_X` (R403). -/
def execRdX (t c line : Nat) (cid : BitVec 16) (s : State) : Host.Outcome State Fault Refusal :=
  if isCluster c then
    let l := lineAt line
    .next ((s.at t).ask c l (.rdX c l cid) (fun m => match m with | .rdX d k _ => d == c && k == l | _ => false) [.i] (some .imD) true
      (fun s => s.grantRdX c l cid))
  else .fault .noSuchUnit

/-- `UPG` (R403). -/
def execUpg (t c line : Nat) (cid : BitVec 16) (s : State) : Host.Outcome State Fault Refusal :=
  if isCluster c then
    let l := lineAt line
    .next ((s.at t).ask c l (.upg c l cid) (fun m => match m with | .upg d k _ => d == c && k == l | _ => false) [.s, .n] (some .smA) true
      (fun s => s.grantUpg c l cid))
  else .fault .noSuchUnit

/-- `RD_U` (R403). A read of a view waits while the version that serves it is not yet accepted (R485). -/
def execRdU (t c line : Nat) (cid : BitVec 16) (s : State) : Host.Outcome State Fault Refusal :=
  if isCluster c then
    let l := lineAt line
    let s := s.at t
    match s.servedLine l with
    | some g =>
      if s.homeOpen g then
        .next (s.ask c l (.rdU c l cid) (fun m => match m with | .rdU d k _ => d == c && k == l | _ => false) [.i] none false
          (fun s => s.grantRdU c l g cid))
      else .next s
    | none => .next s
  else .fault .noSuchUnit

/-- `WR_U` (R403). A write to a staging line waits for its tagged readers (R483). -/
def execWrU (t c line : Nat) (cid : BitVec 16) (mask : BitVec 128) (s : State) : Host.Outcome State Fault Refusal :=
  if isCluster c then
    let l := lineAt line
    let s := s.at t
    if s.stagingHeld l 128 then .next s
    else .next (s.ask c l (.wrU c l cid mask) (fun m => match m with | .wrU d k _ _ => d == c && k == l | _ => false) [.i] none false
      (fun s => s.grantWrU c l cid mask))
  else .fault .noSuchUnit

/-- `EVC_C` (R403). -/
def execEvcC (t c line : Nat) (s : State) : Host.Outcome State Fault Refusal :=
  if isCluster c then
    let l := lineAt line
    .next ((s.at t).ask c l (.evcC c l) (· == .evcC c l) [.e, .s, .n] (some .xiA) false (fun s => s.grantEvcC c l))
  else .fault .noSuchUnit

/-- `EVC_D` (R403). -/
def execEvcD (t c line : Nat) (s : State) : Host.Outcome State Fault Refusal :=
  if isCluster c then
    let l := lineAt line
    .next ((s.at t).ask c l (.evcD c l) (· == .evcD c l) [.m] (some .miA) false (fun s => s.grantEvcD c l))
  else .fault .noSuchUnit

/-- `LINE_FLUSH` (R403, R414). -/
def execLineFlush (t line : Nat) (s : State) : Host.Outcome State Fault Refusal :=
  let l := lineAt line
  let s := s.at t
  .next (if s.homeOpen l then (s.takeLine 32 l .flush).stir else s)

/-! ## Answers and data at the home -/

/-- `SR_I` (R403). -/
def execSrI (t c line : Nat) (withData dirty : Bool) (s : State) : Host.Outcome State Fault Refusal :=
  if isCluster c then
    let l := lineAt line
    let s := (s.at t).hear (fun m => match m with | .srI d k _ _ => d == c && k == l | _ => false)
    .next (s.snoopAnswer c l false withData dirty).stir
  else .fault .noSuchUnit

/-- `SR_N` (R403). -/
def execSrN (t c line : Nat) (withData dirty : Bool) (s : State) : Host.Outcome State Fault Refusal :=
  if isCluster c then
    let l := lineAt line
    let s := (s.at t).hear (fun m => match m with | .srN d k _ _ => d == c && k == l | _ => false)
    .next (s.snoopAnswer c l true withData dirty).stir
  else .fault .noSuchUnit

/-- `LINE_DATA` (R404). Where the cluster's data is in flight, that is the data which arrives. -/
def execLineData (t c line : Nat) (bytes : Bytes) (mask : BitVec 128) (s : State) : Host.Outcome State Fault Refusal :=
  if isCluster c then
    let l := lineAt line
    let s := s.at t
    let flying := s.mem.net.findSome? (fun m => match m with
      | .dataHome d k b x => if d = c ∧ k = l then some (b, x) else none
      | _ => none)
    let s := s.hear (fun m => match m with | .dataHome d k _ _ => d == c && k == l | _ => false)
    let (b, x) := flying.getD (padTo 128 (bytes.take 128), mask)
    .next (s.homeData c l b x.toNat).stir
  else .fault .noSuchUnit

/-- `CACK` (R405). -/
def execCack (t c line : Nat) (s : State) : Host.Outcome State Fault Refusal :=
  if isCluster c then
    let l := lineAt line
    let s := (s.at t).hear (· == .cack c l)
    .next (if s.holdOf l = some (.cmp c) then (s.setHold l none).stir else s)
  else .fault .noSuchUnit

/-- `STACK_ACCESS_DONE` (R405). -/
def execStackAccessDone (t line : Nat) (s : State) : Host.Outcome State Fault Refusal :=
  .next ((s.at t).stackDone (lineAt line)).stir

/-! ## Messages at the cluster -/

/-- `SNP_SHR` (R406). -/
def execSnpShr (t c line : Nat) (s : State) : Host.Outcome State Fault Refusal :=
  if isCluster c then .next (((s.at t).hear (· == .snpShr c (lineAt line))).answerSnoop c (lineAt line) .shr) else .fault .noSuchUnit

/-- `SNP_FWD` (R406). -/
def execSnpFwd (t c line : Nat) (s : State) : Host.Outcome State Fault Refusal :=
  if isCluster c then .next (((s.at t).hear (· == .snpFwd c (lineAt line))).answerSnoop c (lineAt line) .fwd) else .fault .noSuchUnit

/-- `SNP_I` (R406). -/
def execSnpI (t c line : Nat) (s : State) : Host.Outcome State Fault Refusal :=
  if isCluster c then .next (((s.at t).hear (· == .snpI c (lineAt line))).answerSnoop c (lineAt line) .inv) else .fault .noSuchUnit

/-- `CMP_E` (R406). -/
def execCmpE (t c line : Nat) (bytes : Bytes) (s : State) : Host.Outcome State Fault Refusal :=
  if isCluster c then
    let l := lineAt line
    .next (((s.at t).hear (· == .cmpE c l)).completed c l .e (some (padTo 128 (bytes.take 128))))
  else .fault .noSuchUnit

/-- `CMP_S` (R406). -/
def execCmpS (t c line : Nat) (bytes : Bytes) (s : State) : Host.Outcome State Fault Refusal :=
  if isCluster c then
    let l := lineAt line
    .next (((s.at t).hear (· == .cmpS c l)).completed c l .s (some (padTo 128 (bytes.take 128))))
  else .fault .noSuchUnit

/-- `CMP_N` (R406). -/
def execCmpN (t c line : Nat) (bytes : Bytes) (s : State) : Host.Outcome State Fault Refusal :=
  if isCluster c then
    let l := lineAt line
    .next (((s.at t).hear (· == .cmpN c l)).completed c l .n (some (padTo 128 (bytes.take 128))))
  else .fault .noSuchUnit

/-- `CMP_M` (R406): without data it answers a listed `UPG`. -/
def execCmpM (t c line : Nat) (bytes : Option Bytes) (s : State) : Host.Outcome State Fault Refusal :=
  if isCluster c then
    let l := lineAt line
    .next (((s.at t).hear (· == .cmpM c l)).completed c l .m (bytes.map (fun b => padTo 128 (b.take 128))))
  else .fault .noSuchUnit

/-- `BUF_GNT` (R406). -/
def execBufGnt (t c line : Nat) (s : State) : Host.Outcome State Fault Refusal :=
  if isCluster c then .next (((s.at t).hear (· == .bufGnt c (lineAt line))).granted c (lineAt line)) else .fault .noSuchUnit

/-- `CMP_W` (R410). The write it answers was applied at the home: the message has only to arrive. -/
def execCmpW (t c line : Nat) (s : State) : Host.Outcome State Fault Refusal :=
  if isCluster c then .next ((s.at t).hear (· == .cmpW c (lineAt line))) else .fault .noSuchUnit

/-- `CMP_EVC` (R406). -/
def execCmpEvc (t c line : Nat) (s : State) : Host.Outcome State Fault Refusal :=
  if isCluster c then .next (((s.at t).hear (· == .cmpEvc c (lineAt line))).evicted c (lineAt line)) else .fault .noSuchUnit

/-- `NAK` (R402). -/
def execNak (t c line : Nat) (_st : Status) (s : State) : Host.Outcome State Fault Refusal :=
  if isCluster c then
    let l := lineAt line
    .next (((s.at t).hear (fun m => match m with | .nak d k _ => d == c && k == l | _ => false)).refused c l)
  else .fault .noSuchUnit

/-! ## Core accesses (R126 to R128, R406) -/

/-- A core's access faults (R126): the event, and the end of the operator that the core runs. -/
def State.coreFault (s : State) (c core : Nat) (write : Bool) (vaddr n : Nat) : State :=
  let p := (s.cluster c).part
  let cid := match s.localContext p with | some k => k.cid | none => 0
  let s := s.xlateFault (s.engineHeader cid write (vaddr % 2 ^ 48) n) p
  match s.eng.tiles.find? (fun x => x.cluster = c ∧ x.core = core) with
  | some x => s.endRequest x.req .denied
  | none => s

/-- One core access inside a line, at a global address: to the caches, uncached to this node, or in frames to another. -/
def State.coreLine (s : State) (c core : Nat) (k : Context) (g : Nat) (data : Option Bytes) : State :=
  let o := offOf g
  let l := lineAt o
  let n := match data with | some b => b.length | none => 128 - o % 128
  if !s.isOwn g then
    let st : Stream := BitVec.ofNat 8 (0x40 + c)
    let dst : Node := BitVec.ofNat 16 (nodeOf g)
    let (q, s) := s.takeSeq dst st
    let h := s.ownHeader (if data.isSome then 2 else 1) (if data.isSome then 5 else 4) st dst q k.cid 0 0 n 1 o false
    s.originate (.core c core) h (data.getD []) k.part 0
  else if s.addressable o && (s.viewTouched l 128).isNone then s.access k.cid ⟨c, core, l, o % 128, data⟩
  else match data with
    | none => s.say [.rdU c l k.cid]
    | some b => (s.say [.wrU c l k.cid (BitVec.ofNat 128 ((2 ^ b.length - 1) * 2 ^ (o % 128)))]).stall ⟨c, core, l, o % 128, data⟩

/-- A core access at a virtual address: translated by the cluster's partition, and remembered by its TLBs (R125, R126). -/
def State.coreAccess (s : State) (c core vaddr : Nat) (data : Option Bytes) : State :=
  let x := s.cluster c
  let n := match data with | some b => b.length | none => 1
  if !x.assigned || x.gated then s
  else match s.runAt x.part vaddr with
    | none => s.coreFault c core data.isSome vaddr n
    | some r =>
      if !r.admits data.isSome then s.coreFault c core data.isSome vaddr n
      else
        let s := s.modCluster c (fun y => { y with tlb := if y.tlb.contains r.virtBase then y.tlb else y.tlb ++ [r.virtBase] })
        match s.localContext x.part with
        | some k => s.coreLine c core k (r.globalBase + (vaddr - r.virtBase)) data
        | none => s

/-- Bytes cut at the ends of lines. -/
def linePieces : Nat → Nat → Bytes → List (Nat × Bytes)
  | 0, _, _ => []
  | fuel + 1, a, b =>
    if b.isEmpty then []
    else
      let n := 128 - a % 128
      (a, b.take n) :: linePieces fuel (a + n) (b.drop n)

/-- `CORE_READ` (R406). The core reads from the line of its address. -/
def execCoreRead (t c core vaddr : Nat) (s : State) : Host.Outcome State Fault Refusal :=
  if isCluster c && decide (core < 8) then .next ((s.at t).coreAccess c core vaddr none) else .fault .noSuchUnit

/-- `CORE_WRITE` (R406). A write across lines is one access to each. -/
def execCoreWrite (t c core vaddr : Nat) (bytes : Bytes) (s : State) : Host.Outcome State Fault Refusal :=
  if isCluster c && decide (core < 8) then
    .next ((s.at t).each (linePieces (bytes.length + 1) vaddr bytes) (fun s x => s.coreAccess c core x.1 (some x.2)))
  else .fault .noSuchUnit

/-- `VICTIM_CHOSEN` (R406). -/
def execVictimChosen (t c line : Nat) (s : State) : Host.Outcome State Fault Refusal :=
  if isCluster c then .next ((s.at t).victim c (lineAt line)) else .fault .noSuchUnit

/-- `SNOOP_ANSWER_TIMEOUT` (R407): a snoop is unanswered for 2 µs. -/
def execSnoopAnswerTimeout (t c line : Nat) (s : State) : Host.Outcome State Fault Refusal :=
  if isCluster c then
    let s := s.at t
    match s.holdOf (lineAt line) with
    | some (.snp _ waiting datas _ _ _ _ since) =>
      if (waiting.contains c || datas.contains c) && since + 2 * ticksPerUs ≤ s.now then
        let s := (s.event 0x0E03 toBoth none none (.resource 3 c [lineAt line])).healthInput c 256
        .next (s.askReset (.cluster c))
      else .next s
    | _ => .next s
  else .fault .noSuchUnit

end Sys2Proof.Machine
end

