-- ==== Sys2Proof/Machine/Dispatch.lean ====
section
/-! DEFINITION. The one table from commands to meanings: one arm per constructor, one direct call each. -/

namespace Sys2Proof.Machine

/-- The effect of a command on everything but the queue, which arrives already without the command. -/
def exec (i : Instr) (s : State) : Host.Outcome State Fault Refusal :=
  match i with
  | .coldPowerOn t => Sys2Proof.Machine.execColdPowerOn t s
  | .perstWarmReset t => Sys2Proof.Machine.execPerstWarmReset t s
  | .perstLink1 t => Sys2Proof.Machine.execPerstLink1 t s
  | .hoopRestart t => Sys2Proof.Machine.execHoopRestart t s
  | .vin12Loss t => Sys2Proof.Machine.execVin12Loss t s
  | .vaux3Loss t => Sys2Proof.Machine.execVaux3Loss t s
  | .vin12InRange t => Sys2Proof.Machine.execVin12InRange t s
  | .bootStart t card c => Sys2Proof.Machine.execBootStart t card c s
  | .referenceLock t port => Sys2Proof.Machine.execReferenceLock t port s
  | .deviceReset t r body => Sys2Proof.Machine.execDeviceReset t r body s
  | .deviceResetProceed t => Sys2Proof.Machine.execDeviceResetProceed t s
  | .islandReset t isl => Sys2Proof.Machine.execIslandReset t isl s
  | .islandRecoveryDone t isl => Sys2Proof.Machine.execIslandRecoveryDone t isl s
  | .islandResetOvertime t isl => Sys2Proof.Machine.execIslandResetOvertime t isl s
  | .flitReplay t x again => Sys2Proof.Machine.execFlitReplay t x again s
  | .sidebandLoss t d => Sys2Proof.Machine.execSidebandLoss t d s
  | .lotDrainComplete t arb => Sys2Proof.Machine.execLotDrainComplete t arb s
  | .lotDrainTimeout t arb => Sys2Proof.Machine.execLotDrainTimeout t arb s
  | .quiesceTimer t => Sys2Proof.Machine.execQuiesceTimer t s
  | .thermalSample t temps => Sys2Proof.Machine.execThermalSample t temps s
  | .tripRestart t cause => Sys2Proof.Machine.execTripRestart t cause s
  | .powerSample t milliwatts => Sys2Proof.Machine.execPowerSample t milliwatts s
  | .clusterStopWindow t c opening => Sys2Proof.Machine.execClusterStopWindow t c opening s
  | .powerReportWindow t milliwatts => Sys2Proof.Machine.execPowerReportWindow t milliwatts s
  | .load t a f d => Sys2Proof.Machine.execLoad t a f d s
  | .store t a f d => Sys2Proof.Machine.execStore t a f d s
  | .flush t a f => Sys2Proof.Machine.execFlush t a f s
  | .publish t a f => Sys2Proof.Machine.execPublish t a f s
  | .publishFlushDone t rangeId => Sys2Proof.Machine.execPublishFlushDone t rangeId s
  | .stagingWriteRelease t rangeId line => Sys2Proof.Machine.execStagingWriteRelease t rangeId line s
  | .atomicFaddInteger t a f d => Sys2Proof.Machine.execAtomicFaddInteger t a f d s
  | .atomicFaddFloat t a f d => Sys2Proof.Machine.execAtomicFaddFloat t a f d s
  | .atomicFminInteger t a f d => Sys2Proof.Machine.execAtomicFminInteger t a f d s
  | .atomicFminFloat t a f d => Sys2Proof.Machine.execAtomicFminFloat t a f d s
  | .atomicFmaxInteger t a f d => Sys2Proof.Machine.execAtomicFmaxInteger t a f d s
  | .atomicFmaxFloat t a f d => Sys2Proof.Machine.execAtomicFmaxFloat t a f d s
  | .atomicCas t a f d => Sys2Proof.Machine.execAtomicCas t a f d s
  | .atomicSwap t a f d => Sys2Proof.Machine.execAtomicSwap t a f d s
  | .reducePut t a f => Sys2Proof.Machine.execReducePut t a f s
  | .partialFrame t a f => Sys2Proof.Machine.execPartialFrame t a f s
  | .segmentRoundExpiry t k seg => Sys2Proof.Machine.execSegmentRoundExpiry t k seg s
  | .reissueRoundDeadline t k seg => Sys2Proof.Machine.execReissueRoundDeadline t k seg s
  | .collectiveRebind t k => Sys2Proof.Machine.execCollectiveRebind t k s
  | .mcastStore t a f => Sys2Proof.Machine.execMcastStore t a f s
  | .gather t a f => Sys2Proof.Machine.execGather t a f s
  | .scatterAdd t a f => Sys2Proof.Machine.execScatterAdd t a f s
  | .predicateFilter t a f => Sys2Proof.Machine.execPredicateFilter t a f s
  | .topK t a f => Sys2Proof.Machine.execTopK t a f s
  | .embeddingBag t a f => Sys2Proof.Machine.execEmbeddingBag t a f s
  | .smallDenseProjection t a f => Sys2Proof.Machine.execSmallDenseProjection t a f s
  | .treeEnsemble t a f => Sys2Proof.Machine.execTreeEnsemble t a f s
  | .collectiveSetup t a f => Sys2Proof.Machine.execCollectiveSetup t a f s
  | .collectiveRelease t a f => Sys2Proof.Machine.execCollectiveRelease t a f s
  | .collectiveReleaseDone t k => Sys2Proof.Machine.execCollectiveReleaseDone t k s
  | .unsupportedOpcode t a f => Sys2Proof.Machine.execUnsupportedOpcode t a f s
  | .xcheckOffload t a f => Sys2Proof.Machine.execXcheckOffload t a f s
  | .xcheckTimeout t req => Sys2Proof.Machine.execXcheckTimeout t req s
  | .operatorStart t c => Sys2Proof.Machine.execOperatorStart t c s
  | .tileStart t c => Sys2Proof.Machine.execTileStart t c s
  | .tileComplete t c core => Sys2Proof.Machine.execTileComplete t c core s
  | .operatorComplete t req => Sys2Proof.Machine.execOperatorComplete t req s
  | .dispatchQueueDeadline t req => Sys2Proof.Machine.execDispatchQueueDeadline t req s
  | .offer t a f => Sys2Proof.Machine.execOffer t a f s
  | .take t a f => Sys2Proof.Machine.execTake t a f s
  | .orphanHoldExpiry t stateIndex => Sys2Proof.Machine.execOrphanHoldExpiry t stateIndex s
  | .mirror t a f => Sys2Proof.Machine.execMirror t a f s
  | .responseAck t a f => Sys2Proof.Machine.execResponseAck t a f s
  | .responseNack t a f => Sys2Proof.Machine.execResponseNack t a f s
  | .frameResendTimer t node stream seq => Sys2Proof.Machine.execFrameResendTimer t node stream seq s
  | .frameUnanswered t node stream seq => Sys2Proof.Machine.execFrameUnanswered t node stream seq s
  | .requestAgeLimit t req => Sys2Proof.Machine.execRequestAgeLimit t req s
  | .landingWriteRefill t node stream seq => Sys2Proof.Machine.execLandingWriteRefill t node stream seq s
  | .entrySettle t node stream => Sys2Proof.Machine.execEntrySettle t node stream s
  | .nodeRetireComplete t node => Sys2Proof.Machine.execNodeRetireComplete t node s
  | .pendingFrameRelease t node stream d => Sys2Proof.Machine.execPendingFrameRelease t node stream d s
  | .pendingFrameDeadline t node stream seq => Sys2Proof.Machine.execPendingFrameDeadline t node stream seq s
  | .mirrorTimeout t writer index => Sys2Proof.Machine.execMirrorTimeout t writer index s
  | .markInterval t writer => Sys2Proof.Machine.execMarkInterval t writer s
  | .idleMarkInterval t writer => Sys2Proof.Machine.execIdleMarkInterval t writer s
  | .entryRetire t writer index shadow => Sys2Proof.Machine.execEntryRetire t writer index shadow s
  | .anchorUpdate t writer => Sys2Proof.Machine.execAnchorUpdate t writer s
  | .mapEpochGraceExpiry t => Sys2Proof.Machine.execMapEpochGraceExpiry t s
  | .failoverStreamsOpen t => Sys2Proof.Machine.execFailoverStreamsOpen t s
  | .crossbarSlot t => Sys2Proof.Machine.execCrossbarSlot t s
  | .urgentPromotion t inp out tc => Sys2Proof.Machine.execUrgentPromotion t inp out tc s
  | .calendarWheelTick t => Sys2Proof.Machine.execCalendarWheelTick t s
  | .spillOn t => Sys2Proof.Machine.execSpillOn t s
  | .spillOff t => Sys2Proof.Machine.execSpillOff t s
  | .spillRefill t inp out tc => Sys2Proof.Machine.execSpillRefill t inp out tc s
  | .refillReturn t inp out tc d => Sys2Proof.Machine.execRefillReturn t inp out tc d s
  | .egressFrameStart t port sub => Sys2Proof.Machine.execEgressFrameStart t port sub s
  | .lotteryDraw t arb arrivals => Sys2Proof.Machine.execLotteryDraw t arb arrivals s
  | .stackAccessDone t line => Sys2Proof.Machine.execStackAccessDone t line s
  | .rdS t c line cid => Sys2Proof.Machine.execRdS t c line cid s
  | .rdX t c line cid => Sys2Proof.Machine.execRdX t c line cid s
  | .upg t c line cid => Sys2Proof.Machine.execUpg t c line cid s
  | .rdU t c line cid => Sys2Proof.Machine.execRdU t c line cid s
  | .wrU t c line cid mask => Sys2Proof.Machine.execWrU t c line cid mask s
  | .evcC t c line => Sys2Proof.Machine.execEvcC t c line s
  | .evcD t c line => Sys2Proof.Machine.execEvcD t c line s
  | .lineFlush t line => Sys2Proof.Machine.execLineFlush t line s
  | .srI t c line withData dirty => Sys2Proof.Machine.execSrI t c line withData dirty s
  | .srN t c line withData dirty => Sys2Proof.Machine.execSrN t c line withData dirty s
  | .lineData t c line bytes mask => Sys2Proof.Machine.execLineData t c line bytes mask s
  | .cack t c line => Sys2Proof.Machine.execCack t c line s
  | .snpShr t c line => Sys2Proof.Machine.execSnpShr t c line s
  | .snpFwd t c line => Sys2Proof.Machine.execSnpFwd t c line s
  | .snpI t c line => Sys2Proof.Machine.execSnpI t c line s
  | .cmpE t c line bytes => Sys2Proof.Machine.execCmpE t c line bytes s
  | .cmpS t c line bytes => Sys2Proof.Machine.execCmpS t c line bytes s
  | .cmpN t c line bytes => Sys2Proof.Machine.execCmpN t c line bytes s
  | .cmpM t c line bytes => Sys2Proof.Machine.execCmpM t c line bytes s
  | .bufGnt t c line => Sys2Proof.Machine.execBufGnt t c line s
  | .cmpW t c line => Sys2Proof.Machine.execCmpW t c line s
  | .cmpEvc t c line => Sys2Proof.Machine.execCmpEvc t c line s
  | .nak t c line status => Sys2Proof.Machine.execNak t c line status s
  | .coreRead t c core vaddr => Sys2Proof.Machine.execCoreRead t c core vaddr s
  | .coreWrite t c core vaddr bytes => Sys2Proof.Machine.execCoreWrite t c core vaddr bytes s
  | .victimChosen t c line => Sys2Proof.Machine.execVictimChosen t c line s
  | .snoopAnswerTimeout t c line => Sys2Proof.Machine.execSnoopAnswerTimeout t c line s
  | .prefetchDoorbell t a f => Sys2Proof.Machine.execPrefetchDoorbell t a f s
  | .prefetchInstanceLanded t part step entry => Sys2Proof.Machine.execPrefetchInstanceLanded t part step entry s
  | .oneMsWindow t => Sys2Proof.Machine.execOneMsWindow t s
  | .moverDoorbell t ch a f => Sys2Proof.Machine.execMoverDoorbell t ch a f s
  | .moverRestart t ch a f => Sys2Proof.Machine.execMoverRestart t ch a f s
  | .moverDescriptorStart t ch => Sys2Proof.Machine.execMoverDescriptorStart t ch s
  | .moverDescriptorComplete t ch => Sys2Proof.Machine.execMoverDescriptorComplete t ch s
  | .moverRetryTimer t ch => Sys2Proof.Machine.execMoverRetryTimer t ch s
  | .moverPaceResume t ch => Sys2Proof.Machine.execMoverPaceResume t ch s
  | .scrubComplete t part => Sys2Proof.Machine.execScrubComplete t part s
  | .consentExpiry t part => Sys2Proof.Machine.execConsentExpiry t part s
  | .keyTransferTimeout t part => Sys2Proof.Machine.execKeyTransferTimeout t part s
  | .batchClose t part => Sys2Proof.Machine.execBatchClose t part s
  | .blockReceived t port sub b bytes => Sys2Proof.Machine.execBlockReceived t port sub b bytes s
  | .blockCheckFail t port sub => Sys2Proof.Machine.execBlockCheckFail t port sub s
  | .retryRequest t port sub acked => Sys2Proof.Machine.execRetryRequest t port sub acked s
  | .retryLimitRetrain t port sub => Sys2Proof.Machine.execRetryLimitRetrain t port sub s
  | .trainBlockReceived t port sub b receiptMark => Sys2Proof.Machine.execTrainBlockReceived t port sub b receiptMark s
  | .linkTrainingDone t port sub => Sys2Proof.Machine.execLinkTrainingDone t port sub s
  | .laneMarker t port bytes => Sys2Proof.Machine.execLaneMarker t port bytes s
  | .wavelengthHealthWindow t port readings => Sys2Proof.Machine.execWavelengthHealthWindow t port readings s
  | .laserMonitorFault t port wave => Sys2Proof.Machine.execLaserMonitorFault t port wave s
  | .spareLocked t port => Sys2Proof.Machine.execSpareLocked t port s
  | .linkDownHoldExpiry t port sub => Sys2Proof.Machine.execLinkDownHoldExpiry t port sub s
  | .rxLightLoss t port => Sys2Proof.Machine.execRxLightLoss t port s
  | .rxLightReturn t port => Sys2Proof.Machine.execRxLightReturn t port s
  | .resyncStore t a f => Sys2Proof.Machine.execResyncStore t a f s
  | .resyncCopyDone t => Sys2Proof.Machine.execResyncCopyDone t s
  | .healthScoreTick t => Sys2Proof.Machine.execHealthScoreTick t s
  | .expelBudgetRoom t => Sys2Proof.Machine.execExpelBudgetRoom t s
  | .expelThresholdLower t kind => Sys2Proof.Machine.execExpelThresholdLower t kind s
  | .witnessExpiry t => Sys2Proof.Machine.execWitnessExpiry t s
  | .soloHoldTimeout t => Sys2Proof.Machine.execSoloHoldTimeout t s
  | .cloveRateAdapt t sub svc rate cause => Sys2Proof.Machine.execCloveRateAdapt t sub svc rate cause s
  | .cloveAdmitAdapt t part window cause => Sys2Proof.Machine.execCloveAdmitAdapt t part window cause s
  | .clovePfDepthAdapt t part up cause => Sys2Proof.Machine.execClovePfDepthAdapt t part up cause s
  | .cloveWeakSymAdapt t port value cause => Sys2Proof.Machine.execCloveWeakSymAdapt t port value cause s
  | .voqSamplePeriod t => Sys2Proof.Machine.execVoqSamplePeriod t s
  | .serviceSampleWindow t => Sys2Proof.Machine.execServiceSampleWindow t s
  | .meterClose t part => Sys2Proof.Machine.execMeterClose t part s
  | .msixHoldoffExpiry t fn vec => Sys2Proof.Machine.execMsixHoldoffExpiry t fn vec s
  | .recordQueueAdvance t => Sys2Proof.Machine.execRecordQueueAdvance t s
  | .compositionEpochAdvance t r items => Sys2Proof.Machine.execCompositionEpochAdvance t r items s
  | .mapEpochAdvance t r items => Sys2Proof.Machine.execMapEpochAdvance t r items s
  | .contextInstall t r pre body post => Sys2Proof.Machine.execContextInstall t r pre body post s
  | .contextRemove t r pre body post => Sys2Proof.Machine.execContextRemove t r pre body post s
  | .runInstall t r pre body post => Sys2Proof.Machine.execRunInstall t r pre body post s
  | .runRemove t r pre body post => Sys2Proof.Machine.execRunRemove t r pre body post s
  | .runUnmapComplete t part virtBase => Sys2Proof.Machine.execRunUnmapComplete t part virtBase s
  | .accessEntryInstall t r pre body post => Sys2Proof.Machine.execAccessEntryInstall t r pre body post s
  | .accessEntryRemove t r pre body post => Sys2Proof.Machine.execAccessEntryRemove t r pre body post s
  | .subscriberInstall t r pre body post => Sys2Proof.Machine.execSubscriberInstall t r pre body post s
  | .subscriberRemove t r pre body post => Sys2Proof.Machine.execSubscriberRemove t r pre body post s
  | .serviceInstall t r pre body post => Sys2Proof.Machine.execServiceInstall t r pre body post s
  | .serviceRemove t r pre body post => Sys2Proof.Machine.execServiceRemove t r pre body post s
  | .groupInstall t r pre body post => Sys2Proof.Machine.execGroupInstall t r pre body post s
  | .groupRemove t r pre body post => Sys2Proof.Machine.execGroupRemove t r pre body post s
  | .sumacRangeInstall t r pre body post => Sys2Proof.Machine.execSumacRangeInstall t r pre body post s
  | .sumacRangeRemove t r pre body post => Sys2Proof.Machine.execSumacRangeRemove t r pre body post s
  | .extentInstall t r pre body post => Sys2Proof.Machine.execExtentInstall t r pre body post s
  | .extentRemove t r pre body post => Sys2Proof.Machine.execExtentRemove t r pre body post s
  | .mirroredRangeInstall t r pre body post => Sys2Proof.Machine.execMirroredRangeInstall t r pre body post s
  | .mirroredRangeRemove t r pre body post => Sys2Proof.Machine.execMirroredRangeRemove t r pre body post s
  | .prefetchScheduleInstall t r pre body post => Sys2Proof.Machine.execPrefetchScheduleInstall t r pre body post s
  | .prefetchScheduleRemove t r pre body post => Sys2Proof.Machine.execPrefetchScheduleRemove t r pre body post s
  | .channelBindingInstall t r pre body post => Sys2Proof.Machine.execChannelBindingInstall t r pre body post s
  | .channelBindingRemove t r pre body post => Sys2Proof.Machine.execChannelBindingRemove t r pre body post s
  | .portShareInstall t r pre body post => Sys2Proof.Machine.execPortShareInstall t r pre body post s
  | .portShareRemove t r pre body post => Sys2Proof.Machine.execPortShareRemove t r pre body post s
  | .publishedRangeInstall t r pre body post => Sys2Proof.Machine.execPublishedRangeInstall t r pre body post s
  | .publishedRangeRemove t r pre body post => Sys2Proof.Machine.execPublishedRangeRemove t r pre body post s
  | .forwardingInstall t r pre body post => Sys2Proof.Machine.execForwardingInstall t r pre body post s
  | .forwardingRemove t r pre body post => Sys2Proof.Machine.execForwardingRemove t r pre body post s
  | .sourceRangesInstall t r pre body post => Sys2Proof.Machine.execSourceRangesInstall t r pre body post s
  | .sourceRangesRemove t r pre body post => Sys2Proof.Machine.execSourceRangesRemove t r pre body post s
  | .clusterItem t r pre body post => Sys2Proof.Machine.execClusterItem t r pre body post s
  | .clusterLeaveProceed t c => Sys2Proof.Machine.execClusterLeaveProceed t c s
  | .partitionSetup t r pre body post => Sys2Proof.Machine.execPartitionSetup t r pre body post s
  | .partitionTeardown t r pre body post => Sys2Proof.Machine.execPartitionTeardown t r pre body post s
  | .partitionRingInstall t r pre body post => Sys2Proof.Machine.execPartitionRingInstall t r pre body post s
  | .partitionRingRemove t r pre body post => Sys2Proof.Machine.execPartitionRingRemove t r pre body post s
  | .nodeAndPairInstall t r pre body post => Sys2Proof.Machine.execNodeAndPairInstall t r pre body post s
  | .journalReset t r pre body post => Sys2Proof.Machine.execJournalReset t r pre body post s
  | .standbyEnter t r pre body post => Sys2Proof.Machine.execStandbyEnter t r pre body post s
  | .standbyLeave t r pre body post => Sys2Proof.Machine.execStandbyLeave t r pre body post s
  | .deviceAdmit t r pre body post => Sys2Proof.Machine.execDeviceAdmit t r pre body post s
  | .witnessSetInstall t r pre body post => Sys2Proof.Machine.execWitnessSetInstall t r pre body post s
  | .revocation t r body => Sys2Proof.Machine.execRevocation t r body s
  | .publishWitness t r body => Sys2Proof.Machine.execPublishWitness t r body s
  | .publishWitnessDeferred t => Sys2Proof.Machine.execPublishWitnessDeferred t s
  | .consent t r body => Sys2Proof.Machine.execConsent t r body s
  | .replayLockOn t r body => Sys2Proof.Machine.execReplayLockOn t r body s
  | .replayLockOff t r body => Sys2Proof.Machine.execReplayLockOff t r body s
  | .keyTransfer t r body => Sys2Proof.Machine.execKeyTransfer t r body s
  | .pairAdmissionOffer t r body => Sys2Proof.Machine.execPairAdmissionOffer t r body s
  | .pairAdmissionAnswer t r body => Sys2Proof.Machine.execPairAdmissionAnswer t r body s
  | .ownerCertificateFragment t r body => Sys2Proof.Machine.execOwnerCertificateFragment t r body s
  | .unsupportedRecordType t r body => Sys2Proof.Machine.execUnsupportedRecordType t r body s
  | .hoopMbxDoorbell t fn value slotBytes => Sys2Proof.Machine.execHoopMbxDoorbell t fn value slotBytes s
  | .w1cClear t fn offset value => Sys2Proof.Machine.execW1cClear t fn offset value s
  | .registerWriteDropped t fn offset value => Sys2Proof.Machine.execRegisterWriteDropped t fn offset value s
  | .unsupportedRequestTlp t fn addr isRead => Sys2Proof.Machine.execUnsupportedRequestTlp t fn addr isRead s
  | .doeDiscovery t fn index => Sys2Proof.Machine.execDoeDiscovery t fn index s
  | .getVersion t q => Sys2Proof.Machine.execGetVersion t q s
  | .getCapabilities t q version => Sys2Proof.Machine.execGetCapabilities t q version s
  | .negotiateAlgorithms t q baseAsym baseHash => Sys2Proof.Machine.execNegotiateAlgorithms t q baseAsym baseHash s
  | .getDigests t q => Sys2Proof.Machine.execGetDigests t q s
  | .getCertificate t q slot offset length => Sys2Proof.Machine.execGetCertificate t q slot offset length s
  | .challenge t q slot nonce measType => Sys2Proof.Machine.execChallenge t q slot nonce measType s
  | .getMeasurements t q op signed nonce slot => Sys2Proof.Machine.execGetMeasurements t q op signed nonce slot s
  | .spdmUnsupportedRequest t q code => Sys2Proof.Machine.execSpdmUnsupportedRequest t q code s
  | .mctpControl t bytes => Sys2Proof.Machine.execMctpControl t bytes s
  | .mctpStatus t => Sys2Proof.Machine.execMctpStatus t s
  | .mctpReadRing t ring start count => Sys2Proof.Machine.execMctpReadRing t ring start count s
  | .mctpSubmitRecord t r body => Sys2Proof.Machine.execMctpSubmitRecord t r body s
  | .entdaa t addr => Sys2Proof.Machine.execEntdaa t addr s
  | .setdasa t static dynamic => Sys2Proof.Machine.execSetdasa t static dynamic s
  | .doorbellStoreDeadline t part => Sys2Proof.Machine.execDoorbellStoreDeadline t part s
  | .aerError t fn err => Sys2Proof.Machine.execAerError t fn err s

end Sys2Proof.Machine
end

