-- ==== Sys2Proof/WellFormed.lean ====
section
/-! DEFINITION. Which commands are well formed: they name units that the package has, and their operands fit the row of
spec/opcode_table.json that the constructor stands for. A command that is not well formed stops the step with a fault. -/

namespace Sys2Proof

open Machine

/-! ## Units (R14, R17, R18, R624) -/

/-- A frame arrives at one of 64 ports, on one of at most four links. -/
def arrivalOk (a : Arrival) : Bool := a.port < 64 && a.sub < 4

/-- An island of the package. -/
def islandExists : Island → Bool
  | .warpSched | .warpData => true
  | .cluster c => c < 32
  | .weft d | .osier d => d < 4
  | .rim d => d < 2

/-- A die crossing of the package. -/
def crossingExists : Crossing → Bool
  | .osierWarp d | .weftWarp d => d < 4
  | .rimWarp d => d < 2
  | .hoopWarp => true
  | .weftRim w r => w < 4 && r < 2

/-- A die with a sideband (R24): every die but the Hoop die. -/
def dieExists : Die → Bool
  | .hoop => false
  | .warp => true
  | .weft d | .osier d => d < 4
  | .rim d => d < 2

/-- One of the two DOE mailboxes, or the MCTP endpoint (R477). -/
def requesterExists : Requester → Bool
  | .doe fn => fn < 2
  | .mctp => true

/-- A port that locked, or none. -/
def portNamed : Option Nat → Bool
  | some p => p < 64
  | none => true

/-! ## Frames (R39, R45, R313) -/

/-- The payload has the length that the header gives (R39). -/
def frameOk (f : Frame) : Bool :=
  f.payload.length == (if f.hdr.length != 0 && f.hdr.opcode != 0x01 then f.hdr.length.toNat else 0)

/-- An `OFFLOAD` with an operator code. -/
def isOperator (f : Frame) (code : Nat) : Bool := f.hdr.opcode == 0x30 && leAt f.payload 0 1 == code

/-- The opcodes that R45 assigns. -/
def assignedOpcodes : List (BitVec 8) :=
  [0x01, 0x02, 0x03, 0x04, 0x10, 0x11, 0x12, 0x13, 0x14, 0x15, 0x16, 0x17, 0x20, 0x21, 0x30, 0x40, 0x41, 0x80, 0x81, 0x90, 0xA0]

/-- The operator codes that are assigned (R313, R281, R298). -/
def assignedOperators : List Nat := [1, 2, 3, 4, 5, 6, 7, 0xC0, 0xC1]

/-- The opcode, or the operator code of an `OFFLOAD`, is not assigned. -/
def notAssigned (f : Frame) : Bool :=
  !assignedOpcodes.contains f.hdr.opcode || (f.hdr.opcode == 0x30 && !assignedOperators.contains (leAt f.payload 0 1))

/-! ## Records (R535, R538, R545 to R548) -/

/-- The path exists. -/
def pathExists : RecPath → Bool
  | .doe fn => fn < 2
  | .mailbox fn slot => fn < 2 && slot < 256
  | .i3c => true
  | .frame h => h.opcode == 0xA0

/-- A wrapper on a path that exists, its target and signature of their sizes. -/
def envOk (r : RecEnv) : Bool := pathExists r.path && r.target.length == 32 && r.signature.length == 64

/-- A composition record about one of its items, whose body a record can hold. -/
def itemRecord (r : RecEnv) (body : Bytes) : Bool := envOk r && r.recType == 0x0C01 && decide (body.length ≤ 3984)

/-- The record types that are received (R538). -/
def receivedTypes : List (BitVec 16) := [0x0C01, 0x0C02, 0x0C03, 0x0C51, 0x0C52, 0x0C60, 0x0C61, 0x0C70, 0x0C80]

/-- The SPDM requests that are answered with their own response (R477). -/
def spdmAnswered (code : BitVec 8) : Bool := [0x84, 0xE1, 0xE3, 0x81, 0x82, 0x83, 0xE0].contains code

/-! ## Commands -/

/-- The command names units that exist and fits its row. -/
def Instr.wellFormed : Instr → Bool
  | .coldPowerOn _ => true
  | .perstWarmReset _ => true
  | .perstLink1 _ => true
  | .hoopRestart _ => true
  | .vin12Loss _ => true
  | .vaux3Loss _ => true
  | .vin12InRange _ => true
  | .bootStart _ _ _ => true
  | .referenceLock _ port => portNamed port
  | .deviceReset _ r _ => envOk r && (r.recType == 0x0C80)
  | .deviceResetProceed _ => true
  | .islandReset _ isl => islandExists isl
  | .islandRecoveryDone _ isl => islandExists isl
  | .islandResetOvertime _ isl => islandExists isl
  | .flitReplay _ x _ => crossingExists x
  | .sidebandLoss _ d => dieExists d
  | .lotDrainComplete _ arb => arb < 67
  | .lotDrainTimeout _ arb => arb < 67
  | .quiesceTimer _ => true
  | .thermalSample _ temps => temps.length == 20
  | .tripRestart _ _ => true
  | .powerSample _ _ => true
  | .clusterStopWindow _ c _ => c < 32
  | .powerReportWindow _ _ => true
  | .load _ a f _ => arrivalOk a && frameOk f && f.hdr.opcode == 0x01
  | .store _ a f _ => arrivalOk a && frameOk f && f.hdr.opcode == 0x02
  | .flush _ a f => arrivalOk a && frameOk f && f.hdr.opcode == 0x03
  | .publish _ a f => arrivalOk a && frameOk f && f.hdr.opcode == 0x04
  | .publishFlushDone _ _ => true
  | .stagingWriteRelease _ _ _ => true
  | .atomicFaddInteger _ a f _ => arrivalOk a && frameOk f && f.hdr.opcode == 0x10
  | .atomicFaddFloat _ a f _ => arrivalOk a && frameOk f && f.hdr.opcode == 0x11
  | .atomicFminInteger _ a f _ => arrivalOk a && frameOk f && f.hdr.opcode == 0x12
  | .atomicFminFloat _ a f _ => arrivalOk a && frameOk f && f.hdr.opcode == 0x13
  | .atomicFmaxInteger _ a f _ => arrivalOk a && frameOk f && f.hdr.opcode == 0x14
  | .atomicFmaxFloat _ a f _ => arrivalOk a && frameOk f && f.hdr.opcode == 0x15
  | .atomicCas _ a f _ => arrivalOk a && frameOk f && f.hdr.opcode == 0x16
  | .atomicSwap _ a f _ => arrivalOk a && frameOk f && f.hdr.opcode == 0x17
  | .reducePut _ a f => arrivalOk a && frameOk f && f.hdr.opcode == 0x20
  | .partialFrame _ a f => arrivalOk a && frameOk f && f.hdr.opcode == 0x20 && f.hdr.stream == 0x7C
  | .segmentRoundExpiry _ _ _ => true
  | .reissueRoundDeadline _ _ _ => true
  | .collectiveRebind _ _ => true
  | .mcastStore _ a f => arrivalOk a && frameOk f && f.hdr.opcode == 0x21
  | .gather _ a f => arrivalOk a && frameOk f && isOperator f 0x1
  | .scatterAdd _ a f => arrivalOk a && frameOk f && isOperator f 0x2
  | .predicateFilter _ a f => arrivalOk a && frameOk f && isOperator f 0x3
  | .topK _ a f => arrivalOk a && frameOk f && isOperator f 0x4
  | .embeddingBag _ a f => arrivalOk a && frameOk f && isOperator f 0x5
  | .smallDenseProjection _ a f => arrivalOk a && frameOk f && isOperator f 0x6
  | .treeEnsemble _ a f => arrivalOk a && frameOk f && isOperator f 0x7
  | .collectiveSetup _ a f => arrivalOk a && frameOk f && isOperator f 0xC0
  | .collectiveRelease _ a f => arrivalOk a && frameOk f && isOperator f 0xC1
  | .collectiveReleaseDone _ _ => true
  | .unsupportedOpcode _ a f => arrivalOk a && frameOk f && notAssigned f
  | .xcheckOffload _ a f => arrivalOk a && frameOk f && f.hdr.opcode == 0x30 && f.hdr.stream == 0x7A
  | .xcheckTimeout _ _ => true
  | .operatorStart _ c => c < 32
  | .tileStart _ c => c < 32
  | .tileComplete _ c core => c < 32 && core < 8
  | .operatorComplete _ _ => true
  | .dispatchQueueDeadline _ _ => true
  | .offer _ a f => arrivalOk a && frameOk f && f.hdr.opcode == 0x40
  | .take _ a f => arrivalOk a && frameOk f && f.hdr.opcode == 0x41
  | .orphanHoldExpiry _ _ => true
  | .mirror _ a f => arrivalOk a && frameOk f && f.hdr.opcode == 0x90
  | .responseAck _ a f => arrivalOk a && frameOk f && f.hdr.opcode == 0x80
  | .responseNack _ a f => arrivalOk a && frameOk f && f.hdr.opcode == 0x81
  | .frameResendTimer _ _ _ _ => true
  | .frameUnanswered _ _ _ _ => true
  | .requestAgeLimit _ _ => true
  | .landingWriteRefill _ _ _ _ => true
  | .entrySettle _ _ _ => true
  | .nodeRetireComplete _ _ => true
  | .pendingFrameRelease _ _ _ _ => true
  | .pendingFrameDeadline _ _ _ _ => true
  | .mirrorTimeout _ writer _ => writer < 2
  | .markInterval _ writer => writer < 2
  | .idleMarkInterval _ writer => writer < 2
  | .entryRetire _ writer _ _ => writer < 2
  | .anchorUpdate _ writer => writer < 2
  | .mapEpochGraceExpiry _ => true
  | .failoverStreamsOpen _ => true
  | .crossbarSlot _ => true
  | .urgentPromotion _ inp out tc => inp < 160 && out < 160 && tc < 8
  | .calendarWheelTick _ => true
  | .spillOn _ => true
  | .spillOff _ => true
  | .spillRefill _ inp out tc => inp < 160 && out < 160 && tc < 8
  | .refillReturn _ inp out tc _ => inp < 160 && out < 160 && tc < 8
  | .egressFrameStart _ port sub => port < 64 && sub < 4
  | .lotteryDraw _ arb arrivals => arb < 67 && arrivals.all (fun x => x.requester < 64)
  | .stackAccessDone _ _ => true
  | .rdS _ c _ _ => c < 32
  | .rdX _ c _ _ => c < 32
  | .upg _ c _ _ => c < 32
  | .rdU _ c _ _ => c < 32
  | .wrU _ c _ _ _ => c < 32
  | .evcC _ c _ => c < 32
  | .evcD _ c _ => c < 32
  | .lineFlush _ _ => true
  | .srI _ c _ _ _ => c < 32
  | .srN _ c _ _ _ => c < 32
  | .lineData _ c _ bytes _ => c < 32 && bytes.length == 128
  | .cack _ c _ => c < 32
  | .snpShr _ c _ => c < 32
  | .snpFwd _ c _ => c < 32
  | .snpI _ c _ => c < 32
  | .cmpE _ c _ bytes => c < 32 && bytes.length == 128
  | .cmpS _ c _ bytes => c < 32 && bytes.length == 128
  | .cmpN _ c _ bytes => c < 32 && bytes.length == 128
  | .cmpM _ c _ _ => c < 32
  | .bufGnt _ c _ => c < 32
  | .cmpW _ c _ => c < 32
  | .cmpEvc _ c _ => c < 32
  | .nak _ c _ _ => c < 32
  | .coreRead _ c core _ => c < 32 && core < 8
  | .coreWrite _ c core _ _ => c < 32 && core < 8
  | .victimChosen _ c _ => c < 32
  | .snoopAnswerTimeout _ c _ => c < 32
  | .prefetchDoorbell _ a f => arrivalOk a && frameOk f && f.hdr.opcode == 0x02
  | .prefetchInstanceLanded _ part _ _ => part < 16
  | .oneMsWindow _ => true
  | .moverDoorbell _ ch a f => ch < 128 && arrivalOk a && frameOk f && f.hdr.opcode == 0x02
  | .moverRestart _ ch a f => ch < 128 && arrivalOk a && frameOk f && f.hdr.opcode == 0x02 && (leNat f.payload).testBit 63
  | .moverDescriptorStart _ ch => ch < 128
  | .moverDescriptorComplete _ ch => ch < 128
  | .moverRetryTimer _ ch => ch < 128
  | .moverPaceResume _ ch => ch < 128
  | .scrubComplete _ part => part < 16
  | .consentExpiry _ part => part < 16
  | .keyTransferTimeout _ part => part < 16
  | .batchClose _ part => part < 16
  | .blockReceived _ port sub b _ => port < 64 && sub < 4 && b.kind != 2
  | .blockCheckFail _ port sub => port < 64 && sub < 4
  | .retryRequest _ port sub _ => port < 64 && sub < 4
  | .retryLimitRetrain _ port sub => port < 64 && sub < 4
  | .trainBlockReceived _ port sub _ _ => port < 64 && sub < 4
  | .linkTrainingDone _ port sub => port < 64 && sub < 4
  | .laneMarker _ port _ => port < 64
  | .wavelengthHealthWindow _ port readings => port < 64 && readings.all (fun x => x.wave < 9)
  | .laserMonitorFault _ port wave => port < 64 && wave < 9
  | .spareLocked _ port => port < 64
  | .linkDownHoldExpiry _ port sub => port < 64 && sub < 4
  | .rxLightLoss _ port => port < 64
  | .rxLightReturn _ port => port < 64
  | .resyncStore _ a f => arrivalOk a && frameOk f && f.hdr.opcode == 0x02 && f.hdr.stream == 0x7B
  | .resyncCopyDone _ => true
  | .healthScoreTick _ => true
  | .expelBudgetRoom _ => true
  | .expelThresholdLower _ kind => 1 ≤ kind && kind ≤ 5
  | .witnessExpiry _ => true
  | .soloHoldTimeout _ => true
  | .cloveRateAdapt _ sub svc _ _ => sub < 4096 && svc < 16
  | .cloveAdmitAdapt _ part _ _ => part < 16
  | .clovePfDepthAdapt _ part _ _ => part < 16
  | .cloveWeakSymAdapt _ port _ _ => port < 64
  | .voqSamplePeriod _ => true
  | .serviceSampleWindow _ => true
  | .meterClose _ part => part < 16
  | .msixHoldoffExpiry _ fn vec => fn < 2 && vec < 4
  | .recordQueueAdvance _ => true
  | .compositionEpochAdvance _ r _ => envOk r && (r.recType == 0x0C01)
  | .mapEpochAdvance _ r _ => envOk r && (r.recType == 0x0C01)
  | .contextInstall _ r _ body _ => itemRecord r body
  | .contextRemove _ r _ body _ => itemRecord r body
  | .runInstall _ r _ body _ => itemRecord r body
  | .runRemove _ r _ body _ => itemRecord r body
  | .runUnmapComplete _ part _ => part < 16
  | .accessEntryInstall _ r _ body _ => itemRecord r body
  | .accessEntryRemove _ r _ body _ => itemRecord r body
  | .subscriberInstall _ r _ body _ => itemRecord r body
  | .subscriberRemove _ r _ body _ => itemRecord r body
  | .serviceInstall _ r _ body _ => itemRecord r body
  | .serviceRemove _ r _ body _ => itemRecord r body
  | .groupInstall _ r _ body _ => itemRecord r body
  | .groupRemove _ r _ body _ => itemRecord r body
  | .sumacRangeInstall _ r _ body _ => itemRecord r body
  | .sumacRangeRemove _ r _ body _ => itemRecord r body
  | .extentInstall _ r _ body _ => itemRecord r body
  | .extentRemove _ r _ body _ => itemRecord r body
  | .mirroredRangeInstall _ r _ body _ => itemRecord r body
  | .mirroredRangeRemove _ r _ body _ => itemRecord r body
  | .prefetchScheduleInstall _ r _ body _ => itemRecord r body
  | .prefetchScheduleRemove _ r _ body _ => itemRecord r body
  | .channelBindingInstall _ r _ body _ => itemRecord r body
  | .channelBindingRemove _ r _ body _ => itemRecord r body
  | .portShareInstall _ r _ body _ => itemRecord r body
  | .portShareRemove _ r _ body _ => itemRecord r body
  | .publishedRangeInstall _ r _ body _ => itemRecord r body
  | .publishedRangeRemove _ r _ body _ => itemRecord r body
  | .forwardingInstall _ r _ body _ => itemRecord r body
  | .forwardingRemove _ r _ body _ => itemRecord r body
  | .sourceRangesInstall _ r _ body _ => itemRecord r body
  | .sourceRangesRemove _ r _ body _ => itemRecord r body
  | .clusterItem _ r _ body _ => itemRecord r body
  | .clusterLeaveProceed _ c => c < 32
  | .partitionSetup _ r _ body _ => itemRecord r body && (leAt body 1 1 != 2)
  | .partitionTeardown _ r _ body _ => itemRecord r body && (leAt body 1 1 == 2)
  | .partitionRingInstall _ r _ body _ => itemRecord r body
  | .partitionRingRemove _ r _ body _ => itemRecord r body
  | .nodeAndPairInstall _ r _ body _ => itemRecord r body
  | .journalReset _ r _ body _ => itemRecord r body && ((leAt body 4 1).testBit 4)
  | .standbyEnter _ r _ body _ => itemRecord r body && ((leAt body 4 1).testBit 5)
  | .standbyLeave _ r _ body _ => itemRecord r body && (!(leAt body 4 1).testBit 5)
  | .deviceAdmit _ r _ body _ => itemRecord r body && ((leAt body 4 1).testBit 3)
  | .witnessSetInstall _ r _ body _ => itemRecord r body
  | .revocation _ r _ => envOk r && (r.recType == 0x0C02)
  | .publishWitness _ r _ => envOk r && (r.recType == 0x0C03)
  | .publishWitnessDeferred _ => true
  | .consent _ r _ => envOk r && (r.recType == 0x0C51)
  | .replayLockOn _ r body => envOk r && (r.recType == 0x0C52 && beAt body 3 1 != 2)
  | .replayLockOff _ r body => envOk r && (r.recType == 0x0C52 && beAt body 3 1 == 2)
  | .keyTransfer _ r _ => envOk r && (r.recType == 0x0C60)
  | .pairAdmissionOffer _ r body => envOk r && (r.recType == 0x0C61 && beAt body 2 1 != 2)
  | .pairAdmissionAnswer _ r body => envOk r && (r.recType == 0x0C61 && beAt body 2 1 == 2)
  | .ownerCertificateFragment _ r _ => envOk r && (r.recType == 0x0C70)
  | .unsupportedRecordType _ r _ => envOk r && (!receivedTypes.contains r.recType)
  | .hoopMbxDoorbell _ fn _ _ => fn < 2
  | .w1cClear _ fn _ _ => fn < 2
  | .registerWriteDropped _ fn _ _ => fn < 2
  | .unsupportedRequestTlp _ fn _ _ => fn < 2
  | .doeDiscovery _ fn _ => fn < 2
  | .getVersion _ q => requesterExists q
  | .getCapabilities _ q _ => requesterExists q
  | .negotiateAlgorithms _ q _ _ => requesterExists q
  | .getDigests _ q => requesterExists q
  | .getCertificate _ q _ _ _ => requesterExists q
  | .challenge _ q _ _ _ => requesterExists q
  | .getMeasurements _ q _ _ _ _ => requesterExists q
  | .spdmUnsupportedRequest _ q code => requesterExists q && !spdmAnswered code
  | .mctpControl _ _ => true
  | .mctpStatus _ => true
  | .mctpReadRing _ _ _ _ => true
  | .mctpSubmitRecord _ r _ => envOk r && (r.path == .i3c)
  | .entdaa _ _ => true
  | .setdasa _ _ _ => true
  | .doorbellStoreDeadline _ part => part < 16
  | .aerError _ fn _ => fn < 2

end Sys2Proof
end

