-- ==== Sys2Proof/Safety.lean ====
section
/-! DEFINITION. What counts as a safe run: every step of it answers a next state; and the shape that every state of the device has. -/

namespace Sys2Proof

open Machine

/-- The state after `n` steps, where none of them stops. -/
def runs : Nat → State → Option State
  | 0, s => some s
  | n + 1, s => match step s with
    | .next t => runs n t
    | _ => none

/-- A queue that can be worked off: every command in it is well formed. -/
def queueFit (s : State) : Bool := s.pending.all Instr.wellFormed

/-- The state is safe for `n` steps. -/
def safeFor (n : Nat) (s : State) : Prop := (runs n s).isSome

namespace Machine

/-- The command answers a next state, and `P` holds of it. -/
def gives (i : Instr) (s : State) (P : State → Prop) : Prop := ∃ u, exec i s = .next u ∧ P u

/-- The Hoop die's fixed sets have their sizes, and the holds lie within R632. -/
def Hoop.intact (h : Hoop) : Prop :=
  h.eventRings.length = 2 ∧ h.spdm.length = 3 ∧ h.chains.length = 3 ∧ h.pcieUp.length = 2 ∧ h.aer.length = 2 ∧
    h.powerHold ≤ 12 ∧ h.thermalHold ≤ 12

/-- The state has the shape of the device: memory in its canonical form, every fixed set of units of its size, the fence one
of those of R605, and the holds within R632. -/
structure State.intact (s : State) : Prop where
  canon : memWf s.mem.near = true
  parts : s.parts.length = 16
  arbs : s.arbs.length = 67
  chans : s.chans.length = 128
  clusters : s.eng.clusters.length = 32
  writers : s.jrn.writers.length = 2
  hoop : s.hoop.intact
  fence : s.hlt.fence ≤ 4
  high : s.mram.high.length = 2

end Machine

end Sys2Proof
end

