-- ==== Sys2Proof/Certificates/Slice0/Obligations.lean ====
section
/-! DEFINITION. The statements for the provers: what the commands of every family do, the shape that every step keeps, and what
resets, refusals and recoveries leave. `Claims` holds the notions that several statements share. -/

section

open Sys2Proof Sys2Proof.Machine

/-! ## The queue and the shape of the state -/

/-- A step runs the command at the front of the queue on the state with the queue's rest. On an empty queue the block idles (notes/assumptions/1.md: the model's
choice). -/
def Obligations.StepRunsTheFrontOrIdles : Prop :=
  (∀ (c : Instr) (rest : List Instr) (s : State), step { s with pending := c :: rest } = exec c { s with pending := rest }) ∧
  (∀ s : State, s.pending = [] → step s = .next s)

/-- What reset leaves, where the spec gives the values: the start fence, free partitions without a key, unbound channels, arbiters not frozen, no link, zero
counters, and a well-formed empty memory; and the shape of the device. The model's own reading or choice in it: notes/assumptions/6.md. -/
def Obligations.ResetLeavesTheResetColumn : Prop :=
  (State.reset.hlt.fence = 1 ∧ State.reset.hlt.fenceEvent = false ∧
  (∀ p < 16, (State.reset.part p).state = .free ∧ (State.reset.part p).keyId = 0 ∧ (State.reset.part p).keyPresent = false) ∧
  (∀ ch < 128, (State.reset.chan ch).state = 0 ∧ (State.reset.chan ch).consumer = 0 ∧ (State.reset.chan ch).halted = false) ∧
  (∀ a < 67, (State.reset.arb a).frozen = false ∧ (State.reset.arb a).waitMax = 0) ∧
  (∀ c < 32, (State.reset.cluster c).assigned = false ∧ (State.reset.cluster c).gated = true) ∧
  State.reset.links = [] ∧ State.reset.ctrs = [] ∧ State.reset.mem.near = [] ∧ State.reset.pending = []) ∧
  (State.reset.intact)

/-- Every step keeps the shape of the device: memory stays in its canonical form, no unit appears or vanishes, the fence stays one of those of R605, and the
holds stay within 0 to 12 (R632). -/
def Obligations.EveryStepKeepsTheStateIntact : Prop := ∀ s t : State, s.intact → step s = .next t → t.intact

/-- No command touches the queue, and the clock never runs backwards. The model's own reading or choice in it: notes/assumptions/1.md. -/
def Obligations.CommandsLeaveTheQueueAndTheClockForward : Prop :=
  ∀ (i : Instr) (s t : State), exec i s = .next t → t.pending = s.pending ∧ s.now ≤ t.now

/-- Every well-formed command answers a next state, in every state: ordinary data stops nothing. The model's own reading or choice in it:
notes/assumptions/145.md. -/
def Obligations.WellFormedCommandsNeverStop : Prop :=
  ∀ (i : Instr) (s : State), i.wellFormed = true → gives i s (fun u => u.pending = s.pending)

/-! ## Resets and starts -/

/-- The core of every reset of all dies (R578, R581): the start begins again, and the dies' own state is lost. -/
def Claims.startsAgain (cause : Nat) (ph : Phase) (u : State) : Prop :=
  u.hoop.phase = ph ∧ u.hoop.lastReset = cause ∧ u.cfg = {} ∧ u.jrn.reqs = [] ∧ u.jrn.outs = [] ∧ u.jrn.held = [] ∧
  u.warp.voq = [] ∧ u.links = [] ∧ u.mem.l2 = [] ∧ u.mem.filter = [] ∧ u.mem.sectors = [] ∧ u.eng.jobs = [] ∧ u.eng.colls = [] ∧
  u.hoop.queue = [] ∧ u.hlt.fence = 1

/-- What a reset of all dies keeps of a state (R573, R581): retained state, and the near tier and the journal unless the stacks lose
their contents; a cold power-on turns a RUNNING anchor STALE (R95). -/
def Claims.keepsRetained (cold lost : Bool) (s u : State) : Prop :=
  u.mem.near = (if lost then [] else s.mem.near) ∧
  u.tabs.compEpoch = s.tabs.compEpoch ∧ u.tabs.mapEpoch = s.tabs.mapEpoch ∧ u.tabs.extents = s.tabs.extents ∧
  u.tabs.mirrored = s.tabs.mirrored ∧ u.tabs.sumac = s.tabs.sumac ∧ u.tabs.node = s.tabs.node ∧
  u.mram.ownerKey = s.mram.ownerKey ∧ u.mram.keyCounter = s.mram.keyCounter ∧ u.mram.trips = s.mram.trips ∧
  u.hlt.scores = s.hlt.scores ∧ u.hlt.states = s.hlt.states ∧ u.hlt.expulsions = s.hlt.expulsions ∧
  (∀ w, (u.writer w).ring = (if lost then [] else (s.writer w).ring)) ∧
  (∀ w, (u.writer w).anchor.state =
    if cold && (s.writer w).anchor.state == .running then .stale else (s.writer w).anchor.state)

/-- Cold power-on, PERST of link 0, a Hoop restart and the loss of a rail start the device again (R578, R581, R638); a trip holds them back until every die is
10 °C below its warn temperature (R636). PERST of link 1 resets function 1 alone (R531): its SPDM state, mailbox, vectors, errors and event ring. A device reset
ends in a new start with its PCIe links held: in recovery at once, its record consumed (R571); drained, with its anchors CLEAN (R579). The model's own reading
or choice in it: notes/assumptions/128.md, notes/assumptions/131.md, notes/assumptions/132.md, notes/assumptions/133.md. -/
def Obligations.ResetsStartTheDeviceAgain : Prop :=
  (∀ t s, s.hoop.phase ≠ .tripped →
    gives (.coldPowerOn t) s (fun u => Claims.startsAgain 1 .waitCard u ∧ Claims.keepsRetained true true s u ∧ u.hoop.cold = true)) ∧
  (∀ t s, s.hoop.phase ≠ .off → s.hoop.phase ≠ .tripped →
    gives (.perstWarmReset t) s (fun u => Claims.startsAgain 2 .waitCard u ∧ Claims.keepsRetained false false s u)) ∧
  (∀ t s, s.hoop.phase ≠ .off → s.hoop.phase ≠ .tripped →
    gives (.hoopRestart t) s (fun u => Claims.startsAgain 4 .waitCard u ∧ Claims.keepsRetained false false s u)) ∧
  (∀ t s, s.hoop.phase ≠ .off → s.hoop.phase ≠ .tripped →
    gives (.vin12Loss t) s (fun u => Claims.startsAgain 4 .waitCard u ∧ Claims.keepsRetained true true s u ∧ u.hoop.cold = true)) ∧
  (∀ t s, gives (.vaux3Loss t) s (fun u => Claims.startsAgain 0 .off u ∧ Claims.keepsRetained true true s u)) ∧
  (∀ t s, s.hoop.spdm.length = 3 → s.hoop.aer.length = 2 → s.hoop.eventRings.length = 2 →
    gives (.perstLink1 t) s (fun u =>
      u.hoop.spdm[1]? = some ({} : Spdm) ∧ u.hoop.aer[1]? = some 0 ∧ u.hoop.eventRings[1]? = some ({} : Ring) ∧
      u.hoop.spdm[0]? = s.hoop.spdm[0]? ∧ u.hoop.aer[0]? = s.hoop.aer[0]? ∧ u.hoop.eventRings[0]? = s.hoop.eventRings[0]? ∧
      (∀ x ∈ u.hoop.mailbox, x.1.1 ≠ 1) ∧ (∀ x ∈ u.hoop.responses, x.1.1 ≠ 1) ∧ (∀ x ∈ u.hoop.msix, x.1.1 ≠ 1) ∧
      (∀ x ∈ s.hoop.mailbox, x.1.1 ≠ 1 → x ∈ u.hoop.mailbox) ∧
      u.hoop.phase = s.hoop.phase ∧ u.hoop.queue = s.hoop.queue ∧ u.hoop.ownerRing = s.hoop.ownerRing ∧ u.hoop.chains = s.hoop.chains ∧
      u.cfg = s.cfg ∧ u.tabs = s.tabs ∧ u.jrn = s.jrn ∧ u.mem = s.mem ∧ u.warp = s.warp ∧ u.arbs = s.arbs ∧ u.links = s.links ∧
      u.eng = s.eng ∧ u.chans = s.chans ∧ u.parts = s.parts ∧ u.hlt = s.hlt ∧ u.mram = s.mram)) ∧
  (∀ t s cause, s.hoop.phase = .tripped → s.hoop.tripWait = some cause → coolBy s.hoop.temps 10 = true → cause ≠ .deviceReset →
    gives (.tripRestart t cause) s (fun u =>
      Claims.startsAgain (if cause = .perst then 2 else 1) .waitCard u ∧ Claims.keepsRetained (cause == .coldPowerOn) false s u)) ∧
  (∀ t s cause, coolBy s.hoop.temps 10 = false → exec (.tripRestart t cause) s = .next (s.at t)) ∧
  (∀ t s, s.hoop.phase = .tripped →
    exec (.perstWarmReset t) s = .next ((s.at t).modHoop (fun h => { h with tripWait := some .perst })) ∧
    exec (.coldPowerOn t) s = .next ((s.at t).modHoop (fun h => { h with tripWait := some .coldPowerOn }))) ∧
  (∀ t s q fn slot, s.hoop.resetting = true → s.hoop.phase = .recovery → s.hoop.running = some (q, [.reset]) →
    q.path = .mailbox fn slot →
    gives (.deviceResetProceed t) s (fun u =>
      Claims.startsAgain 3 .waitCard u ∧ u.mem.near = s.mem.near ∧ u.hoop.pcieUp = s.hoop.pcieUp ∧
      (q.signer, q.number, sha512 q.bytes, Status.ok) ∈ u.mram.history)) ∧
  (∀ t s, s.hoop.resetting = true → s.hoop.phase = .sealed → s.tabs.paired = false → s.jrn.reqs = [] →
    s.jrn.writers.all (Writer.covered · false) = true →
    gives (.deviceResetProceed t) s (fun u =>
      Claims.startsAgain 3 .waitCard u ∧ u.hoop.pcieUp = s.hoop.pcieUp ∧ (∀ w < 2, (u.writer w).anchor.state ≠ .running))) ∧
  (∀ t s, s.hoop.resetting = true → s.hoop.phase = .sealed → s.jrn.reqs ≠ [] → exec (.deviceResetProceed t) s = .next (s.at t))

/-- A start ends in recovery where the PUF, the directory, or the last slot's image fails, with the cause; it waits where `VIN12` or a reference is missing, and
otherwise ends in the seal, with the settings of the image in force (R568 to R571, R638). The model's own reading or choice in it: notes/assumptions/121.md,
notes/assumptions/124.md. -/
def Obligations.StartsSealWaitOrRecover : Prop :=
  (∀ t s card c, s.hoop.phase = .waitCard → c.pufOk = false →
    gives (.bootStart t card c) s (fun u => u.hoop.phase = .recovery ∧ u.hoop.cause = 1 ∧ u.hoop.pufOk = false ∧ u.mram = s.mram ∧ u.mem = s.mem)) ∧
  (∀ t s card c, s.hoop.phase = .waitCard → c.pufOk = true → directoryOk card = false →
    gives (.bootStart t card c) s (fun u => u.hoop.phase = .recovery ∧ u.hoop.cause = 2 ∧ u.mram = s.mram ∧ u.mem = s.mem)) ∧
  (∀ t s card c k rest l, s.hoop.phase = .waitCard → c.pufOk = true → directoryOk card = true → slotsOf card.bytes = k :: rest →
    l = (((s.at t).modHoop (fun h => { h with slot := k })).trainPcie card k).loadSlot card k →
    gives (.bootStart t card c) s (fun u => match l with
      | .error e => rest = [] → u.hoop.phase = .recovery ∧ u.hoop.cause = e ∧ u.hoop.slot = k ∧ u.mram = s.mram ∧ u.mem = s.mem
      | .ok (_, cfg) =>
        if c.vin12 = false then u.hoop.phase = .waitVin ∧ u.cfg = s.cfg
        else if c.refClock = false then u.hoop.phase = .waitReference ∧ u.cfg = s.cfg
        else if c.dieFault = false then u.hoop.phase = .sealed ∧ u.cfg = cfg
        else rest = [] → u.hoop.phase = .recovery ∧ u.hoop.cause = 10 ∧ u.mram = s.mram ∧ u.mem = s.mem)) ∧
  (∀ t s l, s.hoop.phase = .waitVin → s.hoop.loaded = some l → l.cond.refClock = true → l.cond.dieFault = false →
    gives (.vin12InRange t) s (fun u => u.hoop.phase = .sealed ∧ u.cfg = l.settings)) ∧
  (∀ t s l p, p < 64 → s.hoop.phase = .waitReference → s.hoop.loaded = some l → l.settings.osr.portEnable.testBit p = true →
    l.cond.vin12 = true → l.cond.dieFault = false →
    gives (.referenceLock t (some p)) s (fun u => u.hoop.phase = .sealed ∧ u.cfg = l.settings)) ∧
  (∀ t s l, s.hoop.phase = .waitReference → s.hoop.loaded = some l → l.rest = [] →
    gives (.referenceLock t none) s (fun u => u.hoop.phase = .recovery ∧ u.hoop.cause = 9 ∧ u.mram = s.mram ∧ u.mem = s.mem))


/-! ## Islands, crossings, sidebands, arbiters -/

/-- The newest entry of the owner ring is new, and an event of a code (R549, R551). -/
def Claims.told (code : Nat) (s u : State) : Prop :=
  s.hoop.ownerRing.producer < u.hoop.ownerRing.producer ∧
    ∃ e, u.hoop.ownerRing.entries.head? = some e ∧ leAt e.2 0 2 = code

/-- Nothing differs but clocks, memory, partitions, health, the Hoop die, and counters. -/
def Claims.stands (s u : State) : Prop :=
  u.cfg = s.cfg ∧ u.tabs = s.tabs ∧ u.jrn = s.jrn ∧ u.warp = s.warp ∧ u.arbs = s.arbs ∧ u.links = s.links ∧ u.waves = s.waves ∧
    u.eng = s.eng ∧ u.chans = s.chans ∧ u.mram = s.mram

/-- An island reset begins while no other does; one asked for meanwhile waits its turn, and one that is on or waits is not asked for again (R580). It freezes
its arbiters (R582 step 1); a cluster loses its stores, its translations and its lines (R242, R412). Recovered, the island is out of reset, its arbiters empty
of waits, seeded anew and granted again (R582, R208), and the next reset begins; one that is overdue is expelled. A replayed flit weighs on the parts of its
crossing, and the eighth in a row resets the island (R20). A die without its sideband is lost and reported failed (R24). The model's own reading or choice in
it: notes/assumptions/134.md, notes/assumptions/135.md, notes/assumptions/136.md, notes/assumptions/137.md, notes/assumptions/140.md. -/
def Obligations.IslandsResetAndRecoverInTurn : Prop :=
  (∀ t s i, islandOk i = true → s.live = true → s.hoop.resets ≠ [] → s.hoop.resets.any (fun r => r.island == i) = false →
    gives (.islandReset t i) s (fun u => u.hoop.resets = s.hoop.resets ++ [⟨i, max s.now t, false⟩] ∧
      u.mem = s.mem ∧ u.parts = s.parts ∧ Claims.stands s u)) ∧
  (∀ t s i, islandOk i = true → s.hoop.resets.any (fun r => r.island == i) = true → exec (.islandReset t i) s = .next (s.at t)) ∧
  (∀ t s i, islandOk i = true → s.live = true → s.hoop.resets = [] → islandArbiters i ≠ [] → s.arbs.length = 67 →
    gives (.islandReset t i) s (fun u => u.hoop.resets = [⟨i, max s.now t, false⟩] ∧
      (∀ a, u.arb a = if a ∈ islandArbiters i then
          { s.arb a with frozen := true, draining := !(s.arb a).granted.isEmpty, frozenAt := max s.now t } else s.arb a) ∧
      u.tabs = s.tabs ∧ u.jrn = s.jrn ∧ u.warp = s.warp ∧ u.eng = s.eng ∧ u.chans = s.chans ∧ Claims.told 0x1402 s u)) ∧
  (∀ t s c, c < 32 → s.live = true → s.hoop.resets = [] → s.intact →
    gives (.islandReset t (.cluster c)) s (fun u =>
      (u.cluster c).fault = true ∧ (u.cluster c).tlb = [] ∧ (u.cluster c).scratch = [] ∧
      (∀ l ∈ u.mem.l2, l.cluster ≠ c) ∧ (∀ x ∈ u.mem.stalled, x.cluster ≠ c) ∧ (∀ f ∈ u.mem.filter, f.2.1 ≠ c))) ∧
  (∀ t s d, d < 4 → s.live = true → s.hoop.resets = [] → s.warp.arrived = [] →
    gives (.islandReset t (.osier d)) s (fun u => u.hoop.resets = [⟨.osier d, max s.now t, true⟩] ∧
      (∀ l ∈ u.links, l.port / 16 = d → l.state = .dark ∧ l.replay = []) ∧ (∀ w ∈ u.waves, w.1.1 / 16 ≠ d))) ∧
  (∀ t s i since rest, islandOk i = true → s.hoop.resets = ⟨i, since, true⟩ :: rest → (∀ r ∈ rest, r.island ≠ i) → s.hlt.resync = 0 →
    s.arbs.length = 67 →
    gives (.islandRecoveryDone t i) s (fun u => ∃ w : State,
      u = (match rest.head? with | some r => w.beginReset r.island | none => w).stir ∧ w.hoop.resets = rest ∧
      (∀ a, w.arb a = if a ∈ islandArbiters i then
        { queue := (s.arb a).queue, lfsr := rotl32 s.cfg.unit.lotSeed (a % 32) } else s.arb a) ∧
      w.tabs = s.tabs ∧ w.jrn = s.jrn ∧ w.warp = s.warp ∧ w.eng = s.eng ∧ w.chans = s.chans ∧ w.hlt = s.hlt)) ∧
  (∀ t s i, islandOk i = true → s.islandDown i = false → exec (.islandRecoveryDone t i) s = .next (s.at t)) ∧
  (∀ t s d since, d < 4 → s.hoop.resets = [⟨.osier d, since, true⟩] → since + 3540 * ticksPerUs ≤ max s.now t →
    s.partState (100 + d) ≠ .expelled →
    gives (.islandResetOvertime t (.osier d)) s (fun u => u.partState (100 + d) = .expelled ∧
      (∀ k < 16, u.partState (32 + 16 * d + k) = .expelled) ∧ u.hlt.expulsions = s.hlt.expulsions ++ [max s.now t] ∧
      u.tabs = s.tabs ∧ u.jrn = s.jrn ∧ u.eng = s.eng ∧ u.warp = s.warp)) ∧
  (∀ t s i, islandOk i = true →
    (∀ r ∈ s.hoop.resets, r.island = i → r.running = true → max s.now t < r.since + resetLimit i) →
    exec (.islandResetOvertime t i) s = .next (s.at t)) ∧
  (∀ t s x again n, crossingOk x = true → s.live = true → n = (if again then (look x s.hlt.replays).getD 0 else 0) + 1 → n < 8 →
    gives (.flitReplay t x again) s (fun u =>
      u.hlt.inputs = s.hlt.inputs ++ (replayParts x).map (fun p => (p, 1)) ∧ look x u.hlt.replays = some n ∧
      look (.flits x) u.ctrs = some (satAdd max64 ((look (.flits x) s.ctrs).getD 0) 1) ∧ u.hoop = s.hoop ∧ u.mem = s.mem ∧
      u.parts = s.parts ∧ Claims.stands s u)) ∧
  (∀ t s x, crossingOk x = true → s.live = true → s.hoop.resets ≠ [] →
    s.hoop.resets.any (fun r => r.island == crossingIsland x) = false → 7 ≤ (look x s.hlt.replays).getD 0 →
    gives (.flitReplay t x true) s (fun u =>
      u.hoop.resets = s.hoop.resets ++ [⟨crossingIsland x, max s.now t, false⟩] ∧ look x u.hlt.replays = none ∧ Claims.stands s u)) ∧
  (∀ t s d p, diePart d = some p → s.hoop.phase = .sealed → s.partState p = .expelled →
    gives (.sidebandLoss t d) s (fun u => d ∈ u.hlt.lostDies ∧ u.hlt.states = s.hlt.states ∧ u.hoop = s.hoop ∧ Claims.stands s u)) ∧
  (∀ t s k, k < 4 → s.hoop.phase = .sealed → s.partState (100 + k) ≠ .expelled →
    gives (.sidebandLoss t (.osier k)) s (fun u => .osier k ∈ u.hlt.lostDies ∧ u.partState (100 + k) = .expelled ∧
      (∀ j < 16, u.partState (32 + 16 * k + j) = .expelled) ∧ u.hlt.expulsions = s.hlt.expulsions ++ [max s.now t]))

/-- A frozen arbiter whose last transfer completes has drained (R214, R216): while another arbiter of the reset drains, or none waits for it, nothing else
happens, and once all have drained the island is held. A lottery cycle (R207): a request that has waited its limit goes before any other, the one that has
waited longest; the winner's wait counter ends and the LFSR steps. A frozen arbiter grants nothing (R213). The model's own reading or choice in it:
notes/assumptions/137.md. -/
def Obligations.ArbitersDrainAndDraw : Prop :=
  (∀ t s arb, arb < 67 → (s.arb arb).frozen = true → s.hoop.resets = [] →
    exec (.lotDrainComplete t arb) s = .next ((s.at t).modArb arb (fun a => { a with granted := [], draining := false }))) ∧
  (∀ t s arb, arb < 67 → (s.arb arb).frozen = false → exec (.lotDrainComplete t arb) s = .next (s.at t)) ∧
  (∀ t s arb r rest b, arb < 67 → (s.arb arb).frozen = true → s.hoop.resets = r :: rest → b ∈ islandArbiters r.island → b ≠ arb →
    (s.arb b).draining = true →
    exec (.lotDrainComplete t arb) s = .next ((s.at t).modArb arb (fun a => { a with granted := [], draining := false }))) ∧
  (∀ t s i since rest, s.hoop.resets = ⟨i, since, false⟩ :: rest → i = .warpData ∨ i = .warpSched → (∀ r ∈ rest, r.island ≠ i) →
    s.arbs.length = 67 → (s.arb 64).frozen = true → s.warp.voq = [] →
    gives (.lotDrainComplete t 64) s (fun u => u.hoop.resets = ⟨i, max s.now t, true⟩ :: rest ∧
      u.warp = { wire := s.warp.wire, arrived := s.warp.arrived, busy := s.warp.busy } ∧
      (u.arb 64).draining = false ∧ (u.arb 64).granted = [] ∧ u.jrn = s.jrn ∧ u.eng = s.eng ∧ u.chans = s.chans)) ∧
  (∀ t s arb, arb < 67 → s.arbs.length = 67 → (s.arb arb).frozen = true → (s.arb arb).draining = true →
    (s.arb arb).frozenAt + 2 * ticksPerUs ≤ max s.now t → s.hoop.resets = [] →
    gives (.lotDrainTimeout t arb) s (fun u =>
      u.arb arb = { s.arb arb with granted := [], draining := false, timeout := true } ∧ (∀ b, b ≠ arb → u.arb b = s.arb b) ∧
      Claims.told 0x0701 s u ∧ u.hlt.inputs = s.hlt.inputs ++ [(104, 64)] ∧ u.tabs = s.tabs ∧ u.jrn = s.jrn ∧ u.chans = s.chans)) ∧
  (∀ t s arb, arb < 67 → max s.now t < (s.arb arb).frozenAt + 2 * ticksPerUs → exec (.lotDrainTimeout t arb) s = .next (s.at t)) ∧
  (∀ t s arb arrivals w forced, arb < 67 → s.arbs.length = 67 → (s.arb arb).frozen = false →
    ((s.at t).modArb arb (fun a => { a with queue := a.queue ++ arrivals.filter (fun x => x.requester < requesters arb) })).winner arb
      (((s.at t).modArb arb (fun a => { a with queue := a.queue ++ arrivals.filter (fun x => x.requester < requesters arb) })).presented arb)
        = (some w, forced) →
    gives (.lotteryDraw t arb arrivals) s (fun u =>
      (∀ y ∈ ((s.at t).modArb arb (fun a => { a with queue := a.queue ++ arrivals.filter (fun x => x.requester < requesters arb) })).presented arb,
        s.waitLimit arb y.requester ≤ (look y.requester (s.arb arb).waits).getD 0 →
          forced = true ∧ (look y.requester (s.arb arb).waits).getD 0 ≤ (look w.requester (s.arb arb).waits).getD 0) ∧
      (u.arb arb).lfsr = lfsrStep (s.arb arb).lfsr ∧ look w.requester (u.arb arb).waits = none ∧
      (u.arb arb).forced = (if forced then satAdd 0xFFFFFFFF (s.arb arb).forced 1 else (s.arb arb).forced) ∧
      (∀ b, b ≠ arb → u.arb b = s.arb b) ∧ u.chans = s.chans ∧ u.jrn = s.jrn ∧ u.hoop = s.hoop ∧ u.mem = s.mem)) ∧
  (∀ t s arb arrivals, arb < 67 → s.arbs.length = 67 → (s.arb arb).frozen = true →
    exec (.lotteryDraw t arb arrivals) s = .next ((s.at t).modArb arb (fun a =>
      { a with queue := a.queue ++ arrivals.filter (fun x => x.requester < requesters arb) })))

/-! ## Power and temperature -/

/-- Every millisecond a hold moves by one sixteenth within 0 to 12 (R632): the power hold up over the cap and down 16 W below it, the thermal hold up at a warn
temperature and down once every die is 5 °C below its own. A die at its trip temperature trips the package (R635): every die but the Hoop die and the stacks
loses its state. A device that has run nothing for `HOOP_QUIESCE_MS` becomes QUIESCENT (R583); a stop window stops the core clocks of an assigned cluster
exactly while a hold is on (R631); a second's package power is kept and reported (R630). The model's own reading or choice in it: notes/assumptions/138.md,
notes/assumptions/139.md. -/
def Obligations.PowerAndHeatHoldTheDevice : Prop :=
  (∀ t s mw, s.hoop.phase = .sealed →
    gives (.powerSample t mw) s (fun u =>
      u.hoop.powerHold = (if s.cfg.hoop.powerCap * 1000 < mw then min 12 (s.hoop.powerHold + 1)
        else if mw + 16000 < s.cfg.hoop.powerCap * 1000 then s.hoop.powerHold - 1 else s.hoop.powerHold) ∧
      u.hoop.thermalHold = s.hoop.thermalHold ∧ u.hoop.phase = .sealed ∧ u.hlt = s.hlt ∧ Claims.stands s u)) ∧
  (∀ t s mw, s.hoop.phase = .sealed → s.hoop.hold = 0 → s.cfg.hoop.powerCap * 1000 < mw →
    gives (.powerSample t mw) s (fun u => Claims.told 0x1601 s u ∧ u.hoop.holdEvent = true)) ∧
  (∀ t s temps, s.hoop.phase = .sealed → (∀ k < 20, nth temps k < (dieLimits k).2) →
    gives (.thermalSample t temps) s (fun u =>
      u.hoop.thermalHold = (if (List.range 20).any (fun k => decide ((dieLimits k).1 ≤ nth temps k)) then min 12 (s.hoop.thermalHold + 1)
        else if (List.range 20).all (fun k => decide (nth temps k + 5 ≤ (dieLimits k).1)) then s.hoop.thermalHold - 1
        else s.hoop.thermalHold) ∧
      u.hoop.powerHold = s.hoop.powerHold ∧ u.hoop.phase = .sealed ∧ u.hlt = s.hlt ∧ Claims.stands s u)) ∧
  (∀ t s mw, s.hoop.phase ≠ .sealed → exec (.powerSample t mw) s = .next (s.at t)) ∧
  (∀ t s temps k, k < 20 → (dieLimits k).2 ≤ nth temps k → s.hoop.phase ≠ .off → s.hoop.phase ≠ .tripped →
    gives (.thermalSample t temps) s (fun u =>
      u.hoop.phase = .tripped ∧ u.hoop.thermTrip = true ∧ u.mram.trips = min 65535 (s.mram.trips + 1) ∧ u.jrn.reqs = [] ∧ u.eng = {} ∧
      u.links = [] ∧ u.warp.voq = [] ∧ u.mem = { near := s.mem.near } ∧ u.hoop.queue = [] ∧ u.tabs.compEpoch = s.tabs.compEpoch ∧
      nth u.hoop.temps k = min 255 (nth temps k) ∧ Claims.told 0x1603 s u)) ∧
  (∀ t s, s.hoop.phase = .sealed → s.hoop.power = .active → s.eng.jobs = [] → s.eng.colls = [] → s.hoop.resetting = false →
    s.hoop.standbyDrain = false → s.eng.lastRun + s.cfg.hoop.quiesceMs * ticksPerMs ≤ max s.now t →
    gives (.quiesceTimer t) s (fun u => u.hoop.power = .quiescent ∧ (∃ e, u.hoop.ownerRing.entries.head? = some e ∧ leAt e.2 0 2 = 0x1405))) ∧
  (∀ t s, s.eng.jobs ≠ [] ∨ s.eng.colls ≠ [] ∨ max s.now t < s.eng.lastRun + s.cfg.hoop.quiesceMs * ticksPerMs →
    exec (.quiesceTimer t) s = .next (s.at t)) ∧
  (∀ t s c opening, c < 32 →
    gives (.clusterStopWindow t c opening) s (fun u =>
      (c ∈ u.eng.stopped ↔ opening = true ∧ s.hoop.phase = .sealed ∧ s.hoop.hold ≠ 0 ∧ (s.cluster c).assigned = true ∧ (s.cluster c).gated = false) ∧
      (∀ d, d ≠ c → (d ∈ u.eng.stopped ↔ d ∈ s.eng.stopped)) ∧ u.eng.jobs = s.eng.jobs ∧ u.eng.clusters = s.eng.clusters ∧
      u.hoop = s.hoop ∧ u.tabs = s.tabs ∧ u.jrn = s.jrn ∧ u.mem = s.mem)) ∧
  (∀ t s mw, s.hoop.phase = .sealed →
    gives (.powerReportWindow t mw) s (fun u => u.hoop.power1s = mw ∧ Claims.told 0x8007 s u ∧ u.mem = s.mem ∧ u.parts = s.parts ∧
      u.hlt = s.hlt ∧ Claims.stands s u))


/-! ## Frames at their home: presentation, memory requests -/

/-- A byte of a partition's telemetry ring or its producer word, which events write (R552). -/
def Claims.ringByte (s : State) (x : Nat) : Prop :=
  ∃ r ∈ s.tabs.rings, (r.base ≤ x ∧ x < r.base + 64 * 2 ^ r.log2) ∨ (r.producerWord ≤ x ∧ x < r.producerWord + 8)

/-- Every byte of the near tier outside a range reads as before, telemetry rings apart. -/
def Claims.onlyWrites (s u : State) (o n : Nat) : Prop :=
  ∀ x, ¬(o ≤ x ∧ x < o + n) → ¬ Claims.ringByte s x → readByte u.mem.near x = readByte s.mem.near x

/-- A frame that a command presents reaches this node, waits for nothing, and passes checks 8 to 14: `u` has its sequence open, as the
request `r`. -/
def Claims.opens (t : Nat) (a : Arrival) (f : Frame) (s : State) (want : State → Delivered → Want) (waits : State → Delivered → Bool)
    (u : State) (r : Req) : Prop :=
  ∃ v d, (s.at t).receive a f = .here v d ∧ waits v d = false ∧ v.present d (want v d) = .go u r.id ∧
    u.req r.id = some r ∧ r.dup = none ∧ r.index = none ∧ r.refused = false ∧ r.applied = false ∧ r.leaf = false ∧ r.waits = 0 ∧
    r.pendingWrite = [] ∧ r.stage = .settle ∧ r.writer < 2

/-- A request is complete (R77, R83): applied, with a status and the bytes of its response, its entry written by its home's writer. -/
def Claims.completes (r : Req) (st : EntryState) (status : Status) (data : Bytes) (u : State) : Prop :=
  ∃ q i e, u.req r.id = some q ∧ q.hdr = r.hdr ∧ q.applied = true ∧ q.refused = false ∧ q.status = status ∧ q.ackData = data ∧
    q.index = some i ∧ e ∈ (u.writer r.writer).ring ∧ e.index = i ∧ e.state = st ∧ e.src = r.hdr.src ∧ e.stream = r.hdr.stream ∧
    e.seq = r.hdr.seq ∧ e.opcode = r.hdr.opcode ∧ e.done = true

/-- What a frame served on the near tier leaves alone. -/
def Claims.aside (s u : State) : Prop :=
  u.cfg = s.cfg ∧ u.mram = s.mram ∧ u.waves = s.waves ∧ u.hlt = s.hlt ∧ u.eng.colls = s.eng.colls ∧ u.eng.clusters = s.eng.clusters ∧
    u.mem.l2 = s.mem.l2 ∧ u.mem.sectors = s.mem.sectors ∧ u.hoop.phase = s.hoop.phase ∧ u.hoop.queue = s.hoop.queue

/-- No telemetry ring lies in a range. -/
def Claims.ringFree (u : State) (o n : Nat) : Prop := ∀ x, o ≤ x → x < o + n → ¬ Claims.ringByte u x

/-- Plain near-tier bytes: no cluster holds a line of them, and no ring, Sumac range, view or held staging buffer touches them. -/
def Claims.plainNear (u : State) (o n : Nat) : Prop :=
  inFar o n = false ∧ Claims.ringFree u o n ∧ (∀ l ∈ linesOf o n, u.holders l = []) ∧ u.sumacTouched o n = none ∧ u.sumacAt o = none ∧
    u.viewOf o n = none ∧ u.viewStraddled o n = false ∧ u.stagingHeld o n = false

/-- Bytes whose write tells no one: no doorbell word of a channel or schedule, no copy at the partner. -/
def Claims.quiet (u : State) (o n : Nat) : Prop :=
  u.copiesAt o = none ∧ (∀ b ∈ u.tabs.bindings, overlaps o n b.doorbell 8 = false) ∧
    (∀ x ∈ u.tabs.schedules, overlaps o n x.doorbell 8 = false)

/-- A request that passes checks 8 to 14 opens its sequence (R68, R83, R136, R198): the fence, the partition, the epoch and the order let it; its stream expects
the next sequence, its weight is in flight and fits the window; nothing else of the device moves. -/
def Obligations.PresentationOpensOneSequence : Prop :=
  ∀ (s u : State) (d : Delivered) (w : Want) (id : Nat), s.present d w = .go u id →
    s.fencedFor d.hdr w.writer = false ∧ (s.part d.part).state ≠ .teardown ∧ s.epochOk d.hdr = true ∧
    (d.hdr.carries = true → d.pcheck = crc32c d.payload) ∧ d.hdr.src ∉ s.tabs.retiring ∧
    (∃ r ∈ u.jrn.reqs, r.id = id ∧ r.hdr = d.hdr ∧ r.payload = d.payload ∧ r.part = d.part ∧ r.weight = weightOf d.hdr.length.toNat ∧
      r.writer = w.writer ∧ r.applied = false) ∧
    (∀ r ∈ s.jrn.reqs, r ∈ u.jrn.reqs) ∧
    (u.stream d.hdr.src d.hdr.stream).next = d.hdr.seq + 1 ∧ (u.stream d.hdr.src d.hdr.stream).hwm = (s.stream d.hdr.src d.hdr.stream).hwm ∧
    (d.part < s.parts.length → (u.part d.part).inFlight = (s.part d.part).inFlight + weightOf d.hdr.length.toNat ∧
      (u.part d.part).inFlight ≤ (u.part d.part).window) ∧
    u.mem = s.mem ∧ u.eng = s.eng ∧ u.chans = s.chans ∧ u.hlt = s.hlt ∧ u.mram = s.mram ∧ u.cfg = s.cfg ∧ u.warp = s.warp

/-- `LOAD` (R26, R77): the bytes of its range answer it, an APPLIED entry stands in its home's journal, and it writes nothing. The model's own reading or choice
in it: notes/assumptions/14.md, notes/assumptions/22.md. -/
def Obligations.LoadsReturnTheBytesOfTheirRange : Prop :=
  (∀ t a f s u r, f.hdr.opcode = 0x01 → s.intact →
    Claims.opens t a f s (fun v d => v.memWant d.hdr.offset.toNat (v.storedLen d.hdr) .rd false)
      (fun v d => v.rangeHeld d.hdr.offset.toNat (v.storedLen d.hdr)) u r →
    0 < r.hdr.length.toNat → r.hdr.flagC = false → Claims.plainNear u r.hdr.offset.toNat r.hdr.length.toNat →
    gives (.load t a f .none) s (fun v =>
      Claims.completes r .applied .ok (u.memRead r.hdr.offset.toNat r.hdr.length.toNat) v ∧
      Claims.onlyWrites s v 0 0 ∧ Claims.aside s v ∧ v.chans = s.chans ∧ v.eng = s.eng)) ∧
  (∀ t a f s u r, f.hdr.opcode = 0x01 → s.intact →
    Claims.opens t a f s (fun v d => v.memWant d.hdr.offset.toNat (v.storedLen d.hdr) .rd false)
      (fun v d => v.rangeHeld d.hdr.offset.toNat (v.storedLen d.hdr)) u r →
    r.hdr.length.toNat = 0 →
    gives (.load t a f .none) s (fun v => Claims.completes r .applied .ok [] v ∧ Claims.onlyWrites s v 0 0 ∧ Claims.aside s v))

/-- A `LOAD` in a Sumac range (R349, R355): its blocks as they stand with flag C, else their decoded elements; a block that fails its verification refuses it.
The model's own reading or choice in it: notes/assumptions/23.md. -/
def Obligations.SumacLoadsVerifyAndDecode : Prop :=
  ∀ t a f s u r g o n, f.hdr.opcode = 0x01 → s.intact →
    Claims.opens t a f s (fun v d => v.memWant d.hdr.offset.toNat (v.storedLen d.hdr) .rd false)
      (fun v d => v.rangeHeld d.hdr.offset.toNat (v.storedLen d.hdr)) u r →
    o = r.hdr.offset.toNat → n = u.storedLen r.hdr → 0 < r.hdr.length.toNat → u.sumacRuleOk r.hdr = true → u.sumacAt o = some g →
    inFar o r.hdr.length.toNat = false → (∀ l ∈ linesOf o n, u.holders l = []) → u.viewOf o n = none →
    u.viewStraddled o r.hdr.length.toNat = false → Claims.ringFree u o n →
    (∀ fm es, verifyBlocks (blockSize g.profile) (u.memRead o n) = none → fmOfCode g.fmt = some fm →
      es = decodeBlocks fm (blockSize g.profile) (u.memRead o n) →
      gives (.load t a f .none) s (fun v => Claims.onlyWrites s v 0 0 ∧
        (r.hdr.flagC = true → Claims.completes r .applied .ok (u.memRead o n) v) ∧
        (r.hdr.flagC = false → Claims.completes r .applied (if anyExc (es.map (·.2)) then .numeric else .ok)
          (unelems fm.size (es.map (·.1))) v))) ∧
    (∀ st, verifyBlocks (blockSize g.profile) (u.memRead o n) = some st →
      gives (.load t a f .none) s (fun v => Claims.onlyWrites s v 0 0 ∧
        ∃ q, v.req r.id = some q ∧ q.refused = true ∧ q.status = st ∧ q.ackData = []))

/-- `STORE` (R30, R77): its payload stands in its range, every other byte reads as before, and an APPLIED entry stands in its home's journal. -/
def Obligations.StoresWriteTheirRangeAlone : Prop :=
  (∀ t a f s u r o n, f.hdr.opcode = 0x02 → s.intact → o = r.hdr.offset.toNat → n = r.hdr.length.toNat →
    Claims.opens t a f s (fun v d => v.memWant d.hdr.offset.toNat (v.storedLen d.hdr) .wr (v.isCopy d.hdr))
      (fun v d => v.resyncFrame d.hdr || v.rangeHeld d.hdr.offset.toNat (v.storedLen d.hdr)) u r →
    0 < n → r.payload.length = n → r.hdr.flagC = false → ¬ (0x68 ≤ r.hdr.stream.toNat ∧ r.hdr.stream.toNat < 0x70) →
    Claims.plainNear u o n → u.writeBarred o n = false → Claims.quiet u o n →
    gives (.store t a f .none) s (fun v => Claims.completes r .applied .ok [] v ∧ v.memRead o n = r.payload ∧
      Claims.onlyWrites s v o n ∧ Claims.aside s v ∧ v.chans = s.chans)) ∧
  (∀ t a f s u r, f.hdr.opcode = 0x02 → s.intact →
    Claims.opens t a f s (fun v d => v.memWant d.hdr.offset.toNat (v.storedLen d.hdr) .wr (v.isCopy d.hdr))
      (fun v d => v.resyncFrame d.hdr || v.rangeHeld d.hdr.offset.toNat (v.storedLen d.hdr)) u r →
    r.hdr.length.toNat = 0 →
    gives (.store t a f .none) s (fun v => Claims.completes r .applied .ok [] v ∧ Claims.onlyWrites s v 0 0 ∧ Claims.aside s v)) ∧
  (∀ t a f s u r o n, f.hdr.opcode = 0x02 → s.intact → o = r.hdr.offset.toNat → n = r.hdr.length.toNat →
    Claims.opens t a f s (fun v d => v.memWant d.hdr.offset.toNat (v.storedLen d.hdr) .wr (v.isCopy d.hdr))
      (fun v d => v.resyncFrame d.hdr || v.rangeHeld d.hdr.offset.toNat (v.storedLen d.hdr)) u r →
    0 < n → (∀ x ∈ u.tabs.schedules, overlaps o n x.doorbell 8 = false) → u.writeBarred o (u.storedLen r.hdr) = true →
    gives (.store t a f .none) s (fun v => Claims.onlyWrites s v 0 0 ∧
      ∃ q, v.req r.id = some q ∧ q.refused = true ∧ q.status = .denied ∧ q.state = .refused))

/-- The command of an `ATOMIC` frame. -/
def Claims.atomicOf (t : Nat) (a : Arrival) (f : Frame) : Option Instr :=
  match f.hdr.opcode.toNat with
  | 0x10 => some (.atomicFaddInteger t a f .none) | 0x11 => some (.atomicFaddFloat t a f .none)
  | 0x12 => some (.atomicFminInteger t a f .none) | 0x13 => some (.atomicFminFloat t a f .none)
  | 0x14 => some (.atomicFmaxInteger t a f .none) | 0x15 => some (.atomicFmaxFloat t a f .none)
  | 0x16 => some (.atomicCas t a f .none) | 0x17 => some (.atomicSwap t a f .none)
  | _ => none

/-- Every `ATOMIC` variant (R77, R78, R265): the prior value answers it, the new value stands in its four bytes and nothing else is written, and its entry is
RECORDED with both values. -/
def Obligations.AtomicsExchangeFourBytes : Prop :=
  ∀ t a f s u r o i p new exc, Claims.atomicOf t a f = some i → s.intact →
    Claims.opens t a f s (fun v d => v.memWant d.hdr.offset.toNat 4 .at_ false) (fun v d => v.rangeHeld d.hdr.offset.toNat 4) u r →
    o = r.hdr.offset.toNat → (r.hdr.opcode = 0x11 → u.locked r.part = false) →
    Claims.plainNear u o 4 → u.writeBarred o 4 = false → Claims.quiet u o 4 → p = leNat (u.memRead o 4) → (new, exc) = atomicNew r.hdr.opcode.toNat p r.payload →
    gives i s (fun v => Claims.completes r .recorded (if exc then .numeric else .ok) (natLe 4 p) v ∧
      v.memRead o 4 = natLe 4 new ∧ Claims.onlyWrites s v o 4 ∧ Claims.aside s v ∧ v.chans = s.chans ∧
      (∀ q, v.req r.id = some q → q.result = BitVec.ofNat 64 (p + new * 2 ^ 32)))

/-- `FLUSH` (R411, R414): with no line of its range held it completes at once; a dirty line of one cluster reaches memory first, and the cluster holds it no
more. The model's own reading or choice in it: notes/assumptions/26.md. -/
def Obligations.FlushesWriteHeldLinesBack : Prop :=
  (∀ t a f s u r, f.hdr.opcode = 0x03 → s.intact →
    Claims.opens t a f s (fun v d => v.memWant d.hdr.offset.toNat (beNat d.payload) .fl false)
      (fun v d => v.mem.holds.any (fun h => overlaps h.1 128 d.hdr.offset.toNat (beNat d.payload)) || v.rangeHeld d.hdr.offset.toNat 0) u r →
    r.hdr.offset.toNat + beNat r.payload ≤ 2 ^ 48 → u.heldLines r.hdr.offset.toNat (beNat r.payload) = [] →
    gives (.flush t a f) s (fun v => Claims.completes r .applied .ok [] v ∧ Claims.onlyWrites s v 0 0 ∧ Claims.aside s v)) ∧
  (∀ t a f s u r line c l, f.hdr.opcode = 0x03 → s.intact →
    Claims.opens t a f s (fun v d => v.memWant d.hdr.offset.toNat (beNat d.payload) .fl false)
      (fun v d => v.mem.holds.any (fun h => overlaps h.1 128 d.hdr.offset.toNat (beNat d.payload)) || v.rangeHeld d.hdr.offset.toNat 0) u r →
    r.hdr.offset.toNat + beNat r.payload ≤ 2 ^ 48 → u.heldLines r.hdr.offset.toNat (beNat r.payload) = [line] →
    u.holders line = [(c, .exclusive)] → u.l2Line c line = some l → l.state = .m → l.data.length = 128 → u.copiesAt line = none →
    gives (.flush t a f) s (fun v => Claims.completes r .applied .ok [] v ∧ v.memRead line 128 = l.data ∧
      Claims.onlyWrites s v line 128 ∧ v.holders line = [] ∧ v.l2State c line = .i))

/-- `PUBLISH` (R485): the version that follows is pending, its staging buffer shut, its entry written; when the flush of the buffer ends, the version is current
and its word holds it. Another version is refused (R485, R486). The model's own reading or choice in it: notes/assumptions/31.md. -/
def Obligations.PublishMovesItsVersionAfterTheFlush : Prop :=
  (∀ t a f s u r p, f.hdr.opcode = 0x04 → s.intact →
    Claims.opens t a f s (fun v d => v.memWant d.hdr.offset.toNat (beAt d.payload 8 8) .pb false)
      (fun v d => v.rangeHeld d.hdr.offset.toNat 0) u r →
    u.tabs.published = [p] → p.view = r.hdr.offset.toNat → p.length = beAt r.payload 8 8 → 0 < p.length → p.pending = none →
    beAt r.payload 0 8 = p.current + 1 → u.locked r.part = false → u.copiesAt p.area = none →
    gives (.publish t a f) s (fun v => (∃ q ∈ v.tabs.published, q.id = p.id ∧ q.pending = some r.id ∧ q.pendingVersion = p.current + 1 ∧
        q.stagingOpen = false ∧ q.current = p.current) ∧
      (∃ q i e, v.req r.id = some q ∧ q.applied = false ∧ q.index = some i ∧ e ∈ (v.writer r.writer).ring ∧ e.index = i ∧ e.state = .applied) ∧
      Claims.onlyWrites s v 0 0 ∧ Claims.aside s v)) ∧
  (∀ t a f s u r p, f.hdr.opcode = 0x04 → s.intact →
    Claims.opens t a f s (fun v d => v.memWant d.hdr.offset.toNat (beAt d.payload 8 8) .pb false)
      (fun v d => v.rangeHeld d.hdr.offset.toNat 0) u r →
    u.tabs.published = [p] → p.view = r.hdr.offset.toNat → p.length = beAt r.payload 8 8 → 0 < p.length →
    p.pending.isSome = true ∨ beAt r.payload 0 8 ≠ p.current + 1 →
    gives (.publish t a f) s (fun v => Claims.onlyWrites s v 0 0 ∧
      ∃ q, v.req r.id = some q ∧ q.refused = true ∧ q.status = .publishConflict)) ∧
  (∀ t s p r rid, s.intact → s.tabs.published = [p] → p.id = rid.toNat → p.pending = some r.id → p.flushed = false → s.req r.id = some r →
    r.waits = 0 → r.dup = none → r.leaf = false → r.index ≠ none →
    s.heldLines (p.area + (p.current + 1) % p.buffers * p.length) p.length = [] →
    (∀ l ∈ linesOf p.word 8, s.holders l = []) →
    gives (.publishFlushDone t rid) s (fun v => ∃ w : State, v = w.wake ∧ w.memRead p.word 8 = natLe 8 p.pendingVersion ∧
      Claims.onlyWrites s w p.word 8 ∧
      (∃ q ∈ w.tabs.published, q.id = p.id ∧ q.current = p.pendingVersion ∧ q.pending = none ∧ q.stagingOpen = true) ∧
      (∃ q, w.req r.id = some q ∧ q.applied = true ∧ q.status = .ok))) ∧
  (∀ t s p r rid line o, s.intact → s.tabs.published.find? (fun q => q.id = rid.toNat) = some p →
    (s.jrn.reqs.filter (fun r => r.stage == .staging (line / 128 * 128) &&
      overlaps r.hdr.offset.toNat (max 1 r.hdr.length.toNat) p.area (p.buffers * p.length))).map (·.id) = [r.id] →
    s.req r.id = some r → r.stage = .staging (line / 128 * 128) → isAtomic r.hdr.opcode.toNat = false → r.dup = none → r.index ≠ none →
    r.pendingWrite = [(o, r.payload)] → s.stagingHeld o r.payload.length = false → (∀ l ∈ linesOf o r.payload.length, s.holders l = []) →
    Claims.quiet s o r.payload.length →
    ¬ (0x68 ≤ r.hdr.stream.toNat ∧ r.hdr.stream.toNat < 0x70) →
    gives (.stagingWriteRelease t rid line) s (fun v => v.memRead o r.payload.length = r.payload ∧
      Claims.onlyWrites s v o r.payload.length ∧ (∃ q, v.req r.id = some q ∧ q.applied = true ∧ q.stage = .settle)))

/-! ## Collectives, multicasts, codes that are not assigned -/

/-- The presentation of an `OFFLOAD` to its cluster (R131, R237). -/
def Claims.offloadWant (v : State) (d : Delivered) : Want :=
  { die := 2 + v.opPosition d / 2 / 8, writer := recordDie d.hdr.stream, off := 0, len := 0, right := none, clusters := true }

/-- The clusters are gated (R583). -/
def Claims.gatedNow (v : State) (_ : Delivered) : Bool := decide (v.hoop.power = .quiescent)

/-- The presentation of a `REDUCE_PUT` (R286): listed at a stage, by its right at the root. -/
def Claims.reduceWant (v : State) (d : Delivered) : Want :=
  let stage := match v.absorber d.hdr with | some (k, _) => !k.root | none => false
  { die := if 64 ≤ d.pos ∧ d.pos < 128 then 2 + (d.pos - 64) / 16 else v.homeDie d.hdr.offset.toNat,
    writer := if stage then recordDie d.hdr.stream else v.homeDie d.hdr.offset.toNat, off := d.hdr.offset.toNat,
    len := d.hdr.length.toNat, right := some .wr, listed := stage }

/-- A request is refused with a status (R84): a REFUSED entry stands, nothing is returned. -/
def Claims.refusedAs (r : Req) (st : Status) (u : State) : Prop :=
  ∃ q, u.req r.id = some q ∧ q.hdr = r.hdr ∧ q.refused = true ∧ q.status = st ∧ q.state = .refused ∧ q.ackData = []

/-- A set-up binds its collective once its contributor list is read (R281 to R283): to the first positions that can take it, and is answered; a set-up of no
bytes binds nothing. A release frees its collective once no round is open (R298): at once, or when the last open round has ended; one that names none is
answered all the same. The model's own reading or choice in it: notes/assumptions/49.md. -/
def Obligations.CollectivesAreBoundAndFreed : Prop :=
  (∀ t a f s u r x e cs k, offloadIs f 0xC0 = true → s.intact →
    Claims.opens t a f s Claims.offloadWant Claims.gatedNow u r → (∀ j ∈ u.eng.jobs, j.req ≠ r.id) →
    dCode r.payload = 0xC0 → setupCheck u.tabs.node r.payload = none → leAt r.payload 12 2 ≠ 0 → leAt r.payload 24 6 ≠ 0 →
    (u.locked r.part = true → leAt r.payload 3 1 ≠ 3) →
    u.resolve r.part r.hdr.src r.hdr.cid (leAt r.payload 14 1) (leAt r.payload 32 8) (8 * leAt r.payload 12 2) false = .ok [x] →
    u.isNear x = true → u.accessCheck r.hdr.src r.hdr.cid (offOf x.1) x.2 .rd = .ok e → Claims.plainNear u (offOf x.1) x.2 →
    u.rangeHeld (offOf x.1) x.2 = false →
    contributorList r.payload (u.memRead (offOf x.1) x.2) = some cs → u.coll (setupColl r.payload cs r.part).key = none →
    ((setupColl r.payload cs r.part).root = true → (setupColl r.payload cs r.part).staged = false ∧
      u.sumacTouched (setupColl r.payload cs r.part).target (setupColl r.payload cs r.part).length = none) →
    (∀ y ∈ u.eng.colls, y.key.root = (setupColl r.payload cs r.part).key.root →
      overlaps y.target y.length (setupColl r.payload cs r.part).target (setupColl r.payload cs r.part).length = false) →
    (u.eng.colls.filter (fun y => y.part = r.part)).length < nth u.cfg.unit.collMax r.part →
    leAt r.payload 5 1 ≤ (u.positionsOf r.part).length → u.bindColl (setupColl r.payload cs r.part) = some k →
    gives (.collectiveSetup t a f) s (fun v => v.eng.colls = u.eng.colls ++ [k] ∧ k.positions.length = leAt r.payload 5 1 ∧
      Claims.completes r .applied .ok [] v ∧ Claims.onlyWrites s v 0 0)) ∧
  (∀ t a f s u r, offloadIs f 0xC0 = true → s.intact → Claims.opens t a f s Claims.offloadWant Claims.gatedNow u r →
    setupCheck u.tabs.node r.payload = none → leAt r.payload 12 2 = 0 ∨ leAt r.payload 24 6 = 0 →
    gives (.collectiveSetup t a f) s (fun v => Claims.completes r .applied .ok [] v ∧ v.eng.colls = s.eng.colls ∧ Claims.onlyWrites s v 0 0)) ∧
  (∀ t a f s u r st, offloadIs f 0xC0 = true → s.intact → Claims.opens t a f s Claims.offloadWant Claims.gatedNow u r →
    setupCheck u.tabs.node r.payload = some st →
    gives (.collectiveSetup t a f) s (fun v => Claims.refusedAs r st v ∧ v.eng.colls = s.eng.colls ∧ Claims.onlyWrites s v 0 0)) ∧
  (∀ t a f s u r key, offloadIs f 0xC1 = true → s.intact → Claims.opens t a f s Claims.offloadWant Claims.gatedNow u r →
    leAt r.payload 1 1 = 1 → leAt r.payload 2 6 = 0 → leAt r.payload 12 4 = 0 → leAt r.payload 24 40 = 0 →
    key = ⟨BitVec.ofNat 16 (nodeOf (leAt r.payload 16 8)), BitVec.ofNat 32 (leAt r.payload 8 4)⟩ →
    (u.coll key = none →
      gives (.collectiveRelease t a f) s (fun v => Claims.completes r .applied .ok [] v ∧ v.eng.colls = s.eng.colls)) ∧
    (∀ k, u.coll key = some k → k.part = r.part → k.target = offOf (leAt r.payload 16 8) → k.segs.any Segment.isOpen = false →
      (∀ q ∈ u.jrn.reqs, q.stage ≠ .release key) →
      gives (.collectiveRelease t a f) s (fun v => Claims.completes r .applied .ok [] v ∧ v.coll key = none ∧
        (∀ y ∈ s.eng.colls, y.key ≠ key → y ∈ v.eng.colls))) ∧
    (∀ k, u.coll key = some k → k.part = r.part → k.target = offOf (leAt r.payload 16 8) → k.segs.any Segment.isOpen = true →
      gives (.collectiveRelease t a f) s (fun v => (∃ k', v.coll key = some k' ∧ k'.releasing = true ∧ k'.segs = k.segs) ∧
        ∃ q, v.req r.id = some q ∧ q.stage = .release key ∧ q.applied = false ∧ q.refused = false))) ∧
  (∀ t s key k r, s.coll key = some k → k.releasing = true → k.segs.any Segment.isOpen = false →
    s.jrn.reqs.filter (fun q => q.stage == .release key) = [r] → s.req r.id = some r → r.dup = none → r.index = none → r.refused = false →
    r.writer < 2 → s.intact →
    gives (.collectiveReleaseDone t key) s (fun v => v.coll key = none ∧ (∀ y ∈ s.eng.colls, y.key ≠ key → y ∈ v.eng.colls) ∧
      Claims.completes r .applied .ok [] v)) ∧
  (∀ t s key k, s.coll key = some k → k.releasing = false ∨ k.segs.any Segment.isOpen = true →
    exec (.collectiveReleaseDone t key) s = .next (s.at t))

/-- A direct contribution joins its segment's round, and nothing is written until the round is complete (R287). The last one completes a round at the root
(R288): its result stands in the target and nothing else is written, the frame is answered `OK`, or `NUMERIC` where an element met an exception, and the next
round begins. -/
def Obligations.ContributionsCompleteTheirRound : Prop :=
  ∀ t a f s u r k i g slot c, f.hdr.opcode = 0x20 → s.intact →
    Claims.opens t a f s Claims.reduceWant Claims.gatedNow u r →
    r.hdr.length ≠ 0 → u.absorber r.hdr = some (k, i, false) → u.coll k.key = some k → g = k.seg i false →
    u.locked r.part = false → u.locked k.part = false → k.directSlot r.hdr.src r.hdr.cid = some slot → contributionCheck k i r = none →
    (k.root = true → u.sumacTouched r.hdr.offset.toNat r.hdr.length.toNat = none ∧
      u.writeBarred r.hdr.offset.toNat (k.segElems i * k.fm.size) = false) →
    g.bits.contains slot = false → g.closing = false → k.full i = false →
    c = ({ slot := slot, req := r.id, bytes := r.payload } : Contribution) →
    (g.bits.length + 1 < k.list.length →
      gives (.reducePut t a f) s (fun v => Claims.onlyWrites s v 0 0 ∧
        (∃ k', v.coll k.key = some k' ∧ (k'.seg i false).held = g.held ++ [c] ∧ (k'.seg i false).bits = g.bits ++ [slot] ∧
          (k'.seg i false).round = g.round) ∧
        ∃ q, v.req r.id = some q ∧ q.stage = .round k.key i ∧ q.applied = false ∧ q.refused = false)) ∧
    (∀ els ovf o out exc, k.list.length ≤ g.bits.length + 1 → k.root = true → g.leaf = false → u.framesOf r.id = [] →
      (els, ovf) = u.roundResult k { g with held := g.held ++ [c] } → (out, exc) = packed k.fm els → o = k.target + i * k.segBytes →
      Claims.plainNear u o out.length → Claims.quiet u o out.length → u.rangeHeld o out.length = false →
      gives (.reducePut t a f) s (fun v => v.memRead o out.length = out ∧ Claims.onlyWrites s v o out.length ∧
        Claims.completes r .applied (if anyExc exc then .numeric else .ok) [] v ∧
        ∃ k', v.coll k.key = some k' ∧ (k'.seg i false).held = [] ∧ (k'.seg i false).bits = [] ∧ (k'.seg i false).round = g.round + 1))

/-- A partial frame joins the root's round with the elements it carries; one of a round that is over is answered without effect, one of a round to come or a
malformed one is refused (R293, R295). The model's own reading or choice in it: notes/assumptions/50.md, notes/assumptions/51.md. -/
def Obligations.PartialFramesJoinTheRootsRound : Prop :=
  ∀ t a f s u r k i g, f.hdr.opcode = 0x20 → f.hdr.stream = 0x7C → s.intact →
    Claims.opens t a f s Claims.reduceWant Claims.gatedNow u r →
    r.hdr.length ≠ 0 → u.absorber r.hdr = some (k, i, true) → u.coll k.key = some k → g = k.seg i false → u.locked r.part = false →
    u.locked k.part = false → k.root = true → k.isStageMaster r.hdr.src r.hdr.cid = true →
    u.sumacTouched r.hdr.offset.toNat r.hdr.length.toNat = none →
    (partialOf? k r = none → gives (.partialFrame t a f) s (fun v => Claims.refusedAs r .format v ∧ Claims.onlyWrites s v 0 0)) ∧
    (∀ slot first n, partialOf? k r = some (slot, first, n) →
      (leAt r.payload 4 4 < g.round →
        gives (.partialFrame t a f) s (fun v => Claims.completes r .applied .ok [] v ∧ v.eng.colls = s.eng.colls ∧ Claims.onlyWrites s v 0 0)) ∧
      (g.round < leAt r.payload 4 4 → gives (.partialFrame t a f) s (fun v => Claims.refusedAs r .format v ∧ Claims.onlyWrites s v 0 0)) ∧
      (leAt r.payload 4 4 = g.round → k.full i = false → g.closing = false →
        (∀ x ∈ g.held, x.slot = slot → ∀ b m, x.words = some (b, m) → overlaps b m first n = false) →
        g.bits.length + 1 < k.list.length →
        gives (.partialFrame t a f) s (fun v => Claims.onlyWrites s v 0 0 ∧
          ∃ k', v.coll k.key = some k' ∧ (k'.seg i false).held = g.held ++ [{ slot := slot, req := r.id, bytes := r.payload, words := some (first, n) }] ∧
            (k'.seg i false).round = g.round ∧
            ((k'.seg i false).bits = g.bits ∨ (k'.seg i false).bits = g.bits ++ [slot]))))

/-- A round past its skew limit is refused as a whole and stands empty at the same round (R290); reissues past their deadline are answered without a write
(R113); a collective whose clusters have long been in reset is bound anew, or removed (R299). The model's own reading or choice in it: notes/assumptions/53.md.
-/
def Obligations.RoundsExpireAndCollectivesAreRebound : Prop :=
  (∀ t s key k i g, s.intact → s.coll key = some k → g = k.seg i false → k.releasing = false → g.closing = false → g.held ≠ [] →
    g.firstAt + s.skewTicks k ≤ max s.now t →
    gives (.segmentRoundExpiry t key i) s (fun v => Claims.onlyWrites s v 0 0 ∧
      (∃ k', v.coll key = some k' ∧ (k'.seg i false).held = [] ∧ (k'.seg i false).bits = [] ∧ (k'.seg i false).round = g.round) ∧
      ∀ c ∈ g.held, ∀ q, s.req c.req = some q → q.dup = none → q.refused = false → Claims.refusedAs q .throttled v)) ∧
  (∀ t s key k i, s.coll key = some k → (k.seg i false).closing = true ∨ (k.seg i false).held = [] →
    exec (.segmentRoundExpiry t key i) s = .next (s.at t)) ∧
  (∀ t s key k i g c q e tail, s.coll key = some k → g = k.seg i true → g.closing = false → g.held = [c] → s.req c.req = some q →
    q.dup = some (e, tail) → (s.at t).pastDeadline q = true →
    gives (.reissueRoundDeadline t key i) s (fun v => Claims.onlyWrites s v 0 0 ∧ v.req c.req = none ∧
      ∃ k', v.coll key = some k' ∧ (k'.seg i true).held = [] ∧ (k'.seg i true).round = g.round)) ∧
  (∀ t s key k i, s.coll key = some k → (k.seg i true).held = [] → exec (.reissueRoundDeadline t key i) s = .next (s.at t)) ∧
  (∀ t s key k, s.coll key = some k →
    gives (.collectiveRebind t key) s (fun v => Claims.onlyWrites s v 0 0 ∧
      ∀ k', v.coll key = some k' → k'.positions.length = k.positions.length ∧ k'.desc = k.desc ∧
        ∀ g ∈ k'.positions, (s.at t).longReset ((g - 64) / 2) = false)) ∧
  (∀ t s key k, s.coll key = some k → (∀ g ∈ k.positions, (s.at t).longReset ((g - 64) / 2) = false) →
    exec (.collectiveRebind t key) s = .next (s.at t))

/-- `MCAST_STORE` (R301 to R305): a local copy stands at its member's base and nothing else is written; a relay copy goes toward its member's node on stream
0x7D, with flag `RI`, and writes nothing here; a range outside the group is refused. The model's own reading or choice in it: notes/assumptions/54.md. -/
def Obligations.MulticastsCopyToTheirMembers : Prop :=
  ∀ t a f s u r g o n, f.hdr.opcode = 0x21 → s.intact →
    Claims.opens t a f s
      (fun v d => { die := recordDie d.hdr.stream, writer := recordDie d.hdr.stream, off := d.hdr.offset.toNat, len := d.hdr.length.toNat,
                    right := some .wr, listed := true, entry := (v.mcastLocals d.hdr).findSome? (fun x =>
                      match v.accessCheck d.hdr.src d.hdr.cid x.2 d.hdr.length.toNat .wr with | .ok e => e | .error _ => none) })
      (fun v d => (v.mcastLocals d.hdr).any (fun x => v.rangeHeld x.2 d.hdr.length.toNat || v.stagingHeld x.2 d.hdr.length.toNat)) u r →
    u.groupOf r.hdr = some g → o = r.hdr.offset.toNat → n = r.hdr.length.toNat → 0 < n → u.framesOf r.id = [] → r.failure = none →
    (within o n g.base g.length = false →
      gives (.mcastStore t a f) s (fun v => Claims.refusedAs r .denied v ∧ Claims.onlyWrites s v 0 0)) ∧
    (∀ m x e, within o n g.base g.length = true → g.members = [m] → m.isLocal = true → x = o - g.base + m.base → r.payload.length = n →
      u.accessCheck r.hdr.src r.hdr.cid x n .wr = .ok e → u.writeBarred x n = false → Claims.plainNear u x n → Claims.quiet u x n →
      gives (.mcastStore t a f) s (fun v => Claims.completes r .applied .ok [] v ∧ v.memRead x n = r.payload ∧ Claims.onlyWrites s v x n)) ∧
    (∀ m, within o n g.base g.length = true → g.members = [m] → m.isLocal = false → u.route m.node ≠ some (r.port, r.sub) →
      gives (.mcastStore t a f) s (fun v => Claims.onlyWrites s v 0 0 ∧
        (∃ w, w ∈ v.jrn.outs ∧ w.owner = .relay r.id 0 ∧ w.toward = m.node ∧ w.hdr.opcode = 0x21 ∧ w.hdr.stream = 0x7D ∧
          w.hdr.offset = r.hdr.offset ∧ w.hdr.flagG = true ∧ w.payload = r.payload) ∧
        ∃ q, v.req r.id = some q ∧ q.applied = false ∧ q.index.isSome = true))

/-- An opcode that is not assigned is refused by the parser, an operator code that is not assigned at its cluster (R45, R318): nothing is written and no
operator begins. -/
def Obligations.UnassignedCodesAreRefused : Prop :=
  (∀ t a f s, classesOf f.hdr.opcode.toNat = [] → s.live = true → s.warp.arrived = [] → s.warpDown = false → f.hdr.check = f.hdr.goodCheck →
    f.hdr.version = 1 → f.hdr.opcode ≠ 0 →
    exec (.unsupportedOpcode t a f) s = .next
      (((s.at t).refuseOpen a.port (s.arrivalHeader a f.hdr) (max s.now t)
        (match s.context f.hdr.src f.hdr.cid with | some x => x.part | none => least (s.sharesOf a.port a.sub)) .unsupported).freeCells
          (some (a.port, a.sub)) f)) ∧
  (∀ t a f s u r, f.hdr.opcode = 0x30 → knownOperator (dCode f.payload) = false → s.intact →
    Claims.opens t a f s Claims.offloadWant Claims.gatedNow u r →
    gives (.unsupportedOpcode t a f) s (fun v => (Claims.refusedAs r .unsupported v ∨ Claims.refusedAs r .format v) ∧
      v.eng.jobs = s.eng.jobs ∧ Claims.onlyWrites s v 0 0))

/-! ## Near-data operators -/

/-- The command of an operator's `OFFLOAD` frame, or of a cross-check (R325, R600). -/
def Claims.operatorOf (t : Nat) (a : Arrival) (f : Frame) : List Instr :=
  (if f.hdr.opcode = 0x30 then
    match dCode f.payload with
    | 1 => [.gather t a f] | 2 => [.scatterAdd t a f] | 3 => [.predicateFilter t a f] | 4 => [.topK t a f]
    | 5 => [.embeddingBag t a f] | 6 => [.smallDenseProjection t a f] | 7 => [.treeEnsemble t a f] | _ => []
  else []) ++ (if f.hdr.opcode = 0x30 ∧ f.hdr.stream = 0x7A then [.xcheckOffload t a f] else [])

/-- Every operator, and a cross-check (R237, R318): one whose descriptor passes enters its cluster's dispatch queue with its operands resolved; one that fails a
check of its descriptor is refused with that check's status. Of those that can start, one with the least remaining budget starts, with its slots claimed (R228,
R238); a malformed list or model refuses it (R321). One still queued at its deadline is refused `THROTTLED` (R240), an unanswered cross-check's `TARGET_LOST`
(R600). The model's own reading or choice in it: notes/assumptions/35.md, notes/assumptions/37.md. -/
def Obligations.OperatorsEnterAndStart : Prop :=
  (∀ t a f s u r i, i ∈ Claims.operatorOf t a f → s.intact →
    Claims.opens t a f s Claims.offloadWant (fun v d => Claims.gatedNow v d || decide (256 ≤ v.queueDepth (v.opPosition d / 2))) u r →
    (∀ j ∈ u.eng.jobs, j.req ≠ r.id) →
    (∀ st, checkDescriptor r.payload = some st →
      gives i s (fun v => Claims.refusedAs r st v ∧ v.eng.jobs = s.eng.jobs ∧ Claims.onlyWrites s v 0 0)) ∧
    (∀ exts, checkDescriptor r.payload = none → (dEmpty r.payload = false → (u.localContext r.part).isSome = true) →
      u.resolveAll r r.payload (u.isCrossCheck r.hdr) = .ok exts → exts.any u.touchesSumac = false →
      (∀ x ∈ (exts.take 3).flatten, ∀ y ∈ exts.getD 3 [], overlaps x.1 x.2 y.1 y.2 = false) →
      (∀ c < 32, claimOf r.payload ≤ (u.cluster c).accMib) → u.locked r.part = false →
      gives i s (fun v => Claims.onlyWrites s v 0 0 ∧ ∃ j q, v.job r.id = some j ∧ j.desc = r.payload ∧ j.exts = exts ∧ j.running = false ∧
        j.arrivedAt = max s.now t ∧ j.crossCheck = u.isCrossCheck r.hdr ∧ v.req r.id = some q ∧ q.stage = .queued j.cluster j.pos ∧
        q.applied = false ∧ q.refused = false))) ∧
  (∀ t s c j r, c < 32 → (s.at t).nextOp c = some j → s.job j.req = some j → s.req j.req = some r → r.dup = none → r.refused = false →
    (j.exts.take 3).findSome? ((s.at t).nearCheck r false) = none → (∀ x ∈ s.mem.filter, x.2.2 ≠ .exclusive) →
    gives (.operatorStart t c) s (fun v => Claims.onlyWrites s v 0 0 ∧
      (∀ k ∈ s.eng.jobs, k.cluster = c → k.running = false → dCode k.desc < 8 → (s.at t).opReady k = true → (s.at t).slotsFree k = true →
        (s.at t).opBudget j ≤ (s.at t).opBudget k) ∧
      ((∃ j', v.job j.req = some j' ∧ j'.running = true ∧ j'.steps = claimOf j.desc ∧ j'.desc = j.desc) ∨ Claims.refusedAs r .format v) ∧
      v.eng.lastRun = max s.now t ∧ v.eng.colls = s.eng.colls ∧ v.chans = s.chans)) ∧
  (∀ t s c, c < 32 → (s.at t).nextOp c = none → exec (.operatorStart t c) s = .next (s.at t)) ∧
  (∀ t s j r, s.job r.id = some j → s.req r.id = some r → j.running = false → r.dup = none → r.refused = false → (s.at t).pastDeadline r = true →
    gives (.dispatchQueueDeadline t r.id) s (fun v => Claims.refusedAs r .throttled v ∧ v.job r.id = none ∧ v.eng.colls = s.eng.colls ∧
      (j.cluster < s.eng.clusters.length → (s.at t).opReady j = true → (s.at t).slotsFree j = false → (v.cluster j.cluster).slotWait = true))) ∧
  (∀ t s j r, s.job r.id = some j → s.req r.id = some r → j.running = true ∨ (s.at t).pastDeadline r = false →
    exec (.dispatchQueueDeadline t r.id) s = .next (s.at t)) ∧
  (∀ t s r c g, s.req r.id = some r → r.stage = .crossCheck c g → r.dup = none → r.refused = false → (s.at t).pastDeadline r = true →
    gives (.xcheckTimeout t r.id) s (fun v => Claims.refusedAs r .targetLost v ∧ v.job r.id = none ∧ v.eng.colls = s.eng.colls)) ∧
  (∀ t s r, s.req r.id = some r → (s.at t).pastDeadline r = false → exec (.xcheckTimeout t r.id) s = .next (s.at t))

/-- A tile starts on the lowest-numbered free core of its cluster, and when it completes its core is free again and its scratchpad is written (R225, R239);
stopped clocks stop both (R631). An operator whose tiles are done answers its result word and the bytes it computes (R322, R324): in its `ACK` with flag `RET`,
else in its output extent, where no other byte changes; an exception makes the status `NUMERIC`. The model's own reading or choice in it:
notes/assumptions/38.md. -/
def Obligations.TilesRunAndOperatorsComplete : Prop :=
  (∀ t s c j k, c < 32 → (s.eng.jobs.map (·.req)).Nodup →
    (∀ x ∈ s.eng.jobs, x.cluster = c → x.running = true → x.valid = true ∧ ∀ p ∈ x.plan, p.sent = true) →
    (s.at t).tileNext c = some (j, k) →
    gives (.tileStart t c) s (fun v => v.eng.tiles = s.eng.tiles ++ [⟨c, k, j.req, j.tilesStarted, max s.now t⟩] ∧
      (∃ j', v.job j.req = some j' ∧ j'.tilesStarted = j.tilesStarted + 1 ∧ k ∈ j'.cores) ∧
      (∀ k', k' < k → (s.at t).coreFree j k' = false) ∧ v.mem = s.mem ∧ v.jrn = s.jrn ∧ v.tabs = s.tabs ∧ v.parts = s.parts)) ∧
  (∀ t s c, c < 32 → s.eng.jobs = [] → exec (.tileStart t c) s = .next (s.at t)) ∧
  (∀ t s x j, x.cluster < 32 → x.core < 8 → s.intact → x.cluster ∉ s.eng.stopped →
    s.eng.tiles.find? (fun y => y.cluster = x.cluster ∧ y.core = x.core) = some x → s.job x.req = some j →
    gives (.tileComplete t x.cluster x.core) s (fun v => v.eng.tiles = s.eng.tiles.erase x ∧
      (∃ j', v.job x.req = some j' ∧ j'.tilesDone = j.tilesDone + 1) ∧
      (∃ n, look x.core (v.cluster x.cluster).scratch = some n ∧ min 8192 (granulesOf j.desc) ≤ n ∧ n ≤ 8192) ∧
      v.mem = s.mem ∧ v.jrn = s.jrn ∧ v.tabs = s.tabs)) ∧
  (∀ t s c core, c < 32 → core < 8 → c ∈ s.eng.stopped → exec (.tileComplete t c core) s = .next (s.at t)) ∧
  (∀ t s r j x, s.intact → s.req r.id = some r → s.job r.id = some j → r.writer < 2 →
    j.running = true → j.valid = true → j.allRead = true → (∀ p ∈ j.plan, p.sent = true) → tilesOf j.desc ≤ j.tilesDone → j.output = none →
    j.written = false → j.tainted = false → j.crossCheck = false → j.outTodo = [] → s.crossChecks j.cluster = false → s.framesOf r.id = [] →
    r.leaf = false → r.again = false → r.dup = none → r.index = none → r.refused = false → r.waits = 0 → x = operatorOut j.desc j.inputs →
    (dRet j.desc = true →
      gives (.operatorComplete t r.id) s (fun v => Claims.completes r .applied (if 2 ^ 32 ≤ x.word then .numeric else .ok)
          (natLe 8 x.word ++ x.bytes) v ∧
        Claims.onlyWrites s v 0 0 ∧ v.job r.id = none ∧ (∀ y ∈ v.eng.tiles, y.req ≠ r.id) ∧ v.eng.colls = s.eng.colls ∧ v.chans = s.chans)) ∧
    (∀ y, dRet j.desc = false → j.exts.getD 3 [] = [y] → s.isNear y = true → 0 < x.bytes.length → x.bytes.length ≤ y.2 →
      s.nearCheck r true [y] = none → Claims.plainNear s (offOf y.1) x.bytes.length → Claims.quiet s (offOf y.1) x.bytes.length →
      s.rangeHeld (offOf y.1) x.bytes.length = false →
      gives (.operatorComplete t r.id) s (fun v => Claims.completes r .applied (if 2 ^ 32 ≤ x.word then .numeric else .ok) (natLe 8 x.word) v ∧
        v.memRead (offOf y.1) x.bytes.length = x.bytes ∧ Claims.onlyWrites s v (offOf y.1) x.bytes.length ∧ v.job r.id = none ∧
        v.chans = s.chans)))


/-! ## Settlement, hand-over, the journal's timers -/

/-- A response to a request has entered the switch core (R50, R51): its completion word, and its payload. -/
def Claims.responds (h : Header) (ack settled : Bool) (st : Status) (data : Bytes) (v : State) : Prop :=
  ∃ x ∈ v.warp.voq, x.frame.hdr.opcode = (if ack then 0x80 else 0x81) ∧ x.frame.hdr.dst = h.src ∧ x.frame.hdr.stream = h.stream ∧
    x.frame.hdr.seq = h.seq ∧ x.frame.hdr.cid = h.cid ∧ x.frame.hdr.budget = completionWord st h.opcode settled ∧ x.frame.payload = data

/-- A response toward a node can be sent, and is not too old to enter the switch core. -/
def Claims.answerable (v : State) (h : Header) (age0 arrive : Nat) : Prop :=
  (h.src = v.tabs.node ∨ (v.routable h.src).isSome = true) ∧ ageAfter h.tc.toNat (age0 % 2 ^ 24) (v.now - arrive) < v.ageLimit h.tc.toNat

/-- A stream settles in order (R82, R83, R101): the request after its high-water mark, once applied and mirrored, moves the mark, gives back its weight, keeps
its final status in its entry, and is answered; while that one is not ready nothing settles. The model's own reading or choice in it: notes/assumptions/13.md.
-/
def Obligations.RequestsSettleInOrder : Prop :=
  (∀ t s n st r stat, s.jrn.reqs.find? (fun r => r.hdr.src = n ∧ r.hdr.stream = st ∧ r.hdr.seq = (s.stream n st).hwm + 1) = some r →
    r.applied = true → r.mirrored = true → n ∉ s.tabs.retiring →
    stat = (if r.refused || r.status == .numeric then r.status else if (s.at t).pastDeadline r then .deadlineMissed else r.status) →
    gives (.entrySettle t n st) s (fun v => ∃ w : State, v = w.drained.wake.teardownsGo.standbyGo ∧
      (w.stream n st).hwm = r.hdr.seq ∧ (w.stream n st).next = (s.stream n st).next ∧ w.req r.id = none ∧
      (w.part r.part).inFlight = (s.part r.part).inFlight - r.weight ∧
      (∀ i, r.index = some i → ∀ e ∈ (s.writer r.writer).ring, e.index = i → { e with status := stat } ∈ (w.writer r.writer).ring) ∧
      (Claims.answerable (s.at t) r.hdr r.age0 r.arrive → Claims.responds r.hdr (!r.refused) true stat r.ackData w) ∧
      Claims.onlyWrites s w 0 0 ∧ w.chans = s.chans ∧ w.eng = s.eng)) ∧
  (∀ t s n st, s.jrn.reqs.all (fun r => !(decide (r.hdr.src = n) && decide (r.hdr.stream = st) && decide (r.hdr.seq = (s.stream n st).hwm + 1) &&
      r.applied && r.mirrored)) = true →
    exec (.entrySettle t n st) s = .next ((s.at t).drained.wake.teardownsGo.standbyGo))

/-- A retired node's records return to their initial state once none of its requests is open (R73, R602); a frame that waited for its sequence is served when
its turn comes (R86), and refused `THROTTLED` with its sequence open at its deadline (R102). -/
def Obligations.WaitingFramesAreServedOrRefused : Prop :=
  (∀ t s n, n ∈ s.tabs.retiring → s.jrn.reqs.all (fun r => r.hdr.src != n) = true →
    gives (.nodeRetireComplete t n) s (fun v => n ∉ v.tabs.retiring ∧ (∀ st, v.stream n st = { src := n, stream := st }) ∧
      (∀ m st, m ≠ n → v.stream m st = s.stream m st) ∧ v.jrn.reqs = s.jrn.reqs)) ∧
  (∀ t s n, n ∉ s.tabs.retiring ∨ s.jrn.reqs.any (fun r => r.hdr.src == n) = true → exec (.nodeRetireComplete t n) s = .next (s.at t)) ∧
  (∀ t s n st x dmg, s.heldFrame n st (s.stream n st).next = some x →
    exec (.pendingFrameRelease t n st dmg) s = .next (((s.at t).dropHeld x).opFrame dmg ((s.at t).deliver x))) ∧
  (∀ t s n st dmg, s.heldFrame n st (s.stream n st).next = none → exec (.pendingFrameRelease t n st dmg) s = .next (s.at t)) ∧
  (∀ t s n st q x, s.heldFrame n st q = some x → (s.at t).late x.frame.hdr x.arrive = true →
    gives (.pendingFrameDeadline t n st q) s (fun v => v.jrn.held = s.jrn.held.erase x ∧ v.jrn.reqs = s.jrn.reqs ∧
      v.jrn.streams = s.jrn.streams ∧ Claims.onlyWrites s v 0 0 ∧
      (Claims.answerable (s.at t) x.frame.hdr x.frame.hdr.age.toNat x.arrive → Claims.responds x.frame.hdr false false .throttled [] v))) ∧
  (∀ t s n st q x, s.heldFrame n st q = some x → (s.at t).late x.frame.hdr x.arrive = false →
    exec (.pendingFrameDeadline t n st q) s = .next (s.at t))

/-- The presentation of an `OFFER` or a `TAKE` (R131). -/
def Claims.handWant (_ : State) (d : Delivered) : Want :=
  { die := recordDie d.hdr.stream, writer := recordDie d.hdr.stream, off := 0, len := 0, right := none }

/-- `OFFER` records its handle and an OFFERED entry (R106); `TAKE` of the handle that was given up to its sender leaves a HANDED entry, and one that does not
match is refused (R107); a hand-over not settled in time stays with its owner, and its `TAKE` is refused `ORPHAN_HOLD` (R108). The model's own reading or choice
in it: notes/assumptions/69.md. -/
def Obligations.HandOversMatchTheirHandles : Prop :=
  (∀ t a f s u r, f.hdr.opcode = 0x40 → s.intact → Claims.opens t a f s Claims.handWant (fun _ _ => false) u r → handleOk r.payload = true →
    gives (.offer t a f) s (fun v => Claims.completes r .offered .ok [] v ∧ Claims.onlyWrites s v 0 0 ∧ Claims.aside s v ∧
      ⟨beAt r.payload 2 1, BitVec.ofNat 32 (beAt r.payload 4 4), beAt r.payload 8 8, none, none, false⟩ ∈ v.jrn.handOvers)) ∧
  (∀ t a f s u r, f.hdr.opcode = 0x40 → s.intact → Claims.opens t a f s Claims.handWant (fun _ _ => false) u r → handleOk r.payload = false →
    gives (.offer t a f) s (fun v => Claims.refusedAs r .format v ∧ v.jrn.handOvers = u.jrn.handOvers)) ∧
  (∀ t a f s u r x, f.hdr.opcode = 0x41 → s.intact → Claims.opens t a f s Claims.handWant (fun _ _ => false) u r → handleOk r.payload = true →
    u.jrn.handOvers.find? (fun x => x.taker.isSome && x.index == BitVec.ofNat 32 (beAt r.payload 4 4) && x.kind == beAt r.payload 2 1) = some x →
    (x.generation = beAt r.payload 8 8 → x.orphan = false → x.taker = some r.hdr.src → beAt r.payload 0 2 = u.tabs.node.toNat →
      gives (.take t a f) s (fun v => Claims.completes r .handed .ok [] v ∧ Claims.onlyWrites s v 0 0 ∧ Claims.aside s v ∧
        v.jrn.handOvers = u.jrn.handOvers)) ∧
    (x.generation ≠ beAt r.payload 8 8 → gives (.take t a f) s (fun v => Claims.refusedAs r .denied v)) ∧
    (x.generation = beAt r.payload 8 8 → x.orphan = true → gives (.take t a f) s (fun v => Claims.refusedAs r .orphanHold v))) ∧
  (∀ t s i x k, s.jrn.handOvers.find? (fun x => x.taker.isSome && x.index == i && !x.orphan) = some x → x.ackAt = some k →
    k + s.deadlineTicks 2 ≤ max s.now t →
    gives (.orphanHoldExpiry t i) s (fun v => { x with orphan := true } ∈ v.jrn.handOvers ∧ Claims.told 0x0308 s v ∧
      ∀ r ∈ s.jrn.reqs, s.req r.id = some r → r.hdr.opcode = 0x41 → r.aux = i → r.refused = false → r.dup = none →
        Claims.refusedAs r .orphanHold v)) ∧
  (∀ t s i x k, s.jrn.handOvers.find? (fun x => x.taker.isSome && x.index == i && !x.orphan) = some x → x.ackAt = some k →
    max s.now t < k + s.deadlineTicks 2 → exec (.orphanHoldExpiry t i) s = .next (s.at t))

/-- The partner's `MIRROR` stands in the shadow ring, and its stream or its MARK is followed (R97, R98); one that is fenced or of another sender changes no
ring. The model's own reading or choice in it: notes/assumptions/64.md. -/
def Obligations.MirrorsFollowThePartner : Prop :=
  ∀ t a f s v d, f.hdr.opcode = 0x90 → s.intact → (s.at t).receive a f = .here v d →
    (∀ e, v.mirrorFenced = false → d.pcheck = crc32c d.payload → v.epochOk d.hdr = true → v.tabs.paired = true →
      d.hdr.src = v.tabs.partner → d.hdr.stream = 0x7E ∨ d.hdr.stream = 0x7F → entryCheckOk d.payload = true →
      JEntry.ofBytes d.payload v.now = some e → (e.opcode = 0x04 → e.state ≠ .applied) →
      (∀ x ∈ (v.writer e.writer).shadow, x.index ≠ e.index) →
      gives (.mirror t a f) s (fun u =>
        (∃ e' ∈ (u.writer e.writer).shadow, e'.index % ringCapacity = e.index % ringCapacity ∧ e.index ≤ e'.index) ∧
        (e.state = .mark → (u.writer e.writer).shadowMark = laterMark (v.writer e.writer).shadowMark e.covers) ∧
        (e.state ≠ .mark → isPair e.stream = true → u.stream e.src e.stream = (v.stream e.src e.stream).follow e) ∧
        u.hlt.contactP = some v.now ∧ Claims.onlyWrites v u 0 0 ∧ u.jrn.reqs = v.jrn.reqs ∧
        (Claims.answerable v d.hdr d.hdr.age.toNat d.arrive → Claims.responds d.hdr true true .ok [] u))) ∧
    (v.mirrorFenced = true →
      gives (.mirror t a f) s (fun u => u.jrn.writers = v.jrn.writers ∧ u.jrn.streams = v.jrn.streams ∧ u.jrn.shadowStreams = v.jrn.shadowStreams ∧
        (Claims.answerable v d.hdr d.hdr.age.toNat d.arrive → Claims.responds d.hdr false false .fenced [] u)))

/-- The journal's timers: MARKs at their intervals (R98, R604), retirement of covered entries past their retention (R92), the anchor (R94), the grace of the map
epoch (R67), the partner's loss (R99), and the end of a failover (R111). The model's own reading or choice in it: notes/assumptions/67.md. -/
def Obligations.JournalTimersKeepTheJournal : Prop :=
  (∀ t s w, w < 2 → s.intact → markDue (s.writer w) = true → (s.writer w).lastMarkAt + 2 * ticksPerUs ≤ max s.now t →
    gives (.markInterval t w) s (fun u => (u.writer w).head = (s.writer w).head + 1 ∧ (u.writer w).lastMark = appliedUpTo (s.writer w) ∧
      (u.writer w).lastMarkAt = max s.now t ∧ (∃ e, (u.writer w).ring = (s.writer w).ring ++ [e] ∧ e.state = .mark ∧ e.index = (s.writer w).head) ∧
      Claims.onlyWrites s u 0 0 ∧ u.jrn.reqs = s.jrn.reqs ∧ u.eng = s.eng)) ∧
  (∀ t s w, w < 2 → markDue (s.writer w) = false → exec (.markInterval t w) s = .next (s.at t)) ∧
  (∀ t s w, w < 2 → s.intact → s.mirrors = true → (s.writer w).lastMirrorAt + s.cfg.hoop.fenceMs * ticksPerMs / 8 ≤ max s.now t →
    gives (.idleMarkInterval t w) s (fun u => (u.writer w).head = (s.writer w).head + 1 ∧ (u.writer w).lastMark = (s.writer w).lastMark ∧
      (u.writer w).lastMirrorAt = max s.now t ∧ (∃ o ∈ u.jrn.outs, o.owner = .mirror w (s.writer w).head ∧ o.toward = s.tabs.partner) ∧
      Claims.onlyWrites s u 0 0)) ∧
  (∀ t s w i, w < 2 → s.intact → gives (.entryRetire t w i false) s (fun u =>
      (u.writer w).ring = (s.writer w).ring.filter (fun e => !(e.index = i && (s.at t).retires (s.writer w).lastMark e)) ∧
      (u.writer w).shadow = (s.writer w).shadow ∧ (u.writer (1 - w)) = s.writer (1 - w) ∧ u.mem = s.mem ∧ u.jrn.streams = s.jrn.streams)) ∧
  (∀ t s w, w < 2 → s.intact → gives (.anchorUpdate t w) s (fun u => (u.writer w).anchor.head = (s.writer w).head ∧
      (u.writer w).anchor.mark = (s.writer w).lastMark ∧ (u.writer w).anchor.generation = (s.writer w).anchor.generation ∧
      ((u.writer w).anchor.state = .stale ↔ (s.writer w).anchor.state = .stale) ∧ (u.writer w).ring = (s.writer w).ring ∧ u.mem = s.mem)) ∧
  (∀ t s g, s.tabs.grace = some g →
    gives (.mapEpochGraceExpiry t) s (fun u => u.tabs.mapEpoch = s.tabs.mapEpoch ∧
      (u.tabs.grace = none ↔ ∀ tc < 8, g + s.deadlineTicks tc ≤ max s.now t) ∧ u.mem = s.mem ∧ u.jrn = s.jrn)) ∧
  (∀ t s w i o, w < 2 → s.jrn.outs.find? (fun o => o.owner == .mirror w i) = some o → o.resendAt = none →
    o.sentAt + s.deadlineTicks o.hdr.tc.toNat ≤ max s.now t →
    (o.attempts < 2 → gives (.mirrorTimeout t w i) s (fun u =>
      { o with sentAt := max s.now t, attempts := o.attempts + 1, resendAt := none } ∈ u.jrn.outs ∧ u.jrn.soloHold = s.jrn.soloHold)) ∧
    (2 ≤ o.attempts → s.jrn.solo = false → s.hlt.partnerLost = none → s.hlt.fence = 0 →
      gives (.mirrorTimeout t w i) s (fun u => u.hlt.partnerLost = some (max s.now t) ∧
        ({ s.at t with hlt := { s.hlt with partnerLost := some (max s.now t) } }.hasQuorum = true →
          u.hlt.fence = 0 ∧ u.jrn.soloHold = some (max s.now t) ∧ Claims.told 0x0305 s u) ∧
        ({ s.at t with hlt := { s.hlt with partnerLost := some (max s.now t) } }.hasQuorum = false → u.hlt.fence = 2)))) ∧
  (∀ t s, s.jrn.failover = true → (∀ o ∈ s.jrn.outs, ∀ l w i, o.owner = .landing l w i → w < 2 ∨ 1 < o.attempts ∨ o.resendAt.isSome = true) →
    gives (.failoverStreamsOpen t) s (fun u => u.jrn.failover = false ∧ u.jrn.solo = true)) ∧
  (∀ t s, s.jrn.failover = false → exec (.failoverStreamsOpen t) s = .next (s.at t))

/-! ## Answers to the device's own frames; health, fences, partner resync -/

/-- A response reaches the frame it answers (R51 to R53, R99, R658): an unmatched one is counted, an acknowledged one ends its frame, a `MIRROR`'s makes its
entry mirrored; refused with its sequence open, a frame waits a microsecond; refused for good, it takes its request with it. -/
def Obligations.ResponsesReachTheirFrames : Prop :=
  (∀ t a f s v d, f.hdr.opcode = 0x80 → (s.at t).receive a f = .here v d →
    (v.outFrame d.hdr.src d.hdr.stream d.hdr.seq = none → exec (.responseAck t a f) s = .next (v.count .unmatched).recordGo) ∧
    (∀ o, v.outFrame d.hdr.src d.hdr.stream d.hdr.seq = some o → (d.hdr.carries = true → d.pcheck = crc32c d.payload) →
      responseSettled d.hdr = true → statusUnknown (responseStatus d.hdr) = false →
      (o.owner = .fill → gives (.responseAck t a f) s (fun u => ∃ w : State, u = w.stir.recordGo ∧ w.jrn.outs = v.jrn.outs.erase o ∧ w.mem = v.mem)) ∧
      (∀ c k, o.owner = .core c k → o.hdr.opcode = 1 → gives (.responseAck t a f) s (fun u => ∃ w : State, u = w.stir.recordGo ∧
        w.jrn.outs = v.jrn.outs.erase o ∧ look (c, k) w.mem.coreValue = some d.payload ∧ w.mem.near = v.mem.near)) ∧
      (∀ x i, o.owner = .mirror x i → v.eng.colls = [] → v.jrn.draining = false →
        gives (.responseAck t a f) s (fun u => ∃ w : State, u = w.stir.recordGo ∧ w.jrn.outs = v.jrn.outs.erase o ∧
          (∀ e ∈ (v.writer x).ring, e.index = i → { e with mirrored := true, at_ := v.now } ∈ (w.writer x).ring) ∧
          (∀ r ∈ v.jrn.reqs, r.writer = x → r.index = some i → { r with mirrored := true } ∈ w.jrn.reqs) ∧
          w.hlt.contactP = some v.now ∧ w.hlt.partnerLost = none ∧ w.mem = v.mem)))) ∧
  (∀ t a f s v d, f.hdr.opcode = 0x81 → (s.at t).receive a f = .here v d → v.outFrame d.hdr.src d.hdr.stream d.hdr.seq = none →
    exec (.responseNack t a f) s = .next (v.count .unmatched).recordGo) ∧
  (∀ t a f s v d o, f.hdr.opcode = 0x81 → (s.at t).receive a f = .here v d → v.outFrame d.hdr.src d.hdr.stream d.hdr.seq = some o →
    d.hdr.carries = false → statusUnknown (responseStatus d.hdr) = false →
    (∀ id, responseSettled d.hdr = false → responseStatus d.hdr ≠ .targetLost → o.owner = .copy id ∨ o.owner = .tray id ∨ o.owner = .operand id →
      gives (.responseNack t a f) s (fun u => ∃ w : State, u = w.stir.recordGo ∧ { o with resendAt := some (v.now + ticksPerUs) } ∈ w.jrn.outs ∧
        w.jrn.reqs = v.jrn.reqs ∧ w.mem = v.mem)) ∧
    (∀ r, responseSettled d.hdr = true → o.owner = .copy r.id → v.req r.id = some r → r.stage = .frames → r.dup = none → r.refused = false →
      gives (.responseNack t a f) s (fun u => ∃ w : State, u = w.stir.recordGo ∧ Claims.refusedAs r (responseStatus d.hdr) w ∧
        w.eng.colls = v.eng.colls)))

/-- The timers of the device's own frames (R657, R658): a frame is sent again at its sequence once its microsecond or its class deadline has passed; a request
that still waits for frames at its ageing limit is refused `TARGET_LOST`; a landing write that has grown old has its sequence filled and goes on at the next. -/
def Obligations.FramesAreSentAgainUntilAnswered : Prop :=
  (∀ t s n st q o k, s.outFrame n st q = some o → o.resendAt = some k → k ≤ max s.now t →
    o.owner = .fill ∨ o.owner = .resync ∨ (∃ id, o.owner = .copy id ∨ o.owner = .tray id ∨ o.owner = .operand id) →
    gives (.frameResendTimer t n st q) s (fun u =>
      { o with sentAt := max s.now t, attempts := o.attempts + 1, resendAt := none } ∈ u.jrn.outs ∧ u.jrn.reqs = s.jrn.reqs ∧
      u.jrn.devSeq = s.jrn.devSeq ∧ Claims.onlyWrites s u 0 0)) ∧
  (∀ t s n st q o, s.outFrame n st q = some o → o.resendAt = none → exec (.frameResendTimer t n st q) s = .next (s.at t)) ∧
  (∀ t s n st q o, s.outFrame n st q = some o → o.resendAt = none → o.sentAt + s.deadlineTicks o.hdr.tc.toNat ≤ max s.now t →
    o.owner = .fill ∨ o.owner = .resync ∨ (∃ id, o.owner = .copy id ∨ o.owner = .tray id ∨ o.owner = .operand id) →
    gives (.frameUnanswered t n st q) s (fun u =>
      { o with sentAt := max s.now t, attempts := o.attempts + 1, resendAt := none } ∈ u.jrn.outs ∧ u.jrn.reqs = s.jrn.reqs ∧
      u.jrn.devSeq = s.jrn.devSeq ∧ Claims.onlyWrites s u 0 0)) ∧
  (∀ t s n st q o, s.outFrame n st q = some o → max s.now t < o.sentAt + s.deadlineTicks o.hdr.tc.toNat →
    exec (.frameUnanswered t n st q) s = .next (s.at t)) ∧
  (∀ t s r, s.req r.id = some r → r.stage = .frames → r.applied = false → r.refused = false → r.dup = none →
    s.ageLimit r.hdr.tc.toNat ≤ (s.at t).ageNow r → (∀ o ∈ s.framesOf r.id, ∀ k, o.owner ≠ .operand k) →
    gives (.requestAgeLimit t r.id) s (fun u => Claims.refusedAs r .targetLost u ∧ Claims.onlyWrites s u 0 0)) ∧
  (∀ t s r, s.req r.id = some r → (s.at t).ageNow r < s.ageLimit r.hdr.tc.toNat → exec (.requestAgeLimit t r.id) s = .next (s.at t)) ∧
  (∀ t s n st q o l w i, s.outFrame n st q = some o → o.owner = .landing l w i → (s.at t).landingOld o = true →
    gives (.landingWriteRefill t n st q) s (fun u =>
      (∃ x ∈ u.jrn.outs, x.owner = .fill ∧ x.toward = o.toward ∧ x.hdr.stream = o.hdr.stream ∧ x.hdr.seq = o.hdr.seq ∧ x.hdr.opcode = 2 ∧
        x.hdr.length = 0) ∧
      (∃ x ∈ u.jrn.outs, x.owner = o.owner ∧ x.hdr.seq = (look (o.toward, o.hdr.stream) s.jrn.devSeq).getD 0 ∧ x.payload = o.payload ∧
        x.hdr.age = 0) ∧ u.jrn.reqs = s.jrn.reqs ∧ Claims.onlyWrites s u 0 0)) ∧
  (∀ t s n st q o l w i, s.outFrame n st q = some o → o.owner = .landing l w i → (s.at t).landingOld o = false →
    exec (.landingWriteRefill t n st q) s = .next (s.at t))

/-- The score of a part after a millisecond (R593). -/
def Claims.scoreAfter (s : State) (p : Nat) : Nat :=
  min 65535 (s.score p - s.score p / 8 + ((s.hlt.inputs.filter (fun i => i.1 = p)).map (·.2)).sum)

/-- Every millisecond each score loses an eighth and gains its inputs (R593). A port whose score reaches its threshold is expelled where the budget has room,
with its lasers dark, and becomes a suspect where it has none (R594, R596 to R598); the suspect that has waited longest goes when room appears; after a window
without a candidate a threshold falls, never below its least (R594). The model's own reading or choice in it: notes/assumptions/60.md, notes/assumptions/61.md.
-/
def Obligations.HealthScoresMoveParts : Prop :=
  (∀ t s, s.hlt.states = [] → s.hlt.suspects = [] → (∀ p < 105, Claims.scoreAfter s p < s.threshold p) →
    gives (.healthScoreTick t) s (fun u => (∀ p < 105, u.score p = Claims.scoreAfter s p) ∧ u.hlt.inputs = [] ∧ u.hlt.states = [] ∧
      u.hlt.thresholds = s.hlt.thresholds ∧ u.hoop = s.hoop ∧ u.mem = s.mem ∧ u.parts = s.parts ∧ Claims.stands s u)) ∧
  (∀ t s k, k < 64 → s.hlt.states = [] → s.hlt.suspects = [] → (∀ p < 105, p ≠ 32 + k → Claims.scoreAfter s p < s.threshold p) →
    s.threshold (32 + k) ≤ Claims.scoreAfter s (32 + k) → nth s.hlt.thresholds 1 ≤ nth s.cfg.hoop.expelMax 1 →
    gives (.healthScoreTick t) s (fun u => u.score (32 + k) = Claims.scoreAfter s (32 + k) ∧ (∀ p, p ≠ 32 + k → u.partState p = .inService) ∧
      (((s.at t).expelRoom = true → u.partState (32 + k) = .expelled ∧ u.hlt.expulsions = s.hlt.expulsions ++ [max s.now t] ∧
        ∀ l ∈ u.links, l.port = k → l.state = .dark ∧ l.lit = false ∧ l.holdExpired = true)) ∧
      ((s.at t).expelRoom = false → u.partState (32 + k) = .suspect ∧ u.hlt.suspects = [32 + k] ∧ u.links = s.links))) ∧
  (∀ t s k rest, k < 64 → s.hlt.suspects = (32 + k) :: rest → s.partState (32 + k) = .suspect → (s.at t).expelRoom = true →
    s.threshold (32 + k) ≤ s.score (32 + k) →
    gives (.expelBudgetRoom t) s (fun u => u.partState (32 + k) = .expelled ∧ (32 + k) ∉ u.hlt.suspects ∧
      u.hlt.expulsions = s.hlt.expulsions ++ [max s.now t] ∧ ∀ l ∈ u.links, l.port = k → l.state = .dark)) ∧
  (∀ t s, s.hlt.suspects = [] ∨ (s.at t).expelRoom = false → exec (.expelBudgetRoom t) s = .next (s.at t)) ∧
  (∀ t s k, k < 5 → s.hlt.thresholds.length = 5 → s.hlt.lastCandidate.length = 5 →
    nth s.hlt.lastCandidate k + s.cfg.hoop.expelWindowS * 1000 * ticksPerMs ≤ max s.now t →
    gives (.expelThresholdLower t (k + 1)) s (fun u =>
      nth u.hlt.thresholds k = max (nth s.cfg.hoop.expelMin k) (nth s.hlt.thresholds k - s.thresholdStep k) ∧
      (∀ j, j ≠ k → nth u.hlt.thresholds j = nth s.hlt.thresholds j) ∧ nth u.hlt.lastCandidate k = max s.now t ∧ u.hlt.states = s.hlt.states)) ∧
  (∀ t s k, k < 5 → max s.now t < nth s.hlt.lastCandidate k + s.cfg.hoop.expelWindowS * 1000 * ticksPerMs →
    exec (.expelThresholdLower t (k + 1)) s = .next (s.at t))

/-- Without quorum the device fences itself and refuses what it has not accepted; with quorum, and its epoch unchanged, it serves again (R604 to R607). A
cluster leaves its partition once it has no operator (R233). The model's own reading or choice in it: notes/assumptions/56.md, notes/assumptions/58.md. -/
def Obligations.FencesFollowTheQuorum : Prop :=
  (∀ t s, s.tabs.witnesses.isSome = true → s.hlt.fence = 0 → (s.at t).hasQuorum = false →
    gives (.witnessExpiry t) s (fun u => u.hlt.fence = 2 ∧ u.hlt.fenceEpoch = s.tabs.compEpoch ∧ u.jrn.soloHold = none ∧ Claims.told 0x1501 s u ∧
      (s.tabs.paired = false → (s.jrn.reqs.map (·.id)).Nodup → ∀ r ∈ s.jrn.reqs, s.req r.id = some r → r.dup = none → r.refused = false →
        r.applied = false ∨ r.mirrored = false → Claims.refusedAs r .fenced u))) ∧
  (∀ t s, s.tabs.witnesses.isSome = true → s.hlt.fence = 2 → (s.at t).hasQuorum = true → s.hlt.fenceEpoch = s.tabs.compEpoch →
    gives (.witnessExpiry t) s (fun u => u.hlt.fence = 0 ∧ u.tabs.compEpoch = s.tabs.compEpoch ∧
      (s.tabs.schedules = [] → u.jrn = s.jrn ∧ u.eng = s.eng))) ∧
  (∀ t s, s.tabs.witnesses = none ∨ (s.hlt.fence = 0 ∧ (s.at t).hasQuorum = true) ∨ (s.hlt.fence = 2 ∧ (s.at t).hasQuorum = false) →
    exec (.witnessExpiry t) s = .next (s.at t)) ∧
  (∀ t s k, s.jrn.soloHold = some k → s.hlt.fence = 0 → k + s.cfg.hoop.fenceMs * ticksPerMs ≤ max s.now t →
    gives (.soloHoldTimeout t) s (fun u => u.hlt.fence = 2 ∧ u.jrn.soloHold = none ∧ Claims.told 0x1501 s u)) ∧
  (∀ t s, (∀ k, s.jrn.soloHold = some k → max s.now t < k + s.cfg.hoop.fenceMs * ticksPerMs) → exec (.soloHoldTimeout t) s = .next (s.at t)) ∧
  (∀ t s c part split, c < 32 → s.intact → s.tabs.leaving.find? (fun l => l.1 = c) = some (c, part, split) → s.eng.jobs.all (·.cluster != c) = true →
    gives (.clusterLeaveProceed t c) s (fun u => (u.cluster c).assigned = part.isSome ∧ (u.cluster c).part = part.getD 0 ∧
      (u.cluster c).leaving = false ∧ (u.cluster c).scratch = [] ∧ (u.cluster c).tlb = [] ∧ (∀ l ∈ u.mem.l2, l.cluster ≠ c) ∧
      (∀ f ∈ u.mem.filter, f.2.1 ≠ c) ∧ (∀ d, d ≠ c → u.cluster d = s.cluster d) ∧ (∀ l ∈ u.tabs.leaving, l.1 ≠ c))) ∧
  (∀ t s c, c < 32 → s.tabs.leaving.find? (fun l => l.1 = c) = none ∨ s.eng.jobs.any (·.cluster == c) = true →
    exec (.clusterLeaveProceed t c) s = .next (s.at t))

/-- A partner resync (R584 to R586): copied stream records and entries are taken over and acknowledged; when the copies have ended the restarted device is ready
and the serving one leaves solo acceptance. The model's own reading or choice in it: notes/assumptions/65.md, notes/assumptions/66.md. -/
def Obligations.ResyncsRebuildTheJournal : Prop :=
  (∀ t a f s v d, f.hdr.opcode = 0x02 → f.hdr.stream = 0x7B → (s.at t).receive a f = .here v d → v.resyncFrame d.hdr = true →
    d.hdr.stream = 0x7B → d.pcheck = crc32c d.payload → v.epochOk d.hdr = true → d.payload.length = 64 →
    (∀ die q, v.journalAt d.hdr.offset.toNat = some (die, q) →
      (q < tableBytes → gives (.resyncStore t a f) s (fun u =>
        u.jrn.streams = ((chunks 16 d.payload).filterMap StreamRec.ofBytes).foldl (fun l r => copyStream r l) v.jrn.streams ∧
        u.jrn.writers = v.jrn.writers ∧ u.jrn.reqs = v.jrn.reqs ∧ Claims.onlyWrites v u 0 0 ∧
        (Claims.answerable v d.hdr d.hdr.age.toNat d.arrive → Claims.responds d.hdr true true .ok [] u))) ∧
      (∀ e, 2 * tableBytes ≤ q → q < 2 * tableBytes + ringBytes → die < 2 → v.jrn.writers.length = 2 → entryCheckOk d.payload = true →
        JEntry.ofBytes d.payload v.now = some e →
        gives (.resyncStore t a f) s (fun u => (u.writer die).ring = ringWrite e (v.writer die).ring ∧ u.jrn.streams = v.jrn.streams)))) ∧
  (∀ t s, s.hlt.resync = 1 → s.intact →
    gives (.resyncCopyDone t) s (fun u => u.hlt.resync = 0 ∧ u.hlt.resyncDone = true ∧ u.hlt.rejoined = true ∧ Claims.told 0x1404 s u ∧
      (∀ w < 2, (u.writer w).journal = .ready ∧ (u.writer w).anchor.state = .running ∧ (u.writer w).ring = (s.writer w).ring) ∧
      ∀ p ∈ u.parts, p.keyPresent = false → p.key = none)) ∧
  (∀ t s, s.hlt.resync = 2 → s.hlt.resyncTodo = [] → s.jrn.outs.all (fun o => o.owner != .resync) = true →
    gives (.resyncCopyDone t) s (fun u => u.hlt.resync = 0 ∧ u.jrn.solo = false ∧ u.jrn.soloHold = none ∧ Claims.told 0x1404 s u ∧
      u.jrn.writers = s.jrn.writers ∧ u.jrn.reqs = s.jrn.reqs)) ∧
  (∀ t s, s.hlt.resync ≠ 1 → s.hlt.resync ≠ 2 → exec (.resyncCopyDone t) s = .next (s.at t))

/-! ## Doorbells, prefetch, movers -/

/-- The presentation of a `STORE` to its home (R30, R131). -/
def Claims.storeWant (v : State) (d : Delivered) : Want :=
  v.memWant d.hdr.offset.toNat (v.storedLen d.hdr) .wr (v.isCopy d.hdr)

/-- A `STORE` waits while a line of its range is held (R206). -/
def Claims.storeWaits (v : State) (d : Delivered) : Bool :=
  v.resyncFrame d.hdr || v.rangeHeld d.hdr.offset.toNat (v.storedLen d.hdr)

/-- An opened `STORE` of eight plain bytes at an offset, to no copied range and no published buffer. -/
def Claims.wordStore (u : State) (r : Req) (o : Nat) : Prop :=
  o = r.hdr.offset.toNat ∧ r.hdr.length.toNat = 8 ∧ r.payload.length = 8 ∧ r.hdr.flagC = false ∧
    ¬ (0x68 ≤ r.hdr.stream.toNat ∧ r.hdr.stream.toNat < 0x70) ∧ Claims.plainNear u o 8 ∧ u.writeBarred o 8 = false ∧ u.copiesAt o = none

/-- A store to a step word announces its step (R387, R388): it moves the schedule to a step whose instances have landed, is refused where one is lost, and else
waits, the stall counted; a waiting one is refused at its deadline. A landed instance is marked; a window of a millisecond ends the quota's totals (R371, R655).
A store to a channel's doorbell word gives it its producer index (R421, R422); a malformed value halts it with cause 5. A halted channel takes the index and
starts again only with bit 63 (R439). -/
def Obligations.DoorbellsMoveSchedulesAndChannels : Prop :=
  (∀ t a f s u r x o n, f.hdr.opcode = 0x02 → s.intact → Claims.opens t a f s Claims.storeWant Claims.storeWaits u r → Claims.wordStore u r o →
    u.tabs.schedules.find? (fun x => !x.ended && overlaps o 8 x.doorbell 8) = some x → x.doorbell = o → u.schedule x.part = some x →
    u.tabs.bindings.all (fun b => !overlaps o 8 b.doorbell 8) = true → n = leNat r.payload →
    (n ≤ x.cur → gives (.prefetchDoorbell t a f) s (fun v => Claims.completes r .applied .ok [] v ∧ v.memRead o 8 = r.payload ∧
      Claims.onlyWrites s v o 8 ∧ v.schedule x.part = some x)) ∧
    (x.cur < n → u.stepWait x n = .ready → u.mem.filter = [] → gives (.prefetchDoorbell t a f) s (fun v => Claims.completes r .applied .ok [] v ∧
      v.memRead o 8 = r.payload ∧ ∃ y, v.schedule x.part = some y ∧ y.cur = n)) ∧
    (x.cur < n → u.stepWait x n = .lost → gives (.prefetchDoorbell t a f) s (fun v => Claims.refusedAs r .targetLost v ∧ Claims.onlyWrites s v 0 0)) ∧
    (∀ cause, x.cur < n → u.stepWait x n = .wait cause → gives (.prefetchDoorbell t a f) s (fun v => Claims.onlyWrites s v 0 0 ∧
      (∃ q, v.req r.id = some q ∧ q.stage = .doorbell x.part n ∧ q.applied = false ∧ q.refused = false) ∧
      ∃ y, v.schedule x.part = some y ∧ y.cur = x.cur))) ∧
  (∀ t s p step entry x e i, p < 16 → s.schedule p = some x → x.entries[entry]? = some e →
    x.instances.find? (fun i => i.step = step ∧ i.entry = entry) = some i → s.pfArrived e p i = true →
    gives (.prefetchInstanceLanded t p step entry) s (fun v => ∃ w : State, v = (w.pfPump p).wake ∧
      ∃ y, w.schedule p = some y ∧ y.cur = x.cur ∧ ∃ j ∈ y.instances, j.step = step ∧ j.entry = entry ∧ j.landed = true)) ∧
  (∀ t s p step entry, p < 16 → s.schedule p = none → exec (.prefetchInstanceLanded t p step entry) s = .next (s.at t)) ∧
  (∀ t s p r n, p < 16 → s.jrn.reqs = [r] → r.stage = .doorbell p n → r.dup = none → r.refused = false → (s.at t).pastDeadline r = true →
    gives (.doorbellStoreDeadline t p) s (fun v => Claims.refusedAs r .throttled v ∧ Claims.onlyWrites s v 0 0 ∧ v.schedule p = s.schedule p)) ∧
  (∀ t s p, p < 16 → s.jrn.reqs.all (fun r => (match r.stage with | .doorbell q _ => q != p | _ => true) || !(s.at t).pastDeadline r) = true →
    exec (.doorbellStoreDeadline t p) s = .next (s.at t)) ∧
  (∀ t s, s.hoop.window < (s.at t).windowNow →
    gives (.oneMsWindow t) s (fun v => v.hoop.window = (s.at t).windowNow ∧
      (s.tabs.schedules = [] → (∀ p ∈ v.parts, p.quota = [0, 0, 0]) ∧ v.mem = s.mem ∧ Claims.stands s v))) ∧
  (∀ t s, (s.at t).windowNow ≤ s.hoop.window → exec (.oneMsWindow t) s = .next (s.at t)) ∧
  (∀ t a f s u r b ch o n, f.hdr.opcode = 0x02 → s.intact → Claims.opens t a f s Claims.storeWant Claims.storeWaits u r → Claims.wordStore u r o →
    (∀ x ∈ u.tabs.schedules, overlaps o 8 x.doorbell 8 = false) → u.tabs.bindings.filter (fun b => overlaps o 8 b.doorbell 8) = [b] →
    b.doorbell = o → ch = 64 * b.die + b.ch → ch < 128 → u.bindingOf ch = some b → n = leNat r.payload →
    (gives (.moverDoorbell t ch a f) s (fun v => ∃ w : State, v = w.doorbell ch n ∧ Claims.completes r .applied .ok [] w ∧ w.memRead o 8 = r.payload ∧
      Claims.onlyWrites s w o 8 ∧ w.chans = s.chans)) ∧
    ((u.chan ch).state = 3 → n.testBit 63 = false → gives (.moverDoorbell t ch a f) s (fun v =>
      v.chan ch = { u.chan ch with producer := n % 2 ^ 32 } ∧ (∀ k, k ≠ ch → v.chan k = u.chan k) ∧ Claims.onlyWrites s v o 8)) ∧
    ((u.chan ch).state = 1 → (u.chan ch).active = none → (u.chan ch).unbinding = false → bits n 32 31 ≠ 0 →
      gives (.moverDoorbell t ch a f) s (fun v => (v.chan ch).state = 3 ∧ (v.chan ch).cause = 5 ∧ (v.chan ch).halted = true ∧
        (∀ k, k ≠ ch → v.chan k = u.chan k))) ∧
    ((leNat f.payload).testBit 63 = true → (u.chan ch).state = 3 → n.testBit 63 = true → bits n 32 31 = 0 → n % 2 ^ 32 = (u.chan ch).consumer →
      (u.chan ch).active = none → (u.chan ch).shadow = none → gives (.moverRestart t ch a f) s (fun v =>
        v.chan ch = { u.chan ch with producer := n % 2 ^ 32, state := 1, cause := 0 } ∧ (∀ k, k ≠ ch → v.chan k = u.chan k) ∧
        Claims.onlyWrites s v o 8)))

/-- A linear descriptor over near-tier bytes of this device copies them (R425, R427, R432): the destination reads as the source read, and every other byte as
before. -/
def Obligations.MoversCopyTheirBytes : Prop :=
  ∀ t s ch b m d n so do_, ch < 128 → s.intact → s.bindingOf ch = some b → (s.chan ch).state = 1 → (s.chan ch).active = none →
    (s.chan ch).shadow = some m → (s.chan ch).unbinding = false → (s.chan ch).producer = (m.index + 1) % 2 ^ 32 → m.bad = none →
    d = MDesc.of m.bytes → d.cls = 1 → d.flags = 0 → d.sform = 0 → d.dform = 0 → n = d.sLine → 0 < n →
    s.isOwn d.src = true → s.isOwn d.dst = true → so = offOf d.src → do_ = offOf d.dst → d.src % 4096 + n ≤ 4096 → d.dst % 4096 + n ≤ 4096 →
    s.moverCheck b false so n = none → s.moverCheck b true do_ n = none → Claims.plainNear s so n → Claims.plainNear s do_ n →
    s.copiesAt do_ = none → s.rangeHeld so n = false → s.rangeHeld do_ n = false → s.moverFrozen ch = false → s.hlt.fence = 0 →
    0 < s.cfg.unit.paceHigh →
    gives (.moverDescriptorStart t ch) s (fun v => v.memRead do_ n = s.memRead so n ∧ Claims.onlyWrites s v do_ n ∧
      (v.chan ch).state = 2 ∧ (v.chan ch).active = some m ∧ (v.chan ch).wrote = n ∧ (v.chan ch).readTo = n ∧ (v.chan ch).staged = [] ∧
      (∀ k, k ≠ ch → v.chan k = s.chan k) ∧ v.jrn = s.jrn ∧ v.parts = s.parts)

/-- A malformed descriptor halts its channel with the cause of its check (R424, R437); a complete one leaves its record in the completion ring and moves the
consumer index (R433, R434); a piece goes again at its sequence a microsecond after its bus error (R435); reads go on below the low watermark (R431). The
model's own reading or choice in it: notes/assumptions/27.md. -/
def Obligations.MoverChannelsRecordAndRetry : Prop :=
  (∀ t s ch b m st cause, ch < 128 → s.intact → s.bindingOf ch = some b → (s.chan ch).state = 1 → (s.chan ch).active = none →
    (s.chan ch).shadow = some m → (s.chan ch).unbinding = false → m.bad = some (st, cause) →
    gives (.moverDescriptorStart t ch) s (fun v => (v.chan ch).state = 3 ∧ (v.chan ch).cause = cause ∧ (v.chan ch).halted = true ∧
      (v.chan ch).active = none ∧ (v.chan ch).consumer = (m.index + 1) % 2 ^ 32 ∧ (∀ k, k ≠ ch → v.chan k = s.chan k))) ∧
  (∀ t s ch, ch < 128 → (s.chan ch).shadow = none → exec (.moverDescriptorStart t ch) s = .next (s.at t)) ∧
  (∀ t s ch b m d area, ch < 128 → s.intact → s.bindingOf ch = some b → (s.chan ch).state = 2 → (s.chan ch).active = some m → m.bad = none →
    (s.chan ch).staged = [] → d = MDesc.of m.bytes → d.total ≤ (s.chan ch).wrote → d.total ≤ (s.chan ch).readTo → s.chanOuts ch = [] →
    (s.chan ch).unbinding = false → (s.chan ch).shadow = none → (s.chan ch).producer = (m.index + 1) % 2 ^ 32 →
    area = b.completion + 32 * (m.index % 2 ^ b.log2) → s.moverCheck b true area 32 = none → Claims.plainNear s area 32 → s.copiesAt area = none →
    gives (.moverDescriptorComplete t ch) s (fun v =>
      v.memRead area 32 = natLe 4 d.tag ++ natLe 4 m.index ++ [(s.chan ch).status.code, if d.bar then 2 else 0] ++ zeros 2 ++
        natLe 4 (s.linesDone ch m) ++ natLe 4 0 ++ zeros 12 ∧
      Claims.onlyWrites s v area 32 ∧ (v.chan ch).consumer = (m.index + 1) % 2 ^ 32 ∧ (v.chan ch).active = none ∧ (v.chan ch).state = 1 ∧
      (∀ k, k ≠ ch → v.chan k = s.chan k) ∧ v.jrn = s.jrn)) ∧
  (∀ t s ch, ch < 128 → (s.chan ch).active = none → exec (.moverDescriptorComplete t ch) s = .next (s.at t)) ∧
  (∀ t s ch o k, ch < 128 → s.chanOuts ch = [o] → o.resendAt = some k → k ≤ max s.now t →
    gives (.moverRetryTimer t ch) s (fun v => ∃ w : State, v = w.pump ch ∧
      { o with hdr := { o.hdr with epoch := s.tabs.mapEpoch }.sealed, sentAt := max s.now t, attempts := o.attempts + 1, resendAt := none } ∈ w.jrn.outs ∧
      w.chans = s.chans ∧ w.jrn.reqs = s.jrn.reqs)) ∧
  (∀ t s ch, ch < 128 → (s.chan ch).active = none → s.chanOuts ch = [] → exec (.moverRetryTimer t ch) s = .next (s.at t)) ∧
  (∀ t s ch, ch < 128 → s.intact → (s.chan ch).paused = true → (s.chan ch).fill < s.cfg.unit.paceLow * 2048 →
    gives (.moverPaceResume t ch) s (fun v => ∃ w : State, v = w.pump ch ∧ w.chan ch = { s.chan ch with paused := false } ∧
      (∀ k, k ≠ ch → w.chan k = s.chan k) ∧ w.mem = s.mem ∧ w.jrn = s.jrn)) ∧
  (∀ t s ch, ch < 128 → s.cfg.unit.paceLow * 2048 ≤ (s.chan ch).fill → exec (.moverPaceResume t ch) s = .next ((s.at t).pump ch))

/-! ## The switch core -/

/-- A slot (R151, R152, R159): the match pairs no input and no output twice; the last cell of a frame matched in the slot before stands behind its output
position. A dead or unserving switch core moves nothing. The model's own reading or choice in it: notes/assumptions/42.md, notes/assumptions/44.md,
notes/assumptions/79.md. -/
def Obligations.CrossbarSlotsMatchOneToOne : Prop :=
  (∀ t s, s.live = true → s.warpDown = false →
    gives (.crossbarSlot t) s (fun u => ∃ w : State, u = w.stir ∧ w.warp.slot = s.warp.slot + 1 ∧ (w.warp.matched.map (·.1)).Nodup ∧
      (w.warp.matched.map (·.2.1)).Nodup ∧ w.jrn.reqs = s.jrn.reqs ∧ w.chans = s.chans ∧ w.eng = s.eng)) ∧
  (∀ t s v, s.live = true → s.warpDown = false → s.warp.matched = [(v.src, v.dst, v.tc)] → s.warp.voq = [v] → 0 < v.onChip → v.cells ≤ v.moved + 1 →
    (64 ≤ v.dst → (s.at t).tooOld v.frame.hdr ((s.at t).residence v + fixedResidence) = false) → s.posDown v.dst = false →
    gives (.crossbarSlot t) s (fun u => ∃ w : State, u = w.stir ∧ w.warp.voq = [] ∧ w.warp.matched = [] ∧
      w.warp.arrived = s.warp.arrived ++ [⟨v.dst, v.sub, v.frame, v.part, v.enq, v.resid, v.arrival, max s.now t⟩])) ∧
  (∀ t s, s.live = false → exec (.crossbarSlot t) s = .next (s.at t))

/-- A head that has waited longer than its limit is urgent (R158); the wheel turns (R188); the spill region opens and closes at its watermarks, and its cells
come back one at a time, an unreadable one losing its frame (R162, R163, R166, R177). The model's own reading or choice in it: notes/assumptions/76.md,
notes/assumptions/78.md. -/
def Obligations.QueuesPromoteAndSpill : Prop :=
  (∀ t s i j tc v h, i < 160 → j < 160 → 3 ≤ tc → tc < 8 → (s.voq i j tc).head? = some v → v.headAt = some h →
    128 * s.cfg.xbar.urgent < 100 * (max s.now t - h) →
    gives (.urgentPromotion t i j tc) s (fun u => (u.voq i j tc).head? = some { v with urgent := true } ∧
      u.warp.voq.length = s.warp.voq.length ∧ u.mem = s.mem ∧ u.parts = s.parts ∧ u.hlt = s.hlt ∧ u.hoop = s.hoop ∧ u.jrn = s.jrn)) ∧
  (∀ t s i j tc, i < 160 → j < 160 → tc < 8 → tc < 3 ∨ s.voq i j tc = [] → exec (.urgentPromotion t i j tc) s = .next (s.at t)) ∧
  (∀ t s, exec (.calendarWheelTick t) s = .next { s.at t with warp := { s.warp with wheel := s.warp.wheel + 1 } }) ∧
  (∀ t s, s.warp.spillOn = false → s.cfg.xbar.spillOn * 14336 ≤ s.poolCells →
    gives (.spillOn t) s (fun u => u.warp.spillOn = true ∧ u.warp.spillOpen = true ∧ u.warp.voq = s.warp.voq ∧ Claims.told 0x0503 s u)) ∧
  (∀ t s, s.warp.spillOn = true ∨ s.poolCells < s.cfg.xbar.spillOn * 14336 → exec (.spillOn t) s = .next (s.at t)) ∧
  (∀ t s, s.warp.spillOn = true → s.poolCells < s.cfg.xbar.spillOff * 14336 →
    gives (.spillOff t) s (fun u => u.warp.spillOn = false ∧ u.warp.voq = s.warp.voq ∧
      (s.warp.spillOpen = true → s.spillCells = 0 → u.warp.spillOpen = false ∧ Claims.told 0x0504 s u))) ∧
  (∀ t s, s.warp.spillOn = false ∨ s.cfg.xbar.spillOff * 14336 ≤ s.poolCells → exec (.spillOff t) s = .next (s.at t)) ∧
  (∀ t s i j tc v, i < 160 → j < 160 → tc < 8 → s.arbs.length = 67 → (s.voq i j tc).find? (fun v => 0 < v.spilled) = some v →
    2 * voqCells (s.voq i j tc) < s.cfg.xbar.spillHead → v.refilling = false →
    gives (.spillRefill t i j tc) s (fun u =>
      (u.arb 64).queue = (s.arb 64).queue ++ [⟨20 + i / 8, v.tag, v.frame.hdr.src, v.frame.hdr.stream, 1⟩] ∧
      { v with refilling := true } ∈ u.warp.voq ∧ u.mem = s.mem ∧ u.jrn = s.jrn)) ∧
  (∀ t s i j tc v, i < 160 → j < 160 → tc < 8 → s.voq i j tc = [v] → v.refilling = true →
    (s.arb 64).granted.any (fun x => x.requester = 20 + i / 8 ∧ x.line = v.tag) = true →
    (s.at t).tooOld v.frame.hdr ((s.at t).residence v) = false →
    gives (.refillReturn t i j tc .none) s (fun u =>
      (∃ x ∈ u.warp.voq, x.src = v.src ∧ x.tag = v.tag ∧ x.spilled = v.spilled - 1 ∧ x.refilling = false ∧ x.frame = v.frame) ∧
      (u.arb 64).granted = (s.arb 64).granted.filter (fun x => !(x.requester = 20 + i / 8 ∧ x.line = v.tag)))) ∧
  (∀ t s i j tc v, i < 160 → j < 160 → tc < 8 → s.voq i j tc = [v] → v.refilling = true →
    (s.arb 64).granted.any (fun x => x.requester = 20 + i / 8 ∧ x.line = v.tag) = true →
    gives (.refillReturn t i j tc .uncorrectable) s (fun u => (∀ x ∈ u.warp.voq, ¬(x.src = v.src ∧ x.tag = v.tag)) ∧
      look .spillLost u.ctrs = some (satAdd max64 ((look .spillLost s.ctrs).getD 0) 1)))

/-! ## The package coherence protocol -/

/-- The home lists no other cluster for a line. -/
def Claims.alone (s : State) (c l : Nat) : Prop := ∀ h ∈ s.holders l, h.1 = c

/-- A request in flight that its home grants (R402, R403): alone, it goes to memory or is completed; else the holders it needs are snooped. A barred one is
refused. `l` is the line, whose data in memory does not change. The model's own reading or choice in it: notes/assumptions/70.md, notes/assumptions/72.md,
notes/assumptions/74.md. -/
def Obligations.HomesGrantRequests : Prop :=
  (∀ t s c l cid, c < 32 → lineAt l = l → s.homeOpen l = true → .rdS c l cid ∈ s.mem.net → s.lineCheck cid l false = none →
    gives (.rdS t c l cid) s (fun u => ∃ w : State, u = w.stir ∧ w.mem.near = s.mem.near ∧ w.mem.filter = s.mem.filter ∧
      (s.others c l = [] → w.holdOf l = some (.memWait (.rdS c) none false)) ∧
      (∀ o, (s.others c l).find? (fun h => h.2 = .exclusive) = some (o, .exclusive) → .snpShr o l ∈ w.mem.net ∧
        w.holdOf l = some (.snp (.rdS c) [o] [] [] none false false (max s.now t))) ∧
      (∀ o, (s.others c l).find? (fun h => h.2 = .exclusive) = none → (s.others c l).find? (fun h => h.2 = .responder) = some (o, .responder) →
        .snpFwd o l ∈ w.mem.net ∧ w.holdOf l = some (.snp (.rdSFwd c) [o] [] [] none false false (max s.now t))))) ∧
  (∀ t s c l cid st, c < 32 → lineAt l = l → s.homeOpen l = true → .rdS c l cid ∈ s.mem.net → s.lineCheck cid l false = some st →
    gives (.rdS t c l cid) s (fun u => ∃ w : State, u = w.stir ∧ .nak c l st ∈ w.mem.net ∧ w.mem.holds = s.mem.holds ∧ Claims.onlyWrites s w 0 0)) ∧
  (∀ t s c l cid, c < 32 → lineAt l = l → s.homeOpen l = true → .rdX c l cid ∈ s.mem.net → s.lineCheck cid l true = none →
    gives (.rdX t c l cid) s (fun u => ∃ w : State, u = w.stir ∧ w.mem.near = s.mem.near ∧
      (s.others c l = [] → w.holdOf l = some (.memWait (.rdX c) none false)) ∧
      (s.others c l ≠ [] → (∀ h ∈ s.others c l, .snpI h.1 l ∈ w.mem.net) ∧
        w.holdOf l = some (.snp (.rdX c) ((s.others c l).map (·.1)) [] [] none false false (max s.now t))))) ∧
  (∀ t s c l cid, c < 32 → lineAt l = l → s.homeOpen l = true → .upg c l cid ∈ s.mem.net → s.lineCheck cid l true = none → s.holders l ≠ [] →
    Claims.alone s c l → s.l2State c l = .smA →
    gives (.upg t c l cid) s (fun u => ∃ w : State, u = w.stir ∧ w.holdOf l = some (.cmp c) ∧ .cmpM c l ∈ w.mem.net ∧
      w.exclusive l = some c ∧ w.mem.near = s.mem.near)) ∧
  (∀ t s c l cid, c < 32 → lineAt l = l → s.servedLine l = some l → s.homeOpen l = true → .rdU c l cid ∈ s.mem.net →
    s.lineCheck cid l false = none → s.addressable l = true →
    gives (.rdU t c l cid) s (fun u => ∃ w : State, u = w.stir ∧ w.mem.near = s.mem.near ∧
      (s.exclusive l = none → w.holdOf l = some (.memWait (.rdU c) none false)) ∧
      (∀ o, s.exclusive l = some o → .snpShr o l ∈ w.mem.net))) ∧
  (∀ t s c l cid mask, c < 32 → lineAt l = l → s.stagingHeld l 128 = false → s.homeOpen l = true → .wrU c l cid mask ∈ s.mem.net →
    s.lineCheck cid l true = none → s.holders l = [] →
    gives (.wrU t c l cid mask) s (fun u => ∃ w : State, u = w.stir ∧ .bufGnt c l ∈ w.mem.net ∧ w.holdOf l = some (.dat (.wrU c mask.toNat)) ∧
      w.mem.near = s.mem.near)) ∧
  (∀ t s c l, c < 32 → lineAt l = l → s.homeOpen l = true → .evcC c l ∈ s.mem.net →
    gives (.evcC t c l) s (fun u => ∃ w : State, u = w.stir ∧ .cmpEvc c l ∈ w.mem.net ∧ (∀ h ∈ w.holders l, h.1 ≠ c) ∧ w.mem.near = s.mem.near)) ∧
  (∀ t s c l, c < 32 → lineAt l = l → s.homeOpen l = true → .evcD c l ∈ s.mem.net →
    gives (.evcD t c l) s (fun u => ∃ w : State, u = w.stir ∧ w.mem.near = s.mem.near ∧
      (s.exclusive l = some c → .bufGnt c l ∈ w.mem.net ∧ w.holdOf l = some (.dat (.evcD c))) ∧
      (s.exclusive l ≠ some c → .cmpEvc c l ∈ w.mem.net ∧ ∀ h ∈ w.holders l, h.1 ≠ c))) ∧
  (∀ t s l, lineAt l = l → s.homeOpen l = true → s.others 32 l = [] →
    gives (.lineFlush t l) s (fun u => ∃ w : State, u = w.stir ∧ w.holdOf l = none ∧ w.mem.near = s.mem.near)) ∧
  (∀ t s l, lineAt l = l → s.homeOpen l = true → s.others 32 l ≠ [] →
    gives (.lineFlush t l) s (fun u => ∃ w : State, u = w.stir ∧ (∀ h ∈ s.others 32 l, .snpI h.1 l ∈ w.mem.net) ∧
      w.holdOf l = some (.snp .flush ((s.others 32 l).map (·.1)) [] [] none false false (max s.now t)))) ∧
  (∀ t s l, lineAt l = l → s.homeOpen l = false → exec (.lineFlush t l) s = .next (s.at t))

/-- What a home makes of the answers it waits for (R403 to R405): the last answer without data sends a read to memory, dirty data reaches memory first; memory's
answer completes the read and lists its cluster; `CACK` frees the line. The model's own reading or choice in it: notes/assumptions/70.md. -/
def Obligations.HomesFinishTransactions : Prop :=
  (∀ t s c l d r since, c < 32 → lineAt l = l → s.holdOf l = some (.snp (.rdX d) [c] [] [] none false r since) →
    gives (.srI t c l false false) s (fun u => ∃ w : State, u = w.stir ∧ w.holdOf l = some (.memWait (.rdX d) none false) ∧
      (∀ h ∈ w.holders l, h.1 ≠ c) ∧ w.mem.near = s.mem.near)) ∧
  (∀ t s c l d r since, c < 32 → lineAt l = l → s.holdOf l = some (.snp (.rdS d) [c] [] [] none false r since) →
    gives (.srN t c l true true) s (fun u => ∃ w : State, u = w.stir ∧ w.holdOf l = some (.snp (.rdS d) [] [c] [] none true true since) ∧
      (l, c, .responder) ∈ w.mem.filter ∧ w.mem.near = s.mem.near)) ∧
  (∀ t s c l d bytes mask since, c < 32 → lineAt l = l → s.intact → bytes.length = 128 → s.copiesAt l = none →
    s.holdOf l = some (.snp (.rdS d) [] [c] [] none true true since) →
    s.mem.net.all (fun m => match m with | .dataHome e k _ _ => !(e == c && k == l) | _ => true) = true →
    gives (.lineData t c l bytes mask) s (fun u => ∃ w : State, u = w.stir ∧ w.holdOf l = some (.memWait (.rdS d) none false) ∧
      w.memRead l 128 = bytes ∧ Claims.onlyWrites s w l 128)) ∧
  (∀ t s c l, c < 32 → lineAt l = l → s.holdOf l = some (.cmp c) →
    gives (.cack t c l) s (fun u => ∃ w : State, u = w.stir ∧ w.holdOf l = none ∧ w.mem.near = s.mem.near ∧ w.mem.filter = s.mem.filter)) ∧
  (∀ t s l c, lineAt l = l → s.addressable l = true → s.holdOf l = some (.memWait (.rdS c) none false) → s.l2State c l = .isD → s.holders l = [] →
    gives (.stackAccessDone t l) s (fun u => ∃ w : State, u = w.stir ∧ w.holdOf l = some (.cmp c) ∧ w.exclusive l = some c ∧
      .cmpE c l ∈ w.mem.net ∧ .dataTo c l (s.memRead l 128) ∈ w.mem.net ∧ w.mem.near = s.mem.near)) ∧
  (∀ t s l c, lineAt l = l → s.addressable l = true → s.holdOf l = some (.memWait (.rdX c) none false) → s.l2State c l = .imD → s.holders l = [] →
    gives (.stackAccessDone t l) s (fun u => ∃ w : State, u = w.stir ∧ w.holdOf l = some (.cmp c) ∧ w.exclusive l = some c ∧
      .cmpM c l ∈ w.mem.net ∧ .dataTo c l (s.memRead l 128) ∈ w.mem.net ∧ w.mem.near = s.mem.near)) ∧
  (∀ t s l c m, lineAt l = l → s.addressable l = true → s.holdOf l = some (.memWait (.wrU c m) none false) → s.copiesOut l = false →
    gives (.stackAccessDone t l) s (fun u => ∃ w : State, u = w.stir ∧ w.holdOf l = none ∧ .cmpW c l ∈ w.mem.net ∧ w.mem.near = s.mem.near))

/-- The command of a snoop. -/
def Claims.snoopOf (t c l : Nat) : Snoop → Instr
  | .shr => .snpShr t c l | .fwd => .snpFwd t c l | .inv => .snpI t c l

/-- No message with data for a cluster's line is in flight, and no access of it waits there. -/
def Claims.calmLine (s : State) (c l : Nat) : Prop :=
  (∀ b, .dataTo c l b ∉ s.mem.net) ∧ ∀ x ∈ s.mem.stalled, ¬(x.cluster = c ∧ x.line = l)

/-- A cluster's line follows the state table (R406): a snoop moves it and is answered with what it holds; a completion puts it into the granted state and is
acknowledged; a granted buffer takes its dirty data; a finished eviction frees it, a refusal gives back the state it had (R402); a victim leaves (R398). The
model's own reading or choice in it: notes/assumptions/41.md, notes/assumptions/71.md. -/
def Obligations.ClustersFollowTheStateTable : Prop :=
  (∀ t s c l k x st n d, c < 32 → lineAt l = l → s.l2Line c l = some x → snoopReact x.state k = some (st, n, d) →
    gives (Claims.snoopOf t c l k) s (fun u => u.l2State c l = st ∧
      (if n then Msg.srN c l d (x.state.dirty && d) else Msg.srI c l d (x.state.dirty && d)) ∈ u.mem.net ∧
      (d = true → .dataHome c l x.data (BitVec.allOnes 128) ∈ u.mem.net) ∧ (∀ e, e ≠ c → u.l2State e l = s.l2State e l) ∧
      u.mem.near = s.mem.near ∧ u.mem.filter = s.mem.filter ∧ u.mem.holds = s.mem.holds)) ∧
  (∀ t s c l bytes i st, c < 32 → lineAt l = l → s.l2State c l = .isD → Claims.calmLine s c l → bytes.length = 128 →
    (i, st) ∈ [(Instr.cmpE t c l bytes, L2State.e), (.cmpS t c l bytes, .s), (.cmpN t c l bytes, .n)] →
    gives i s (fun u => (∃ x, u.l2Line c l = some x ∧ x.state = st ∧ x.data = bytes) ∧ .cack c l ∈ u.mem.net ∧
      (∀ e, e ≠ c → u.l2State e l = s.l2State e l) ∧ u.mem.near = s.mem.near ∧ u.mem.filter = s.mem.filter ∧ u.mem.holds = s.mem.holds)) ∧
  (∀ t s c l bytes, c < 32 → lineAt l = l → s.l2State c l = .imD → Claims.calmLine s c l → bytes.length = 128 →
    gives (.cmpM t c l (some bytes)) s (fun u => (∃ x, u.l2Line c l = some x ∧ x.state = .m ∧ x.data = bytes) ∧ .cack c l ∈ u.mem.net ∧
      u.mem.near = s.mem.near ∧ u.mem.filter = s.mem.filter ∧ u.mem.holds = s.mem.holds)) ∧
  (∀ t s c l y, c < 32 → lineAt l = l → s.l2Line c l = some y → y.state = .smA → Claims.calmLine s c l →
    gives (.cmpM t c l none) s (fun u => (∃ x, u.l2Line c l = some x ∧ x.state = .m ∧ x.data = y.data) ∧ .cack c l ∈ u.mem.net ∧
      u.mem.near = s.mem.near ∧ u.mem.filter = s.mem.filter ∧ u.mem.holds = s.mem.holds)) ∧
  (∀ t s c l x, c < 32 → lineAt l = l → s.l2Line c l = some x → x.state = .miA →
    gives (.bufGnt t c l) s (fun u => u.l2State c l = .xiA ∧ .dataHome c l x.data (BitVec.allOnes 128) ∈ u.mem.net ∧
      u.mem.near = s.mem.near ∧ u.mem.filter = s.mem.filter ∧ u.mem.holds = s.mem.holds)) ∧
  (∀ t s c l, c < 32 → lineAt l = l → exec (.cmpW t c l) s = .next { s.at t with mem := { s.mem with net := s.mem.net.erase (.cmpW c l) } }) ∧
  (∀ t s c l, c < 32 → lineAt l = l → s.l2State c l = .xiA → (∀ x ∈ s.mem.stalled, ¬(x.cluster = c ∧ x.line = l)) →
    gives (.cmpEvc t c l) s (fun u => u.l2State c l = .i ∧ u.mem.near = s.mem.near ∧ u.mem.filter = s.mem.filter ∧ u.mem.holds = s.mem.holds)) ∧
  (∀ t s c l st, c < 32 → lineAt l = l → s.l2State c l = .isD ∨ s.l2State c l = .imD ∨ s.l2State c l = .smA →
    gives (.nak t c l st) s (fun u => (∀ x ∈ u.mem.stalled, ¬(x.cluster = c ∧ x.line = l)) ∧ u.mem.near = s.mem.near ∧
      u.l2State c l = (if s.l2State c l = .smA then (if s.responder l = some c then .n else .s) else .i))) ∧
  (∀ t s c l, c < 32 → lineAt l = l → s.l2State c l = .m →
    gives (.victimChosen t c l) s (fun u => u.l2State c l = .miA ∧ .evcD c l ∈ u.mem.net ∧ u.mem.near = s.mem.near)) ∧
  (∀ t s c l, c < 32 → lineAt l = l → s.l2State c l = .e ∨ s.l2State c l = .s ∨ s.l2State c l = .n →
    gives (.victimChosen t c l) s (fun u => u.l2State c l = .xiA ∧ .evcC c l ∈ u.mem.net ∧ u.mem.near = s.mem.near)) ∧
  (∀ t s c l, c < 32 → lineAt l = l → s.l2State c l = .i ∨ s.l2State c l = .isD ∨ s.l2State c l = .imD ∨ s.l2State c l = .smA ∨
      s.l2State c l = .miA ∨ s.l2State c l = .xiA →
    exec (.victimChosen t c l) s = .next (s.at t))

/-- A core's virtual address names an offset of this node's coherent near tier, with the right it needs (R125, R126). -/
def Claims.reachesNear (s : State) (c vaddr : Nat) (write : Bool) (o : Nat) : Prop :=
  (s.cluster c).assigned = true ∧ (s.cluster c).gated = false ∧ (s.localContext (s.cluster c).part).isSome = true ∧
  ∃ r, s.runAt (s.cluster c).part vaddr = some r ∧ r.admits write = true ∧ s.isOwn (r.globalBase + (vaddr - r.virtBase)) = true ∧
    o = offOf (r.globalBase + (vaddr - r.virtBase)) ∧ s.addressable o = true ∧ s.viewTouched (lineAt o) 128 = none

/-- A core access that hits reads its line or makes it M; one that misses asks its home and waits (R126, R406). A cluster that leaves a snoop unanswered for 2
µs is reset (R407). The model's own reading or choice in it: notes/assumptions/73.md. -/
def Obligations.CoreAccessesHitOrAsk : Prop :=
  (∀ t s c core vaddr o x, c < 32 → core < 8 → Claims.reachesNear s c vaddr false o → s.l2Line c (lineAt o) = some x →
    x.state = .m ∨ x.state = .e ∨ x.state = .s ∨ x.state = .n →
    gives (.coreRead t c core vaddr) s (fun u => look (c, core) u.mem.coreValue = some x.data ∧ u.l2State c (lineAt o) = x.state ∧
      u.mem.net = s.mem.net ∧ u.mem.near = s.mem.near ∧ u.mem.stalled = s.mem.stalled)) ∧
  (∀ t s c core vaddr o, c < 32 → core < 8 → Claims.reachesNear s c vaddr false o → s.l2Line c (lineAt o) = none →
    gives (.coreRead t c core vaddr) s (fun u => u.l2State c (lineAt o) = .isD ∧ (∃ cid, .rdS c (lineAt o) cid ∈ u.mem.net) ∧
      ⟨c, core, lineAt o, o % 128, none⟩ ∈ u.mem.stalled ∧ u.mem.near = s.mem.near ∧ u.mem.coreValue = s.mem.coreValue)) ∧
  (∀ t s c core vaddr o bytes x, c < 32 → core < 8 → bytes ≠ [] → vaddr % 128 + bytes.length ≤ 128 → Claims.reachesNear s c vaddr true o →
    s.l2Line c (lineAt o) = some x → x.state = .m ∨ x.state = .e →
    gives (.coreWrite t c core vaddr bytes) s (fun u => (∃ y, u.l2Line c (lineAt o) = some y ∧ y.state = .m ∧
        y.data = x.data.take (o % 128) ++ bytes ++ x.data.drop (o % 128 + bytes.length)) ∧
      u.mem.net = s.mem.net ∧ u.mem.near = s.mem.near)) ∧
  (∀ t s c core vaddr o bytes, c < 32 → core < 8 → bytes ≠ [] → vaddr % 128 + bytes.length ≤ 128 → Claims.reachesNear s c vaddr true o →
    s.l2Line c (lineAt o) = none →
    gives (.coreWrite t c core vaddr bytes) s (fun u => u.l2State c (lineAt o) = .imD ∧ (∃ cid, .rdX c (lineAt o) cid ∈ u.mem.net) ∧
      ⟨c, core, lineAt o, o % 128, some bytes⟩ ∈ u.mem.stalled ∧ u.mem.near = s.mem.near)) ∧
  (∀ t s c core vaddr o bytes x, c < 32 → core < 8 → bytes ≠ [] → vaddr % 128 + bytes.length ≤ 128 → Claims.reachesNear s c vaddr true o →
    s.l2Line c (lineAt o) = some x → x.state = .s ∨ x.state = .n →
    gives (.coreWrite t c core vaddr bytes) s (fun u => u.l2State c (lineAt o) = .smA ∧ (∃ cid, .upg c (lineAt o) cid ∈ u.mem.net) ∧
      ⟨c, core, lineAt o, o % 128, some bytes⟩ ∈ u.mem.stalled ∧ u.mem.near = s.mem.near)) ∧
  (∀ t s c core vaddr bytes, c < 32 → core < 8 → (s.cluster c).assigned = false → exec (.coreRead t c core vaddr) s = .next (s.at t) ∧
    exec (.coreWrite t c core vaddr bytes) s = .next (s.at t)) ∧
  (∀ t s c l txn waiting datas got data d sr since, c < 32 → lineAt l = l →
    s.holdOf l = some (.snp txn waiting datas got data d sr since) → waiting.contains c = true ∨ datas.contains c = true →
    (since + 2 * ticksPerUs ≤ max s.now t →
      gives (.snoopAnswerTimeout t c l) s (fun u => (∃ r ∈ u.hoop.resets, r.island = .cluster c) ∧ (c, 256) ∈ u.hlt.inputs ∧
        u.cfg = s.cfg ∧ u.hoop.phase = s.hoop.phase)) ∧
    (max s.now t < since + 2 * ticksPerUs → exec (.snoopAnswerTimeout t c l) s = .next (s.at t)))

/-! ## Optical ports -/

/-- Only links, the Hoop die and health inputs differ, and of the links only those of a port and sub-port. -/
def Claims.linkOnly (p b : Nat) (s u : State) : Prop :=
  (∀ q c, (q, c) ≠ (p, b) → u.link q c = s.link q c) ∧ u.cfg = s.cfg ∧ u.tabs = s.tabs ∧ u.jrn = s.jrn ∧ u.warp = s.warp ∧ u.arbs = s.arbs ∧
    u.eng = s.eng ∧ u.chans = s.chans ∧ u.mem = s.mem ∧ u.parts = s.parts ∧ u.mram = s.mram

/-- A block that is whole and in sequence moves the receive sequence, takes its credits and frees what it acknowledges; the frame it holds goes to the parser
with its replay delay (R509, R510, R517). One that is not asks for a retry (R516). A retry request replays every block after the acknowledged one; a block
replayed `OSR_RETRY_LIMIT` times retrains the link. The serialiser of a link that is up and idle takes the oldest frame of the best level that has credit (R193,
R510): it leaves with its residence in its age (R173), its cells take credit, and its blocks wait in the replay buffer (R515); with no room there it stays. The
model's own reading or choice in it: notes/assumptions/45.md, notes/assumptions/96.md. -/
def Obligations.LinksCarryBlocksInSequence : Prop :=
  (∀ t s p b l k bytes, p < 64 → b < 4 → s.link p b = some l → l.isUp = true → k.kind = 1 → k.seq.toNat = l.rxSeq → k.retry = false →
    l.partialIn = [] → k.firstFrame = 0x1FFF → k.laneMask = 0x1FF →
    gives (.blockReceived t p b k bytes) s (fun u => u.hoop = s.hoop ∧ u.hlt = s.hlt ∧ Claims.linkOnly p b s u ∧
      u.link p b = some { l with
        rxSeq := (l.rxSeq + 1) % 65536, retryOut := false, txCredit := l.txCredit.set k.creditClass.toNat k.credits.toNat
        replay := l.replay.filter (fun x => decide (2 ^ 15 ≤ (k.acked - BitVec.ofNat 16 x.seq).toNat)) })) ∧
  (∀ t s p b l k bytes f, p < 64 → b < 4 → s.link p b = some l → l.isUp = true → k.kind = 1 → k.seq.toNat = l.rxSeq → k.retry = false →
    l.partialIn = [] → k.firstFrame ≠ 0x1FFF → k.laneMask = 0x1FF → cutFrame ((bytes.take 4096).drop k.firstFrame.toNat) = .frame f [] →
    gives (.blockReceived t p b k bytes) s (fun u => ∃ w : State, Claims.linkOnly p b s w ∧ w.now = max s.now t ∧ w.hoop = s.hoop ∧ w.hlt = s.hlt ∧
      u = (w.arrive p b k.replayDelay.toNat f).modLink p b (fun x => { x with partialIn := [], partialDelay := 0 }) ∧
      w.link p b = some { l with
        rxSeq := (l.rxSeq + 1) % 65536, retryOut := false, txCredit := l.txCredit.set k.creditClass.toNat k.credits.toNat
        replay := l.replay.filter (fun x => decide (2 ^ 15 ≤ (k.acked - BitVec.ofNat 16 x.seq).toNat)) })) ∧
  (∀ t s p b l k bytes, p < 64 → b < 4 → s.link p b = some l → l.isUp = true → k.kind = 1 → k.seq.toNat ≠ l.rxSeq →
    gives (.blockReceived t p b k bytes) s (fun u => u.link p b = some { l with retryOut := true } ∧ u.hoop = s.hoop ∧ u.hlt = s.hlt ∧
      Claims.linkOnly p b s u)) ∧
  (∀ t s p b l, p < 64 → b < 4 → s.link p b = some l → l.isUp = true →
    gives (.blockCheckFail t p b) s (fun u => u.link p b = some { l with retryOut := true, blkBad := satAdd (2 ^ 32 - 1) l.blkBad 1 } ∧
      u.hlt.inputs = s.hlt.inputs ++ [(32 + p, 1)] ∧ u.hoop = s.hoop ∧ Claims.linkOnly p b s u)) ∧
  (∀ t s p b l acked kept, p < 64 → b < 4 → s.link p b = some l → l.isUp = true →
    kept = l.replay.filter (fun x => decide (2 ^ 15 ≤ (acked - BitVec.ofNat 16 x.seq).toNat)) →
    gives (.retryRequest t p b acked) s (fun u => u.hoop = s.hoop ∧ u.hlt = s.hlt ∧ Claims.linkOnly p b s u ∧
      u.link p b = some { l with
        replay := kept.map (fun x => { x with replays := x.replays + 1 }), blkReplayed := satAdd (2 ^ 48 - 1) l.blkReplayed kept.length })) ∧
  (∀ t s p b l, p < 64 → b < 4 → s.link p b = some l → l.isUp = true → (∃ x ∈ l.replay, s.cfg.osr.retryLimit ≤ x.replays) →
    gives (.retryLimitRetrain t p b) s (fun u => u.hoop = s.hoop ∧ Claims.linkOnly p b s u ∧
      u.hlt.inputs = s.hlt.inputs ++ [(32 + p, 64), (100 + p / 16, 8)] ∧
      u.link p b = some { l with
        state := .retrain, agreed := false, delays := [], downSince := some (l.downSince.getD (max s.now t)), retryOut := false
        retrains := satAdd 65535 l.retrains 1 })) ∧
  (∀ t s p b l k bytes acked, p < 64 → b < 4 → s.link p b = some l → l.isUp = false → k.kind ≠ 2 →
    exec (.blockReceived t p b k bytes) s = .next (s.at t) ∧ exec (.blockCheckFail t p b) s = .next (s.at t) ∧
    exec (.retryRequest t p b acked) s = .next (s.at t) ∧ exec (.retryLimitRetrain t p b) s = .next (s.at t)) ∧
  (∀ t s p b l a n, p < 64 → b < 4 → s.link p b = some l → l.isUp = true → (look (p, b) s.warp.busy).getD 0 ≤ max s.now t →
    (∀ x ∈ s.ready p b, (s.at t).tooOld x.frame.hdr (max s.now t - x.stamp + x.resid + fixedResidence) = false) →
    (s.ready p b).find? (fun x => decide (cellsOf x.frame ≤ l.credit x.frame.hdr.tc.toNat)) = some a → n = cdiv a.frame.size 4096 →
    (l.replay.length + n ≤ s.replayRoom p →
      gives (.egressFrameStart t p b) s (fun u =>
        u.warp.wire = s.warp.wire ++ [(p, b, { a.frame with hdr := ({ a.frame.hdr with
          age := BitVec.ofNat 24 (ageAfter a.frame.hdr.tc.toNat a.frame.hdr.age.toNat (max s.now t - a.stamp + a.resid + fixedResidence)) } :
            Header).sealed })] ∧
        u.warp.arrived = s.warp.arrived.erase a ∧ u.warp.voq = s.warp.voq ∧ (∃ x, u.link p b = some x ∧ x.txSeq = (l.txSeq + n) % 65536 ∧
          x.replay.length = l.replay.length + n ∧ x.state = l.state ∧ x.txCredit = l.txCredit ∧
          x.txUsed = l.txUsed.modify a.frame.hdr.tc.toNat (fun k => (k + cellsOf a.frame) % 65536)) ∧
        (∀ q c, (q, c) ≠ (p, b) → u.link q c = s.link q c) ∧ u.tabs = s.tabs ∧ u.jrn = s.jrn ∧ u.mem = s.mem ∧ u.hoop = s.hoop)) ∧
    (s.replayRoom p < l.replay.length + n → gives (.egressFrameStart t p b) s (fun u => u.warp = s.warp ∧ u.jrn = s.jrn ∧ u.mem = s.mem))) ∧
  (∀ t s p b l e, p < 64 → b < 4 → s.link p b = some l → l.isUp = false ∨ (look (p, b) s.warp.busy = some e ∧ max s.now t < e) →
    exec (.egressFrameStart t p b) s = .next (s.at t))

/-- A link trains and comes up (R518, R519): TRAIN blocks that agree give its delay, sixteen of them end the training, and a full training starts its sequences
anew where a retrain keeps them; a marker's plan is taken (R512). Light that goes darkens a port, and light that returns trains it (R506); a link whose hold has
run is down, its replay buffer and its frames gone (R523). A wavelength that its receiver loses leaves the receive lane mask (R520); a laser at its end of life
is weak, and the spare is lit for it (R521); a failed laser's wavelength is removed (R522), and the spare that is locked takes the lane of the first of them.
The model's own reading or choice in it: notes/assumptions/97.md, notes/assumptions/98.md, notes/assumptions/99.md. -/
def Obligations.LinksTrainAndReplaceWavelengths : Prop :=
  (∀ t s p b l k mark, p < 64 → b < 4 → s.link p b = some l → l.state = .training ∨ l.state = .retrain → k.version = 1 →
    k.split.toNat = s.split p → k.sub.toNat = b →
    gives (.trainBlockReceived t p b k mark) s (fun u => u.hoop = s.hoop ∧ u.hlt = s.hlt ∧ Claims.linkOnly p b s u ∧
      u.link p b = some { l with agreed := true, delays := (if k.echo then
        (l.delays ++ [(mark + 2 ^ 33 - k.echoedMark.toNat - k.hold.toNat) % 2 ^ 32]).take 16 else l.delays) })) ∧
  (∀ t s p b l k mark, p < 64 → b < 4 → s.link p b = some l → l.state = .training ∨ l.state = .retrain → k.version = 1 →
    k.split.toNat ≠ s.split p ∨ k.sub.toNat ≠ b → look (0x1205, [p, b]) s.hoop.limits = none →
    gives (.trainBlockReceived t p b k mark) s (fun u => u.link p b = some { l with agreed := false } ∧ Claims.told 0x1205 s u)) ∧
  (∀ t s p b l, p < 64 → b < 4 → s.link p b = some l → l.lit = true → l.agreed = true → l.delays.length = 16 →
    gives (.linkTrainingDone t p b) s (fun u => u.hlt = s.hlt ∧ Claims.linkOnly p b s u ∧ ∃ x, u.link p b = some x ∧
      x.oneWay = min 0xFFFFFF (cdiv l.delays.sum 32) ∧ x.txCredit = s.allocation p ∧ x.rxFreed = s.allocation p ∧ x.downSince = none ∧
      x.holdExpired = false ∧ x.state = (if laneCount x.txActive < s.lanes p then .degraded else .up) ∧
      (l.state = .training → x.txActive = s.working p b ∧ x.rxGood = s.working p b ∧ x.txSeq = 0 ∧ x.rxSeq = 0 ∧ x.replay = []) ∧
      (l.state = .retrain → x.txSeq = l.txSeq ∧ x.rxSeq = l.rxSeq ∧ x.replay = l.replay ∧ x.rxGood = l.rxGood))) ∧
  (∀ t s p b l, p < 64 → b < 4 → s.link p b = some l → l.lit = false ∨ l.agreed = false ∨ l.delays.length ≠ 16 →
    exec (.linkTrainingDone t p b) s = .next (s.at t)) ∧
  (∀ t s p b l bytes wave lane width plan, p < 64 → s.link p b = some l → bytes.length = 15 → beAt bytes 0 3 = 0xC53A96 →
    (crc16 (bytes.take 12)).toNat = beAt bytes 12 2 → leAt bytes 3 1 = wave + 16 * plan → leAt bytes 4 1 = lane + 16 * width →
    leAt bytes 5 1 % 4 = (match s.split p with | 1 => 0 | 2 => 1 | _ => 2) → leAt bytes 5 1 / 4 % 4 = b → wave ≤ 8 → lane ≤ 7 → 1 ≤ width →
    width ≤ 8 →
    gives (.laneMarker t p bytes) s (fun u => u.hoop = s.hoop ∧ u.hlt = s.hlt ∧ Claims.linkOnly p b s u ∧
      u.link p b = some { l with plan := plan, width := width, lanes := put wave lane (if plan = l.plan then l.lanes else []) })) ∧
  (∀ t s p bytes, p < 64 → bytes.length ≠ 15 ∨ beAt bytes 0 3 ≠ 0xC53A96 ∨ (crc16 (bytes.take 12)).toNat ≠ beAt bytes 12 2 →
    exec (.laneMarker t p bytes) s = .next (s.at t)) ∧
  (∀ t s p b l, p < 64 → (s.links.map (fun l => (l.port, l.sub))).Nodup → s.link p b = some l → l.lit = true →
    gives (.rxLightLoss t p) s (fun u => u.link p b = some { l with
        state := .dark, agreed := false, delays := [], downSince := some (l.downSince.getD (max s.now t)), retryOut := false, lit := false
        spareLit := false } ∧
      (∀ x ∈ u.links, x.port = p → x.lit = false) ∧ (∀ q c, q ≠ p → u.link q c = s.link q c) ∧ u.warp = s.warp ∧ u.jrn = s.jrn ∧ u.hoop = s.hoop)) ∧
  (∀ t s p b l, p < 64 → (s.links.map (fun l => (l.port, l.sub))).Nodup → s.link p b = some l → l.lit = false → s.live = true → s.mayLight p = true →
    gives (.rxLightReturn t p) s (fun u => u.link p b = some { l with lit := true, state := .training, agreed := false, delays := [] } ∧
      (∀ x ∈ u.links, x.port = p → x.lit = true) ∧ (∀ q c, q ≠ p → u.link q c = s.link q c) ∧ u.warp = s.warp ∧ u.jrn = s.jrn ∧ u.hoop = s.hoop)) ∧
  (∀ t s p, p < 64 → s.mayLight p = false → exec (.rxLightReturn t p) s = .next (s.at t)) ∧
  (∀ t s p b l d, p < 64 → b < 4 → s.link p b = some l → l.isUp = false → l.holdExpired = false → l.downSince = some d →
    (d + s.cfg.osr.downHoldUs * ticksPerUs ≤ max s.now t →
      gives (.linkDownHoldExpiry t p b) s (fun u => u.link p b = some { l with
          state := if l.lit then .down else .dark, replay := [], holdExpired := true, downEvent := true } ∧
        (∀ a ∈ u.warp.arrived, ¬(a.pos = p ∧ a.sub = b)) ∧ (∀ v ∈ u.warp.voq, ¬(v.dst = p ∧ v.sub = b)) ∧
        u.hlt.inputs = s.hlt.inputs ++ [(32 + p, 512)] ∧ u.jrn = s.jrn)) ∧
    (max s.now t < d + s.cfg.osr.downHoldUs * ticksPerUs → exec (.linkDownHoldExpiry t p b) s = .next (s.at t))) ∧
  (∀ t s p l r, p < 64 → r.wave < 9 → s.link p (s.waveSub p r.wave) = some l → r.lockLost = false → r.cwUncorrected < 4 →
    r.symCorrected ≤ s.weakSym p → r.laserBias ≤ 10 * s.cfg.osr.laserEol →
    gives (.wavelengthHealthWindow t p [r]) s (fun u => u.links = s.links ∧ u.hlt = s.hlt ∧ u.hoop = s.hoop ∧
      look (p, r.wave) u.waves = some (((look (p, r.wave) s.waves).getD {}).add r))) ∧
  (∀ t s p b l r, p < 64 → r.wave < 9 → b = s.waveSub p r.wave → s.link p b = some l →
    (r.lockLost || decide (64 ≤ r.cwUncorrected) || decide (s.weakSym p < r.symCorrected) || decide (4 ≤ r.cwUncorrected)) = true →
    l.rxGood.testBit r.wave = true → l.rxGood &&& (0x1FF - 2 ^ r.wave) ≠ 0 → r.laserBias ≤ 10 * s.cfg.osr.laserEol →
    gives (.wavelengthHealthWindow t p [r]) s (fun u => u.hoop = s.hoop ∧
      u.link p b = some { l with rxGood := l.rxGood &&& (0x1FF - 2 ^ r.wave), laneEvent := true } ∧
      u.hlt.inputs = s.hlt.inputs ++ (if r.lockLost || decide (64 ≤ r.cwUncorrected) then [(32 + p, 128)] else []) ∧
      look (p, r.wave) u.waves = some (((look (p, r.wave) s.waves).getD {}).add r))) ∧
  (∀ t s p b l r, p < 64 → r.wave < 9 → b = s.waveSub p r.wave → s.link p b = some l → r.lockLost = false → r.cwUncorrected < 4 →
    r.symCorrected ≤ s.weakSym p → 10 * s.cfg.osr.laserEol < r.laserBias → l.txActive.testBit r.wave = true → r.wave ∉ l.weak → r.wave ∉ l.failed →
    gives (.wavelengthHealthWindow t p [r]) s (fun u => u.hoop = s.hoop ∧ u.hlt = s.hlt ∧ u.link p b = some { l with
      weak := l.weak ++ [r.wave], laneEvent := true
      spareLit := l.spareLit || (nth s.cfg.osr.spareOwner p == b && !l.spareInUse && !l.failed.contains 8) })) ∧
  (∀ t s p b l wave left, p < 64 → wave < 9 → b = s.waveSub p wave → s.link p b = some l → wave ∉ l.failed →
    left = l.txActive &&& (0x1FF - 2 ^ wave) →
    gives (.laserMonitorFault t p wave) s (fun u => Claims.linkOnly p b s u ∧ u.hlt.inputs = s.hlt.inputs ++ [(32 + p, 128)] ∧ ∃ x,
      u.link p b = some x ∧ x.failed = l.failed ++ [wave] ∧ wave ∉ x.weak ∧ x.txActive = left ∧ x.laneEvent = true ∧
      (l.isUp = true → left = 0 → x.state = .down) ∧
      (l.isUp = true → left ≠ 0 → x.state = if laneCount left < s.lanes p then .degraded else l.state))) ∧
  (∀ t s p b l wave, p < 64 → wave < 9 → b = s.waveSub p wave → s.link p b = some l → wave ∈ l.failed →
    exec (.laserMonitorFault t p wave) s = .next (s.at t)) ∧
  (∀ t s p b l wave, p < 64 → b = s.waveSub p 8 → s.link p b = some l → l.spareLit = true → l.spareInUse = false →
    (l.weak ++ l.failed.filter (· ≠ 8)).head? = some wave →
    gives (.spareLocked t p) s (fun u => Claims.told 0x8004 s u ∧ Claims.linkOnly p b s u ∧ ∃ x, u.link p b = some x ∧ x.spareInUse = true ∧
      x.txActive = (l.txActive &&& (0x1FF - 2 ^ wave) ||| 0x100) ∧ x.substitutions = satAdd 65535 l.substitutions 1 ∧ wave ∉ x.weak))


/-! ## Timers of partitions, samples and adaptations -/

/-- A record has ended (R537, R545): it is remembered with its status, and answered on the path it came by, where that is no frame. -/
def Claims.recordEnds (q : QRec) (st : Status) (item : Nat) (u : State) : Prop :=
  (q.signer, q.number, sha512 q.bytes, st) ∈ u.mram.history ∧
    let b := natBe 8 q.number ++ [st.code, 0] ++ natBe 2 item ++ natBe 4 u.tabs.compEpoch.toNat
    match q.path with
    | .doe fn => look fn u.hoop.answers = some b
    | .mailbox fn slot => look (fn, slot) u.hoop.responses = some b
    | .i3c => look 2 u.hoop.answers = some b
    | .frame _ => True

/-- What is due for a partition: a consent ends with its duration (R468); a scrub whose frames are all acknowledged leaves zero bytes and a FREE partition
(R460); an open batch is signed when its first leaf is `HOOP_BATCH_MS` old (R496); a meter record closes (R555); a record whose key transfer is not acknowledged
in time is refused (R450). Before that nothing happens. The model's own reading or choice in it: notes/assumptions/6.md, notes/assumptions/82.md. -/
def Obligations.PartitionTimersEndWhatIsDue : Prop :=
  (∀ t s p c, p < 16 → (s.part p).consent = some c →
    (c.until_ ≤ max s.now t → gives (.consentExpiry t p) s (fun u => (u.part p).consent = none ∧ (u.part p).nonces = (s.part p).nonces ∧
      Claims.told 0x1005 s u ∧ (∀ k, k ≠ p → u.part k = s.part k) ∧ u.tabs = s.tabs ∧ u.jrn = s.jrn ∧ u.eng = s.eng ∧ u.mram = s.mram)) ∧
    (max s.now t < c.until_ → exec (.consentExpiry t p) s = .next (s.at t))) ∧
  (∀ t s p, p < 16 → (s.part p).consent = none → exec (.consentExpiry t p) s = .next (s.at t)) ∧
  (∀ t s p x, p < 16 → (s.part p).scrub = some x → (∀ y ∈ x.far, y.1.base + y.1.length ≤ y.2) → s.jrn.outs.all (fun o => o.owner != .scrub p) = true →
    gives (.scrubComplete t p) s (fun u => (u.part p).scrub = none ∧ (u.part p).scrubDone = true ∧ (u.part p).scrubBytes = x.bytes ∧
      (x.whole = true → (u.part p).state = .free ∧ (u.part p).leafIndex = 0 ∧ (u.part p).primary = false) ∧
      (x.whole = false → (u.part p).state = (s.part p).state) ∧ (∀ k, k ≠ p → u.part k = s.part k) ∧
      (∀ a, readByte u.mem.near a = if x.near.any (fun r => decide (r.1 ≤ a) && decide (a < r.1 + r.2)) then 0 else readByte s.mem.near a) ∧
      Claims.told 0x1003 s u ∧ u.tabs = s.tabs ∧ u.jrn = s.jrn ∧ u.eng = s.eng)) ∧
  (∀ t s p x, p < 16 → (s.part p).scrub = some x → (∃ y ∈ x.far, y.2 < y.1.base + y.1.length) ∨ (∃ o ∈ s.jrn.outs, o.owner = .scrub p) →
    exec (.scrubComplete t p) s = .next (s.at t)) ∧
  (∀ t s p b, p < 16 → s.intact → (s.part p).batch = some b → b.leaves ≠ [] → b.since + s.cfg.hoop.batchMs * ticksPerMs ≤ max s.now t →
    (∀ l, (s.part p).log = some l → Claims.plainNear s (l.consumer + 8) 8 ∧ Claims.quiet s (l.consumer + 8) 8) →
    gives (.batchClose t p) s (fun u => (u.part p).batch = none ∧ (u.part p).signedIndex = b.first + b.leaves.length ∧
      (u.part p).batchNumber = (s.part p).batchNumber + 1 ∧ (u.part p).leafIndex = (s.part p).leafIndex ∧
      (∀ l, (s.part p).log = some l → u.memRead (l.consumer + 8) 8 = natLe 8 (b.first + b.leaves.length) ∧ Claims.onlyWrites s u (l.consumer + 8) 8) ∧
      u.tabs = s.tabs ∧ u.jrn.reqs = s.jrn.reqs)) ∧
  (∀ t s p b, p < 16 → (s.part p).batch = some b → max s.now t < b.since + s.cfg.hoop.batchMs * ticksPerMs →
    exec (.batchClose t p) s = .next (s.at t)) ∧
  (∀ t s p ms, p < 16 → (s.part p).state = .active → ms = (max s.now t - s.hoop.startedAt) / ticksPerUs / 1000 →
    (nth (s.part p).meter 0 + 1000 * s.cfg.hoop.meterS ≤ ms →
      gives (.meterClose t p) s (fun u => (u.part p).meter = ms :: List.replicate 8 0 ∧ Claims.told 0x8005 s u ∧ (∀ k, k ≠ p → u.part k = s.part k) ∧
        u.mem = s.mem ∧ Claims.stands s u)) ∧
    (ms < nth (s.part p).meter 0 + 1000 * s.cfg.hoop.meterS → exec (.meterClose t p) s = .next (s.at t))) ∧
  (∀ t s p q i k, p < 16 → (s.part p).keyTransfer = some k → s.hoop.running = some (q, [.key p i, .apply]) →
    (k + s.deadlineTicks 0 ≤ max s.now t →
      gives (.keyTransferTimeout t p) s (fun u => u.hoop.running = none ∧ (u.part p).keyTransfer = none ∧ Claims.recordEnds q .targetLost i u ∧
        (∀ o ∈ u.jrn.outs, o.owner ≠ .keyTransfer p) ∧ u.jrn.reqs = s.jrn.reqs ∧ u.eng = s.eng)) ∧
    (max s.now t < k + s.deadlineTicks 0 → exec (.keyTransferTimeout t p) s = .next (s.at t))) ∧
  (∀ t s p, p < 16 → (s.part p).keyTransfer = none → exec (.keyTransferTimeout t p) s = .next (s.at t))

/-- Samples go out at the end of their period and start anew (R200, R201). What the device adapts stays within its bounds and at its pace, and is logged (R191,
R199, R389, R520, R553): a rate starts its bucket or wheel anew (R190). A vector held off fires once its holdoff has passed (R554). The model's own reading or
choice in it: notes/assumptions/43.md, notes/assumptions/81.md. -/
def Obligations.SamplesAndAdaptationsKeepTheirPace : Prop :=
  (∀ t s, s.live = true → gives (.voqSamplePeriod t) s (fun u => u.warp.samples = [] ∧ u.warp.period = (s.warp.period + 1) % 2 ^ 32 ∧
    u.warp.voq = s.warp.voq ∧ (s.links ≠ [] → Claims.told 0x8003 s u) ∧ u.mem = s.mem ∧ u.tabs = s.tabs ∧ u.jrn = s.jrn ∧ u.parts = s.parts)) ∧
  (∀ t s, s.live = true → gives (.serviceSampleWindow t) s (fun u => u.warp.svcSamples = [] ∧ u.warp.samples = s.warp.samples ∧
    (∀ p < 16, (u.part p).winStalls = List.replicate 6 0 ∧ (u.part p).stalls = (s.part p).stalls) ∧ u.hoop = s.hoop ∧
    Claims.onlyWrites s u 0 0 ∧ u.tabs = s.tabs ∧ u.jrn = s.jrn)) ∧
  (∀ t s, s.live = false → exec (.voqSamplePeriod t) s = .next (s.at t) ∧ exec (.serviceSampleWindow t) s = .next (s.at t)) ∧
  (∀ t s sub svc rate cause x, sub < 4096 → svc < 16 → s.live = true → s.service sub svc = some x → x.shaping ≠ 0 → x.leaving = false →
    x.rateMin ≤ rate → rate ≤ x.rateMax → rate ≠ x.rate → x.lastAdapt = 0 ∨ x.lastAdapt + s.cfg.shp.adaptIntervalMs * ticksPerMs ≤ max s.now t →
    gives (.cloveRateAdapt t sub svc rate cause) s (fun u =>
      u.service sub svc = some { x with rate := rate, tokens := 0, due := s.warp.wheel, lastAdapt := max s.now t } ∧
      (∀ a b, (a, b) ≠ (sub, svc) → u.service a b = s.service a b) ∧ Claims.told 0x8004 s u ∧ u.mem = s.mem ∧ u.warp = s.warp ∧ u.parts = s.parts)) ∧
  (∀ t s sub svc rate cause x, sub < 4096 → svc < 16 → s.service sub svc = some x →
    rate < x.rateMin ∨ x.rateMax < rate ∨ x.shaping = 0 ∨ (x.lastAdapt ≠ 0 ∧ max s.now t < x.lastAdapt + s.cfg.shp.adaptIntervalMs * ticksPerMs) →
    exec (.cloveRateAdapt t sub svc rate cause) s = .next (s.at t)) ∧
  (∀ t s p window cause, p < 16 → s.parts.length = 16 → s.live = true → nth s.cfg.shp.admitMin p * 1048576 ≤ window →
    window ≤ nth s.cfg.shp.admitMax p * 1048576 → window ≠ (s.part p).window →
    gives (.cloveAdmitAdapt t p window cause) s (fun u => u.part p = { s.part p with window := window } ∧ (∀ k, k ≠ p → u.part k = s.part k) ∧
      Claims.told 0x8004 s u ∧ u.mem = s.mem ∧ Claims.stands s u)) ∧
  (∀ t s p window cause, p < 16 → window < nth s.cfg.shp.admitMin p * 1048576 ∨ nth s.cfg.shp.admitMax p * 1048576 < window →
    exec (.cloveAdmitAdapt t p window cause) s = .next (s.at t)) ∧
  (∀ t s p cause x, p < 16 → s.parts.length = 16 → s.schedule p = some x → (∀ k, x.lastAdapt = some k → k + ticksPerMs ≤ max s.now t) → x.hungry = true →
    (s.part p).pfDepth < s.cfg.rim.pfDepthMax →
    gives (.clovePfDepthAdapt t p true cause) s (fun u => ∃ w : State, u = w.pfPump p ∧ w.part p = { s.part p with pfDepth := (s.part p).pfDepth + 1 } ∧
      w.schedule p = some { x with lastAdapt := some (max s.now t), hungry := false } ∧ Claims.told 0x8004 s w ∧
      w.mem = s.mem ∧ w.jrn = s.jrn)) ∧
  (∀ t s p cause x, p < 16 → s.schedule p = some x → (x.hungry = false ∨ s.cfg.rim.pfDepthMax ≤ (s.part p).pfDepth) →
    s.cfg.rim.pfDepthMax ≥ (s.part p).pfDepth → exec (.clovePfDepthAdapt t p true cause) s = .next (s.at t)) ∧
  (∀ t s p cause x, p < 16 → s.schedule p = some x → x.quietSteps < 256 ∨ (s.part p).pfDepth = s.cfg.rim.pfDepthMin →
    exec (.clovePfDepthAdapt t p false cause) s = .next (s.at t)) ∧
  (∀ t s port value cause, port < 64 → s.live = true → s.cfg.osr.weakMin ≤ value → value ≤ s.cfg.osr.weakMax → value ≠ s.weakSym port →
    gives (.cloveWeakSymAdapt t port value cause) s (fun u => u.weakSym port = value ∧ (∀ k, k ≠ port → u.weakSym k = s.weakSym k) ∧
      Claims.told 0x8004 s u ∧ u.mem = s.mem ∧ u.parts = s.parts ∧ Claims.stands s u)) ∧
  (∀ t s port value cause, port < 64 → value < s.cfg.osr.weakMin ∨ s.cfg.osr.weakMax < value →
    exec (.cloveWeakSymAdapt t port value cause) s = .next (s.at t)) ∧
  (∀ t s fn vec last, fn < 2 → vec < 4 → look (fn, vec) s.hoop.msix = some (last, true) →
    (last + s.cfg.hoop.irqUs * ticksPerUs ≤ max s.now t →
      gives (.msixHoldoffExpiry t fn vec) s (fun u => u.hoop.irqs = s.hoop.irqs ++ [(fn, vec)] ∧
        look (fn, vec) u.hoop.msix = some (max s.now t, false) ∧ (∀ k, k ≠ (fn, vec) → look k u.hoop.msix = look k s.hoop.msix) ∧
        u.mem = s.mem ∧ u.parts = s.parts ∧ u.hlt = s.hlt ∧ Claims.stands s u)) ∧
    (max s.now t < last + s.cfg.hoop.irqUs * ticksPerUs → exec (.msixHoldoffExpiry t fn vec) s = .next (s.at t)))

/-! ## The host's windows, attestation and management -/

/-- A write of BAR0 reaches a register whose block and island answer. -/
def Claims.reaches (s : State) (fn o : Nat) : Prop := fn < 2 ∧ s.fnUp fn = true ∧ s.blockAnswers o = true ∧ s.holderAvail o = true

/-- Writing 1 to a W1C bit clears it, and 0 leaves it; every other written bit is dropped (R646). A write that is not of 8 aligned bytes, or that meets a block
or an island that does not answer, changes nothing (R647). An error sets its bits of the function's AER and asks for vector 3 (R533). The model's own reading or
choice in it: notes/assumptions/46.md, notes/assumptions/141.md. -/
def Obligations.RegisterWritesClearOrAreDropped : Prop :=
  (∀ t s fn o v i, i ∈ [Instr.w1cClear t fn o v, .registerWriteDropped t fn o v] → Claims.reaches s fn o → s.intact →
    (o = 0x40 → gives i s (fun u => u.hoop = { s.hoop with holdEvent := s.hoop.holdEvent && !v.toNat.testBit 6 } ∧ u.hlt = s.hlt)) ∧
    (o = 0x100000 → gives i s (fun u => u.hoop = { s.hoop with fallback := s.hoop.fallback && !v.toNat.testBit 3 } ∧ u.hlt = s.hlt)) ∧
    (∀ p b l, o = 0x200000 + 32 * p + 8 * b → p < 64 → b < 4 → s.link p b = some l → gives i s (fun u => u.hoop = s.hoop ∧ u.hlt = s.hlt ∧
      Claims.linkOnly p b s u ∧ u.link p b = some { l with
        laneEvent := l.laneEvent && !v.toNat.testBit 24, downEvent := l.downEvent && !v.toNat.testBit 25 })) ∧
    (o = 0x400100 → gives i s (fun u => u.warp = { s.warp with spillFull := s.warp.spillFull && !v.toNat.testBit 1 } ∧ u.hoop = s.hoop)) ∧
    (∀ c, o = 0x800000 + 8 * c → c < 32 → gives i s (fun u => u.cluster c = { s.cluster c with
      fault := (s.cluster c).fault && !v.toNat.testBit 32, slotWait := (s.cluster c).slotWait && !v.toNat.testBit 33 } ∧
      (∀ d, d ≠ c → u.cluster d = s.cluster d) ∧ u.hoop = s.hoop)) ∧
    (∀ a, o = (if a = 64 then 0x400080 else if a < 64 then 0xC01000 + 8 * a else 0xE00400 + 8 * (a - 65)) → a < 67 → gives i s (fun u =>
      u.arb a = { s.arb a with timeout := (s.arb a).timeout && !v.toNat.testBit 2 } ∧ (∀ k, k ≠ a → u.arb k = s.arb k) ∧ u.hoop = s.hoop)) ∧
    (∀ ch, o = 0xE00000 + 8 * ch → ch < 128 → gives i s (fun u => u.chan ch = { s.chan ch with halted := (s.chan ch).halted && !v.toNat.testBit 24 } ∧
      (∀ k, k ≠ ch → u.chan k = s.chan k) ∧ u.hoop = s.hoop)) ∧
    (∀ p, o = 0x1000000 + 8 * p → p < 16 → gives i s (fun u => u.part p = { s.part p with scrubDone := (s.part p).scrubDone && !v.toNat.testBit 6 } ∧
      (∀ k, k ≠ p → u.part k = s.part k) ∧ u.hoop = s.hoop)) ∧
    (o = 0x1200000 → gives i s (fun u => u.hlt = { s.hlt with
      fenceEvent := s.hlt.fenceEvent && !v.toNat.testBit 18, suspectEvent := s.hlt.suspectEvent && !v.toNat.testBit 19 } ∧ u.hoop = s.hoop)) ∧
    (∀ w, o = 0x1400018 + 64 * w → w < 2 → gives i s (fun u => u.writer w = { s.writer w with ringHigh := (s.writer w).ringHigh && !v.toNat.testBit 3 } ∧
      u.jrn.reqs = s.jrn.reqs ∧ u.hoop = s.hoop)) ∧
    (o = 0x1400100 → exec i s = .next (s.at t))) ∧
  (∀ t s fn o v i, i ∈ [Instr.w1cClear t fn o v, .registerWriteDropped t fn o v] → fn < 2 →
    gives i s (fun u => u.tabs = s.tabs ∧ u.mem = s.mem ∧ u.mram = s.mram ∧ u.cfg = s.cfg ∧ u.jrn.reqs = s.jrn.reqs ∧ u.eng.jobs = s.eng.jobs ∧
      u.hoop.queue = s.hoop.queue) ∧
    (o % 8 ≠ 0 ∨ s.fnUp fn = false ∨ s.blockAnswers o = false ∨ s.holderAvail o = false → exec i s = .next (s.at t))) ∧
  (∀ t s fn err addr rd i, fn < 2 → s.intact → (i, err) ∈ [(Instr.aerError t fn err, err), (.unsupportedRequestTlp t fn addr rd, 0x100000)] →
    (s.fnUp fn = true → gives i s (fun u => BitVec.ofNat 32 (nth u.hoop.aer fn) = BitVec.ofNat 32 (nth s.hoop.aer fn) ||| err ∧
      (∀ k, k ≠ fn → nth u.hoop.aer k = nth s.hoop.aer k) ∧
      (look (fn, 3) s.hoop.msix = none → u.hoop.irqs = s.hoop.irqs ++ [(fn, 3)] ∧ look (fn, 3) u.hoop.msix = some (max s.now t, false)) ∧
      (∀ last, look (fn, 3) s.hoop.msix = some (last, true) → u.hoop.irqs = s.hoop.irqs ∧ look (fn, 3) u.hoop.msix = some (last, true)) ∧
      u.mem = s.mem ∧ u.parts = s.parts ∧ u.hlt = s.hlt ∧ Claims.stands s u)) ∧
    (s.fnUp fn = false → exec i s = .next (s.at t)))

/-- A management request is answered, and nothing but the requester's state and its answer differs. -/
def Claims.replies (q : Requester) (b : Bytes) (s u : State) : Prop :=
  look (requesterIndex q) u.hoop.answers = some b ∧ (∀ k, k ≠ requesterIndex q → look k u.hoop.answers = look k s.hoop.answers) ∧
    u.hoop.phase = s.hoop.phase ∧ u.hoop.measured = s.hoop.measured ∧ u.hoop.chains = s.hoop.chains ∧ u.hoop.queue = s.hoop.queue ∧
    u.mem = s.mem ∧ u.parts = s.parts ∧ u.hlt = s.hlt ∧ Claims.stands s u

/-- The SPDM requester's state after an answer, and the answer. -/
def Claims.spdmReplies (q : Requester) (b : Bytes) (x : Spdm) (s u : State) : Prop :=
  Claims.replies q b s u ∧ u.spdm q = { x with response := b } ∧ ∀ r, requesterOk r = true → requesterIndex r ≠ requesterIndex q → u.spdm r = s.spdm r

/-- The responder (R475 to R480): versions before capabilities before algorithms before the rest; version 1.3 with Ed25519 and SHA-512; chains in parts; a
challenge and a signed measurement over the transcript since the last. What it does not know it refuses. Codes and layouts are PRESUMED
(notes/assumptions/47.md). The model's own reading or choice in it: notes/assumptions/143.md. -/
def Obligations.SpdmRequestsAreAnsweredInOrder : Prop :=
  (∀ t s q r, requesterOk q = true → s.intact → s.servesSpdm q = true → r = [0x10, 0x04, 0, 0, 0, 1, 0, 0x13] →
    gives (.getVersion t q) s (Claims.spdmReplies q r { version := true, vca := Config.spdmRequest 0x84 [] ++ r } s)) ∧
  (∀ t s q v x, requesterOk q = true → s.intact → s.servesSpdm q = true → x = s.spdm q →
    (x.version = false → gives (.getCapabilities t q v) s (Claims.spdmReplies q [0x13, 0x7F, 0x04, 0] { x with meas := [] } s)) ∧
    (x.version = true → v ≠ 0x13 → gives (.getCapabilities t q v) s (Claims.spdmReplies q [0x13, 0x7F, 0x41, 0] { x with meas := [] } s)) ∧
    (x.version = true → v = 0x13 → gives (.getCapabilities t q v) s (fun u => ∃ r, r.take 5 = [0x13, 0x61, 0, 0, 0] ∧ slice r 8 4 = [0x16, 0, 0, 0] ∧
      Claims.spdmReplies q r { x with caps := true, vca := x.vca ++ Config.spdmRequest 0xE1 [v] ++ r, meas := [] } s u))) ∧
  (∀ t s q asym hash x, requesterOk q = true → s.intact → s.servesSpdm q = true → x = s.spdm q →
    (x.caps = false → gives (.negotiateAlgorithms t q asym hash) s (Claims.spdmReplies q [0x13, 0x7F, 0x04, 0] { x with meas := [] } s)) ∧
    (x.caps = true → asym.getLsbD 10 = false → hash.getLsbD 2 = false →
      gives (.negotiateAlgorithms t q asym hash) s (Claims.spdmReplies q [0x13, 0x7F, 0x01, 0] { x with meas := [] } s)) ∧
    (x.caps = true → asym.getLsbD 10 = true → hash.getLsbD 2 = true → gives (.negotiateAlgorithms t q asym hash) s (fun u => ∃ r,
      r = [0x13, 0x63, 0, 0, 36, 0, 1, 0, 8, 0, 0, 0, 0, 4, 0, 0, 4, 0, 0, 0] ++ zeros 16 ∧ Claims.spdmReplies q r { x with
        algs := true, vca := x.vca ++ Config.spdmRequest 0xE3 (natLe 4 asym.toNat ++ natLe 4 hash.toNat) ++ r, meas := [] } s u))) ∧
  (∀ t s q x slot off len nonce kind op signed i, requesterOk q = true → s.intact → s.servesSpdm q = true → x = s.spdm q → x.algs = false →
    i ∈ [Instr.getDigests t q, .getCertificate t q slot off len, .challenge t q slot nonce kind, .getMeasurements t q op signed nonce slot] →
    gives i s (Claims.spdmReplies q [0x13, 0x7F, 0x04, 0] { x with meas := [] } s)) ∧
  (∀ t s q x, requesterOk q = true → s.intact → s.servesSpdm q = true → x = s.spdm q → x.algs = true →
    gives (.getDigests t q) s (fun u => ∃ r c, s.chainOf 0 = some c ∧ r = [0x13, 0x01, 3, BitVec.ofNat 8 s.chainMask] ++ sha512 c ++
      (match s.chainOf 1 with | some d => sha512 d | none => []) ∧
      Claims.spdmReplies q r { x with certs := x.certs ++ Config.spdmRequest 0x81 [] ++ r, meas := [] } s u)) ∧
  (∀ t s q x slot off len, requesterOk q = true → s.intact → s.servesSpdm q = true → x = s.spdm q → x.algs = true →
    (∀ c, s.chainOf slot = some c → off < c.length → gives (.getCertificate t q slot off len) s (fun u => ∃ r, r = [0x13, 0x02, BitVec.ofNat 8 slot, 0] ++
      natLe 2 (slice c off len).length ++ natLe 2 (c.length - off - (slice c off len).length) ++ slice c off len ∧ Claims.spdmReplies q r { x with
        certs := x.certs ++ Config.spdmRequest 0x82 ([BitVec.ofNat 8 slot] ++ natLe 2 off ++ natLe 2 len) ++ r, meas := [] } s u)) ∧
    (s.chainOf slot = none ∨ (∃ c, s.chainOf slot = some c ∧ c.length ≤ off) →
      gives (.getCertificate t q slot off len) s (Claims.spdmReplies q [0x13, 0x7F, 0x01, 0] { x with meas := [] } s))) ∧
  (∀ t s q x slot nonce c m, requesterOk q = true → s.intact → s.servesSpdm q = true → x = s.spdm q → x.algs = true → s.chainOf slot = some c →
    m = Config.spdmRequest 0x83 ([BitVec.ofNat 8 slot, 0] ++ padTo 32 nonce) →
    gives (.challenge t q slot nonce 0) s (fun u => ∃ body rest, body = [0x13, 0x03, BitVec.ofNat 8 slot, BitVec.ofNat 8 s.chainMask] ++ sha512 c ++
        Config.randomBytes s.draws 32 ++ rest ∧ u.draws = s.draws + 1 ∧
      Claims.spdmReplies q (body ++ spdmSign "responder-challenge_auth signing" (x.vca ++ x.certs ++ m ++ body)) { x with certs := [], meas := [] } s u)) ∧
  (∀ t s q x slot nonce op l, requesterOk q = true → s.intact → s.servesSpdm q = true → x = s.spdm q → x.algs = true →
    l = (if op = 0 then [] else if op = 0xFF then s.blocks else [op]) → op = 0 ∨ op = 0xFF ∨ op ∈ s.blocks →
    (∀ c, s.chainOf slot = some c → gives (.getMeasurements t q op true nonce slot) s (fun u => ∃ body m rest, body = [0x13, 0x60,
        BitVec.ofNat 8 (if op = 0 then s.blocks.length else 0), BitVec.ofNat 8 slot, BitVec.ofNat 8 l.length] ++
        natLe 3 (l.flatMap s.spdmBlock).length ++ l.flatMap s.spdmBlock ++ Config.randomBytes s.draws 32 ++ rest ∧
      Claims.spdmReplies q (body ++ spdmSign "responder-measurements signing" (x.vca ++ x.meas ++ m ++ body)) { x with meas := [] } s u)) ∧
    gives (.getMeasurements t q op false nonce slot) s (fun u => ∃ body m rest, body = [0x13, 0x60, BitVec.ofNat 8 (if op = 0 then s.blocks.length else 0), 0,
        BitVec.ofNat 8 l.length] ++ natLe 3 (l.flatMap s.spdmBlock).length ++ l.flatMap s.spdmBlock ++ Config.randomBytes s.draws 32 ++ rest ∧
      Claims.spdmReplies q body { x with meas := x.meas ++ m ++ body } s u)) ∧
  (∀ t s q x code, requesterOk q = true → s.intact → s.servesSpdm q = true → x = s.spdm q → spdmCodes.contains code.toNat = false →
    gives (.spdmUnsupportedRequest t q code) s (Claims.spdmReplies q [0x13, 0x7F, 0x07, code] { x with meas := [] } s)) ∧
  (∀ t s q v a b slot off len nonce kind op signed i, requesterOk q = true → s.servesSpdm q = false →
    i ∈ [Instr.getVersion t q, .getCapabilities t q v, .negotiateAlgorithms t q a b, .getDigests t q, .getCertificate t q slot off len,
      .challenge t q slot nonce kind, .getMeasurements t q op signed nonce slot] → exec i s = .next (s.at t))

/-- DOE discovery lists its three protocols (R545); the endpoint on I3C takes its address and answers its commands (R548; the layouts of the answers are the
model's choice, notes/assumptions/48.md), the rings after the seal only (R571). The model's own reading or choice in it: notes/assumptions/144.md. -/
def Obligations.ManagementCommandsAreAnswered : Prop :=
  (∀ t s fn index r, fn < 2 → s.managed = true → s.fnUp fn = true →
    (index, r) ∈ [(0, ([0x01, 0, 0, 1] : Bytes)), (1, [0x01, 0, 1, 2]), (2, [0x4C, 0x1F, 1, 0])] →
    gives (.doeDiscovery t fn index) s (Claims.replies (.doe fn) r s)) ∧
  (∀ t s fn index, fn < 2 → s.managed = false ∨ s.fnUp fn = false → exec (.doeDiscovery t fn index) s = .next (s.at t)) ∧
  (∀ t s bytes, s.mctpUp = true → gives (.mctpControl t bytes) s (Claims.replies .mctp (Config.mctpReply bytes) s)) ∧
  (∀ t s, s.mctpUp = true → gives (.mctpStatus t) s (Claims.replies .mctp (natLe 2 (min 65535 (s.hoop.power1s / 8000)) ++
    (List.range 20).map (fun k => BitVec.ofNat 8 (nth s.hoop.temps k)) ++
    natLe 4 ((s.hlt.lostDies.map (fun d => 2 ^ dieNumber d)).foldl (· ||| ·) 0)) s)) ∧
  (∀ t s ring start count, s.mctpUp = true → s.hoop.phase = .sealed → ring ≤ 1 → 1 ≤ count → count ≤ 16 →
    gives (.mctpReadRing t ring start count) s (Claims.replies .mctp ((List.range count).flatMap (fun k =>
      (((if ring = 0 then s.hoop.ownerRing else s.hoop.eventRings.getD 0 {}).entries.find? (fun e => e.1 = start + k)).map (·.2)).getD [])) s)) ∧
  (∀ t s bytes ring start count i, i ∈ [Instr.mctpControl t bytes, .mctpStatus t, .mctpReadRing t ring start count] → s.mctpUp = false →
    exec i s = .next (s.at t)) ∧
  (∀ t s ring start count, s.hoop.phase ≠ .sealed → exec (.mctpReadRing t ring start count) s = .next (s.at t)) ∧
  (∀ t s a d, s.hoop.phase ≠ .off →
    gives (.entdaa t a) s (fun u => u.hoop = { s.hoop with i3c := some a } ∧ u.mem = s.mem ∧ u.parts = s.parts ∧ u.hlt = s.hlt ∧ Claims.stands s u) ∧
    (a.toNat = s.cfg.hoop.i3cAddr → gives (.setdasa t a d) s (fun u => u.hoop = { s.hoop with i3c := some d } ∧ u.mem = s.mem ∧ u.parts = s.parts ∧
      u.hlt = s.hlt ∧ Claims.stands s u)) ∧
    (a.toNat ≠ s.cfg.hoop.i3cAddr → exec (.setdasa t a d) s = .next (s.at t)))

/-! ## Signed records -/

/-- The record that a command brings: its moment, its wrapper and its body. -/
def Claims.brings : Instr → Option (Nat × RecEnv × Bytes)
  | .revocation t r b => some (t, r, b) | .publishWitness t r b => some (t, r, b) | .consent t r b => some (t, r, b)
  | .replayLockOn t r b => some (t, r, b) | .replayLockOff t r b => some (t, r, b) | .keyTransfer t r b => some (t, r, b)
  | .pairAdmissionOffer t r b => some (t, r, b) | .pairAdmissionAnswer t r b => some (t, r, b)
  | .ownerCertificateFragment t r b => some (t, r, b) | .deviceReset t r b => some (t, r, b)
  | .unsupportedRecordType t r b => some (t, r, b) | .mctpSubmitRecord t r b => some (t, r, b)
  | .compositionEpochAdvance t r l => some (t, r, compositionBody r l) | .mapEpochAdvance t r l => some (t, r, compositionBody r l)
  | .contextInstall t r a b c => some (t, r, compositionBody r (a ++ [itemOf 0x01 1 b] ++ c))
  | .contextRemove t r a b c => some (t, r, compositionBody r (a ++ [itemOf 0x01 2 b] ++ c))
  | .runInstall t r a b c => some (t, r, compositionBody r (a ++ [itemOf 0x02 1 b] ++ c))
  | .runRemove t r a b c => some (t, r, compositionBody r (a ++ [itemOf 0x02 2 b] ++ c))
  | .accessEntryInstall t r a b c => some (t, r, compositionBody r (a ++ [itemOf 0x03 1 b] ++ c))
  | .accessEntryRemove t r a b c => some (t, r, compositionBody r (a ++ [itemOf 0x03 2 b] ++ c))
  | .subscriberInstall t r a b c => some (t, r, compositionBody r (a ++ [itemOf 0x04 1 b] ++ c))
  | .subscriberRemove t r a b c => some (t, r, compositionBody r (a ++ [itemOf 0x04 2 b] ++ c))
  | .serviceInstall t r a b c => some (t, r, compositionBody r (a ++ [itemOf 0x05 1 b] ++ c))
  | .serviceRemove t r a b c => some (t, r, compositionBody r (a ++ [itemOf 0x05 2 b] ++ c))
  | .groupInstall t r a b c => some (t, r, compositionBody r (a ++ [itemOf 0x06 1 b] ++ c))
  | .groupRemove t r a b c => some (t, r, compositionBody r (a ++ [itemOf 0x06 2 b] ++ c))
  | .sumacRangeInstall t r a b c => some (t, r, compositionBody r (a ++ [itemOf 0x07 1 b] ++ c))
  | .sumacRangeRemove t r a b c => some (t, r, compositionBody r (a ++ [itemOf 0x07 2 b] ++ c))
  | .extentInstall t r a b c => some (t, r, compositionBody r (a ++ [itemOf 0x08 1 b] ++ c))
  | .extentRemove t r a b c => some (t, r, compositionBody r (a ++ [itemOf 0x08 2 b] ++ c))
  | .mirroredRangeInstall t r a b c => some (t, r, compositionBody r (a ++ [itemOf 0x09 1 b] ++ c))
  | .mirroredRangeRemove t r a b c => some (t, r, compositionBody r (a ++ [itemOf 0x09 2 b] ++ c))
  | .prefetchScheduleInstall t r a b c => some (t, r, compositionBody r (a ++ [itemOf 0x0A 1 b] ++ c))
  | .prefetchScheduleRemove t r a b c => some (t, r, compositionBody r (a ++ [itemOf 0x0A 2 b] ++ c))
  | .channelBindingInstall t r a b c => some (t, r, compositionBody r (a ++ [itemOf 0x0B 1 b] ++ c))
  | .channelBindingRemove t r a b c => some (t, r, compositionBody r (a ++ [itemOf 0x0B 2 b] ++ c))
  | .portShareInstall t r a b c => some (t, r, compositionBody r (a ++ [itemOf 0x0C 1 b] ++ c))
  | .portShareRemove t r a b c => some (t, r, compositionBody r (a ++ [itemOf 0x0C 2 b] ++ c))
  | .publishedRangeInstall t r a b c => some (t, r, compositionBody r (a ++ [itemOf 0x0D 1 b] ++ c))
  | .publishedRangeRemove t r a b c => some (t, r, compositionBody r (a ++ [itemOf 0x0D 2 b] ++ c))
  | .forwardingInstall t r a b c => some (t, r, compositionBody r (a ++ [itemOf 0x0E 1 b] ++ c))
  | .forwardingRemove t r a b c => some (t, r, compositionBody r (a ++ [itemOf 0x0E 2 b] ++ c))
  | .sourceRangesInstall t r a b c => some (t, r, compositionBody r (a ++ [itemOf 0x0F 1 b] ++ c))
  | .sourceRangesRemove t r a b c => some (t, r, compositionBody r (a ++ [itemOf 0x0F 2 b] ++ c))
  | .clusterItem t r a b c => some (t, r, compositionBody r (a ++ [itemOf 0x10 1 b] ++ c))
  | .partitionSetup t r a b c => some (t, r, compositionBody r (a ++ [itemOf 0x11 1 b] ++ c))
  | .partitionTeardown t r a b c => some (t, r, compositionBody r (a ++ [itemOf 0x11 1 b] ++ c))
  | .partitionRingInstall t r a b c => some (t, r, compositionBody r (a ++ [itemOf 0x12 1 b] ++ c))
  | .partitionRingRemove t r a b c => some (t, r, compositionBody r (a ++ [itemOf 0x12 2 b] ++ c))
  | .nodeAndPairInstall t r a b c => some (t, r, compositionBody r (a ++ [itemOf 0x13 1 b] ++ c))
  | .journalReset t r a b c => some (t, r, compositionBody r (a ++ [itemOf 0x13 1 b] ++ c))
  | .standbyEnter t r a b c => some (t, r, compositionBody r (a ++ [itemOf 0x13 1 b] ++ c))
  | .standbyLeave t r a b c => some (t, r, compositionBody r (a ++ [itemOf 0x13 1 b] ++ c))
  | .deviceAdmit t r a b c => some (t, r, compositionBody r (a ++ [itemOf 0x13 1 b] ++ c))
  | .witnessSetInstall t r a b c => some (t, r, compositionBody r (a ++ [itemOf 0x14 1 b] ++ c))
  | _ => none

/-- The record of some bytes, as the queue holds it. -/
def Claims.recordAs (path : RecPath) (b : Bytes) : QRec :=
  { path := path, bytes := b, signer := beAt b 3 1, number := beAt b 8 8, recType := beAt b 0 2 }

/-- A record on a path that serves passes checks 1 to 5 of R536, and nothing is ahead of it. -/
def Claims.comes (s : State) (path : RecPath) (wrapped : Bytes) (q : QRec) : Prop :=
  q = Claims.recordAs path (recordIn path wrapped) ∧ s.pathServes path = true ∧ (∀ h, path = .frame h → s.warp.arrived = []) ∧
  wrapperOk q.bytes = true ∧ s.recordMayCome path q.bytes = true ∧ s.recordSigned q.bytes = true ∧
  (∀ e ∈ s.mram.history, ¬(e.1 = q.signer ∧ e.2.1 = q.number)) ∧ nth s.mram.high (q.signer - 1) < q.number ∧
  s.hoop.queue = [] ∧ s.hoop.witnessWait = [] ∧ s.hoop.running = none ∧ s.markersGo = true

/-- A record is turned away before its body is judged: answered on its path (no frame), and nothing of it has happened. -/
def Claims.turnedAway (path : RecPath) (number : Nat) (st : Status) (s u : State) : Prop :=
  (match path with
    | .doe fn => look fn u.hoop.answers = some (s.recordBytes number st 0xFFFF)
    | .mailbox fn slot => look (fn, slot) u.hoop.responses = some (s.recordBytes number st 0xFFFF)
    | .i3c => look 2 u.hoop.answers = some (s.recordBytes number st 0xFFFF)
    | .frame _ => False) ∧
  u.tabs = s.tabs ∧ u.mram = s.mram ∧ u.mem = s.mem ∧ u.jrn = s.jrn ∧ u.parts = s.parts ∧ u.hlt = s.hlt ∧ u.eng = s.eng ∧
    u.hoop.queue = s.hoop.queue ∧ u.hoop.running = s.hoop.running ∧ u.hoop.phase = s.hoop.phase

/-- Every record is judged in the order of R536 before its body is: a full queue turns it away (R539), then its wrapper, its type (R538), whether it may come
(R535, R571), its signature, a repeat of a consumed record (answered with its status), its number (R537). One that passes them is judged at once where nothing
is ahead of it; else the queue's front goes when nothing is being applied. A mailbox doorbell submits its slot (R546). The model's own reading or choice in it:
notes/assumptions/102.md, notes/assumptions/110.md, notes/assumptions/142.md. -/
def Obligations.RecordsAreJudgedBeforeTheirBodies : Prop :=
  (∀ i s t r body b n, i.wellFormed = true → Claims.brings i = some (t, r, body) → b = recordIn r.path (wrapperBytes r body) → n = beAt b 8 8 →
    s.pathServes r.path = true → (∀ h, r.path ≠ .frame h) →
    (64 ≤ s.queueFill → gives i s (Claims.turnedAway r.path n .throttled s)) ∧
    (s.queueFill < 64 → wrapperOk b = false → gives i s (Claims.turnedAway r.path n .format s)) ∧
    (s.queueFill < 64 → wrapperOk b = true → signerOf (beAt b 0 2) = none → gives i s (Claims.turnedAway r.path n .unsupported s)) ∧
    (s.queueFill < 64 → wrapperOk b = true → (signerOf (beAt b 0 2)).isSome = true → s.recordMayCome r.path b = false →
      gives i s (Claims.turnedAway r.path n .denied s)) ∧
    (s.queueFill < 64 → wrapperOk b = true → s.recordMayCome r.path b = true → s.recordSigned b = false →
      gives i s (Claims.turnedAway r.path n .denied s)) ∧
    (∀ st, s.queueFill < 64 → wrapperOk b = true → s.recordMayCome r.path b = true → s.recordSigned b = true → s.repeated b = some st →
      gives i s (Claims.turnedAway r.path n st s)) ∧
    (s.queueFill < 64 → wrapperOk b = true → s.recordMayCome r.path b = true → s.recordSigned b = true → s.repeated b = none →
      n ≤ nth s.mram.high (beAt b 3 1 - 1) → gives i s (Claims.turnedAway r.path n .staleEpoch s))) ∧
  (∀ i s t r body q, i.wellFormed = true → Claims.brings i = some (t, r, body) → Claims.comes s r.path (wrapperBytes r body) q →
    exec i s = .next ((s.at t).runRecord q)) ∧
  (∀ i s t r body, i.wellFormed = true → Claims.brings i = some (t, r, body) → s.pathServes r.path = false → exec i s = .next (s.at t)) ∧
  (∀ t s q rest, s.hoop.standbyDrain = false → s.hoop.queue = q :: rest → s.hoop.running = none → s.markersGo = true →
    exec (.recordQueueAdvance t) s = .next (((s.at t).modHoop (fun h => { h with queue := rest })).runRecord q)) ∧
  (∀ t s, s.hoop.standbyDrain = false → (∀ q, s.hoop.running ≠ some (q, [.apply])) → s.hoop.running.isSome = true ∨ s.hoop.queue = [] →
    exec (.recordQueueAdvance t) s = .next (s.at t)) ∧
  (∀ t s fn v bytes, fn < 2 → s.fnUp fn = true → s.hoop.phase = .sealed → v.toNat < 256 → s.slotPending fn v.toNat = false →
    gives (.hoopMbxDoorbell t fn v bytes) s (fun u => ∃ w : State, u = w.arriveRecord (.mailbox fn v.toNat) (padTo 4096 bytes) ∧
      look (fn, v.toNat) w.hoop.mailbox = some (padTo 4096 bytes) ∧ w.slotPending fn v.toNat = true ∧ w.mram = s.mram ∧ w.tabs = s.tabs ∧
      w.hoop.queue = s.hoop.queue ∧ w.hoop.running = s.hoop.running ∧ w.mem = s.mem ∧ w.jrn = s.jrn ∧ w.parts = s.parts ∧
      (∀ k, k ≠ (fn, v.toNat) → look k w.hoop.responses = look k s.hoop.responses))) ∧
  (∀ t s fn v bytes, fn < 2 → s.fnUp fn = false ∨ s.hoop.phase ≠ .sealed ∨ 256 ≤ v.toNat ∨ s.slotPending fn v.toNat = true →
    exec (.hoopMbxDoorbell t fn v bytes) s = .next (s.at t))

/-- A record that comes and is in force: the command that brings it, its wrapper and its body as the queue holds it. -/
def Claims.inForce (i : Instr) (s : State) (t : Nat) (q : QRec) : Prop :=
  i.wellFormed = true ∧ ∃ r body, Claims.brings i = some (t, r, body) ∧ Claims.comes s r.path (wrapperBytes r body) q

/-- The other partitions stand as they were, but for the index of their telemetry rings, which a lost route's event may advance. -/
def Claims.othersStand (p : Nat) (s u : State) : Prop := ∀ k, k ≠ p → { u.part k with ringIndex := (s.part k).ringIndex } = s.part k

/-- The owner's records take effect and are consumed (R537). A revocation leaves no entry of its grants that is not revoking (R139, R543); a publish-witness of
the epoch in force is a contact of its manager (R603), one of a later epoch fences the device (R605); a consent begins its scope (R466 to R468); a replay lock
begins and ends (R489, R490); a certificate fragment is kept, and the last one replaces slot 1 (R544); a device reset begins to drain (R579). The model's own
reading or choice in it: notes/assumptions/101.md, notes/assumptions/111.md, notes/assumptions/112.md, notes/assumptions/114.md, notes/assumptions/115.md. -/
def Obligations.OwnerRecordsTakeEffect : Prop :=
  (∀ t s i q r0 b0, i = Instr.revocation t r0 b0 → Claims.inForce i s t q → q.recType = 0x0C02 → s.mem.filter = [] →
    (BitVec.ofNat 32 (beAt q.body 4 4) = s.tabs.compEpoch → beAt q.body 2 2 ≤ 256 → q.body.length = 8 + 8 * beAt q.body 2 2 →
      gives i s (fun u => Claims.recordEnds q .ok 0xFFFF u ∧ (∀ e ∈ u.tabs.access, ∀ x ∈ chunks 8 (q.body.drop 8),
        e.node.toNat = beAt x 0 2 → e.cid.toNat = beAt x 2 2 → e.grant = beAt x 4 4 → e.revoking = true ∧ e.accepted ≠ 0) ∧
        u.tabs.runs = s.tabs.runs ∧ u.jrn.reqs = s.jrn.reqs ∧ u.hlt = s.hlt)) ∧
    (8 ≤ q.body.length → beAt q.body 2 2 ≤ 256 → BitVec.ofNat 32 (beAt q.body 4 4) ≠ s.tabs.compEpoch →
      gives i s (fun u => Claims.recordEnds q .staleEpoch 0xFFFF u ∧ u.tabs = s.tabs ∧ u.jrn.reqs = s.jrn.reqs))) ∧
  (∀ t s i q r0 b0, i = Instr.publishWitness t r0 b0 → Claims.inForce i s t q → q.recType = 0x0C03 → witnessForm q.body = true →
    (s.witnessSigned q = false → gives i s (fun u => Claims.recordEnds q .denied 0xFFFF u ∧ u.hlt = s.hlt ∧ u.tabs = s.tabs)) ∧
    (s.witnessSigned q = true → BitVec.ofNat 32 (beAt q.body 4 4) = s.tabs.compEpoch → s.jrn.soloHold = none → s.hlt.fence = 1 →
      gives i s (fun u => Claims.recordEnds q .ok 0xFFFF u ∧ u.tabs = s.tabs ∧ u.hlt = (if beAt q.body 2 1 = 1 then
        { s.hlt with contactA := some (max s.now t) } else { s.hlt with contactB := some (max s.now t) }))) ∧
    (s.witnessSigned q = true → s.tabs.compEpoch.toNat < beAt q.body 4 4 → s.hlt.fence = 0 ∨ s.hlt.fence = 2 →
      gives i s (fun u => Claims.recordEnds q .ok 0xFFFF u ∧ u.hlt.fence = 3 ∧ u.hlt.fenceEvent = true))) ∧
  (∀ t s q, s.hoop.witnessWait = [q] → q.recType = 0x0C03 → (∀ e ∈ s.mram.history, ¬(e.1 = q.signer ∧ e.2.1 = q.number)) → witnessForm q.body = true →
    s.witnessSigned q = true → BitVec.ofNat 32 (beAt q.body 4 4) = s.tabs.compEpoch → s.jrn.soloHold = none → s.hlt.fence = 1 →
    gives (.publishWitnessDeferred t) s (fun u => Claims.recordEnds q .ok 0xFFFF u ∧ u.hoop.witnessWait = [] ∧ u.tabs = s.tabs ∧
      u.hlt = (if beAt q.body 2 1 = 1 then { s.hlt with contactA := some (max s.now t) } else { s.hlt with contactB := some (max s.now t) }))) ∧
  (∀ t s, s.hoop.witnessWait = [] → exec (.publishWitnessDeferred t) s = .next (s.at t)) ∧
  (∀ t s i q r0 b0 p, i = Instr.consent t r0 b0 → Claims.inForce i s t q → q.recType = 0x0C51 → p = beAt q.body 2 1 →
    (s.consentRefused q.body = none → p < s.parts.length → gives i s (fun u => Claims.recordEnds q .ok 0xFFFF u ∧ slice q.body 16 16 ∈ (u.part p).nonces ∧
      (u.part p).consent = (if beAt q.body 3 1 = 0 then none else
        some ⟨beAt q.body 3 1, max s.now t + beAt q.body 12 4 * ticksPerMs, slice q.body 16 16⟩) ∧
      (u.part p).consents = (s.part p).consents + (if beAt q.body 3 1 = 0 then 0 else 1) ∧ Claims.othersStand p s u ∧ u.tabs = s.tabs)) ∧
    (∀ st, s.consentRefused q.body = some st → gives i s (fun u => Claims.recordEnds q st 0xFFFF u ∧ u.tabs = s.tabs ∧
      ∀ k, (u.part k).consent = (s.part k).consent ∧ (u.part k).nonces = (s.part k).nonces))) ∧
  (∀ t s i q r0 b0 p, i = Instr.replayLockOn t r0 b0 → Claims.inForce i s t q → q.recType = 0x0C52 → beAt q.body 3 1 = 1 → p = beAt q.body 2 1 →
    s.lockRefused q.body = none → p < s.parts.length → s.locked p = false →
    gives i s (fun u => Claims.recordEnds q .ok 0xFFFF u ∧ (u.part p).lock = some (lockOf q.body) ∧ Claims.othersStand p s u ∧
      u.tabs = s.tabs ∧ u.jrn.reqs = s.jrn.reqs)) ∧
  (∀ t s i q r0 b0 p, i = Instr.replayLockOff t r0 b0 → Claims.inForce i s t q → q.recType = 0x0C52 → p = beAt q.body 2 1 →
    s.lockRefused q.body = none → s.locked p = true → (s.part p).batch = none →
    gives i s (fun u => Claims.recordEnds q .ok 0xFFFF u ∧ (u.part p).lock = none ∧
      (u.part p).oldLock = (if 0 < (s.part p).reserved then (s.part p).lock else none) ∧ Claims.othersStand p s u ∧
      u.tabs = s.tabs ∧ u.jrn.reqs = s.jrn.reqs)) ∧
  (∀ t s i q r0 b0 n, i = Instr.ownerCertificateFragment t r0 b0 → Claims.inForce i s t q → q.recType = 0x0C70 → n = beAt q.body 4 4 →
    12 ≤ q.body.length → isZero q.body 2 2 = true → n ≠ 0 → n ≤ 16384 → beAt q.body 8 4 + (q.body.length - 12) ≤ n → s.hoop.certParts = none →
    (assembled n [(beAt q.body 8 4, q.body.drop 12)] = none → gives i s (fun u => Claims.recordEnds q .ok 0xFFFF u ∧
      u.hoop.certParts = some (n, [(beAt q.body 8 4, q.body.drop 12)]) ∧ u.mram.slot1 = s.mram.slot1 ∧ u.tabs = s.tabs)) ∧
    (∀ chain, assembled n [(beAt q.body 8 4, q.body.drop 12)] = some chain → gives i s (fun u => u.hoop.certParts = none ∧ u.tabs = s.tabs ∧
      (if Config.certifies chain then Claims.recordEnds q .ok 0xFFFF u ∧ u.mram.slot1 = chain
        else Claims.recordEnds q .denied 0xFFFF u ∧ u.mram.slot1 = s.mram.slot1)))) ∧
  (∀ t s i q r0 b0, i = Instr.deviceReset t r0 b0 → Claims.inForce i s t q → q.recType = 0x0C80 → q.body.length = 8 → isZero q.body 3 1 = true →
    (beAt q.body 2 1 = 1 → BitVec.ofNat 32 (beAt q.body 4 4) = s.tabs.compEpoch →
      gives i s (fun u => u.hoop.resetting = true ∧ u.hoop.running = some (q, [.reset]) ∧ u.mram = s.mram ∧ u.tabs = s.tabs ∧ u.mem = s.mem ∧
        u.jrn = s.jrn ∧ u.parts = s.parts)) ∧
    (1 < beAt q.body 2 1 → gives i s (fun u => Claims.recordEnds q .unsupported 0xFFFF u ∧ u.hoop.resetting = s.hoop.resetting ∧ u.tabs = s.tabs)))

/-- The partner's records take effect (R448, R544, R618): a key transfer gives a partition its key, and a partition that awaits it serves; an admission offer is
answered and the serving side's resync begins; an answer to the open offer begins the restarting side's. The model's own reading or choice in it:
notes/assumptions/90.md, notes/assumptions/104.md. -/
def Obligations.PartnerRecordsTakeEffect : Prop :=
  (∀ t s i q r0 b0 p k, i = Instr.keyTransfer t r0 b0 → Claims.inForce i s t q → q.recType = 0x0C60 → p = beAt q.body 2 1 → q.body.length = 84 →
    p < s.parts.length → p < 16 → isZero q.body 3 1 = true → BitVec.ofNat 32 (beAt q.body 8 4) = s.tabs.compEpoch →
    (s.part p).state = .active ∨ (s.part p).state = .free → s.hoop.transportKey = some k →
    match kwUnwrap k (slice q.body 12 72) with
    | some key => gives i s (fun u => Claims.recordEnds q .ok 0xFFFF u ∧ (u.part p).key = some key ∧ (u.part p).keyId = beAt q.body 4 4 ∧
        (u.part p).keyPresent = true ∧ (u.part p).awaiting = false ∧
        (u.part p).state = (if (s.part p).awaiting then .active else (s.part p).state) ∧ u.tabs = s.tabs)
    | none => gives i s (fun u => Claims.recordEnds q .denied 0xFFFF u ∧ (u.part p).key = (s.part p).key ∧ u.tabs = s.tabs)) ∧
  (∀ t s i q r0 b0, i = Instr.pairAdmissionOffer t r0 b0 → Claims.inForce i s t q → q.recType = 0x0C61 → beAt q.body 2 1 = 1 →
    s.admissionRefused q.body = none → (∀ p < 16, (s.part p).keyPresent = false) →
    gives i s (fun u => ∃ w : State, u = w.resyncSend ∧ w.hoop.transportKey.isSome = true ∧ w.hoop.offerNonce = none ∧
      Claims.recordEnds q .ok 0xFFFF w ∧ (∃ o ∈ w.jrn.outs, o.owner = .admission ∧ o.hdr.opcode = 0xA0 ∧ o.toward = s.tabs.partner) ∧
      w.tabs = s.tabs ∧ w.jrn.reqs = s.jrn.reqs)) ∧
  (∀ t s i q r0 b0 own, i = Instr.pairAdmissionAnswer t r0 b0 → Claims.inForce i s t q → q.recType = 0x0C61 → beAt q.body 2 1 = 2 →
    s.admissionRefused q.body = none → s.hoop.offerNonce = some own →
    gives i s (fun u => Claims.recordEnds q .ok 0xFFFF u ∧ u.hoop.offerNonce = none ∧ u.hlt.resync = 1 ∧ u.hlt.resyncDone = false ∧
      u.hoop.transportKey = some (s.deriveKey (slice q.body 8 32) own (slice q.body 40 16)) ∧ (∀ p ∈ u.parts, p.keyPresent = false) ∧
      (∀ x ∈ u.jrn.writers, x.journal = .resync ∧ x.ring = [] ∧ x.anchor.state = .stale) ∧ u.jrn.streams = [] ∧ u.tabs = s.tabs)) ∧
  (∀ t s i q r0 b0 st, i = Instr.pairAdmissionOffer t r0 b0 ∨ i = Instr.pairAdmissionAnswer t r0 b0 → Claims.inForce i s t q → q.recType = 0x0C61 →
    s.admissionRefused q.body = some st →
    gives i s (fun u => Claims.recordEnds q st 0xFFFF u ∧ u.hoop.transportKey = s.hoop.transportKey ∧ u.hlt = s.hlt ∧ u.tabs = s.tabs))

/-! ## Composition records (R540 to R542) -/

/-- A composition record that comes, of the epochs in force and with one item. -/
def Claims.sole (s : State) (r : RecEnv) (kind op : Nat) (body : Bytes) (q : QRec) : Prop :=
  pathOk r.path = true ∧ r.recType = 0x0C01 ∧ r.bodyLen.toNat = 24 + body.length ∧ r.compEpoch = s.tabs.compEpoch ∧ r.mapEpoch = s.tabs.mapEpoch ∧
    r.compReserved = 0 ∧ body ≠ [] ∧ Claims.comes s r.path (wrapperBytes r (compositionBody r [itemOf kind op body])) q

/-- The record has taken effect: `w` is the state with its items applied, then comes what follows them (R459, R602, R613), and the record is acknowledged, or waits for
what it names (R541). -/
def Claims.follows (t : Nat) (s : State) (q : QRec) (w u : State) : Prop :=
  u = ((w.afterItems (s.at t) q.items).1).applied q ((w.afterItems (s.at t) q.items).2)

/-- The record's items change the tables, to these, and nothing else. -/
def Claims.puts (t : Nat) (s : State) (q : QRec) (tabs : Tables) (u : State) : Prop := Claims.follows t s q { s.at t with tabs := tabs } u

/-- A composition record is applied whole or not at all (R541): the first item that fails refuses it, with its status and index, and nothing of it has happened;
so does an epoch that is neither the one in force nor its successor (R540). One without items still advances the epochs it names (R540, R611, R612). The model's
own reading or choice in it: notes/assumptions/106.md. -/
def Obligations.CompositionsAreAllOrNothing : Prop :=
  (∀ i s t q, Claims.inForce i s t q → q.recType = 0x0C01 → 16 ≤ q.body.length → beAt q.body 2 2 ≤ 255 →
    (∀ st k, s.epochsOk (BitVec.ofNat 32 (beAt q.body 4 4)) (BitVec.ofNat 16 (beAt q.body 8 2)) = true → isZero q.body 10 6 = true →
      State.applyItems (beAt q.body 2 2) 0 (q.body.drop 16)
        ((s.at t).setEpochs (BitVec.ofNat 32 (beAt q.body 4 4)) (BitVec.ofNat 16 (beAt q.body 8 2))) [] = .error (st, k) →
      gives i s (fun u => Claims.recordEnds q st k u ∧ u.tabs = s.tabs ∧ u.jrn = s.jrn ∧ u.eng = s.eng ∧ u.chans = s.chans ∧ u.hlt = s.hlt ∧
        u.arbs = s.arbs ∧ ∀ p, { u.part p with ringIndex := (s.part p).ringIndex } = s.part p)) ∧
    (s.takesEpoch = false → BitVec.ofNat 32 (beAt q.body 4 4) ≠ s.tabs.compEpoch → BitVec.ofNat 32 (beAt q.body 4 4) ≠ s.tabs.compEpoch + 1 →
      gives i s (fun u => Claims.recordEnds q .staleEpoch 0xFFFF u ∧ u.tabs = s.tabs ∧ u.jrn = s.jrn)) ∧
    (s.takesEpoch = false → BitVec.ofNat 16 (beAt q.body 8 2) ≠ s.tabs.mapEpoch → BitVec.ofNat 16 (beAt q.body 8 2) ≠ s.tabs.mapEpoch + 1 →
      gives i s (fun u => Claims.recordEnds q .staleEpoch 0xFFFF u ∧ u.tabs = s.tabs ∧ u.jrn = s.jrn))) ∧
  (∀ i t s r q, i ∈ [Instr.compositionEpochAdvance t r [], .mapEpochAdvance t r []] → pathOk r.path = true → r.recType = 0x0C01 → r.bodyLen = 16 →
    r.compReserved = 0 → r.compEpoch = s.tabs.compEpoch ∨ r.compEpoch = s.tabs.compEpoch + 1 → r.mapEpoch = s.tabs.mapEpoch ∨ r.mapEpoch = s.tabs.mapEpoch + 1 →
    Claims.comes s r.path (wrapperBytes r (compositionBody r [])) q →
    gives i s (fun u => ∃ w : State, Claims.follows t s q w u ∧ w.tabs = { s.tabs with
        compEpoch := r.compEpoch, mapEpoch := r.mapEpoch, grace := if r.mapEpoch = s.tabs.mapEpoch then s.tabs.grace else some (max s.now t) } ∧
      (r.compEpoch ≠ s.tabs.compEpoch → ∀ p < 16, (w.part p).consent = none) ∧ w.jrn = s.jrn ∧ w.eng = s.eng ∧ w.hlt = s.hlt))

/-- An install item whose form and checks stand puts its entry into its table, in the place of the entry of the same name where the table holds one of each
name, and changes nothing else (R542); an empty access entry, range or extent, and a span of no node, install nothing. A service restarts (R190) on a bucket of
its partition, on the wheel, or on the wheel for want of one (R189); a schedule's fetches begin (R387); a bound channel is idle (R421); a view begins at version
0 (R481). The model's own reading or choice in it: notes/assumptions/94.md, notes/assumptions/95.md. -/
def Obligations.InstalledItemsTakeTheirPlace : Prop :=
  (∀ t s r b q x, Claims.sole s r 0x01 1 b q → parseContext b = .ok x → s.checkContext x = none →
    gives (.contextInstall t r [] b []) s (fun u => ∃ l, Claims.puts t s q { s.tabs with contexts := l } u ∧ x ∈ l ∧
      ∀ y : Context, ¬(y.node = x.node ∧ y.cid = x.cid) → (y ∈ l ↔ y ∈ s.tabs.contexts))) ∧
  (∀ t s r b q x, Claims.sole s r 0x02 1 b q → parseRun b = .ok x → s.checkRun x = none →
    gives (.runInstall t r [] b []) s (Claims.puts t s q { s.tabs with runs := s.tabs.runs ++ [x] })) ∧
  (∀ t s r b q x, Claims.sole s r 0x03 1 b q → parseAccess b (some 1) = .ok x → s.checkAccess x = none →
    gives (.accessEntryInstall t r [] b []) s
      (Claims.puts t s q (if x.length = 0 then s.tabs else { s.tabs with access := s.tabs.access ++ [x] }))) ∧
  (∀ t s r b q x, Claims.sole s r 0x04 1 b q → parseSubscriber b = .ok x → s.checkSubscriber x = none →
    gives (.subscriberInstall t r [] b []) s (Claims.puts t s q { s.tabs with subs := s.tabs.subs.filter (fun y => y.num ≠ x.num) ++ [x] })) ∧
  (∀ t s r b q x, Claims.sole s r 0x05 1 b q → parseService b = .ok x → s.checkService x = none →
    gives (.serviceInstall t r [] b []) s (fun u => ∃ w : State, Claims.follows t s q w u ∧ w.jrn = s.jrn ∧ w.warp = s.warp ∧
      (x.shaping ≠ 1 → w.service x.sub x.svc = some { x with tokens := 0, due := s.warp.wheel }) ∧
      (x.shaping = 1 → w.service x.sub x.svc = some (
        if ({ s with tabs := { s.tabs with services := s.tabs.services.filter (fun y => !(y.sub = x.sub && y.svc = x.svc)) } }).bucketFree (s.subPart x.sub)
        then { x with bucket := true, tokens := 0, due := s.warp.wheel }
        else { x with shaping := 2, rate := max 7 x.rate, tokens := 0, due := s.warp.wheel }) ∧
        ∀ a c, (a, c) ≠ (x.sub, x.svc) → w.service a c = s.service a c))) ∧
  (∀ t s r b q x, Claims.sole s r 0x06 1 b q → parseGroup b = .ok x → s.checkGroup x = none →
    gives (.groupInstall t r [] b []) s (Claims.puts t s q { s.tabs with groups := s.tabs.groups.filter (fun y => y.id ≠ x.id) ++ [x] })) ∧
  (∀ t s r b q x, Claims.sole s r 0x07 1 b q → parseSumac b = .ok x → s.checkSumac x = none →
    gives (.sumacRangeInstall t r [] b []) s
      (Claims.puts t s q (if x.length = 0 then s.tabs else { s.tabs with sumac := s.tabs.sumac ++ [x] }))) ∧
  (∀ t s r b q x, Claims.sole s r 0x08 1 b q → parseExtent b = .ok x → s.checkExtent x = none →
    gives (.extentInstall t r [] b []) s
      (Claims.puts t s q (if x.length = 0 then s.tabs else { s.tabs with extents := s.tabs.extents ++ [x] }))) ∧
  (∀ t s r b q x, Claims.sole s r 0x09 1 b q → parseMirrored b = .ok x → s.checkMirrored x = none →
    gives (.mirroredRangeInstall t r [] b []) s
      (Claims.puts t s q (if x.length = 0 then s.tabs else { s.tabs with mirrored := s.tabs.mirrored ++ [x] }))) ∧
  (∀ t s r b q x, Claims.sole s r 0x0A 1 b q → parseSchedule b = .ok x → s.checkSchedule x = none →
    gives (.prefetchScheduleInstall t r [] b []) s (fun u => ∃ w : State, Claims.follows t s q (w.pfPump x.part) u ∧
      w.tabs = { s.tabs with schedules := s.tabs.schedules.filter (fun y => y.part ≠ x.part) ++ [x] } ∧
      (∀ y ∈ w.mem.sectors, y.part = x.part → y.pins = []) ∧ w.jrn = s.jrn ∧ w.hlt = s.hlt)) ∧
  (∀ t s r b q x, s.intact → Claims.sole s r 0x0B 1 b q → parseBinding b = .ok x → s.checkBinding x = none →
    gives (.channelBindingInstall t r [] b []) s (fun u => ∃ w : State, Claims.follows t s q w u ∧
      w.tabs = { s.tabs with bindings := s.tabs.bindings ++ [x] } ∧ w.chan x.chan = { state := 1 } ∧
      (∀ k, k ≠ x.chan → w.chan k = s.chan k) ∧ w.jrn = s.jrn)) ∧
  (∀ t s r b q x, Claims.sole s r 0x0C 1 b q → parseShare b = .ok x → s.checkShare x = none →
    gives (.portShareInstall t r [] b []) s (Claims.puts t s q { s.tabs with
      shares := s.tabs.shares.filter (fun y => !(y.port = x.port && y.sub = x.sub && y.part = x.part)) ++ [x] })) ∧
  (∀ t s r b q x, s.intact → Claims.plainNear s x.word 8 → Claims.sole s r 0x0D 1 b q → parsePublished b = .ok x → s.checkPublished x = none →
    gives (.publishedRangeInstall t r [] b []) s (fun u => ∃ w : State, Claims.follows t s q w u ∧
      (x.length = 0 → w = s.at t) ∧ (x.length ≠ 0 → w.tabs = { s.tabs with published := s.tabs.published ++ [x] } ∧
        w.memRead x.word 8 = zeros 8 ∧ Claims.onlyWrites s w x.word 8 ∧ w.jrn = s.jrn))) ∧
  (∀ t s r b q x, Claims.sole s r 0x0E 1 b q → parseForwarding b = .ok x →
    gives (.forwardingInstall t r [] b []) s (Claims.puts t s q (if x.count = 0 then s.tabs else { s.tabs with fwd := x :: s.tabs.fwd }))) ∧
  (∀ t s r b q x, Claims.sole s r 0x0F 1 b q → parseSources b = .ok x →
    gives (.sourceRangesInstall t r [] b []) s (Claims.puts t s q { s.tabs with
      sources := s.tabs.sources.filter (fun y => !(y.port = x.port && y.sub = x.sub)) ++ [x] })) ∧
  (∀ t s r b q x, Claims.sole s r 0x12 1 b q → parseRing b = .ok x → s.checkRing x = none →
    gives (.partitionRingInstall t r [] b []) s (Claims.follows t s q
      (({ s.at t with tabs := { s.tabs with rings := s.tabs.rings.filter (fun (y : PartRing) => y.part ≠ x.part) ++ [x] } }).modPart x.part
        (fun p => { p with ringIndex := 0 }))))

/-- A remove item takes away the entry that it matches (R542). A context takes its entries into revoking and goes with the last of them (R142, R139); a run
leaves the translations of its partition's clusters, and its removal completes when no access through it is in flight (R141); a subscriber or service goes when
its last stamped frame has left (R182); an extent takes its cached sectors with it (R379); a schedule its pins (R386); a channel goes when its descriptor has
ended (R440). The model's own reading or choice in it: notes/assumptions/89.md, notes/assumptions/93.md. -/
def Obligations.RemovedItemsLeaveTheirTables : Prop :=
  (∀ t s r b q x, s.mem.filter = [] → Claims.sole s r 0x01 2 b q → parseContext b = .ok x → x ∈ s.tabs.contexts →
    gives (.contextRemove t r [] b []) s (fun u => ∃ w : State, Claims.follows t s q w u ∧
      (∀ y ∈ w.tabs.contexts, y.node = x.node → y.cid = x.cid → y.removing = true) ∧
      (∀ e ∈ w.tabs.access, e.node = x.node → e.cid = x.cid → e.revoking = true ∧ e.accepted ≠ 0) ∧
      (∀ e ∈ s.tabs.access, ¬(e.node = x.node ∧ e.cid = x.cid) → e.revoking = false → e ∈ w.tabs.access) ∧
      ((∀ e ∈ s.tabs.access, ¬(e.node = x.node ∧ e.cid = x.cid)) → ∀ y ∈ w.tabs.contexts, ¬(y.node = x.node ∧ y.cid = x.cid)) ∧
      w.tabs.runs = s.tabs.runs ∧ w.jrn.reqs = s.jrn.reqs)) ∧
  (∀ t s r b q x, Claims.sole s r 0x02 2 b q → parseRun b = .ok x → x ∈ s.tabs.runs →
    gives (.runRemove t r [] b []) s (fun u => ∃ w : State, Claims.follows t s q w u ∧
      w.tabs = { s.tabs with runs := s.tabs.runs.map (fun y => if y = x then { y with removing := true } else y) } ∧
      (∀ c < 32, w.cluster c = if (s.cluster c).assigned ∧ (s.cluster c).part = x.part
        then { s.cluster c with tlb := (s.cluster c).tlb.filter (fun v => v ≠ x.virtBase) } else s.cluster c) ∧
      w.jrn = s.jrn ∧ w.mem = s.mem)) ∧
  (∀ t (s : State) p v x, s.tabs.runs.find? (fun (y : Run) => y.removing && y.part = p && y.virtBase = v) = some x → (∀ o ∈ s.jrn.outs, s.partOfOut o ≠ p) →
    gives (.runUnmapComplete t p v) s (fun u => u.tabs = { s.tabs with runs := s.tabs.runs.erase x } ∧ u.jrn.reqs = s.jrn.reqs ∧
      ∀ q, s.hoop.running = some (q, [.run p v]) → u.hoop.running = none ∧ Claims.recordEnds q .ok 0xFFFF u)) ∧
  (∀ t (s : State) p v, (∀ y : Run, y ∈ s.tabs.runs → y.part = p → y.virtBase = v → y.removing = false) → exec (.runUnmapComplete t p v) s = .next (s.at t)) ∧
  (∀ t s r b q x e, s.mem.filter = [] → Claims.sole s r 0x03 2 b q → parseAccess b none = .ok x → s.findAccess x = some e →
    gives (.accessEntryRemove t r [] b []) s (fun u => ∃ w : State, Claims.follows t s q w u ∧
      (∀ y ∈ s.tabs.access.erase e, y.revoking = false → y ∈ w.tabs.access) ∧ (∀ y ∈ w.tabs.access, y ∈ s.tabs.access.erase e) ∧
      w.tabs.runs = s.tabs.runs ∧ w.jrn.reqs = s.jrn.reqs)) ∧
  (∀ t s r b q x, Claims.sole s r 0x04 2 b q → parseSubscriber b = .ok x → x ∈ s.tabs.subs →
    (x.num < 16 → gives (.subscriberRemove t r [] b []) s (Claims.puts t s q { s.tabs with subs := s.tabs.subs.erase x })) ∧
    (16 ≤ x.num → s.warp.voq = [] → gives (.subscriberRemove t r [] b []) s (fun u => ∃ w : State, Claims.follows t s q w u ∧
      (∀ y ∈ w.tabs.subs, y.num ≠ x.num) ∧ (∀ y ∈ w.tabs.services, y.sub ≠ x.num) ∧
      (∀ y ∈ s.tabs.subs, y.num ≠ x.num → y.leaving = false → y ∈ w.tabs.subs) ∧ w.jrn = s.jrn))) ∧
  (∀ t s r b q x y, Claims.sole s r 0x05 2 b q → parseService b = .ok x → s.findService x = some y →
    (s.warp.voq = [] → gives (.serviceRemove t r [] b []) s (fun u => ∃ w : State, Claims.follows t s q w u ∧ w.service x.sub x.svc = none ∧
      w.tabs.subs = s.tabs.subs.filter (fun z => !z.leaving) ∧ w.jrn = s.jrn)) ∧
    ((∃ v ∈ s.warp.voq, v.subscriber = some x.sub ∧ v.service = x.svc) → gives (.serviceRemove t r [] b []) s (fun u => ∃ w : State,
      Claims.follows t s q w u ∧ (∃ z ∈ w.tabs.services, z.sub = x.sub ∧ z.svc = x.svc ∧ z.leaving = true) ∧ w.jrn = s.jrn))) ∧
  (∀ t s r b q x, Claims.sole s r 0x06 2 b q → parseGroup b = .ok x → x ∈ s.tabs.groups →
    gives (.groupRemove t r [] b []) s (Claims.puts t s q { s.tabs with groups := s.tabs.groups.erase x })) ∧
  (∀ t s r b q x, Claims.sole s r 0x07 2 b q → parseSumac b = .ok x → x ∈ s.tabs.sumac →
    gives (.sumacRangeRemove t r [] b []) s (Claims.puts t s q { s.tabs with sumac := s.tabs.sumac.erase x })) ∧
  (∀ t s r b q x, Claims.sole s r 0x08 2 b q → parseExtent b = .ok x → x ∈ s.tabs.extents →
    gives (.extentRemove t r [] b []) s (fun u => ∃ w : State, Claims.follows t s q w u ∧
      w.tabs = { s.tabs with extents := s.tabs.extents.erase x } ∧
      w.mem.sectors = s.mem.sectors.filter (fun y => !(x.tray ≤ y.tray && y.tray < x.tray + x.length)) ∧ w.jrn.reqs = s.jrn.reqs)) ∧
  (∀ t s r b q x, Claims.sole s r 0x09 2 b q → parseMirrored b = .ok x → x ∈ s.tabs.mirrored →
    (∀ e ∈ s.tabs.access, e.tier = 2 → overlaps e.base e.length x.base x.length = false) →
    gives (.mirroredRangeRemove t r [] b []) s (Claims.puts t s q { s.tabs with mirrored := s.tabs.mirrored.erase x })) ∧
  (∀ t s r b q x y, Claims.sole s r 0x0A 2 b q → parseSchedule b = .ok x → s.findSchedule x = some y →
    gives (.prefetchScheduleRemove t r [] b []) s (fun u => ∃ w : State, Claims.follows t s q w u ∧
      w.tabs = { s.tabs with schedules := s.tabs.schedules.filter (fun z => z.part ≠ x.part) } ∧
      (∀ z ∈ w.mem.sectors, z.part = x.part → z.pins = []) ∧ w.jrn = s.jrn)) ∧
  (∀ t s r b q x, s.intact → Claims.sole s r 0x0B 2 b q → parseBinding b = .ok x → x ∈ s.tabs.bindings → (s.chan x.chan).unbinding = false →
    gives (.channelBindingRemove t r [] b []) s (fun u => ∃ w : State, Claims.follows t s q w u ∧ (∀ k, k ≠ x.chan → w.chan k = s.chan k) ∧
      (if (s.chan x.chan).active = none
        then w.tabs = { s.tabs with bindings := s.tabs.bindings.filter (fun y => y.chan ≠ x.chan) } ∧ w.chan x.chan = {}
        else w.tabs = s.tabs ∧ w.chan x.chan = { s.chan x.chan with unbinding := true, shadow := none }) ∧ w.jrn = s.jrn)) ∧
  (∀ t s r b q x, Claims.sole s r 0x0C 2 b q → parseShare b = .ok x → x ∈ s.tabs.shares →
    gives (.portShareRemove t r [] b []) s (Claims.puts t s q { s.tabs with shares := s.tabs.shares.erase x })) ∧
  (∀ t s r b q x e, Claims.sole s r 0x0D 2 b q → parsePublished b = .ok x → s.findPublished x = some e →
    (∀ y ∈ s.jrn.reqs, match (y : Req).stage with | .viewWait k _ => k ≠ x.id | .publish k => k ≠ x.id | _ => True) →
    gives (.publishedRangeRemove t r [] b []) s (Claims.puts t s q { s.tabs with published := s.tabs.published.filter (fun y => y.id ≠ x.id) })) ∧
  (∀ t s r b q x, Claims.sole s r 0x0E 2 b q → parseForwarding b = .ok x → x ∈ s.tabs.fwd →
    gives (.forwardingRemove t r [] b []) s (Claims.puts t s q { s.tabs with fwd := s.tabs.fwd.erase x })) ∧
  (∀ t s r b q x, Claims.sole s r 0x0F 2 b q → parseSources b = .ok x → x ∈ s.tabs.sources →
    gives (.sourceRangesRemove t r [] b []) s (Claims.puts t s q { s.tabs with sources := s.tabs.sources.erase x })) ∧
  (∀ t s r b q x, Claims.sole s r 0x12 2 b q → parseRing b = .ok x → x ∈ s.tabs.rings →
    gives (.partitionRingRemove t r [] b []) s (Claims.puts t s q { s.tabs with rings := s.tabs.rings.erase x }))

/-- The items of the device itself. A free cluster is assigned at once and starts empty; an assigned one leaves when its operators have ended (R233). A
partition is set up with its key, or has it transferred first (R446 to R450), and torn down: no entry of it is left, its key is gone and its memory is scrubbed
(R615). A node-and-pair item gives the device its place, resets lost journals, admits it, and begins or leaves STANDBY (R583, R601, R617); a witness set forgets
what was heard from a manager with a new key. The model's own reading or choice in it: notes/assumptions/86.md, notes/assumptions/87.md,
notes/assumptions/91.md, notes/assumptions/108.md, notes/assumptions/116.md, notes/assumptions/119.md. -/
def Obligations.DeviceItemsTakeEffect : Prop :=
  (∀ t s r b q c v m acc, s.intact → Claims.sole s r 0x10 1 b q → b = [c, v, m, 0, 0, 0, 0, 0] → c.toNat < 32 → (1 ≤ m.toNat ∧ m.toNat ≤ 14) ∨ m = 0xFF →
    acc = (if m = 0xFF then (s.cluster c.toNat).accMib else m.toNat) → s.partState c.toNat ≠ .expelled → v.toNat < 16 → s.heldSpare c.toNat = false →
    ((s.cluster c.toNat).assigned = false → gives (.clusterItem t r [] b []) s (fun u => ∃ w : State, Claims.follows t s q w u ∧
      w.cluster c.toNat = { s.cluster c.toNat with
        part := v.toNat, assigned := true, leaving := false, accMib := acc, gated := s.hoop.power == .quiescent, scratch := [], tlb := [] } ∧ (c.toNat, some v.toNat, acc) ∈ w.mram.clusters ∧
      w.tabs = { s.tabs with leaving := s.tabs.leaving.filter (fun (l : Nat × Option Nat × Option Nat) => l.1 ≠ c.toNat) })) ∧
    ((s.cluster c.toNat).assigned = true → (s.cluster c.toNat).part ≠ v.toNat → s.bound c.toNat = false →
      ((∃ j ∈ s.eng.jobs, j.cluster = c.toNat) → gives (.clusterItem t r [] b []) s (Claims.follows t s q
        (({ s.at t with tabs := { s.tabs with leaving := s.tabs.leaving.filter (fun (l : Nat × Option Nat × Option Nat) => l.1 ≠ c.toNat) ++ [(c.toNat, some v.toNat, some acc)] } }).modCluster
          c.toNat (fun x => { x with leaving := true })))) ∧
      ((∀ j ∈ s.eng.jobs, j.cluster ≠ c.toNat) → gives (.clusterItem t r [] b []) s (fun u => ∃ w : State, Claims.follows t s q w u ∧
        (w.cluster c.toNat).part = v.toNat ∧ (w.cluster c.toNat).assigned = true ∧ (w.cluster c.toNat).leaving = false ∧
        (w.cluster c.toNat).accMib = acc ∧ (w.cluster c.toNat).tlb = [] ∧ (w.cluster c.toNat).scratch = [] ∧
        w.tabs = { s.tabs with leaving := s.tabs.leaving.filter (fun (l : Nat × Option Nat × Option Nat) => l.1 ≠ c.toNat) })))) ∧
  (∀ t s r b q p role tenant, s.intact → Claims.sole s r 0x11 1 b q → b = [p, 1, role, 0, 0, 0, 0, 0] ++ tenant → tenant.length = 32 → p.toNat < 16 →
    role.toNat < 2 →
    ((s.part p.toNat).state = .free → (s.part p.toNat).awaiting = false → (s.part p.toNat).keyPresent = false → s.tabs.paired = false →
      gives (.partitionSetup t r [] b []) s (fun u => ∃ w : State, Claims.follows t s q w u ∧ (w.part p.toNat).state = .active ∧
        (w.part p.toNat).key = some (Config.randomBytes s.draws 64) ∧ (w.part p.toNat).keyId = s.mram.keyCounter + 1 ∧
        (w.part p.toNat).keyPresent = true ∧ (w.part p.toNat).tenantKey = tenant ∧ ((w.part p.toNat).primary = true ↔ role = 1) ∧
        (w.part p.toNat).consents = 0 ∧ (w.part p.toNat).nonces = [] ∧ w.mram.keyCounter = s.mram.keyCounter + 1 ∧ w.draws = s.draws + 1 ∧
        (∀ k, k ≠ p.toNat → w.part k = s.part k) ∧ w.tabs = s.tabs ∧ w.jrn = s.jrn)) ∧
    ((s.part p.toNat).state = .free → (s.part p.toNat).awaiting = false → (s.part p.toNat).keyPresent = false → s.tabs.paired = true → s.hlt.admitted = true →
      s.jrn.solo = false → gives (.partitionSetup t r [] b []) s (fun u => u.hoop.running = some (q, [.key p.toNat 0, .apply]) ∧
        (u.part p.toNat).state = .free ∧ (u.part p.toNat).keyTransfer = some (max s.now t) ∧ ((u.part p.toNat).keyPresent = true ↔ role = 1) ∧
        u.tabs = s.tabs ∧ u.jrn.reqs = s.jrn.reqs)) ∧
    ((s.part p.toNat).state = .active → gives (.partitionSetup t r [] b []) s (Claims.follows t s q (s.at t))) ∧
    ((s.part p.toNat).state = .teardown ∨ (s.part p.toNat).state = .scrubbing → gives (.partitionSetup t r [] b []) s (fun u =>
      Claims.recordEnds q .denied 0 u ∧ u.tabs = s.tabs ∧ (u.part p.toNat).state = (s.part p.toNat).state))) ∧
  (∀ t s r b q p role, s.intact → Claims.sole s r 0x11 1 b q → b = [p, 2, role, 0, 0, 0, 0, 0] ++ zeros 32 → p.toNat < 16 → role.toNat < 2 →
    ((s.part p.toNat).state = .active → gives (.partitionTeardown t r [] b []) s (fun u => ∃ w : State, Claims.follows t s q w u ∧
      ((w.part p.toNat).state = .teardown ∨ (w.part p.toNat).state = .scrubbing) ∧ (w.part p.toNat).lock = none ∧ (w.part p.toNat).consent = none ∧
      (∀ x ∈ w.tabs.bindings, x.part ≠ p.toNat))) ∧
    ((s.part p.toNat).state = .active → s.jrn.reqs = [] → gives (.partitionTeardown t r [] b []) s (fun u => ∃ w : State, Claims.follows t s q w u ∧
      (w.part p.toNat).state = .scrubbing ∧ (w.part p.toNat).key = none ∧ (w.part p.toNat).keyPresent = false ∧ (w.part p.toNat).scrub.isSome = true ∧
      (∀ x ∈ w.tabs.contexts, x.part ≠ p.toNat) ∧ (∀ x ∈ w.tabs.access, x.part ≠ p.toNat) ∧ (∀ x ∈ w.tabs.runs, x.part ≠ p.toNat) ∧
      (∀ x ∈ w.tabs.groups, x.part ≠ p.toNat) ∧ (∀ x ∈ w.tabs.sumac, x.part ≠ p.toNat) ∧ (∀ x ∈ w.tabs.extents, x.part ≠ p.toNat) ∧
      (∀ x ∈ w.tabs.mirrored, x.part ≠ p.toNat) ∧ (∀ x ∈ w.tabs.published, x.part ≠ p.toNat) ∧ (∀ x ∈ w.tabs.shares, x.part ≠ p.toNat) ∧
      (∀ x ∈ w.tabs.rings, x.part ≠ p.toNat) ∧ (∀ x ∈ w.tabs.schedules, x.part ≠ p.toNat))) ∧
    ((s.part p.toNat).state = .free → (s.part p.toNat).awaiting = false →
      gives (.partitionTeardown t r [] b []) s (Claims.follows t s q (s.at t)))) ∧
  (∀ i t s r b q x, s.intact → Claims.sole s r 0x13 1 b q → parseNode b = .ok x → s.checkNode x = none →
    i = Instr.nodeAndPairInstall t r [] b [] ∨ (i = .journalReset t r [] b [] ∧ x.reset = true) ∨ (i = .deviceAdmit t r [] b [] ∧ x.admits = true) ∨
      (i = .standbyEnter t r [] b [] ∧ x.standby = true) ∨ (i = .standbyLeave t r [] b [] ∧ x.standby = false) →
    gives i s (fun u => ∃ w : State, Claims.follows t s q w u ∧
      w.tabs = { s.tabs with
        node := x.own, partner := if x.paired then x.partner else 0, paired := x.paired, role := x.role, partnerKey := if x.paired then x.key else [], retiring := s.tabs.retiring ++ x.retired.filter (fun n => !s.tabs.retiring.contains n) } ∧
      (∀ k < 2, if x.reset ∧ (s.writer k).lost then (w.writer k).ring = [] ∧ (w.writer k).head = 0 ∧ (w.writer k).journal = .ready ∧
        (w.writer k).anchor.state = .running ∧ (w.writer k).anchor.generation = (s.writer k).anchor.generation + 1 else w.writer k = s.writer k) ∧
      (if x.admits ∧ s.hlt.fence ≠ 0 ∧ s.hlt.fence ≠ 2 then w.hlt.fence = 0 ∧ w.hlt.admitted = true ∧ w.hlt.contactA = some (max s.now t) ∧
        w.hlt.contactB = some (max s.now t) ∧ w.jrn.soloHold = none else w.hlt = s.hlt ∧ w.jrn.soloHold = s.jrn.soloHold) ∧
      (s.hoop.power ≠ .standby → w.hoop.power = s.hoop.power ∧ w.hoop.standbyDrain = (x.standby || s.hoop.standbyDrain) ∧ w.links = s.links) ∧
      (s.hoop.power = .standby → x.standby = true → w.hoop.power = .standby ∧ w.links = s.links) ∧
      (s.hoop.power = .standby → x.standby = false → w.hoop.power = .active ∧ w.mem.sectors = [] ∧
        (∀ c < 32, (w.cluster c).gated = !(s.cluster c).assigned)) ∧ w.jrn.reqs = s.jrn.reqs ∧ w.parts = s.parts)) ∧
  (∀ t s r b q x, Claims.sole s r 0x14 1 b q → parseWitness b = .ok x →
    gives (.witnessSetInstall t r [] b []) s (fun u => ∃ w : State, Claims.follows t s q w u ∧ w.tabs = { s.tabs with witnesses := some x } ∧
      (∀ a c, s.tabs.witnesses = some (a, c) → w.hlt = { s.hlt with
        contactA := if a = x.1 then s.hlt.contactA else none, contactB := if c = x.2 then s.hlt.contactB else none }) ∧ (s.tabs.witnesses = none → w.hlt = s.hlt) ∧ w.jrn = s.jrn))

/-! ## Values that the spec fixes -/

/-- The state field of an entry takes the values 0 to 6, and 7 to 15 stand for none (R91); a request of no payload addresses no byte, and passes check 13 at any
offset if its master is in the context table (R133). -/
def Obligations.EntryStatesAndEmptyRequests : Prop :=
  [EntryState.free, .applied, .recorded, .refused, .offered, .handed, .mark].map EntryState.code = [0, 1, 2, 3, 4, 5, 6] ∧
  (∀ (b : Bytes) now, 7 ≤ bits (leAt b 29 1) 4 4 → JEntry.ofBytes b now = none) ∧
  (∀ (b : Bytes) now e, JEntry.ofBytes b now = some e → e.state.code = bits (leAt b 29 1) 4 4) ∧
  (∀ (s : State) n c o right copyOk, (s.context n c).isSome = true → s.accessCheck n c o 0 right copyOk = .ok none) ∧
  (∀ (s : State) n c o right copyOk, (s.context n c).isSome = false → s.accessCheck n c o 0 right copyOk = .error .denied)

/-- Settings that load lie in their ranges: `HOOP_QUIESCE_MS` (R590) and, with steps of 8 W from 0 as the model reads them (notes/assumptions/123.md),
`HOOP_POWER_CAP`. An image whose counters are behind, or whose settings do not load, fails its load. Without a value in the image, the defaults stand. -/
def Obligations.PowerSettingsLieInTheirRanges : Prop :=
  (∀ b c, parseSettings b = some c →
    1 ≤ c.hoop.quiesceMs ∧ c.hoop.quiesceMs ≤ 10000 ∧ 300 ≤ c.hoop.powerCap ∧ c.hoop.powerCap ≤ 600 ∧ c.hoop.powerCap % 8 = 0) ∧
  (∀ (s : State) card k b, slotBytes card k = some b → parseSettings ((sectionOf b 0x10).getD []) = none →
    ∃ e ∈ [3, 4, 5, 6, 7], s.loadSlot card k = .error e) ∧
  (∀ (s : State) card k b, slotBytes card k = some b → leAt b 12 4 < s.mram.vendorCounter ∨ leAt b 20 4 < s.mram.ownerCounter →
    ∃ e ∈ [3, 4, 5, 6], s.loadSlot card k = .error e) ∧
  ({} : Settings).hoop.quiesceMs = 100 ∧ ({} : Settings).hoop.powerCap = 600

end
end

