-- ==== Sys2Proof/Laws/State.lean ====
section
/-! SUPPORT. What each named change of the state does to each field, by computation, so that no proof unfolds a record update. -/

namespace Sys2Proof.Machine

@[simp] theorem State.at_now (s : State) (t : Nat) : (State.at t s).now = max s.now t := rfl
@[simp] theorem State.at_cfg (s : State) (t : Nat) : (State.at t s).cfg = s.cfg := rfl
@[simp] theorem State.at_tabs (s : State) (t : Nat) : (State.at t s).tabs = s.tabs := rfl
@[simp] theorem State.at_jrn (s : State) (t : Nat) : (State.at t s).jrn = s.jrn := rfl
@[simp] theorem State.at_mem (s : State) (t : Nat) : (State.at t s).mem = s.mem := rfl
@[simp] theorem State.at_warp (s : State) (t : Nat) : (State.at t s).warp = s.warp := rfl
@[simp] theorem State.at_arbs (s : State) (t : Nat) : (State.at t s).arbs = s.arbs := rfl
@[simp] theorem State.at_links (s : State) (t : Nat) : (State.at t s).links = s.links := rfl
@[simp] theorem State.at_waves (s : State) (t : Nat) : (State.at t s).waves = s.waves := rfl
@[simp] theorem State.at_eng (s : State) (t : Nat) : (State.at t s).eng = s.eng := rfl
@[simp] theorem State.at_chans (s : State) (t : Nat) : (State.at t s).chans = s.chans := rfl
@[simp] theorem State.at_parts (s : State) (t : Nat) : (State.at t s).parts = s.parts := rfl
@[simp] theorem State.at_hlt (s : State) (t : Nat) : (State.at t s).hlt = s.hlt := rfl
@[simp] theorem State.at_hoop (s : State) (t : Nat) : (State.at t s).hoop = s.hoop := rfl
@[simp] theorem State.at_mram (s : State) (t : Nat) : (State.at t s).mram = s.mram := rfl
@[simp] theorem State.at_ctrs (s : State) (t : Nat) : (State.at t s).ctrs = s.ctrs := rfl
@[simp] theorem State.at_draws (s : State) (t : Nat) : (State.at t s).draws = s.draws := rfl
@[simp] theorem State.at_pending (s : State) (t : Nat) : (State.at t s).pending = s.pending := rfl

@[simp] theorem State.modPart_now (s : State) (p : Nat) (f : Partition → Partition) : (s.modPart p f).now = s.now := rfl
@[simp] theorem State.modPart_cfg (s : State) (p : Nat) (f : Partition → Partition) : (s.modPart p f).cfg = s.cfg := rfl
@[simp] theorem State.modPart_tabs (s : State) (p : Nat) (f : Partition → Partition) : (s.modPart p f).tabs = s.tabs := rfl
@[simp] theorem State.modPart_jrn (s : State) (p : Nat) (f : Partition → Partition) : (s.modPart p f).jrn = s.jrn := rfl
@[simp] theorem State.modPart_mem (s : State) (p : Nat) (f : Partition → Partition) : (s.modPart p f).mem = s.mem := rfl
@[simp] theorem State.modPart_warp (s : State) (p : Nat) (f : Partition → Partition) : (s.modPart p f).warp = s.warp := rfl
@[simp] theorem State.modPart_arbs (s : State) (p : Nat) (f : Partition → Partition) : (s.modPart p f).arbs = s.arbs := rfl
@[simp] theorem State.modPart_links (s : State) (p : Nat) (f : Partition → Partition) : (s.modPart p f).links = s.links := rfl
@[simp] theorem State.modPart_waves (s : State) (p : Nat) (f : Partition → Partition) : (s.modPart p f).waves = s.waves := rfl
@[simp] theorem State.modPart_eng (s : State) (p : Nat) (f : Partition → Partition) : (s.modPart p f).eng = s.eng := rfl
@[simp] theorem State.modPart_chans (s : State) (p : Nat) (f : Partition → Partition) : (s.modPart p f).chans = s.chans := rfl
@[simp] theorem State.modPart_parts (s : State) (p : Nat) (f : Partition → Partition) : (s.modPart p f).parts = s.parts.modify p f := rfl
@[simp] theorem State.modPart_hlt (s : State) (p : Nat) (f : Partition → Partition) : (s.modPart p f).hlt = s.hlt := rfl
@[simp] theorem State.modPart_hoop (s : State) (p : Nat) (f : Partition → Partition) : (s.modPart p f).hoop = s.hoop := rfl
@[simp] theorem State.modPart_mram (s : State) (p : Nat) (f : Partition → Partition) : (s.modPart p f).mram = s.mram := rfl
@[simp] theorem State.modPart_ctrs (s : State) (p : Nat) (f : Partition → Partition) : (s.modPart p f).ctrs = s.ctrs := rfl
@[simp] theorem State.modPart_draws (s : State) (p : Nat) (f : Partition → Partition) : (s.modPart p f).draws = s.draws := rfl
@[simp] theorem State.modPart_pending (s : State) (p : Nat) (f : Partition → Partition) : (s.modPart p f).pending = s.pending := rfl

@[simp] theorem State.modWriter_now (s : State) (w : Nat) (f : Writer → Writer) : (s.modWriter w f).now = s.now := rfl
@[simp] theorem State.modWriter_cfg (s : State) (w : Nat) (f : Writer → Writer) : (s.modWriter w f).cfg = s.cfg := rfl
@[simp] theorem State.modWriter_tabs (s : State) (w : Nat) (f : Writer → Writer) : (s.modWriter w f).tabs = s.tabs := rfl
@[simp] theorem State.modWriter_jrn (s : State) (w : Nat) (f : Writer → Writer) : (s.modWriter w f).jrn = { s.jrn with writers := s.jrn.writers.modify w f } := rfl
@[simp] theorem State.modWriter_mem (s : State) (w : Nat) (f : Writer → Writer) : (s.modWriter w f).mem = s.mem := rfl
@[simp] theorem State.modWriter_warp (s : State) (w : Nat) (f : Writer → Writer) : (s.modWriter w f).warp = s.warp := rfl
@[simp] theorem State.modWriter_arbs (s : State) (w : Nat) (f : Writer → Writer) : (s.modWriter w f).arbs = s.arbs := rfl
@[simp] theorem State.modWriter_links (s : State) (w : Nat) (f : Writer → Writer) : (s.modWriter w f).links = s.links := rfl
@[simp] theorem State.modWriter_waves (s : State) (w : Nat) (f : Writer → Writer) : (s.modWriter w f).waves = s.waves := rfl
@[simp] theorem State.modWriter_eng (s : State) (w : Nat) (f : Writer → Writer) : (s.modWriter w f).eng = s.eng := rfl
@[simp] theorem State.modWriter_chans (s : State) (w : Nat) (f : Writer → Writer) : (s.modWriter w f).chans = s.chans := rfl
@[simp] theorem State.modWriter_parts (s : State) (w : Nat) (f : Writer → Writer) : (s.modWriter w f).parts = s.parts := rfl
@[simp] theorem State.modWriter_hlt (s : State) (w : Nat) (f : Writer → Writer) : (s.modWriter w f).hlt = s.hlt := rfl
@[simp] theorem State.modWriter_hoop (s : State) (w : Nat) (f : Writer → Writer) : (s.modWriter w f).hoop = s.hoop := rfl
@[simp] theorem State.modWriter_mram (s : State) (w : Nat) (f : Writer → Writer) : (s.modWriter w f).mram = s.mram := rfl
@[simp] theorem State.modWriter_ctrs (s : State) (w : Nat) (f : Writer → Writer) : (s.modWriter w f).ctrs = s.ctrs := rfl
@[simp] theorem State.modWriter_draws (s : State) (w : Nat) (f : Writer → Writer) : (s.modWriter w f).draws = s.draws := rfl
@[simp] theorem State.modWriter_pending (s : State) (w : Nat) (f : Writer → Writer) : (s.modWriter w f).pending = s.pending := rfl

@[simp] theorem State.modCluster_now (s : State) (c : Nat) (f : Cluster → Cluster) : (s.modCluster c f).now = s.now := rfl
@[simp] theorem State.modCluster_cfg (s : State) (c : Nat) (f : Cluster → Cluster) : (s.modCluster c f).cfg = s.cfg := rfl
@[simp] theorem State.modCluster_tabs (s : State) (c : Nat) (f : Cluster → Cluster) : (s.modCluster c f).tabs = s.tabs := rfl
@[simp] theorem State.modCluster_jrn (s : State) (c : Nat) (f : Cluster → Cluster) : (s.modCluster c f).jrn = s.jrn := rfl
@[simp] theorem State.modCluster_mem (s : State) (c : Nat) (f : Cluster → Cluster) : (s.modCluster c f).mem = s.mem := rfl
@[simp] theorem State.modCluster_warp (s : State) (c : Nat) (f : Cluster → Cluster) : (s.modCluster c f).warp = s.warp := rfl
@[simp] theorem State.modCluster_arbs (s : State) (c : Nat) (f : Cluster → Cluster) : (s.modCluster c f).arbs = s.arbs := rfl
@[simp] theorem State.modCluster_links (s : State) (c : Nat) (f : Cluster → Cluster) : (s.modCluster c f).links = s.links := rfl
@[simp] theorem State.modCluster_waves (s : State) (c : Nat) (f : Cluster → Cluster) : (s.modCluster c f).waves = s.waves := rfl
@[simp] theorem State.modCluster_eng (s : State) (c : Nat) (f : Cluster → Cluster) : (s.modCluster c f).eng = { s.eng with clusters := s.eng.clusters.modify c f } := rfl
@[simp] theorem State.modCluster_chans (s : State) (c : Nat) (f : Cluster → Cluster) : (s.modCluster c f).chans = s.chans := rfl
@[simp] theorem State.modCluster_parts (s : State) (c : Nat) (f : Cluster → Cluster) : (s.modCluster c f).parts = s.parts := rfl
@[simp] theorem State.modCluster_hlt (s : State) (c : Nat) (f : Cluster → Cluster) : (s.modCluster c f).hlt = s.hlt := rfl
@[simp] theorem State.modCluster_hoop (s : State) (c : Nat) (f : Cluster → Cluster) : (s.modCluster c f).hoop = s.hoop := rfl
@[simp] theorem State.modCluster_mram (s : State) (c : Nat) (f : Cluster → Cluster) : (s.modCluster c f).mram = s.mram := rfl
@[simp] theorem State.modCluster_ctrs (s : State) (c : Nat) (f : Cluster → Cluster) : (s.modCluster c f).ctrs = s.ctrs := rfl
@[simp] theorem State.modCluster_draws (s : State) (c : Nat) (f : Cluster → Cluster) : (s.modCluster c f).draws = s.draws := rfl
@[simp] theorem State.modCluster_pending (s : State) (c : Nat) (f : Cluster → Cluster) : (s.modCluster c f).pending = s.pending := rfl

@[simp] theorem State.modChan_now (s : State) (c : Nat) (f : Channel → Channel) : (s.modChan c f).now = s.now := rfl
@[simp] theorem State.modChan_cfg (s : State) (c : Nat) (f : Channel → Channel) : (s.modChan c f).cfg = s.cfg := rfl
@[simp] theorem State.modChan_tabs (s : State) (c : Nat) (f : Channel → Channel) : (s.modChan c f).tabs = s.tabs := rfl
@[simp] theorem State.modChan_jrn (s : State) (c : Nat) (f : Channel → Channel) : (s.modChan c f).jrn = s.jrn := rfl
@[simp] theorem State.modChan_mem (s : State) (c : Nat) (f : Channel → Channel) : (s.modChan c f).mem = s.mem := rfl
@[simp] theorem State.modChan_warp (s : State) (c : Nat) (f : Channel → Channel) : (s.modChan c f).warp = s.warp := rfl
@[simp] theorem State.modChan_arbs (s : State) (c : Nat) (f : Channel → Channel) : (s.modChan c f).arbs = s.arbs := rfl
@[simp] theorem State.modChan_links (s : State) (c : Nat) (f : Channel → Channel) : (s.modChan c f).links = s.links := rfl
@[simp] theorem State.modChan_waves (s : State) (c : Nat) (f : Channel → Channel) : (s.modChan c f).waves = s.waves := rfl
@[simp] theorem State.modChan_eng (s : State) (c : Nat) (f : Channel → Channel) : (s.modChan c f).eng = s.eng := rfl
@[simp] theorem State.modChan_chans (s : State) (c : Nat) (f : Channel → Channel) : (s.modChan c f).chans = s.chans.modify c f := rfl
@[simp] theorem State.modChan_parts (s : State) (c : Nat) (f : Channel → Channel) : (s.modChan c f).parts = s.parts := rfl
@[simp] theorem State.modChan_hlt (s : State) (c : Nat) (f : Channel → Channel) : (s.modChan c f).hlt = s.hlt := rfl
@[simp] theorem State.modChan_hoop (s : State) (c : Nat) (f : Channel → Channel) : (s.modChan c f).hoop = s.hoop := rfl
@[simp] theorem State.modChan_mram (s : State) (c : Nat) (f : Channel → Channel) : (s.modChan c f).mram = s.mram := rfl
@[simp] theorem State.modChan_ctrs (s : State) (c : Nat) (f : Channel → Channel) : (s.modChan c f).ctrs = s.ctrs := rfl
@[simp] theorem State.modChan_draws (s : State) (c : Nat) (f : Channel → Channel) : (s.modChan c f).draws = s.draws := rfl
@[simp] theorem State.modChan_pending (s : State) (c : Nat) (f : Channel → Channel) : (s.modChan c f).pending = s.pending := rfl

@[simp] theorem State.modArb_now (s : State) (a : Nat) (f : Arbiter → Arbiter) : (s.modArb a f).now = s.now := rfl
@[simp] theorem State.modArb_cfg (s : State) (a : Nat) (f : Arbiter → Arbiter) : (s.modArb a f).cfg = s.cfg := rfl
@[simp] theorem State.modArb_tabs (s : State) (a : Nat) (f : Arbiter → Arbiter) : (s.modArb a f).tabs = s.tabs := rfl
@[simp] theorem State.modArb_jrn (s : State) (a : Nat) (f : Arbiter → Arbiter) : (s.modArb a f).jrn = s.jrn := rfl
@[simp] theorem State.modArb_mem (s : State) (a : Nat) (f : Arbiter → Arbiter) : (s.modArb a f).mem = s.mem := rfl
@[simp] theorem State.modArb_warp (s : State) (a : Nat) (f : Arbiter → Arbiter) : (s.modArb a f).warp = s.warp := rfl
@[simp] theorem State.modArb_arbs (s : State) (a : Nat) (f : Arbiter → Arbiter) : (s.modArb a f).arbs = s.arbs.modify a f := rfl
@[simp] theorem State.modArb_links (s : State) (a : Nat) (f : Arbiter → Arbiter) : (s.modArb a f).links = s.links := rfl
@[simp] theorem State.modArb_waves (s : State) (a : Nat) (f : Arbiter → Arbiter) : (s.modArb a f).waves = s.waves := rfl
@[simp] theorem State.modArb_eng (s : State) (a : Nat) (f : Arbiter → Arbiter) : (s.modArb a f).eng = s.eng := rfl
@[simp] theorem State.modArb_chans (s : State) (a : Nat) (f : Arbiter → Arbiter) : (s.modArb a f).chans = s.chans := rfl
@[simp] theorem State.modArb_parts (s : State) (a : Nat) (f : Arbiter → Arbiter) : (s.modArb a f).parts = s.parts := rfl
@[simp] theorem State.modArb_hlt (s : State) (a : Nat) (f : Arbiter → Arbiter) : (s.modArb a f).hlt = s.hlt := rfl
@[simp] theorem State.modArb_hoop (s : State) (a : Nat) (f : Arbiter → Arbiter) : (s.modArb a f).hoop = s.hoop := rfl
@[simp] theorem State.modArb_mram (s : State) (a : Nat) (f : Arbiter → Arbiter) : (s.modArb a f).mram = s.mram := rfl
@[simp] theorem State.modArb_ctrs (s : State) (a : Nat) (f : Arbiter → Arbiter) : (s.modArb a f).ctrs = s.ctrs := rfl
@[simp] theorem State.modArb_draws (s : State) (a : Nat) (f : Arbiter → Arbiter) : (s.modArb a f).draws = s.draws := rfl
@[simp] theorem State.modArb_pending (s : State) (a : Nat) (f : Arbiter → Arbiter) : (s.modArb a f).pending = s.pending := rfl

@[simp] theorem State.modLink_now (s : State) (p k : Nat) (f : Link → Link) : (s.modLink p k f).now = s.now := rfl
@[simp] theorem State.modLink_cfg (s : State) (p k : Nat) (f : Link → Link) : (s.modLink p k f).cfg = s.cfg := rfl
@[simp] theorem State.modLink_tabs (s : State) (p k : Nat) (f : Link → Link) : (s.modLink p k f).tabs = s.tabs := rfl
@[simp] theorem State.modLink_jrn (s : State) (p k : Nat) (f : Link → Link) : (s.modLink p k f).jrn = s.jrn := rfl
@[simp] theorem State.modLink_mem (s : State) (p k : Nat) (f : Link → Link) : (s.modLink p k f).mem = s.mem := rfl
@[simp] theorem State.modLink_warp (s : State) (p k : Nat) (f : Link → Link) : (s.modLink p k f).warp = s.warp := rfl
@[simp] theorem State.modLink_arbs (s : State) (p k : Nat) (f : Link → Link) : (s.modLink p k f).arbs = s.arbs := rfl
@[simp] theorem State.modLink_links (s : State) (p k : Nat) (f : Link → Link) : (s.modLink p k f).links = mapIf (fun l => l.port = p ∧ l.sub = k) f s.links := rfl
@[simp] theorem State.modLink_waves (s : State) (p k : Nat) (f : Link → Link) : (s.modLink p k f).waves = s.waves := rfl
@[simp] theorem State.modLink_eng (s : State) (p k : Nat) (f : Link → Link) : (s.modLink p k f).eng = s.eng := rfl
@[simp] theorem State.modLink_chans (s : State) (p k : Nat) (f : Link → Link) : (s.modLink p k f).chans = s.chans := rfl
@[simp] theorem State.modLink_parts (s : State) (p k : Nat) (f : Link → Link) : (s.modLink p k f).parts = s.parts := rfl
@[simp] theorem State.modLink_hlt (s : State) (p k : Nat) (f : Link → Link) : (s.modLink p k f).hlt = s.hlt := rfl
@[simp] theorem State.modLink_hoop (s : State) (p k : Nat) (f : Link → Link) : (s.modLink p k f).hoop = s.hoop := rfl
@[simp] theorem State.modLink_mram (s : State) (p k : Nat) (f : Link → Link) : (s.modLink p k f).mram = s.mram := rfl
@[simp] theorem State.modLink_ctrs (s : State) (p k : Nat) (f : Link → Link) : (s.modLink p k f).ctrs = s.ctrs := rfl
@[simp] theorem State.modLink_draws (s : State) (p k : Nat) (f : Link → Link) : (s.modLink p k f).draws = s.draws := rfl
@[simp] theorem State.modLink_pending (s : State) (p k : Nat) (f : Link → Link) : (s.modLink p k f).pending = s.pending := rfl

@[simp] theorem State.modReq_now (s : State) (i : Nat) (f : Req → Req) : (s.modReq i f).now = s.now := rfl
@[simp] theorem State.modReq_cfg (s : State) (i : Nat) (f : Req → Req) : (s.modReq i f).cfg = s.cfg := rfl
@[simp] theorem State.modReq_tabs (s : State) (i : Nat) (f : Req → Req) : (s.modReq i f).tabs = s.tabs := rfl
@[simp] theorem State.modReq_jrn (s : State) (i : Nat) (f : Req → Req) : (s.modReq i f).jrn = { s.jrn with reqs := mapIf (fun r => r.id = i) f s.jrn.reqs } := rfl
@[simp] theorem State.modReq_mem (s : State) (i : Nat) (f : Req → Req) : (s.modReq i f).mem = s.mem := rfl
@[simp] theorem State.modReq_warp (s : State) (i : Nat) (f : Req → Req) : (s.modReq i f).warp = s.warp := rfl
@[simp] theorem State.modReq_arbs (s : State) (i : Nat) (f : Req → Req) : (s.modReq i f).arbs = s.arbs := rfl
@[simp] theorem State.modReq_links (s : State) (i : Nat) (f : Req → Req) : (s.modReq i f).links = s.links := rfl
@[simp] theorem State.modReq_waves (s : State) (i : Nat) (f : Req → Req) : (s.modReq i f).waves = s.waves := rfl
@[simp] theorem State.modReq_eng (s : State) (i : Nat) (f : Req → Req) : (s.modReq i f).eng = s.eng := rfl
@[simp] theorem State.modReq_chans (s : State) (i : Nat) (f : Req → Req) : (s.modReq i f).chans = s.chans := rfl
@[simp] theorem State.modReq_parts (s : State) (i : Nat) (f : Req → Req) : (s.modReq i f).parts = s.parts := rfl
@[simp] theorem State.modReq_hlt (s : State) (i : Nat) (f : Req → Req) : (s.modReq i f).hlt = s.hlt := rfl
@[simp] theorem State.modReq_hoop (s : State) (i : Nat) (f : Req → Req) : (s.modReq i f).hoop = s.hoop := rfl
@[simp] theorem State.modReq_mram (s : State) (i : Nat) (f : Req → Req) : (s.modReq i f).mram = s.mram := rfl
@[simp] theorem State.modReq_ctrs (s : State) (i : Nat) (f : Req → Req) : (s.modReq i f).ctrs = s.ctrs := rfl
@[simp] theorem State.modReq_draws (s : State) (i : Nat) (f : Req → Req) : (s.modReq i f).draws = s.draws := rfl
@[simp] theorem State.modReq_pending (s : State) (i : Nat) (f : Req → Req) : (s.modReq i f).pending = s.pending := rfl

@[simp] theorem State.modTabs_now (s : State) (f : Tables → Tables) : (s.modTabs f).now = s.now := rfl
@[simp] theorem State.modTabs_cfg (s : State) (f : Tables → Tables) : (s.modTabs f).cfg = s.cfg := rfl
@[simp] theorem State.modTabs_tabs (s : State) (f : Tables → Tables) : (s.modTabs f).tabs = f s.tabs := rfl
@[simp] theorem State.modTabs_jrn (s : State) (f : Tables → Tables) : (s.modTabs f).jrn = s.jrn := rfl
@[simp] theorem State.modTabs_mem (s : State) (f : Tables → Tables) : (s.modTabs f).mem = s.mem := rfl
@[simp] theorem State.modTabs_warp (s : State) (f : Tables → Tables) : (s.modTabs f).warp = s.warp := rfl
@[simp] theorem State.modTabs_arbs (s : State) (f : Tables → Tables) : (s.modTabs f).arbs = s.arbs := rfl
@[simp] theorem State.modTabs_links (s : State) (f : Tables → Tables) : (s.modTabs f).links = s.links := rfl
@[simp] theorem State.modTabs_waves (s : State) (f : Tables → Tables) : (s.modTabs f).waves = s.waves := rfl
@[simp] theorem State.modTabs_eng (s : State) (f : Tables → Tables) : (s.modTabs f).eng = s.eng := rfl
@[simp] theorem State.modTabs_chans (s : State) (f : Tables → Tables) : (s.modTabs f).chans = s.chans := rfl
@[simp] theorem State.modTabs_parts (s : State) (f : Tables → Tables) : (s.modTabs f).parts = s.parts := rfl
@[simp] theorem State.modTabs_hlt (s : State) (f : Tables → Tables) : (s.modTabs f).hlt = s.hlt := rfl
@[simp] theorem State.modTabs_hoop (s : State) (f : Tables → Tables) : (s.modTabs f).hoop = s.hoop := rfl
@[simp] theorem State.modTabs_mram (s : State) (f : Tables → Tables) : (s.modTabs f).mram = s.mram := rfl
@[simp] theorem State.modTabs_ctrs (s : State) (f : Tables → Tables) : (s.modTabs f).ctrs = s.ctrs := rfl
@[simp] theorem State.modTabs_draws (s : State) (f : Tables → Tables) : (s.modTabs f).draws = s.draws := rfl
@[simp] theorem State.modTabs_pending (s : State) (f : Tables → Tables) : (s.modTabs f).pending = s.pending := rfl

@[simp] theorem State.modHoop_now (s : State) (f : Hoop → Hoop) : (s.modHoop f).now = s.now := rfl
@[simp] theorem State.modHoop_cfg (s : State) (f : Hoop → Hoop) : (s.modHoop f).cfg = s.cfg := rfl
@[simp] theorem State.modHoop_tabs (s : State) (f : Hoop → Hoop) : (s.modHoop f).tabs = s.tabs := rfl
@[simp] theorem State.modHoop_jrn (s : State) (f : Hoop → Hoop) : (s.modHoop f).jrn = s.jrn := rfl
@[simp] theorem State.modHoop_mem (s : State) (f : Hoop → Hoop) : (s.modHoop f).mem = s.mem := rfl
@[simp] theorem State.modHoop_warp (s : State) (f : Hoop → Hoop) : (s.modHoop f).warp = s.warp := rfl
@[simp] theorem State.modHoop_arbs (s : State) (f : Hoop → Hoop) : (s.modHoop f).arbs = s.arbs := rfl
@[simp] theorem State.modHoop_links (s : State) (f : Hoop → Hoop) : (s.modHoop f).links = s.links := rfl
@[simp] theorem State.modHoop_waves (s : State) (f : Hoop → Hoop) : (s.modHoop f).waves = s.waves := rfl
@[simp] theorem State.modHoop_eng (s : State) (f : Hoop → Hoop) : (s.modHoop f).eng = s.eng := rfl
@[simp] theorem State.modHoop_chans (s : State) (f : Hoop → Hoop) : (s.modHoop f).chans = s.chans := rfl
@[simp] theorem State.modHoop_parts (s : State) (f : Hoop → Hoop) : (s.modHoop f).parts = s.parts := rfl
@[simp] theorem State.modHoop_hlt (s : State) (f : Hoop → Hoop) : (s.modHoop f).hlt = s.hlt := rfl
@[simp] theorem State.modHoop_hoop (s : State) (f : Hoop → Hoop) : (s.modHoop f).hoop = f s.hoop := rfl
@[simp] theorem State.modHoop_mram (s : State) (f : Hoop → Hoop) : (s.modHoop f).mram = s.mram := rfl
@[simp] theorem State.modHoop_ctrs (s : State) (f : Hoop → Hoop) : (s.modHoop f).ctrs = s.ctrs := rfl
@[simp] theorem State.modHoop_draws (s : State) (f : Hoop → Hoop) : (s.modHoop f).draws = s.draws := rfl
@[simp] theorem State.modHoop_pending (s : State) (f : Hoop → Hoop) : (s.modHoop f).pending = s.pending := rfl

@[simp] theorem State.modHlt_now (s : State) (f : Health → Health) : (s.modHlt f).now = s.now := rfl
@[simp] theorem State.modHlt_cfg (s : State) (f : Health → Health) : (s.modHlt f).cfg = s.cfg := rfl
@[simp] theorem State.modHlt_tabs (s : State) (f : Health → Health) : (s.modHlt f).tabs = s.tabs := rfl
@[simp] theorem State.modHlt_jrn (s : State) (f : Health → Health) : (s.modHlt f).jrn = s.jrn := rfl
@[simp] theorem State.modHlt_mem (s : State) (f : Health → Health) : (s.modHlt f).mem = s.mem := rfl
@[simp] theorem State.modHlt_warp (s : State) (f : Health → Health) : (s.modHlt f).warp = s.warp := rfl
@[simp] theorem State.modHlt_arbs (s : State) (f : Health → Health) : (s.modHlt f).arbs = s.arbs := rfl
@[simp] theorem State.modHlt_links (s : State) (f : Health → Health) : (s.modHlt f).links = s.links := rfl
@[simp] theorem State.modHlt_waves (s : State) (f : Health → Health) : (s.modHlt f).waves = s.waves := rfl
@[simp] theorem State.modHlt_eng (s : State) (f : Health → Health) : (s.modHlt f).eng = s.eng := rfl
@[simp] theorem State.modHlt_chans (s : State) (f : Health → Health) : (s.modHlt f).chans = s.chans := rfl
@[simp] theorem State.modHlt_parts (s : State) (f : Health → Health) : (s.modHlt f).parts = s.parts := rfl
@[simp] theorem State.modHlt_hlt (s : State) (f : Health → Health) : (s.modHlt f).hlt = f s.hlt := rfl
@[simp] theorem State.modHlt_hoop (s : State) (f : Health → Health) : (s.modHlt f).hoop = s.hoop := rfl
@[simp] theorem State.modHlt_mram (s : State) (f : Health → Health) : (s.modHlt f).mram = s.mram := rfl
@[simp] theorem State.modHlt_ctrs (s : State) (f : Health → Health) : (s.modHlt f).ctrs = s.ctrs := rfl
@[simp] theorem State.modHlt_draws (s : State) (f : Health → Health) : (s.modHlt f).draws = s.draws := rfl
@[simp] theorem State.modHlt_pending (s : State) (f : Health → Health) : (s.modHlt f).pending = s.pending := rfl

@[simp] theorem State.modWarp_now (s : State) (f : Warp → Warp) : (s.modWarp f).now = s.now := rfl
@[simp] theorem State.modWarp_cfg (s : State) (f : Warp → Warp) : (s.modWarp f).cfg = s.cfg := rfl
@[simp] theorem State.modWarp_tabs (s : State) (f : Warp → Warp) : (s.modWarp f).tabs = s.tabs := rfl
@[simp] theorem State.modWarp_jrn (s : State) (f : Warp → Warp) : (s.modWarp f).jrn = s.jrn := rfl
@[simp] theorem State.modWarp_mem (s : State) (f : Warp → Warp) : (s.modWarp f).mem = s.mem := rfl
@[simp] theorem State.modWarp_warp (s : State) (f : Warp → Warp) : (s.modWarp f).warp = f s.warp := rfl
@[simp] theorem State.modWarp_arbs (s : State) (f : Warp → Warp) : (s.modWarp f).arbs = s.arbs := rfl
@[simp] theorem State.modWarp_links (s : State) (f : Warp → Warp) : (s.modWarp f).links = s.links := rfl
@[simp] theorem State.modWarp_waves (s : State) (f : Warp → Warp) : (s.modWarp f).waves = s.waves := rfl
@[simp] theorem State.modWarp_eng (s : State) (f : Warp → Warp) : (s.modWarp f).eng = s.eng := rfl
@[simp] theorem State.modWarp_chans (s : State) (f : Warp → Warp) : (s.modWarp f).chans = s.chans := rfl
@[simp] theorem State.modWarp_parts (s : State) (f : Warp → Warp) : (s.modWarp f).parts = s.parts := rfl
@[simp] theorem State.modWarp_hlt (s : State) (f : Warp → Warp) : (s.modWarp f).hlt = s.hlt := rfl
@[simp] theorem State.modWarp_hoop (s : State) (f : Warp → Warp) : (s.modWarp f).hoop = s.hoop := rfl
@[simp] theorem State.modWarp_mram (s : State) (f : Warp → Warp) : (s.modWarp f).mram = s.mram := rfl
@[simp] theorem State.modWarp_ctrs (s : State) (f : Warp → Warp) : (s.modWarp f).ctrs = s.ctrs := rfl
@[simp] theorem State.modWarp_draws (s : State) (f : Warp → Warp) : (s.modWarp f).draws = s.draws := rfl
@[simp] theorem State.modWarp_pending (s : State) (f : Warp → Warp) : (s.modWarp f).pending = s.pending := rfl

@[simp] theorem State.modMem_now (s : State) (f : MemSys → MemSys) : (s.modMem f).now = s.now := rfl
@[simp] theorem State.modMem_cfg (s : State) (f : MemSys → MemSys) : (s.modMem f).cfg = s.cfg := rfl
@[simp] theorem State.modMem_tabs (s : State) (f : MemSys → MemSys) : (s.modMem f).tabs = s.tabs := rfl
@[simp] theorem State.modMem_jrn (s : State) (f : MemSys → MemSys) : (s.modMem f).jrn = s.jrn := rfl
@[simp] theorem State.modMem_mem (s : State) (f : MemSys → MemSys) : (s.modMem f).mem = f s.mem := rfl
@[simp] theorem State.modMem_warp (s : State) (f : MemSys → MemSys) : (s.modMem f).warp = s.warp := rfl
@[simp] theorem State.modMem_arbs (s : State) (f : MemSys → MemSys) : (s.modMem f).arbs = s.arbs := rfl
@[simp] theorem State.modMem_links (s : State) (f : MemSys → MemSys) : (s.modMem f).links = s.links := rfl
@[simp] theorem State.modMem_waves (s : State) (f : MemSys → MemSys) : (s.modMem f).waves = s.waves := rfl
@[simp] theorem State.modMem_eng (s : State) (f : MemSys → MemSys) : (s.modMem f).eng = s.eng := rfl
@[simp] theorem State.modMem_chans (s : State) (f : MemSys → MemSys) : (s.modMem f).chans = s.chans := rfl
@[simp] theorem State.modMem_parts (s : State) (f : MemSys → MemSys) : (s.modMem f).parts = s.parts := rfl
@[simp] theorem State.modMem_hlt (s : State) (f : MemSys → MemSys) : (s.modMem f).hlt = s.hlt := rfl
@[simp] theorem State.modMem_hoop (s : State) (f : MemSys → MemSys) : (s.modMem f).hoop = s.hoop := rfl
@[simp] theorem State.modMem_mram (s : State) (f : MemSys → MemSys) : (s.modMem f).mram = s.mram := rfl
@[simp] theorem State.modMem_ctrs (s : State) (f : MemSys → MemSys) : (s.modMem f).ctrs = s.ctrs := rfl
@[simp] theorem State.modMem_draws (s : State) (f : MemSys → MemSys) : (s.modMem f).draws = s.draws := rfl
@[simp] theorem State.modMem_pending (s : State) (f : MemSys → MemSys) : (s.modMem f).pending = s.pending := rfl

@[simp] theorem State.modEng_now (s : State) (f : Engines → Engines) : (s.modEng f).now = s.now := rfl
@[simp] theorem State.modEng_cfg (s : State) (f : Engines → Engines) : (s.modEng f).cfg = s.cfg := rfl
@[simp] theorem State.modEng_tabs (s : State) (f : Engines → Engines) : (s.modEng f).tabs = s.tabs := rfl
@[simp] theorem State.modEng_jrn (s : State) (f : Engines → Engines) : (s.modEng f).jrn = s.jrn := rfl
@[simp] theorem State.modEng_mem (s : State) (f : Engines → Engines) : (s.modEng f).mem = s.mem := rfl
@[simp] theorem State.modEng_warp (s : State) (f : Engines → Engines) : (s.modEng f).warp = s.warp := rfl
@[simp] theorem State.modEng_arbs (s : State) (f : Engines → Engines) : (s.modEng f).arbs = s.arbs := rfl
@[simp] theorem State.modEng_links (s : State) (f : Engines → Engines) : (s.modEng f).links = s.links := rfl
@[simp] theorem State.modEng_waves (s : State) (f : Engines → Engines) : (s.modEng f).waves = s.waves := rfl
@[simp] theorem State.modEng_eng (s : State) (f : Engines → Engines) : (s.modEng f).eng = f s.eng := rfl
@[simp] theorem State.modEng_chans (s : State) (f : Engines → Engines) : (s.modEng f).chans = s.chans := rfl
@[simp] theorem State.modEng_parts (s : State) (f : Engines → Engines) : (s.modEng f).parts = s.parts := rfl
@[simp] theorem State.modEng_hlt (s : State) (f : Engines → Engines) : (s.modEng f).hlt = s.hlt := rfl
@[simp] theorem State.modEng_hoop (s : State) (f : Engines → Engines) : (s.modEng f).hoop = s.hoop := rfl
@[simp] theorem State.modEng_mram (s : State) (f : Engines → Engines) : (s.modEng f).mram = s.mram := rfl
@[simp] theorem State.modEng_ctrs (s : State) (f : Engines → Engines) : (s.modEng f).ctrs = s.ctrs := rfl
@[simp] theorem State.modEng_draws (s : State) (f : Engines → Engines) : (s.modEng f).draws = s.draws := rfl
@[simp] theorem State.modEng_pending (s : State) (f : Engines → Engines) : (s.modEng f).pending = s.pending := rfl

@[simp] theorem State.modJrn_now (s : State) (f : Journal → Journal) : (s.modJrn f).now = s.now := rfl
@[simp] theorem State.modJrn_cfg (s : State) (f : Journal → Journal) : (s.modJrn f).cfg = s.cfg := rfl
@[simp] theorem State.modJrn_tabs (s : State) (f : Journal → Journal) : (s.modJrn f).tabs = s.tabs := rfl
@[simp] theorem State.modJrn_jrn (s : State) (f : Journal → Journal) : (s.modJrn f).jrn = f s.jrn := rfl
@[simp] theorem State.modJrn_mem (s : State) (f : Journal → Journal) : (s.modJrn f).mem = s.mem := rfl
@[simp] theorem State.modJrn_warp (s : State) (f : Journal → Journal) : (s.modJrn f).warp = s.warp := rfl
@[simp] theorem State.modJrn_arbs (s : State) (f : Journal → Journal) : (s.modJrn f).arbs = s.arbs := rfl
@[simp] theorem State.modJrn_links (s : State) (f : Journal → Journal) : (s.modJrn f).links = s.links := rfl
@[simp] theorem State.modJrn_waves (s : State) (f : Journal → Journal) : (s.modJrn f).waves = s.waves := rfl
@[simp] theorem State.modJrn_eng (s : State) (f : Journal → Journal) : (s.modJrn f).eng = s.eng := rfl
@[simp] theorem State.modJrn_chans (s : State) (f : Journal → Journal) : (s.modJrn f).chans = s.chans := rfl
@[simp] theorem State.modJrn_parts (s : State) (f : Journal → Journal) : (s.modJrn f).parts = s.parts := rfl
@[simp] theorem State.modJrn_hlt (s : State) (f : Journal → Journal) : (s.modJrn f).hlt = s.hlt := rfl
@[simp] theorem State.modJrn_hoop (s : State) (f : Journal → Journal) : (s.modJrn f).hoop = s.hoop := rfl
@[simp] theorem State.modJrn_mram (s : State) (f : Journal → Journal) : (s.modJrn f).mram = s.mram := rfl
@[simp] theorem State.modJrn_ctrs (s : State) (f : Journal → Journal) : (s.modJrn f).ctrs = s.ctrs := rfl
@[simp] theorem State.modJrn_draws (s : State) (f : Journal → Journal) : (s.modJrn f).draws = s.draws := rfl
@[simp] theorem State.modJrn_pending (s : State) (f : Journal → Journal) : (s.modJrn f).pending = s.pending := rfl

@[simp] theorem State.memWrite_now (s : State) (a : Nat) (b : Bytes) : (s.memWrite a b).now = s.now := rfl
@[simp] theorem State.memWrite_cfg (s : State) (a : Nat) (b : Bytes) : (s.memWrite a b).cfg = s.cfg := rfl
@[simp] theorem State.memWrite_tabs (s : State) (a : Nat) (b : Bytes) : (s.memWrite a b).tabs = s.tabs := rfl
@[simp] theorem State.memWrite_jrn (s : State) (a : Nat) (b : Bytes) : (s.memWrite a b).jrn = s.jrn := rfl
@[simp] theorem State.memWrite_mem (s : State) (a : Nat) (b : Bytes) : (s.memWrite a b).mem = { s.mem with near := writeBytes s.mem.near a b } := rfl
@[simp] theorem State.memWrite_warp (s : State) (a : Nat) (b : Bytes) : (s.memWrite a b).warp = s.warp := rfl
@[simp] theorem State.memWrite_arbs (s : State) (a : Nat) (b : Bytes) : (s.memWrite a b).arbs = s.arbs := rfl
@[simp] theorem State.memWrite_links (s : State) (a : Nat) (b : Bytes) : (s.memWrite a b).links = s.links := rfl
@[simp] theorem State.memWrite_waves (s : State) (a : Nat) (b : Bytes) : (s.memWrite a b).waves = s.waves := rfl
@[simp] theorem State.memWrite_eng (s : State) (a : Nat) (b : Bytes) : (s.memWrite a b).eng = s.eng := rfl
@[simp] theorem State.memWrite_chans (s : State) (a : Nat) (b : Bytes) : (s.memWrite a b).chans = s.chans := rfl
@[simp] theorem State.memWrite_parts (s : State) (a : Nat) (b : Bytes) : (s.memWrite a b).parts = s.parts := rfl
@[simp] theorem State.memWrite_hlt (s : State) (a : Nat) (b : Bytes) : (s.memWrite a b).hlt = s.hlt := rfl
@[simp] theorem State.memWrite_hoop (s : State) (a : Nat) (b : Bytes) : (s.memWrite a b).hoop = s.hoop := rfl
@[simp] theorem State.memWrite_mram (s : State) (a : Nat) (b : Bytes) : (s.memWrite a b).mram = s.mram := rfl
@[simp] theorem State.memWrite_ctrs (s : State) (a : Nat) (b : Bytes) : (s.memWrite a b).ctrs = s.ctrs := rfl
@[simp] theorem State.memWrite_draws (s : State) (a : Nat) (b : Bytes) : (s.memWrite a b).draws = s.draws := rfl
@[simp] theorem State.memWrite_pending (s : State) (a : Nat) (b : Bytes) : (s.memWrite a b).pending = s.pending := rfl

@[simp] theorem State.count_now (s : State) (c : Ctr) (n : Nat) : (s.count c n).now = s.now := rfl
@[simp] theorem State.count_cfg (s : State) (c : Ctr) (n : Nat) : (s.count c n).cfg = s.cfg := rfl
@[simp] theorem State.count_tabs (s : State) (c : Ctr) (n : Nat) : (s.count c n).tabs = s.tabs := rfl
@[simp] theorem State.count_jrn (s : State) (c : Ctr) (n : Nat) : (s.count c n).jrn = s.jrn := rfl
@[simp] theorem State.count_mem (s : State) (c : Ctr) (n : Nat) : (s.count c n).mem = s.mem := rfl
@[simp] theorem State.count_warp (s : State) (c : Ctr) (n : Nat) : (s.count c n).warp = s.warp := rfl
@[simp] theorem State.count_arbs (s : State) (c : Ctr) (n : Nat) : (s.count c n).arbs = s.arbs := rfl
@[simp] theorem State.count_links (s : State) (c : Ctr) (n : Nat) : (s.count c n).links = s.links := rfl
@[simp] theorem State.count_waves (s : State) (c : Ctr) (n : Nat) : (s.count c n).waves = s.waves := rfl
@[simp] theorem State.count_eng (s : State) (c : Ctr) (n : Nat) : (s.count c n).eng = s.eng := rfl
@[simp] theorem State.count_chans (s : State) (c : Ctr) (n : Nat) : (s.count c n).chans = s.chans := rfl
@[simp] theorem State.count_parts (s : State) (c : Ctr) (n : Nat) : (s.count c n).parts = s.parts := rfl
@[simp] theorem State.count_hlt (s : State) (c : Ctr) (n : Nat) : (s.count c n).hlt = s.hlt := rfl
@[simp] theorem State.count_hoop (s : State) (c : Ctr) (n : Nat) : (s.count c n).hoop = s.hoop := rfl
@[simp] theorem State.count_mram (s : State) (c : Ctr) (n : Nat) : (s.count c n).mram = s.mram := rfl
@[simp] theorem State.count_ctrs (s : State) (c : Ctr) (n : Nat) : (s.count c n).ctrs = put c (satAdd max64 ((look c s.ctrs).getD 0) n) s.ctrs := rfl
@[simp] theorem State.count_draws (s : State) (c : Ctr) (n : Nat) : (s.count c n).draws = s.draws := rfl
@[simp] theorem State.count_pending (s : State) (c : Ctr) (n : Nat) : (s.count c n).pending = s.pending := rfl

@[simp] theorem State.draw_now (s : State) : s.draw.2.now = s.now := rfl
@[simp] theorem State.draw_cfg (s : State) : s.draw.2.cfg = s.cfg := rfl
@[simp] theorem State.draw_tabs (s : State) : s.draw.2.tabs = s.tabs := rfl
@[simp] theorem State.draw_jrn (s : State) : s.draw.2.jrn = s.jrn := rfl
@[simp] theorem State.draw_mem (s : State) : s.draw.2.mem = s.mem := rfl
@[simp] theorem State.draw_warp (s : State) : s.draw.2.warp = s.warp := rfl
@[simp] theorem State.draw_arbs (s : State) : s.draw.2.arbs = s.arbs := rfl
@[simp] theorem State.draw_links (s : State) : s.draw.2.links = s.links := rfl
@[simp] theorem State.draw_waves (s : State) : s.draw.2.waves = s.waves := rfl
@[simp] theorem State.draw_eng (s : State) : s.draw.2.eng = s.eng := rfl
@[simp] theorem State.draw_chans (s : State) : s.draw.2.chans = s.chans := rfl
@[simp] theorem State.draw_parts (s : State) : s.draw.2.parts = s.parts := rfl
@[simp] theorem State.draw_hlt (s : State) : s.draw.2.hlt = s.hlt := rfl
@[simp] theorem State.draw_hoop (s : State) : s.draw.2.hoop = s.hoop := rfl
@[simp] theorem State.draw_mram (s : State) : s.draw.2.mram = s.mram := rfl
@[simp] theorem State.draw_ctrs (s : State) : s.draw.2.ctrs = s.ctrs := rfl
@[simp] theorem State.draw_pending (s : State) : s.draw.2.pending = s.pending := rfl
@[simp] theorem State.draw_draws (s : State) : s.draw.2.draws = s.draws + 1 := rfl

@[simp] theorem State.at_part (s : State) (t : Nat) (j : Nat) : (State.at t s).part j = s.part j := rfl
@[simp] theorem State.at_writer (s : State) (t : Nat) (j : Nat) : (State.at t s).writer j = s.writer j := rfl
@[simp] theorem State.at_cluster (s : State) (t : Nat) (j : Nat) : (State.at t s).cluster j = s.cluster j := rfl
@[simp] theorem State.at_chan (s : State) (t : Nat) (j : Nat) : (State.at t s).chan j = s.chan j := rfl
@[simp] theorem State.at_arb (s : State) (t : Nat) (j : Nat) : (State.at t s).arb j = s.arb j := rfl
@[simp] theorem State.modPart_writer (s : State) (p : Nat) (f : Partition → Partition) (j : Nat) : (s.modPart p f).writer j = s.writer j := rfl
@[simp] theorem State.modPart_cluster (s : State) (p : Nat) (f : Partition → Partition) (j : Nat) : (s.modPart p f).cluster j = s.cluster j := rfl
@[simp] theorem State.modPart_chan (s : State) (p : Nat) (f : Partition → Partition) (j : Nat) : (s.modPart p f).chan j = s.chan j := rfl
@[simp] theorem State.modPart_arb (s : State) (p : Nat) (f : Partition → Partition) (j : Nat) : (s.modPart p f).arb j = s.arb j := rfl
@[simp] theorem State.modWriter_part (s : State) (w : Nat) (f : Writer → Writer) (j : Nat) : (s.modWriter w f).part j = s.part j := rfl
@[simp] theorem State.modWriter_cluster (s : State) (w : Nat) (f : Writer → Writer) (j : Nat) : (s.modWriter w f).cluster j = s.cluster j := rfl
@[simp] theorem State.modWriter_chan (s : State) (w : Nat) (f : Writer → Writer) (j : Nat) : (s.modWriter w f).chan j = s.chan j := rfl
@[simp] theorem State.modWriter_arb (s : State) (w : Nat) (f : Writer → Writer) (j : Nat) : (s.modWriter w f).arb j = s.arb j := rfl
@[simp] theorem State.modCluster_part (s : State) (c : Nat) (f : Cluster → Cluster) (j : Nat) : (s.modCluster c f).part j = s.part j := rfl
@[simp] theorem State.modCluster_writer (s : State) (c : Nat) (f : Cluster → Cluster) (j : Nat) : (s.modCluster c f).writer j = s.writer j := rfl
@[simp] theorem State.modCluster_chan (s : State) (c : Nat) (f : Cluster → Cluster) (j : Nat) : (s.modCluster c f).chan j = s.chan j := rfl
@[simp] theorem State.modCluster_arb (s : State) (c : Nat) (f : Cluster → Cluster) (j : Nat) : (s.modCluster c f).arb j = s.arb j := rfl
@[simp] theorem State.modChan_part (s : State) (c : Nat) (f : Channel → Channel) (j : Nat) : (s.modChan c f).part j = s.part j := rfl
@[simp] theorem State.modChan_writer (s : State) (c : Nat) (f : Channel → Channel) (j : Nat) : (s.modChan c f).writer j = s.writer j := rfl
@[simp] theorem State.modChan_cluster (s : State) (c : Nat) (f : Channel → Channel) (j : Nat) : (s.modChan c f).cluster j = s.cluster j := rfl
@[simp] theorem State.modChan_arb (s : State) (c : Nat) (f : Channel → Channel) (j : Nat) : (s.modChan c f).arb j = s.arb j := rfl
@[simp] theorem State.modArb_part (s : State) (a : Nat) (f : Arbiter → Arbiter) (j : Nat) : (s.modArb a f).part j = s.part j := rfl
@[simp] theorem State.modArb_writer (s : State) (a : Nat) (f : Arbiter → Arbiter) (j : Nat) : (s.modArb a f).writer j = s.writer j := rfl
@[simp] theorem State.modArb_cluster (s : State) (a : Nat) (f : Arbiter → Arbiter) (j : Nat) : (s.modArb a f).cluster j = s.cluster j := rfl
@[simp] theorem State.modArb_chan (s : State) (a : Nat) (f : Arbiter → Arbiter) (j : Nat) : (s.modArb a f).chan j = s.chan j := rfl
@[simp] theorem State.modLink_part (s : State) (p k : Nat) (f : Link → Link) (j : Nat) : (s.modLink p k f).part j = s.part j := rfl
@[simp] theorem State.modLink_writer (s : State) (p k : Nat) (f : Link → Link) (j : Nat) : (s.modLink p k f).writer j = s.writer j := rfl
@[simp] theorem State.modLink_cluster (s : State) (p k : Nat) (f : Link → Link) (j : Nat) : (s.modLink p k f).cluster j = s.cluster j := rfl
@[simp] theorem State.modLink_chan (s : State) (p k : Nat) (f : Link → Link) (j : Nat) : (s.modLink p k f).chan j = s.chan j := rfl
@[simp] theorem State.modLink_arb (s : State) (p k : Nat) (f : Link → Link) (j : Nat) : (s.modLink p k f).arb j = s.arb j := rfl
@[simp] theorem State.modReq_part (s : State) (i : Nat) (f : Req → Req) (j : Nat) : (s.modReq i f).part j = s.part j := rfl
@[simp] theorem State.modReq_cluster (s : State) (i : Nat) (f : Req → Req) (j : Nat) : (s.modReq i f).cluster j = s.cluster j := rfl
@[simp] theorem State.modReq_chan (s : State) (i : Nat) (f : Req → Req) (j : Nat) : (s.modReq i f).chan j = s.chan j := rfl
@[simp] theorem State.modReq_arb (s : State) (i : Nat) (f : Req → Req) (j : Nat) : (s.modReq i f).arb j = s.arb j := rfl
@[simp] theorem State.modTabs_part (s : State) (f : Tables → Tables) (j : Nat) : (s.modTabs f).part j = s.part j := rfl
@[simp] theorem State.modTabs_writer (s : State) (f : Tables → Tables) (j : Nat) : (s.modTabs f).writer j = s.writer j := rfl
@[simp] theorem State.modTabs_cluster (s : State) (f : Tables → Tables) (j : Nat) : (s.modTabs f).cluster j = s.cluster j := rfl
@[simp] theorem State.modTabs_chan (s : State) (f : Tables → Tables) (j : Nat) : (s.modTabs f).chan j = s.chan j := rfl
@[simp] theorem State.modTabs_arb (s : State) (f : Tables → Tables) (j : Nat) : (s.modTabs f).arb j = s.arb j := rfl
@[simp] theorem State.modHoop_part (s : State) (f : Hoop → Hoop) (j : Nat) : (s.modHoop f).part j = s.part j := rfl
@[simp] theorem State.modHoop_writer (s : State) (f : Hoop → Hoop) (j : Nat) : (s.modHoop f).writer j = s.writer j := rfl
@[simp] theorem State.modHoop_cluster (s : State) (f : Hoop → Hoop) (j : Nat) : (s.modHoop f).cluster j = s.cluster j := rfl
@[simp] theorem State.modHoop_chan (s : State) (f : Hoop → Hoop) (j : Nat) : (s.modHoop f).chan j = s.chan j := rfl
@[simp] theorem State.modHoop_arb (s : State) (f : Hoop → Hoop) (j : Nat) : (s.modHoop f).arb j = s.arb j := rfl
@[simp] theorem State.modHlt_part (s : State) (f : Health → Health) (j : Nat) : (s.modHlt f).part j = s.part j := rfl
@[simp] theorem State.modHlt_writer (s : State) (f : Health → Health) (j : Nat) : (s.modHlt f).writer j = s.writer j := rfl
@[simp] theorem State.modHlt_cluster (s : State) (f : Health → Health) (j : Nat) : (s.modHlt f).cluster j = s.cluster j := rfl
@[simp] theorem State.modHlt_chan (s : State) (f : Health → Health) (j : Nat) : (s.modHlt f).chan j = s.chan j := rfl
@[simp] theorem State.modHlt_arb (s : State) (f : Health → Health) (j : Nat) : (s.modHlt f).arb j = s.arb j := rfl
@[simp] theorem State.modWarp_part (s : State) (f : Warp → Warp) (j : Nat) : (s.modWarp f).part j = s.part j := rfl
@[simp] theorem State.modWarp_writer (s : State) (f : Warp → Warp) (j : Nat) : (s.modWarp f).writer j = s.writer j := rfl
@[simp] theorem State.modWarp_cluster (s : State) (f : Warp → Warp) (j : Nat) : (s.modWarp f).cluster j = s.cluster j := rfl
@[simp] theorem State.modWarp_chan (s : State) (f : Warp → Warp) (j : Nat) : (s.modWarp f).chan j = s.chan j := rfl
@[simp] theorem State.modWarp_arb (s : State) (f : Warp → Warp) (j : Nat) : (s.modWarp f).arb j = s.arb j := rfl
@[simp] theorem State.modMem_part (s : State) (f : MemSys → MemSys) (j : Nat) : (s.modMem f).part j = s.part j := rfl
@[simp] theorem State.modMem_writer (s : State) (f : MemSys → MemSys) (j : Nat) : (s.modMem f).writer j = s.writer j := rfl
@[simp] theorem State.modMem_cluster (s : State) (f : MemSys → MemSys) (j : Nat) : (s.modMem f).cluster j = s.cluster j := rfl
@[simp] theorem State.modMem_chan (s : State) (f : MemSys → MemSys) (j : Nat) : (s.modMem f).chan j = s.chan j := rfl
@[simp] theorem State.modMem_arb (s : State) (f : MemSys → MemSys) (j : Nat) : (s.modMem f).arb j = s.arb j := rfl
@[simp] theorem State.modEng_part (s : State) (f : Engines → Engines) (j : Nat) : (s.modEng f).part j = s.part j := rfl
@[simp] theorem State.modEng_writer (s : State) (f : Engines → Engines) (j : Nat) : (s.modEng f).writer j = s.writer j := rfl
@[simp] theorem State.modEng_chan (s : State) (f : Engines → Engines) (j : Nat) : (s.modEng f).chan j = s.chan j := rfl
@[simp] theorem State.modEng_arb (s : State) (f : Engines → Engines) (j : Nat) : (s.modEng f).arb j = s.arb j := rfl
@[simp] theorem State.modJrn_part (s : State) (f : Journal → Journal) (j : Nat) : (s.modJrn f).part j = s.part j := rfl
@[simp] theorem State.modJrn_cluster (s : State) (f : Journal → Journal) (j : Nat) : (s.modJrn f).cluster j = s.cluster j := rfl
@[simp] theorem State.modJrn_chan (s : State) (f : Journal → Journal) (j : Nat) : (s.modJrn f).chan j = s.chan j := rfl
@[simp] theorem State.modJrn_arb (s : State) (f : Journal → Journal) (j : Nat) : (s.modJrn f).arb j = s.arb j := rfl
@[simp] theorem State.memWrite_part (s : State) (a : Nat) (b : Bytes) (j : Nat) : (s.memWrite a b).part j = s.part j := rfl
@[simp] theorem State.memWrite_writer (s : State) (a : Nat) (b : Bytes) (j : Nat) : (s.memWrite a b).writer j = s.writer j := rfl
@[simp] theorem State.memWrite_cluster (s : State) (a : Nat) (b : Bytes) (j : Nat) : (s.memWrite a b).cluster j = s.cluster j := rfl
@[simp] theorem State.memWrite_chan (s : State) (a : Nat) (b : Bytes) (j : Nat) : (s.memWrite a b).chan j = s.chan j := rfl
@[simp] theorem State.memWrite_arb (s : State) (a : Nat) (b : Bytes) (j : Nat) : (s.memWrite a b).arb j = s.arb j := rfl
@[simp] theorem State.count_part (s : State) (c : Ctr) (n : Nat) (j : Nat) : (s.count c n).part j = s.part j := rfl
@[simp] theorem State.count_writer (s : State) (c : Ctr) (n : Nat) (j : Nat) : (s.count c n).writer j = s.writer j := rfl
@[simp] theorem State.count_cluster (s : State) (c : Ctr) (n : Nat) (j : Nat) : (s.count c n).cluster j = s.cluster j := rfl
@[simp] theorem State.count_chan (s : State) (c : Ctr) (n : Nat) (j : Nat) : (s.count c n).chan j = s.chan j := rfl
@[simp] theorem State.count_arb (s : State) (c : Ctr) (n : Nat) (j : Nat) : (s.count c n).arb j = s.arb j := rfl

/-- A unit read after its own change. -/
theorem getD_modify {α : Type} (l : List α) (i k : Nat) (f : α → α) (d : α) :
    (l.modify i f).getD k d = if i = k ∧ k < l.length then f (l.getD k d) else l.getD k d := by
  simp only [List.getD_eq_getElem?_getD, List.getElem?_modify]
  by_cases h : i = k
  · subst h
    by_cases hk : i < l.length
    · simp [hk]
    · simp [hk]
  · simp [h]

theorem State.modPart_part (s : State) (i k : Nat) (f : Partition → Partition) :
    (s.modPart i f).part k = if i = k ∧ k < s.parts.length then f (s.part k) else s.part k := getD_modify ..
theorem State.modChan_chan (s : State) (i k : Nat) (f : Channel → Channel) :
    (s.modChan i f).chan k = if i = k ∧ k < s.chans.length then f (s.chan k) else s.chan k := getD_modify ..
theorem State.modArb_arb (s : State) (i k : Nat) (f : Arbiter → Arbiter) :
    (s.modArb i f).arb k = if i = k ∧ k < s.arbs.length then f (s.arb k) else s.arb k := getD_modify ..
theorem State.modWriter_writer (s : State) (i k : Nat) (f : Writer → Writer) :
    (s.modWriter i f).writer k = if i = k ∧ k < s.jrn.writers.length then f (s.writer k) else s.writer k := getD_modify ..
theorem State.modCluster_cluster (s : State) (i k : Nat) (f : Cluster → Cluster) :
    (s.modCluster i f).cluster k = if i = k ∧ k < s.eng.clusters.length then f (s.cluster k) else s.cluster k := getD_modify ..

/-- A projection that each step of a fold keeps, the fold keeps. -/
theorem State.each_keeps {α β : Type} (g : State → β) (l : List α) (f : State → α → State) (h : ∀ s x, g (f s x) = g s) (s : State) :
    g (s.each l f) = g s := by
  unfold State.each
  induction l generalizing s with
  | nil => rfl
  | cons x xs ih => simp only [List.foldl_cons]; rw [ih, h]

@[simp] theorem State.each_nil {α : Type} (s : State) (f : State → α → State) : s.each [] f = s := rfl
@[simp] theorem State.each_cons {α : Type} (s : State) (x : α) (l : List α) (f : State → α → State) :
    s.each (x :: l) f = (f s x).each l f := rfl

/-- A fold that changes nothing at any element of its list changes nothing. -/
theorem State.each_same {α : Type} (s : State) (l : List α) (f : State → α → State) (h : ∀ x ∈ l, f s x = s) : s.each l f = s := by
  induction l with
  | nil => rfl
  | cons x xs ih =>
    simp only [State.each_cons, h x (by simp)]
    exact ih (fun y hy => h y (by simp [hy]))

end Sys2Proof.Machine
end

