-- ==== Sys2Proof/Laws/Events.lean ====
section
/-! SUPPORT. What events, ring entries, interrupts and the other notes of the Hoop die leave alone. -/

namespace Sys2Proof.Machine

@[simp] theorem State.fire_now (s : State) (fn v : Nat) : (s.fire fn v).now = s.now := by unfold State.fire; repeat (first | rfl | split)
@[simp] theorem State.fire_cfg (s : State) (fn v : Nat) : (s.fire fn v).cfg = s.cfg := by unfold State.fire; repeat (first | rfl | split)
@[simp] theorem State.fire_tabs (s : State) (fn v : Nat) : (s.fire fn v).tabs = s.tabs := by unfold State.fire; repeat (first | rfl | split)
@[simp] theorem State.fire_jrn (s : State) (fn v : Nat) : (s.fire fn v).jrn = s.jrn := by unfold State.fire; repeat (first | rfl | split)
@[simp] theorem State.fire_mem (s : State) (fn v : Nat) : (s.fire fn v).mem = s.mem := by unfold State.fire; repeat (first | rfl | split)
@[simp] theorem State.fire_warp (s : State) (fn v : Nat) : (s.fire fn v).warp = s.warp := by unfold State.fire; repeat (first | rfl | split)
@[simp] theorem State.fire_arbs (s : State) (fn v : Nat) : (s.fire fn v).arbs = s.arbs := by unfold State.fire; repeat (first | rfl | split)
@[simp] theorem State.fire_links (s : State) (fn v : Nat) : (s.fire fn v).links = s.links := by unfold State.fire; repeat (first | rfl | split)
@[simp] theorem State.fire_waves (s : State) (fn v : Nat) : (s.fire fn v).waves = s.waves := by unfold State.fire; repeat (first | rfl | split)
@[simp] theorem State.fire_eng (s : State) (fn v : Nat) : (s.fire fn v).eng = s.eng := by unfold State.fire; repeat (first | rfl | split)
@[simp] theorem State.fire_chans (s : State) (fn v : Nat) : (s.fire fn v).chans = s.chans := by unfold State.fire; repeat (first | rfl | split)
@[simp] theorem State.fire_parts (s : State) (fn v : Nat) : (s.fire fn v).parts = s.parts := by unfold State.fire; repeat (first | rfl | split)
@[simp] theorem State.fire_hlt (s : State) (fn v : Nat) : (s.fire fn v).hlt = s.hlt := by unfold State.fire; repeat (first | rfl | split)
@[simp] theorem State.fire_mram (s : State) (fn v : Nat) : (s.fire fn v).mram = s.mram := by unfold State.fire; repeat (first | rfl | split)
@[simp] theorem State.fire_ctrs (s : State) (fn v : Nat) : (s.fire fn v).ctrs = s.ctrs := by unfold State.fire; repeat (first | rfl | split)
@[simp] theorem State.fire_draws (s : State) (fn v : Nat) : (s.fire fn v).draws = s.draws := by unfold State.fire; repeat (first | rfl | split)
@[simp] theorem State.fire_pending (s : State) (fn v : Nat) : (s.fire fn v).pending = s.pending := by unfold State.fire; repeat (first | rfl | split)

@[simp] theorem State.toOwner_now (s : State) (e : Bytes) : (s.toOwner e).now = s.now := by simp [State.toOwner]
@[simp] theorem State.toOwner_cfg (s : State) (e : Bytes) : (s.toOwner e).cfg = s.cfg := by simp [State.toOwner]
@[simp] theorem State.toOwner_tabs (s : State) (e : Bytes) : (s.toOwner e).tabs = s.tabs := by simp [State.toOwner]
@[simp] theorem State.toOwner_jrn (s : State) (e : Bytes) : (s.toOwner e).jrn = s.jrn := by simp [State.toOwner]
@[simp] theorem State.toOwner_mem (s : State) (e : Bytes) : (s.toOwner e).mem = s.mem := by simp [State.toOwner]
@[simp] theorem State.toOwner_warp (s : State) (e : Bytes) : (s.toOwner e).warp = s.warp := by simp [State.toOwner]
@[simp] theorem State.toOwner_arbs (s : State) (e : Bytes) : (s.toOwner e).arbs = s.arbs := by simp [State.toOwner]
@[simp] theorem State.toOwner_links (s : State) (e : Bytes) : (s.toOwner e).links = s.links := by simp [State.toOwner]
@[simp] theorem State.toOwner_waves (s : State) (e : Bytes) : (s.toOwner e).waves = s.waves := by simp [State.toOwner]
@[simp] theorem State.toOwner_eng (s : State) (e : Bytes) : (s.toOwner e).eng = s.eng := by simp [State.toOwner]
@[simp] theorem State.toOwner_chans (s : State) (e : Bytes) : (s.toOwner e).chans = s.chans := by simp [State.toOwner]
@[simp] theorem State.toOwner_parts (s : State) (e : Bytes) : (s.toOwner e).parts = s.parts := by simp [State.toOwner]
@[simp] theorem State.toOwner_hlt (s : State) (e : Bytes) : (s.toOwner e).hlt = s.hlt := by simp [State.toOwner]
@[simp] theorem State.toOwner_mram (s : State) (e : Bytes) : (s.toOwner e).mram = s.mram := by simp [State.toOwner]
@[simp] theorem State.toOwner_ctrs (s : State) (e : Bytes) : (s.toOwner e).ctrs = s.ctrs := by simp [State.toOwner]
@[simp] theorem State.toOwner_draws (s : State) (e : Bytes) : (s.toOwner e).draws = s.draws := by simp [State.toOwner]
@[simp] theorem State.toOwner_pending (s : State) (e : Bytes) : (s.toOwner e).pending = s.pending := by simp [State.toOwner]

@[simp] theorem State.toManagers_now (s : State) (e : Bytes) : (s.toManagers e).now = s.now := by simp [State.toManagers]
@[simp] theorem State.toManagers_cfg (s : State) (e : Bytes) : (s.toManagers e).cfg = s.cfg := by simp [State.toManagers]
@[simp] theorem State.toManagers_tabs (s : State) (e : Bytes) : (s.toManagers e).tabs = s.tabs := by simp [State.toManagers]
@[simp] theorem State.toManagers_jrn (s : State) (e : Bytes) : (s.toManagers e).jrn = s.jrn := by simp [State.toManagers]
@[simp] theorem State.toManagers_mem (s : State) (e : Bytes) : (s.toManagers e).mem = s.mem := by simp [State.toManagers]
@[simp] theorem State.toManagers_warp (s : State) (e : Bytes) : (s.toManagers e).warp = s.warp := by simp [State.toManagers]
@[simp] theorem State.toManagers_arbs (s : State) (e : Bytes) : (s.toManagers e).arbs = s.arbs := by simp [State.toManagers]
@[simp] theorem State.toManagers_links (s : State) (e : Bytes) : (s.toManagers e).links = s.links := by simp [State.toManagers]
@[simp] theorem State.toManagers_waves (s : State) (e : Bytes) : (s.toManagers e).waves = s.waves := by simp [State.toManagers]
@[simp] theorem State.toManagers_eng (s : State) (e : Bytes) : (s.toManagers e).eng = s.eng := by simp [State.toManagers]
@[simp] theorem State.toManagers_chans (s : State) (e : Bytes) : (s.toManagers e).chans = s.chans := by simp [State.toManagers]
@[simp] theorem State.toManagers_parts (s : State) (e : Bytes) : (s.toManagers e).parts = s.parts := by simp [State.toManagers]
@[simp] theorem State.toManagers_hlt (s : State) (e : Bytes) : (s.toManagers e).hlt = s.hlt := by simp [State.toManagers]
@[simp] theorem State.toManagers_mram (s : State) (e : Bytes) : (s.toManagers e).mram = s.mram := by simp [State.toManagers]
@[simp] theorem State.toManagers_ctrs (s : State) (e : Bytes) : (s.toManagers e).ctrs = s.ctrs := by simp [State.toManagers]
@[simp] theorem State.toManagers_draws (s : State) (e : Bytes) : (s.toManagers e).draws = s.draws := by simp [State.toManagers]
@[simp] theorem State.toManagers_pending (s : State) (e : Bytes) : (s.toManagers e).pending = s.pending := by simp [State.toManagers]

@[simp] theorem State.toPartRing_now (s : State) (p : Nat) (e : Bytes) : (s.toPartRing p e).now = s.now := by unfold State.toPartRing; split <;> rfl
@[simp] theorem State.toPartRing_cfg (s : State) (p : Nat) (e : Bytes) : (s.toPartRing p e).cfg = s.cfg := by unfold State.toPartRing; split <;> rfl
@[simp] theorem State.toPartRing_tabs (s : State) (p : Nat) (e : Bytes) : (s.toPartRing p e).tabs = s.tabs := by unfold State.toPartRing; split <;> rfl
@[simp] theorem State.toPartRing_jrn (s : State) (p : Nat) (e : Bytes) : (s.toPartRing p e).jrn = s.jrn := by unfold State.toPartRing; split <;> rfl
@[simp] theorem State.toPartRing_warp (s : State) (p : Nat) (e : Bytes) : (s.toPartRing p e).warp = s.warp := by unfold State.toPartRing; split <;> rfl
@[simp] theorem State.toPartRing_arbs (s : State) (p : Nat) (e : Bytes) : (s.toPartRing p e).arbs = s.arbs := by unfold State.toPartRing; split <;> rfl
@[simp] theorem State.toPartRing_links (s : State) (p : Nat) (e : Bytes) : (s.toPartRing p e).links = s.links := by unfold State.toPartRing; split <;> rfl
@[simp] theorem State.toPartRing_waves (s : State) (p : Nat) (e : Bytes) : (s.toPartRing p e).waves = s.waves := by unfold State.toPartRing; split <;> rfl
@[simp] theorem State.toPartRing_eng (s : State) (p : Nat) (e : Bytes) : (s.toPartRing p e).eng = s.eng := by unfold State.toPartRing; split <;> rfl
@[simp] theorem State.toPartRing_chans (s : State) (p : Nat) (e : Bytes) : (s.toPartRing p e).chans = s.chans := by unfold State.toPartRing; split <;> rfl
@[simp] theorem State.toPartRing_hlt (s : State) (p : Nat) (e : Bytes) : (s.toPartRing p e).hlt = s.hlt := by unfold State.toPartRing; split <;> rfl
@[simp] theorem State.toPartRing_hoop (s : State) (p : Nat) (e : Bytes) : (s.toPartRing p e).hoop = s.hoop := by unfold State.toPartRing; split <;> rfl
@[simp] theorem State.toPartRing_mram (s : State) (p : Nat) (e : Bytes) : (s.toPartRing p e).mram = s.mram := by unfold State.toPartRing; split <;> rfl
@[simp] theorem State.toPartRing_ctrs (s : State) (p : Nat) (e : Bytes) : (s.toPartRing p e).ctrs = s.ctrs := by unfold State.toPartRing; split <;> rfl
@[simp] theorem State.toPartRing_draws (s : State) (p : Nat) (e : Bytes) : (s.toPartRing p e).draws = s.draws := by unfold State.toPartRing; split <;> rfl
@[simp] theorem State.toPartRing_pending (s : State) (p : Nat) (e : Bytes) : (s.toPartRing p e).pending = s.pending := by unfold State.toPartRing; split <;> rfl

@[simp] theorem State.event_now (s : State) (c : Nat) (d : Dest) (p r : Option Nat) (x : Detail) (k m : Nat) : (s.event c d p r x k m).now = s.now := by unfold State.event; cases r <;> simp only [] <;> split <;> split <;> simp
@[simp] theorem State.event_cfg (s : State) (c : Nat) (d : Dest) (p r : Option Nat) (x : Detail) (k m : Nat) : (s.event c d p r x k m).cfg = s.cfg := by unfold State.event; cases r <;> simp only [] <;> split <;> split <;> simp
@[simp] theorem State.event_tabs (s : State) (c : Nat) (d : Dest) (p r : Option Nat) (x : Detail) (k m : Nat) : (s.event c d p r x k m).tabs = s.tabs := by unfold State.event; cases r <;> simp only [] <;> split <;> split <;> simp
@[simp] theorem State.event_jrn (s : State) (c : Nat) (d : Dest) (p r : Option Nat) (x : Detail) (k m : Nat) : (s.event c d p r x k m).jrn = s.jrn := by unfold State.event; cases r <;> simp only [] <;> split <;> split <;> simp
@[simp] theorem State.event_warp (s : State) (c : Nat) (d : Dest) (p r : Option Nat) (x : Detail) (k m : Nat) : (s.event c d p r x k m).warp = s.warp := by unfold State.event; cases r <;> simp only [] <;> split <;> split <;> simp
@[simp] theorem State.event_arbs (s : State) (c : Nat) (d : Dest) (p r : Option Nat) (x : Detail) (k m : Nat) : (s.event c d p r x k m).arbs = s.arbs := by unfold State.event; cases r <;> simp only [] <;> split <;> split <;> simp
@[simp] theorem State.event_links (s : State) (c : Nat) (d : Dest) (p r : Option Nat) (x : Detail) (k m : Nat) : (s.event c d p r x k m).links = s.links := by unfold State.event; cases r <;> simp only [] <;> split <;> split <;> simp
@[simp] theorem State.event_waves (s : State) (c : Nat) (d : Dest) (p r : Option Nat) (x : Detail) (k m : Nat) : (s.event c d p r x k m).waves = s.waves := by unfold State.event; cases r <;> simp only [] <;> split <;> split <;> simp
@[simp] theorem State.event_eng (s : State) (c : Nat) (d : Dest) (p r : Option Nat) (x : Detail) (k m : Nat) : (s.event c d p r x k m).eng = s.eng := by unfold State.event; cases r <;> simp only [] <;> split <;> split <;> simp
@[simp] theorem State.event_chans (s : State) (c : Nat) (d : Dest) (p r : Option Nat) (x : Detail) (k m : Nat) : (s.event c d p r x k m).chans = s.chans := by unfold State.event; cases r <;> simp only [] <;> split <;> split <;> simp
@[simp] theorem State.event_hlt (s : State) (c : Nat) (d : Dest) (p r : Option Nat) (x : Detail) (k m : Nat) : (s.event c d p r x k m).hlt = s.hlt := by unfold State.event; cases r <;> simp only [] <;> split <;> split <;> simp
@[simp] theorem State.event_mram (s : State) (c : Nat) (d : Dest) (p r : Option Nat) (x : Detail) (k m : Nat) : (s.event c d p r x k m).mram = s.mram := by unfold State.event; cases r <;> simp only [] <;> split <;> split <;> simp
@[simp] theorem State.event_ctrs (s : State) (c : Nat) (d : Dest) (p r : Option Nat) (x : Detail) (k m : Nat) : (s.event c d p r x k m).ctrs = s.ctrs := by unfold State.event; cases r <;> simp only [] <;> split <;> split <;> simp
@[simp] theorem State.event_draws (s : State) (c : Nat) (d : Dest) (p r : Option Nat) (x : Detail) (k m : Nat) : (s.event c d p r x k m).draws = s.draws := by unfold State.event; cases r <;> simp only [] <;> split <;> split <;> simp
@[simp] theorem State.event_pending (s : State) (c : Nat) (d : Dest) (p r : Option Nat) (x : Detail) (k m : Nat) : (s.event c d p r x k m).pending = s.pending := by unfold State.event; cases r <;> simp only [] <;> split <;> split <;> simp

@[simp] theorem State.eventLimited_now (s : State) (c : Nat) (l : List Nat) (d : Dest) (p r : Option Nat) (x : Detail) : (s.eventLimited c l d p r x).now = s.now := by unfold State.eventLimited; simp only []; split <;> first | (split <;> simp) | simp
@[simp] theorem State.eventLimited_cfg (s : State) (c : Nat) (l : List Nat) (d : Dest) (p r : Option Nat) (x : Detail) : (s.eventLimited c l d p r x).cfg = s.cfg := by unfold State.eventLimited; simp only []; split <;> first | (split <;> simp) | simp
@[simp] theorem State.eventLimited_tabs (s : State) (c : Nat) (l : List Nat) (d : Dest) (p r : Option Nat) (x : Detail) : (s.eventLimited c l d p r x).tabs = s.tabs := by unfold State.eventLimited; simp only []; split <;> first | (split <;> simp) | simp
@[simp] theorem State.eventLimited_jrn (s : State) (c : Nat) (l : List Nat) (d : Dest) (p r : Option Nat) (x : Detail) : (s.eventLimited c l d p r x).jrn = s.jrn := by unfold State.eventLimited; simp only []; split <;> first | (split <;> simp) | simp
@[simp] theorem State.eventLimited_warp (s : State) (c : Nat) (l : List Nat) (d : Dest) (p r : Option Nat) (x : Detail) : (s.eventLimited c l d p r x).warp = s.warp := by unfold State.eventLimited; simp only []; split <;> first | (split <;> simp) | simp
@[simp] theorem State.eventLimited_arbs (s : State) (c : Nat) (l : List Nat) (d : Dest) (p r : Option Nat) (x : Detail) : (s.eventLimited c l d p r x).arbs = s.arbs := by unfold State.eventLimited; simp only []; split <;> first | (split <;> simp) | simp
@[simp] theorem State.eventLimited_links (s : State) (c : Nat) (l : List Nat) (d : Dest) (p r : Option Nat) (x : Detail) : (s.eventLimited c l d p r x).links = s.links := by unfold State.eventLimited; simp only []; split <;> first | (split <;> simp) | simp
@[simp] theorem State.eventLimited_waves (s : State) (c : Nat) (l : List Nat) (d : Dest) (p r : Option Nat) (x : Detail) : (s.eventLimited c l d p r x).waves = s.waves := by unfold State.eventLimited; simp only []; split <;> first | (split <;> simp) | simp
@[simp] theorem State.eventLimited_eng (s : State) (c : Nat) (l : List Nat) (d : Dest) (p r : Option Nat) (x : Detail) : (s.eventLimited c l d p r x).eng = s.eng := by unfold State.eventLimited; simp only []; split <;> first | (split <;> simp) | simp
@[simp] theorem State.eventLimited_chans (s : State) (c : Nat) (l : List Nat) (d : Dest) (p r : Option Nat) (x : Detail) : (s.eventLimited c l d p r x).chans = s.chans := by unfold State.eventLimited; simp only []; split <;> first | (split <;> simp) | simp
@[simp] theorem State.eventLimited_hlt (s : State) (c : Nat) (l : List Nat) (d : Dest) (p r : Option Nat) (x : Detail) : (s.eventLimited c l d p r x).hlt = s.hlt := by unfold State.eventLimited; simp only []; split <;> first | (split <;> simp) | simp
@[simp] theorem State.eventLimited_mram (s : State) (c : Nat) (l : List Nat) (d : Dest) (p r : Option Nat) (x : Detail) : (s.eventLimited c l d p r x).mram = s.mram := by unfold State.eventLimited; simp only []; split <;> first | (split <;> simp) | simp
@[simp] theorem State.eventLimited_ctrs (s : State) (c : Nat) (l : List Nat) (d : Dest) (p r : Option Nat) (x : Detail) : (s.eventLimited c l d p r x).ctrs = s.ctrs := by unfold State.eventLimited; simp only []; split <;> first | (split <;> simp) | simp
@[simp] theorem State.eventLimited_draws (s : State) (c : Nat) (l : List Nat) (d : Dest) (p r : Option Nat) (x : Detail) : (s.eventLimited c l d p r x).draws = s.draws := by unfold State.eventLimited; simp only []; split <;> first | (split <;> simp) | simp
@[simp] theorem State.eventLimited_pending (s : State) (c : Nat) (l : List Nat) (d : Dest) (p r : Option Nat) (x : Detail) : (s.eventLimited c l d p r x).pending = s.pending := by unfold State.eventLimited; simp only []; split <;> first | (split <;> simp) | simp

@[simp] theorem State.extendChain_now (s : State) (c : Nat) (b : Bytes) : (s.extendChain c b).now = s.now := by rfl
@[simp] theorem State.extendChain_cfg (s : State) (c : Nat) (b : Bytes) : (s.extendChain c b).cfg = s.cfg := by rfl
@[simp] theorem State.extendChain_tabs (s : State) (c : Nat) (b : Bytes) : (s.extendChain c b).tabs = s.tabs := by rfl
@[simp] theorem State.extendChain_jrn (s : State) (c : Nat) (b : Bytes) : (s.extendChain c b).jrn = s.jrn := by rfl
@[simp] theorem State.extendChain_mem (s : State) (c : Nat) (b : Bytes) : (s.extendChain c b).mem = s.mem := by rfl
@[simp] theorem State.extendChain_warp (s : State) (c : Nat) (b : Bytes) : (s.extendChain c b).warp = s.warp := by rfl
@[simp] theorem State.extendChain_arbs (s : State) (c : Nat) (b : Bytes) : (s.extendChain c b).arbs = s.arbs := by rfl
@[simp] theorem State.extendChain_links (s : State) (c : Nat) (b : Bytes) : (s.extendChain c b).links = s.links := by rfl
@[simp] theorem State.extendChain_waves (s : State) (c : Nat) (b : Bytes) : (s.extendChain c b).waves = s.waves := by rfl
@[simp] theorem State.extendChain_eng (s : State) (c : Nat) (b : Bytes) : (s.extendChain c b).eng = s.eng := by rfl
@[simp] theorem State.extendChain_chans (s : State) (c : Nat) (b : Bytes) : (s.extendChain c b).chans = s.chans := by rfl
@[simp] theorem State.extendChain_parts (s : State) (c : Nat) (b : Bytes) : (s.extendChain c b).parts = s.parts := by rfl
@[simp] theorem State.extendChain_hlt (s : State) (c : Nat) (b : Bytes) : (s.extendChain c b).hlt = s.hlt := by rfl
@[simp] theorem State.extendChain_mram (s : State) (c : Nat) (b : Bytes) : (s.extendChain c b).mram = s.mram := by rfl
@[simp] theorem State.extendChain_ctrs (s : State) (c : Nat) (b : Bytes) : (s.extendChain c b).ctrs = s.ctrs := by rfl
@[simp] theorem State.extendChain_draws (s : State) (c : Nat) (b : Bytes) : (s.extendChain c b).draws = s.draws := by rfl
@[simp] theorem State.extendChain_pending (s : State) (c : Nat) (b : Bytes) : (s.extendChain c b).pending = s.pending := by rfl

@[simp] theorem State.cloveLog_now (s : State) (a : Nat) (p : Option Nat) (o x y c : Nat) : (s.cloveLog a p o x y c).now = s.now :=
  (State.each_keeps (·.now) _ State.toOwner (fun s e => State.toOwner_now s e) _).trans rfl
@[simp] theorem State.cloveLog_cfg (s : State) (a : Nat) (p : Option Nat) (o x y c : Nat) : (s.cloveLog a p o x y c).cfg = s.cfg :=
  (State.each_keeps (·.cfg) _ State.toOwner (fun s e => State.toOwner_cfg s e) _).trans rfl
@[simp] theorem State.cloveLog_tabs (s : State) (a : Nat) (p : Option Nat) (o x y c : Nat) : (s.cloveLog a p o x y c).tabs = s.tabs :=
  (State.each_keeps (·.tabs) _ State.toOwner (fun s e => State.toOwner_tabs s e) _).trans rfl
@[simp] theorem State.cloveLog_jrn (s : State) (a : Nat) (p : Option Nat) (o x y c : Nat) : (s.cloveLog a p o x y c).jrn = s.jrn :=
  (State.each_keeps (·.jrn) _ State.toOwner (fun s e => State.toOwner_jrn s e) _).trans rfl
@[simp] theorem State.cloveLog_mem (s : State) (a : Nat) (p : Option Nat) (o x y c : Nat) : (s.cloveLog a p o x y c).mem = s.mem :=
  (State.each_keeps (·.mem) _ State.toOwner (fun s e => State.toOwner_mem s e) _).trans rfl
@[simp] theorem State.cloveLog_warp (s : State) (a : Nat) (p : Option Nat) (o x y c : Nat) : (s.cloveLog a p o x y c).warp = s.warp :=
  (State.each_keeps (·.warp) _ State.toOwner (fun s e => State.toOwner_warp s e) _).trans rfl
@[simp] theorem State.cloveLog_arbs (s : State) (a : Nat) (p : Option Nat) (o x y c : Nat) : (s.cloveLog a p o x y c).arbs = s.arbs :=
  (State.each_keeps (·.arbs) _ State.toOwner (fun s e => State.toOwner_arbs s e) _).trans rfl
@[simp] theorem State.cloveLog_links (s : State) (a : Nat) (p : Option Nat) (o x y c : Nat) : (s.cloveLog a p o x y c).links = s.links :=
  (State.each_keeps (·.links) _ State.toOwner (fun s e => State.toOwner_links s e) _).trans rfl
@[simp] theorem State.cloveLog_waves (s : State) (a : Nat) (p : Option Nat) (o x y c : Nat) : (s.cloveLog a p o x y c).waves = s.waves :=
  (State.each_keeps (·.waves) _ State.toOwner (fun s e => State.toOwner_waves s e) _).trans rfl
@[simp] theorem State.cloveLog_eng (s : State) (a : Nat) (p : Option Nat) (o x y c : Nat) : (s.cloveLog a p o x y c).eng = s.eng :=
  (State.each_keeps (·.eng) _ State.toOwner (fun s e => State.toOwner_eng s e) _).trans rfl
@[simp] theorem State.cloveLog_chans (s : State) (a : Nat) (p : Option Nat) (o x y c : Nat) : (s.cloveLog a p o x y c).chans = s.chans :=
  (State.each_keeps (·.chans) _ State.toOwner (fun s e => State.toOwner_chans s e) _).trans rfl
@[simp] theorem State.cloveLog_parts (s : State) (a : Nat) (p : Option Nat) (o x y c : Nat) : (s.cloveLog a p o x y c).parts = s.parts :=
  (State.each_keeps (·.parts) _ State.toOwner (fun s e => State.toOwner_parts s e) _).trans rfl
@[simp] theorem State.cloveLog_hlt (s : State) (a : Nat) (p : Option Nat) (o x y c : Nat) : (s.cloveLog a p o x y c).hlt = s.hlt :=
  (State.each_keeps (·.hlt) _ State.toOwner (fun s e => State.toOwner_hlt s e) _).trans rfl
@[simp] theorem State.cloveLog_mram (s : State) (a : Nat) (p : Option Nat) (o x y c : Nat) : (s.cloveLog a p o x y c).mram = s.mram :=
  (State.each_keeps (·.mram) _ State.toOwner (fun s e => State.toOwner_mram s e) _).trans rfl
@[simp] theorem State.cloveLog_ctrs (s : State) (a : Nat) (p : Option Nat) (o x y c : Nat) : (s.cloveLog a p o x y c).ctrs = s.ctrs :=
  (State.each_keeps (·.ctrs) _ State.toOwner (fun s e => State.toOwner_ctrs s e) _).trans rfl
@[simp] theorem State.cloveLog_draws (s : State) (a : Nat) (p : Option Nat) (o x y c : Nat) : (s.cloveLog a p o x y c).draws = s.draws :=
  (State.each_keeps (·.draws) _ State.toOwner (fun s e => State.toOwner_draws s e) _).trans rfl
@[simp] theorem State.cloveLog_pending (s : State) (a : Nat) (p : Option Nat) (o x y c : Nat) : (s.cloveLog a p o x y c).pending = s.pending :=
  (State.each_keeps (·.pending) _ State.toOwner (fun s e => State.toOwner_pending s e) _).trans rfl

@[simp] theorem State.healthInput_now (s : State) (a b : Nat) : (s.healthInput a b).now = s.now := by rfl
@[simp] theorem State.healthInput_cfg (s : State) (a b : Nat) : (s.healthInput a b).cfg = s.cfg := by rfl
@[simp] theorem State.healthInput_tabs (s : State) (a b : Nat) : (s.healthInput a b).tabs = s.tabs := by rfl
@[simp] theorem State.healthInput_jrn (s : State) (a b : Nat) : (s.healthInput a b).jrn = s.jrn := by rfl
@[simp] theorem State.healthInput_mem (s : State) (a b : Nat) : (s.healthInput a b).mem = s.mem := by rfl
@[simp] theorem State.healthInput_warp (s : State) (a b : Nat) : (s.healthInput a b).warp = s.warp := by rfl
@[simp] theorem State.healthInput_arbs (s : State) (a b : Nat) : (s.healthInput a b).arbs = s.arbs := by rfl
@[simp] theorem State.healthInput_links (s : State) (a b : Nat) : (s.healthInput a b).links = s.links := by rfl
@[simp] theorem State.healthInput_waves (s : State) (a b : Nat) : (s.healthInput a b).waves = s.waves := by rfl
@[simp] theorem State.healthInput_eng (s : State) (a b : Nat) : (s.healthInput a b).eng = s.eng := by rfl
@[simp] theorem State.healthInput_chans (s : State) (a b : Nat) : (s.healthInput a b).chans = s.chans := by rfl
@[simp] theorem State.healthInput_parts (s : State) (a b : Nat) : (s.healthInput a b).parts = s.parts := by rfl
@[simp] theorem State.healthInput_hoop (s : State) (a b : Nat) : (s.healthInput a b).hoop = s.hoop := by rfl
@[simp] theorem State.healthInput_mram (s : State) (a b : Nat) : (s.healthInput a b).mram = s.mram := by rfl
@[simp] theorem State.healthInput_ctrs (s : State) (a b : Nat) : (s.healthInput a b).ctrs = s.ctrs := by rfl
@[simp] theorem State.healthInput_draws (s : State) (a b : Nat) : (s.healthInput a b).draws = s.draws := by rfl
@[simp] theorem State.healthInput_pending (s : State) (a b : Nat) : (s.healthInput a b).pending = s.pending := by rfl

@[simp] theorem State.islandInput_now (s : State) (i : Island) : (s.islandInput i).now = s.now := by unfold State.islandInput; split <;> rfl
@[simp] theorem State.islandInput_cfg (s : State) (i : Island) : (s.islandInput i).cfg = s.cfg := by unfold State.islandInput; split <;> rfl
@[simp] theorem State.islandInput_tabs (s : State) (i : Island) : (s.islandInput i).tabs = s.tabs := by unfold State.islandInput; split <;> rfl
@[simp] theorem State.islandInput_jrn (s : State) (i : Island) : (s.islandInput i).jrn = s.jrn := by unfold State.islandInput; split <;> rfl
@[simp] theorem State.islandInput_mem (s : State) (i : Island) : (s.islandInput i).mem = s.mem := by unfold State.islandInput; split <;> rfl
@[simp] theorem State.islandInput_warp (s : State) (i : Island) : (s.islandInput i).warp = s.warp := by unfold State.islandInput; split <;> rfl
@[simp] theorem State.islandInput_arbs (s : State) (i : Island) : (s.islandInput i).arbs = s.arbs := by unfold State.islandInput; split <;> rfl
@[simp] theorem State.islandInput_links (s : State) (i : Island) : (s.islandInput i).links = s.links := by unfold State.islandInput; split <;> rfl
@[simp] theorem State.islandInput_waves (s : State) (i : Island) : (s.islandInput i).waves = s.waves := by unfold State.islandInput; split <;> rfl
@[simp] theorem State.islandInput_eng (s : State) (i : Island) : (s.islandInput i).eng = s.eng := by unfold State.islandInput; split <;> rfl
@[simp] theorem State.islandInput_chans (s : State) (i : Island) : (s.islandInput i).chans = s.chans := by unfold State.islandInput; split <;> rfl
@[simp] theorem State.islandInput_parts (s : State) (i : Island) : (s.islandInput i).parts = s.parts := by unfold State.islandInput; split <;> rfl
@[simp] theorem State.islandInput_hoop (s : State) (i : Island) : (s.islandInput i).hoop = s.hoop := by unfold State.islandInput; split <;> rfl
@[simp] theorem State.islandInput_mram (s : State) (i : Island) : (s.islandInput i).mram = s.mram := by unfold State.islandInput; split <;> rfl
@[simp] theorem State.islandInput_ctrs (s : State) (i : Island) : (s.islandInput i).ctrs = s.ctrs := by unfold State.islandInput; split <;> rfl
@[simp] theorem State.islandInput_draws (s : State) (i : Island) : (s.islandInput i).draws = s.draws := by unfold State.islandInput; split <;> rfl
@[simp] theorem State.islandInput_pending (s : State) (i : Island) : (s.islandInput i).pending = s.pending := by unfold State.islandInput; split <;> rfl

/-- What an event, a ring entry or an interrupt changes of the Hoop die: rings and interrupts alone. -/
theorem State.fire_hoop (s : State) (fn v : Nat) : (s.fire fn v).hoop = { s.hoop with msix := (s.fire fn v).hoop.msix, irqs := (s.fire fn v).hoop.irqs } := by
  unfold State.fire; repeat (first | rfl | split)
theorem State.toOwner_hoop (s : State) (e : Bytes) : (s.toOwner e).hoop = { s.hoop with eventRings := (s.toOwner e).hoop.eventRings, ownerRing := (s.toOwner e).hoop.ownerRing, msix := (s.toOwner e).hoop.msix, irqs := (s.toOwner e).hoop.irqs } := by
  unfold State.toOwner; rw [State.fire_hoop, State.fire_hoop]; rfl
theorem State.toManagers_hoop (s : State) (e : Bytes) : (s.toManagers e).hoop = { s.hoop with eventRings := (s.toManagers e).hoop.eventRings, ownerRing := (s.toManagers e).hoop.ownerRing, msix := (s.toManagers e).hoop.msix, irqs := (s.toManagers e).hoop.irqs } := by
  unfold State.toManagers; rw [State.fire_hoop, State.fire_hoop]; rfl
theorem State.event_hoop (s : State) (c : Nat) (d : Dest) (p r : Option Nat) (x : Detail) (k m : Nat) : (s.event c d p r x k m).hoop = { s.hoop with eventRings := (s.event c d p r x k m).hoop.eventRings, ownerRing := (s.event c d p r x k m).hoop.ownerRing, msix := (s.event c d p r x k m).hoop.msix, irqs := (s.event c d p r x k m).hoop.irqs } := by
  unfold State.event; cases r <;> simp only [State.toPartRing_hoop] <;> split <;> split <;> first | rw [State.toManagers_hoop, State.toOwner_hoop] | rw [State.toManagers_hoop] | rw [State.toOwner_hoop] | rfl
theorem State.eventLimited_hoop (s : State) (c : Nat) (l : List Nat) (d : Dest) (p r : Option Nat) (x : Detail) : (s.eventLimited c l d p r x).hoop = { s.hoop with eventRings := (s.eventLimited c l d p r x).hoop.eventRings, ownerRing := (s.eventLimited c l d p r x).hoop.ownerRing, msix := (s.eventLimited c l d p r x).hoop.msix, irqs := (s.eventLimited c l d p r x).hoop.irqs, limits := (s.eventLimited c l d p r x).hoop.limits } := by
  unfold State.eventLimited; simp only []; split
  · split
    · rfl
    · rw [State.event_hoop]; rfl
  · rw [State.event_hoop]; rfl

@[simp] theorem State.event_phase (s : State) (c : Nat) (d : Dest) (p r : Option Nat) (x : Detail) (k m : Nat) : (s.event c d p r x k m).hoop.phase = s.hoop.phase := by rw [State.event_hoop]
@[simp] theorem State.event_startedAt (s : State) (c : Nat) (d : Dest) (p r : Option Nat) (x : Detail) (k m : Nat) : (s.event c d p r x k m).hoop.startedAt = s.hoop.startedAt := by rw [State.event_hoop]
@[simp] theorem State.event_sealMs (s : State) (c : Nat) (d : Dest) (p r : Option Nat) (x : Detail) (k m : Nat) : (s.event c d p r x k m).hoop.sealMs = s.hoop.sealMs := by rw [State.event_hoop]
@[simp] theorem State.event_lastReset (s : State) (c : Nat) (d : Dest) (p r : Option Nat) (x : Detail) (k m : Nat) : (s.event c d p r x k m).hoop.lastReset = s.hoop.lastReset := by rw [State.event_hoop]
@[simp] theorem State.event_cold (s : State) (c : Nat) (d : Dest) (p r : Option Nat) (x : Detail) (k m : Nat) : (s.event c d p r x k m).hoop.cold = s.hoop.cold := by rw [State.event_hoop]
@[simp] theorem State.event_cause (s : State) (c : Nat) (d : Dest) (p r : Option Nat) (x : Detail) (k m : Nat) : (s.event c d p r x k m).hoop.cause = s.hoop.cause := by rw [State.event_hoop]
@[simp] theorem State.event_slot (s : State) (c : Nat) (d : Dest) (p r : Option Nat) (x : Detail) (k m : Nat) : (s.event c d p r x k m).hoop.slot = s.hoop.slot := by rw [State.event_hoop]
@[simp] theorem State.event_fallback (s : State) (c : Nat) (d : Dest) (p r : Option Nat) (x : Detail) (k m : Nat) : (s.event c d p r x k m).hoop.fallback = s.hoop.fallback := by rw [State.event_hoop]
@[simp] theorem State.event_pufOk (s : State) (c : Nat) (d : Dest) (p r : Option Nat) (x : Detail) (k m : Nat) : (s.event c d p r x k m).hoop.pufOk = s.hoop.pufOk := by rw [State.event_hoop]
@[simp] theorem State.event_loaded (s : State) (c : Nat) (d : Dest) (p r : Option Nat) (x : Detail) (k m : Nat) : (s.event c d p r x k m).hoop.loaded = s.hoop.loaded := by rw [State.event_hoop]
@[simp] theorem State.event_power (s : State) (c : Nat) (d : Dest) (p r : Option Nat) (x : Detail) (k m : Nat) : (s.event c d p r x k m).hoop.power = s.hoop.power := by rw [State.event_hoop]
@[simp] theorem State.event_resetting (s : State) (c : Nat) (d : Dest) (p r : Option Nat) (x : Detail) (k m : Nat) : (s.event c d p r x k m).hoop.resetting = s.hoop.resetting := by rw [State.event_hoop]
@[simp] theorem State.event_standbyDrain (s : State) (c : Nat) (d : Dest) (p r : Option Nat) (x : Detail) (k m : Nat) : (s.event c d p r x k m).hoop.standbyDrain = s.hoop.standbyDrain := by rw [State.event_hoop]
@[simp] theorem State.event_resets (s : State) (c : Nat) (d : Dest) (p r : Option Nat) (x : Detail) (k m : Nat) : (s.event c d p r x k m).hoop.resets = s.hoop.resets := by rw [State.event_hoop]
@[simp] theorem State.event_tripWait (s : State) (c : Nat) (d : Dest) (p r : Option Nat) (x : Detail) (k m : Nat) : (s.event c d p r x k m).hoop.tripWait = s.hoop.tripWait := by rw [State.event_hoop]
@[simp] theorem State.event_temps (s : State) (c : Nat) (d : Dest) (p r : Option Nat) (x : Detail) (k m : Nat) : (s.event c d p r x k m).hoop.temps = s.hoop.temps := by rw [State.event_hoop]
@[simp] theorem State.event_powerHold (s : State) (c : Nat) (d : Dest) (p r : Option Nat) (x : Detail) (k m : Nat) : (s.event c d p r x k m).hoop.powerHold = s.hoop.powerHold := by rw [State.event_hoop]
@[simp] theorem State.event_thermalHold (s : State) (c : Nat) (d : Dest) (p r : Option Nat) (x : Detail) (k m : Nat) : (s.event c d p r x k m).hoop.thermalHold = s.hoop.thermalHold := by rw [State.event_hoop]
@[simp] theorem State.event_holdEvent (s : State) (c : Nat) (d : Dest) (p r : Option Nat) (x : Detail) (k m : Nat) : (s.event c d p r x k m).hoop.holdEvent = s.hoop.holdEvent := by rw [State.event_hoop]
@[simp] theorem State.event_power1s (s : State) (c : Nat) (d : Dest) (p r : Option Nat) (x : Detail) (k m : Nat) : (s.event c d p r x k m).hoop.power1s = s.hoop.power1s := by rw [State.event_hoop]
@[simp] theorem State.event_thermTrip (s : State) (c : Nat) (d : Dest) (p r : Option Nat) (x : Detail) (k m : Nat) : (s.event c d p r x k m).hoop.thermTrip = s.hoop.thermTrip := by rw [State.event_hoop]
@[simp] theorem State.event_spillKey (s : State) (c : Nat) (d : Dest) (p r : Option Nat) (x : Detail) (k m : Nat) : (s.event c d p r x k m).hoop.spillKey = s.hoop.spillKey := by rw [State.event_hoop]
@[simp] theorem State.event_transportKey (s : State) (c : Nat) (d : Dest) (p r : Option Nat) (x : Detail) (k m : Nat) : (s.event c d p r x k m).hoop.transportKey = s.hoop.transportKey := by rw [State.event_hoop]
@[simp] theorem State.event_offerNonce (s : State) (c : Nat) (d : Dest) (p r : Option Nat) (x : Detail) (k m : Nat) : (s.event c d p r x k m).hoop.offerNonce = s.hoop.offerNonce := by rw [State.event_hoop]
@[simp] theorem State.event_limits (s : State) (c : Nat) (d : Dest) (p r : Option Nat) (x : Detail) (k m : Nat) : (s.event c d p r x k m).hoop.limits = s.hoop.limits := by rw [State.event_hoop]
@[simp] theorem State.event_queue (s : State) (c : Nat) (d : Dest) (p r : Option Nat) (x : Detail) (k m : Nat) : (s.event c d p r x k m).hoop.queue = s.hoop.queue := by rw [State.event_hoop]
@[simp] theorem State.event_running (s : State) (c : Nat) (d : Dest) (p r : Option Nat) (x : Detail) (k m : Nat) : (s.event c d p r x k m).hoop.running = s.hoop.running := by rw [State.event_hoop]
@[simp] theorem State.event_witnessWait (s : State) (c : Nat) (d : Dest) (p r : Option Nat) (x : Detail) (k m : Nat) : (s.event c d p r x k m).hoop.witnessWait = s.hoop.witnessWait := by rw [State.event_hoop]
@[simp] theorem State.event_mailbox (s : State) (c : Nat) (d : Dest) (p r : Option Nat) (x : Detail) (k m : Nat) : (s.event c d p r x k m).hoop.mailbox = s.hoop.mailbox := by rw [State.event_hoop]
@[simp] theorem State.event_responses (s : State) (c : Nat) (d : Dest) (p r : Option Nat) (x : Detail) (k m : Nat) : (s.event c d p r x k m).hoop.responses = s.hoop.responses := by rw [State.event_hoop]
@[simp] theorem State.event_answers (s : State) (c : Nat) (d : Dest) (p r : Option Nat) (x : Detail) (k m : Nat) : (s.event c d p r x k m).hoop.answers = s.hoop.answers := by rw [State.event_hoop]
@[simp] theorem State.event_aer (s : State) (c : Nat) (d : Dest) (p r : Option Nat) (x : Detail) (k m : Nat) : (s.event c d p r x k m).hoop.aer = s.hoop.aer := by rw [State.event_hoop]
@[simp] theorem State.event_pcieUp (s : State) (c : Nat) (d : Dest) (p r : Option Nat) (x : Detail) (k m : Nat) : (s.event c d p r x k m).hoop.pcieUp = s.hoop.pcieUp := by rw [State.event_hoop]
@[simp] theorem State.event_spdm (s : State) (c : Nat) (d : Dest) (p r : Option Nat) (x : Detail) (k m : Nat) : (s.event c d p r x k m).hoop.spdm = s.hoop.spdm := by rw [State.event_hoop]
@[simp] theorem State.event_chains (s : State) (c : Nat) (d : Dest) (p r : Option Nat) (x : Detail) (k m : Nat) : (s.event c d p r x k m).hoop.chains = s.hoop.chains := by rw [State.event_hoop]
@[simp] theorem State.event_cloveIndex (s : State) (c : Nat) (d : Dest) (p r : Option Nat) (x : Detail) (k m : Nat) : (s.event c d p r x k m).hoop.cloveIndex = s.hoop.cloveIndex := by rw [State.event_hoop]
@[simp] theorem State.event_i3c (s : State) (c : Nat) (d : Dest) (p r : Option Nat) (x : Detail) (k m : Nat) : (s.event c d p r x k m).hoop.i3c = s.hoop.i3c := by rw [State.event_hoop]
@[simp] theorem State.event_certParts (s : State) (c : Nat) (d : Dest) (p r : Option Nat) (x : Detail) (k m : Nat) : (s.event c d p r x k m).hoop.certParts = s.hoop.certParts := by rw [State.event_hoop]
@[simp] theorem State.event_measured (s : State) (c : Nat) (d : Dest) (p r : Option Nat) (x : Detail) (k m : Nat) : (s.event c d p r x k m).hoop.measured = s.hoop.measured := by rw [State.event_hoop]
@[simp] theorem State.event_weakSym (s : State) (c : Nat) (d : Dest) (p r : Option Nat) (x : Detail) (k m : Nat) : (s.event c d p r x k m).hoop.weakSym = s.hoop.weakSym := by rw [State.event_hoop]
@[simp] theorem State.event_window (s : State) (c : Nat) (d : Dest) (p r : Option Nat) (x : Detail) (k m : Nat) : (s.event c d p r x k m).hoop.window = s.hoop.window := by rw [State.event_hoop]
@[simp] theorem State.eventLimited_phase (s : State) (c : Nat) (l : List Nat) (d : Dest) (p r : Option Nat) (x : Detail) : (s.eventLimited c l d p r x).hoop.phase = s.hoop.phase := by rw [State.eventLimited_hoop]
@[simp] theorem State.eventLimited_startedAt (s : State) (c : Nat) (l : List Nat) (d : Dest) (p r : Option Nat) (x : Detail) : (s.eventLimited c l d p r x).hoop.startedAt = s.hoop.startedAt := by rw [State.eventLimited_hoop]
@[simp] theorem State.eventLimited_sealMs (s : State) (c : Nat) (l : List Nat) (d : Dest) (p r : Option Nat) (x : Detail) : (s.eventLimited c l d p r x).hoop.sealMs = s.hoop.sealMs := by rw [State.eventLimited_hoop]
@[simp] theorem State.eventLimited_lastReset (s : State) (c : Nat) (l : List Nat) (d : Dest) (p r : Option Nat) (x : Detail) : (s.eventLimited c l d p r x).hoop.lastReset = s.hoop.lastReset := by rw [State.eventLimited_hoop]
@[simp] theorem State.eventLimited_cold (s : State) (c : Nat) (l : List Nat) (d : Dest) (p r : Option Nat) (x : Detail) : (s.eventLimited c l d p r x).hoop.cold = s.hoop.cold := by rw [State.eventLimited_hoop]
@[simp] theorem State.eventLimited_cause (s : State) (c : Nat) (l : List Nat) (d : Dest) (p r : Option Nat) (x : Detail) : (s.eventLimited c l d p r x).hoop.cause = s.hoop.cause := by rw [State.eventLimited_hoop]
@[simp] theorem State.eventLimited_slot (s : State) (c : Nat) (l : List Nat) (d : Dest) (p r : Option Nat) (x : Detail) : (s.eventLimited c l d p r x).hoop.slot = s.hoop.slot := by rw [State.eventLimited_hoop]
@[simp] theorem State.eventLimited_fallback (s : State) (c : Nat) (l : List Nat) (d : Dest) (p r : Option Nat) (x : Detail) : (s.eventLimited c l d p r x).hoop.fallback = s.hoop.fallback := by rw [State.eventLimited_hoop]
@[simp] theorem State.eventLimited_pufOk (s : State) (c : Nat) (l : List Nat) (d : Dest) (p r : Option Nat) (x : Detail) : (s.eventLimited c l d p r x).hoop.pufOk = s.hoop.pufOk := by rw [State.eventLimited_hoop]
@[simp] theorem State.eventLimited_loaded (s : State) (c : Nat) (l : List Nat) (d : Dest) (p r : Option Nat) (x : Detail) : (s.eventLimited c l d p r x).hoop.loaded = s.hoop.loaded := by rw [State.eventLimited_hoop]
@[simp] theorem State.eventLimited_power (s : State) (c : Nat) (l : List Nat) (d : Dest) (p r : Option Nat) (x : Detail) : (s.eventLimited c l d p r x).hoop.power = s.hoop.power := by rw [State.eventLimited_hoop]
@[simp] theorem State.eventLimited_resetting (s : State) (c : Nat) (l : List Nat) (d : Dest) (p r : Option Nat) (x : Detail) : (s.eventLimited c l d p r x).hoop.resetting = s.hoop.resetting := by rw [State.eventLimited_hoop]
@[simp] theorem State.eventLimited_standbyDrain (s : State) (c : Nat) (l : List Nat) (d : Dest) (p r : Option Nat) (x : Detail) : (s.eventLimited c l d p r x).hoop.standbyDrain = s.hoop.standbyDrain := by rw [State.eventLimited_hoop]
@[simp] theorem State.eventLimited_resets (s : State) (c : Nat) (l : List Nat) (d : Dest) (p r : Option Nat) (x : Detail) : (s.eventLimited c l d p r x).hoop.resets = s.hoop.resets := by rw [State.eventLimited_hoop]
@[simp] theorem State.eventLimited_tripWait (s : State) (c : Nat) (l : List Nat) (d : Dest) (p r : Option Nat) (x : Detail) : (s.eventLimited c l d p r x).hoop.tripWait = s.hoop.tripWait := by rw [State.eventLimited_hoop]
@[simp] theorem State.eventLimited_temps (s : State) (c : Nat) (l : List Nat) (d : Dest) (p r : Option Nat) (x : Detail) : (s.eventLimited c l d p r x).hoop.temps = s.hoop.temps := by rw [State.eventLimited_hoop]
@[simp] theorem State.eventLimited_powerHold (s : State) (c : Nat) (l : List Nat) (d : Dest) (p r : Option Nat) (x : Detail) : (s.eventLimited c l d p r x).hoop.powerHold = s.hoop.powerHold := by rw [State.eventLimited_hoop]
@[simp] theorem State.eventLimited_thermalHold (s : State) (c : Nat) (l : List Nat) (d : Dest) (p r : Option Nat) (x : Detail) : (s.eventLimited c l d p r x).hoop.thermalHold = s.hoop.thermalHold := by rw [State.eventLimited_hoop]
@[simp] theorem State.eventLimited_holdEvent (s : State) (c : Nat) (l : List Nat) (d : Dest) (p r : Option Nat) (x : Detail) : (s.eventLimited c l d p r x).hoop.holdEvent = s.hoop.holdEvent := by rw [State.eventLimited_hoop]
@[simp] theorem State.eventLimited_power1s (s : State) (c : Nat) (l : List Nat) (d : Dest) (p r : Option Nat) (x : Detail) : (s.eventLimited c l d p r x).hoop.power1s = s.hoop.power1s := by rw [State.eventLimited_hoop]
@[simp] theorem State.eventLimited_thermTrip (s : State) (c : Nat) (l : List Nat) (d : Dest) (p r : Option Nat) (x : Detail) : (s.eventLimited c l d p r x).hoop.thermTrip = s.hoop.thermTrip := by rw [State.eventLimited_hoop]
@[simp] theorem State.eventLimited_spillKey (s : State) (c : Nat) (l : List Nat) (d : Dest) (p r : Option Nat) (x : Detail) : (s.eventLimited c l d p r x).hoop.spillKey = s.hoop.spillKey := by rw [State.eventLimited_hoop]
@[simp] theorem State.eventLimited_transportKey (s : State) (c : Nat) (l : List Nat) (d : Dest) (p r : Option Nat) (x : Detail) : (s.eventLimited c l d p r x).hoop.transportKey = s.hoop.transportKey := by rw [State.eventLimited_hoop]
@[simp] theorem State.eventLimited_offerNonce (s : State) (c : Nat) (l : List Nat) (d : Dest) (p r : Option Nat) (x : Detail) : (s.eventLimited c l d p r x).hoop.offerNonce = s.hoop.offerNonce := by rw [State.eventLimited_hoop]
@[simp] theorem State.eventLimited_queue (s : State) (c : Nat) (l : List Nat) (d : Dest) (p r : Option Nat) (x : Detail) : (s.eventLimited c l d p r x).hoop.queue = s.hoop.queue := by rw [State.eventLimited_hoop]
@[simp] theorem State.eventLimited_running (s : State) (c : Nat) (l : List Nat) (d : Dest) (p r : Option Nat) (x : Detail) : (s.eventLimited c l d p r x).hoop.running = s.hoop.running := by rw [State.eventLimited_hoop]
@[simp] theorem State.eventLimited_witnessWait (s : State) (c : Nat) (l : List Nat) (d : Dest) (p r : Option Nat) (x : Detail) : (s.eventLimited c l d p r x).hoop.witnessWait = s.hoop.witnessWait := by rw [State.eventLimited_hoop]
@[simp] theorem State.eventLimited_mailbox (s : State) (c : Nat) (l : List Nat) (d : Dest) (p r : Option Nat) (x : Detail) : (s.eventLimited c l d p r x).hoop.mailbox = s.hoop.mailbox := by rw [State.eventLimited_hoop]
@[simp] theorem State.eventLimited_responses (s : State) (c : Nat) (l : List Nat) (d : Dest) (p r : Option Nat) (x : Detail) : (s.eventLimited c l d p r x).hoop.responses = s.hoop.responses := by rw [State.eventLimited_hoop]
@[simp] theorem State.eventLimited_answers (s : State) (c : Nat) (l : List Nat) (d : Dest) (p r : Option Nat) (x : Detail) : (s.eventLimited c l d p r x).hoop.answers = s.hoop.answers := by rw [State.eventLimited_hoop]
@[simp] theorem State.eventLimited_aer (s : State) (c : Nat) (l : List Nat) (d : Dest) (p r : Option Nat) (x : Detail) : (s.eventLimited c l d p r x).hoop.aer = s.hoop.aer := by rw [State.eventLimited_hoop]
@[simp] theorem State.eventLimited_pcieUp (s : State) (c : Nat) (l : List Nat) (d : Dest) (p r : Option Nat) (x : Detail) : (s.eventLimited c l d p r x).hoop.pcieUp = s.hoop.pcieUp := by rw [State.eventLimited_hoop]
@[simp] theorem State.eventLimited_spdm (s : State) (c : Nat) (l : List Nat) (d : Dest) (p r : Option Nat) (x : Detail) : (s.eventLimited c l d p r x).hoop.spdm = s.hoop.spdm := by rw [State.eventLimited_hoop]
@[simp] theorem State.eventLimited_chains (s : State) (c : Nat) (l : List Nat) (d : Dest) (p r : Option Nat) (x : Detail) : (s.eventLimited c l d p r x).hoop.chains = s.hoop.chains := by rw [State.eventLimited_hoop]
@[simp] theorem State.eventLimited_cloveIndex (s : State) (c : Nat) (l : List Nat) (d : Dest) (p r : Option Nat) (x : Detail) : (s.eventLimited c l d p r x).hoop.cloveIndex = s.hoop.cloveIndex := by rw [State.eventLimited_hoop]
@[simp] theorem State.eventLimited_i3c (s : State) (c : Nat) (l : List Nat) (d : Dest) (p r : Option Nat) (x : Detail) : (s.eventLimited c l d p r x).hoop.i3c = s.hoop.i3c := by rw [State.eventLimited_hoop]
@[simp] theorem State.eventLimited_certParts (s : State) (c : Nat) (l : List Nat) (d : Dest) (p r : Option Nat) (x : Detail) : (s.eventLimited c l d p r x).hoop.certParts = s.hoop.certParts := by rw [State.eventLimited_hoop]
@[simp] theorem State.eventLimited_measured (s : State) (c : Nat) (l : List Nat) (d : Dest) (p r : Option Nat) (x : Detail) : (s.eventLimited c l d p r x).hoop.measured = s.hoop.measured := by rw [State.eventLimited_hoop]
@[simp] theorem State.eventLimited_weakSym (s : State) (c : Nat) (l : List Nat) (d : Dest) (p r : Option Nat) (x : Detail) : (s.eventLimited c l d p r x).hoop.weakSym = s.hoop.weakSym := by rw [State.eventLimited_hoop]
@[simp] theorem State.eventLimited_window (s : State) (c : Nat) (l : List Nat) (d : Dest) (p r : Option Nat) (x : Detail) : (s.eventLimited c l d p r x).hoop.window = s.hoop.window := by rw [State.eventLimited_hoop]

/-- An event writes at most a partition's ring in memory. -/
theorem State.event_mem (s : State) (c : Nat) (d : Dest) (p r : Option Nat) (x : Detail) (k m : Nat) : (s.event c d p r x k m).mem = { s.mem with near := (s.event c d p r x k m).mem.near } := by
  unfold State.event; cases r <;> simp only [] <;> split <;> split <;> first | simp | (unfold State.toPartRing; split <;> simp)

@[simp] theorem State.event_l2 (s : State) (c : Nat) (d : Dest) (p r : Option Nat) (x : Detail) (k m : Nat) : (s.event c d p r x k m).mem.l2 = s.mem.l2 := by rw [State.event_mem]
@[simp] theorem State.event_stalled (s : State) (c : Nat) (d : Dest) (p r : Option Nat) (x : Detail) (k m : Nat) : (s.event c d p r x k m).mem.stalled = s.mem.stalled := by rw [State.event_mem]
@[simp] theorem State.event_filter (s : State) (c : Nat) (d : Dest) (p r : Option Nat) (x : Detail) (k m : Nat) : (s.event c d p r x k m).mem.filter = s.mem.filter := by rw [State.event_mem]
@[simp] theorem State.event_holds (s : State) (c : Nat) (d : Dest) (p r : Option Nat) (x : Detail) (k m : Nat) : (s.event c d p r x k m).mem.holds = s.mem.holds := by rw [State.event_mem]
@[simp] theorem State.event_net (s : State) (c : Nat) (d : Dest) (p r : Option Nat) (x : Detail) (k m : Nat) : (s.event c d p r x k m).mem.net = s.mem.net := by rw [State.event_mem]
@[simp] theorem State.event_sectors (s : State) (c : Nat) (d : Dest) (p r : Option Nat) (x : Detail) (k m : Nat) : (s.event c d p r x k m).mem.sectors = s.mem.sectors := by rw [State.event_mem]
@[simp] theorem State.event_useClock (s : State) (c : Nat) (d : Dest) (p r : Option Nat) (x : Detail) (k m : Nat) : (s.event c d p r x k m).mem.useClock = s.mem.useClock := by rw [State.event_mem]
@[simp] theorem State.event_coreValue (s : State) (c : Nat) (d : Dest) (p r : Option Nat) (x : Detail) (k m : Nat) : (s.event c d p r x k m).mem.coreValue = s.mem.coreValue := by rw [State.event_mem]

/-- An event advances at most a partition's ring index. -/
theorem State.part_congr {s t : State} (h : t.parts = s.parts) {q : Nat} : t.part q = s.part q := by unfold State.part; rw [h]
theorem State.toPartRing_part (s : State) (p : Nat) (e : Bytes) (q : Nat) :
    (s.toPartRing p e).part q = { s.part q with ringIndex := ((s.toPartRing p e).part q).ringIndex } := by
  unfold State.toPartRing; split
  · rfl
  · simp only [State.modPart_part]; split <;> rfl
theorem State.event_part (s : State) (c : Nat) (d : Dest) (p r : Option Nat) (x : Detail) (k m : Nat) (q : Nat) : (s.event c d p r x k m).part q = { s.part q with ringIndex := ((s.event c d p r x k m).part q).ringIndex } := by
  have key : ∀ t : State, t.parts = s.parts → ∀ v e, (t.toPartRing v e).part q = { s.part q with ringIndex := ((t.toPartRing v e).part q).ringIndex } := by
    intro t ht v e; have h := State.toPartRing_part t v e q; rwa [State.part_congr ht] at h
  unfold State.event; cases r <;> simp only [] <;> split <;> split <;> first | (exact key _ (by simp) _ _) | (rw [State.part_congr (t := _) (s := s) (by simp)])

@[simp] theorem State.event_part_state (s : State) (c : Nat) (d : Dest) (p r : Option Nat) (x : Detail) (k m : Nat) (q : Nat) : ((s.event c d p r x k m).part q).state = (s.part q).state := by rw [State.event_part]
@[simp] theorem State.event_part_keyId (s : State) (c : Nat) (d : Dest) (p r : Option Nat) (x : Detail) (k m : Nat) (q : Nat) : ((s.event c d p r x k m).part q).keyId = (s.part q).keyId := by rw [State.event_part]
@[simp] theorem State.event_part_key (s : State) (c : Nat) (d : Dest) (p r : Option Nat) (x : Detail) (k m : Nat) (q : Nat) : ((s.event c d p r x k m).part q).key = (s.part q).key := by rw [State.event_part]
@[simp] theorem State.event_part_keyPresent (s : State) (c : Nat) (d : Dest) (p r : Option Nat) (x : Detail) (k m : Nat) (q : Nat) : ((s.event c d p r x k m).part q).keyPresent = (s.part q).keyPresent := by rw [State.event_part]
@[simp] theorem State.event_part_awaiting (s : State) (c : Nat) (d : Dest) (p r : Option Nat) (x : Detail) (k m : Nat) (q : Nat) : ((s.event c d p r x k m).part q).awaiting = (s.part q).awaiting := by rw [State.event_part]
@[simp] theorem State.event_part_tenantKey (s : State) (c : Nat) (d : Dest) (p r : Option Nat) (x : Detail) (k m : Nat) (q : Nat) : ((s.event c d p r x k m).part q).tenantKey = (s.part q).tenantKey := by rw [State.event_part]
@[simp] theorem State.event_part_primary (s : State) (c : Nat) (d : Dest) (p r : Option Nat) (x : Detail) (k m : Nat) (q : Nat) : ((s.event c d p r x k m).part q).primary = (s.part q).primary := by rw [State.event_part]
@[simp] theorem State.event_part_lock (s : State) (c : Nat) (d : Dest) (p r : Option Nat) (x : Detail) (k m : Nat) (q : Nat) : ((s.event c d p r x k m).part q).lock = (s.part q).lock := by rw [State.event_part]
@[simp] theorem State.event_part_oldLock (s : State) (c : Nat) (d : Dest) (p r : Option Nat) (x : Detail) (k m : Nat) (q : Nat) : ((s.event c d p r x k m).part q).oldLock = (s.part q).oldLock := by rw [State.event_part]
@[simp] theorem State.event_part_consent (s : State) (c : Nat) (d : Dest) (p r : Option Nat) (x : Detail) (k m : Nat) (q : Nat) : ((s.event c d p r x k m).part q).consent = (s.part q).consent := by rw [State.event_part]
@[simp] theorem State.event_part_consents (s : State) (c : Nat) (d : Dest) (p r : Option Nat) (x : Detail) (k m : Nat) (q : Nat) : ((s.event c d p r x k m).part q).consents = (s.part q).consents := by rw [State.event_part]
@[simp] theorem State.event_part_nonces (s : State) (c : Nat) (d : Dest) (p r : Option Nat) (x : Detail) (k m : Nat) (q : Nat) : ((s.event c d p r x k m).part q).nonces = (s.part q).nonces := by rw [State.event_part]
@[simp] theorem State.event_part_scrubDone (s : State) (c : Nat) (d : Dest) (p r : Option Nat) (x : Detail) (k m : Nat) (q : Nat) : ((s.event c d p r x k m).part q).scrubDone = (s.part q).scrubDone := by rw [State.event_part]
@[simp] theorem State.event_part_scrub (s : State) (c : Nat) (d : Dest) (p r : Option Nat) (x : Detail) (k m : Nat) (q : Nat) : ((s.event c d p r x k m).part q).scrub = (s.part q).scrub := by rw [State.event_part]
@[simp] theorem State.event_part_scrubBytes (s : State) (c : Nat) (d : Dest) (p r : Option Nat) (x : Detail) (k m : Nat) (q : Nat) : ((s.event c d p r x k m).part q).scrubBytes = (s.part q).scrubBytes := by rw [State.event_part]
@[simp] theorem State.event_part_leafIndex (s : State) (c : Nat) (d : Dest) (p r : Option Nat) (x : Detail) (k m : Nat) (q : Nat) : ((s.event c d p r x k m).part q).leafIndex = (s.part q).leafIndex := by rw [State.event_part]
@[simp] theorem State.event_part_signedIndex (s : State) (c : Nat) (d : Dest) (p r : Option Nat) (x : Detail) (k m : Nat) (q : Nat) : ((s.event c d p r x k m).part q).signedIndex = (s.part q).signedIndex := by rw [State.event_part]
@[simp] theorem State.event_part_batchNumber (s : State) (c : Nat) (d : Dest) (p r : Option Nat) (x : Detail) (k m : Nat) (q : Nat) : ((s.event c d p r x k m).part q).batchNumber = (s.part q).batchNumber := by rw [State.event_part]
@[simp] theorem State.event_part_prevBatch (s : State) (c : Nat) (d : Dest) (p r : Option Nat) (x : Detail) (k m : Nat) (q : Nat) : ((s.event c d p r x k m).part q).prevBatch = (s.part q).prevBatch := by rw [State.event_part]
@[simp] theorem State.event_part_batch (s : State) (c : Nat) (d : Dest) (p r : Option Nat) (x : Detail) (k m : Nat) (q : Nat) : ((s.event c d p r x k m).part q).batch = (s.part q).batch := by rw [State.event_part]
@[simp] theorem State.event_part_reserved (s : State) (c : Nat) (d : Dest) (p r : Option Nat) (x : Detail) (k m : Nat) (q : Nat) : ((s.event c d p r x k m).part q).reserved = (s.part q).reserved := by rw [State.event_part]
@[simp] theorem State.event_part_logTail (s : State) (c : Nat) (d : Dest) (p r : Option Nat) (x : Detail) (k m : Nat) (q : Nat) : ((s.event c d p r x k m).part q).logTail = (s.part q).logTail := by rw [State.event_part]
@[simp] theorem State.event_part_window (s : State) (c : Nat) (d : Dest) (p r : Option Nat) (x : Detail) (k m : Nat) (q : Nat) : ((s.event c d p r x k m).part q).window = (s.part q).window := by rw [State.event_part]
@[simp] theorem State.event_part_inFlight (s : State) (c : Nat) (d : Dest) (p r : Option Nat) (x : Detail) (k m : Nat) (q : Nat) : ((s.event c d p r x k m).part q).inFlight = (s.part q).inFlight := by rw [State.event_part]
@[simp] theorem State.event_part_quota (s : State) (c : Nat) (d : Dest) (p r : Option Nat) (x : Detail) (k m : Nat) (q : Nat) : ((s.event c d p r x k m).part q).quota = (s.part q).quota := by rw [State.event_part]
@[simp] theorem State.event_part_pfDepth (s : State) (c : Nat) (d : Dest) (p r : Option Nat) (x : Detail) (k m : Nat) (q : Nat) : ((s.event c d p r x k m).part q).pfDepth = (s.part q).pfDepth := by rw [State.event_part]
@[simp] theorem State.event_part_stalls (s : State) (c : Nat) (d : Dest) (p r : Option Nat) (x : Detail) (k m : Nat) (q : Nat) : ((s.event c d p r x k m).part q).stalls = (s.part q).stalls := by rw [State.event_part]
@[simp] theorem State.event_part_winStalls (s : State) (c : Nat) (d : Dest) (p r : Option Nat) (x : Detail) (k m : Nat) (q : Nat) : ((s.event c d p r x k m).part q).winStalls = (s.part q).winStalls := by rw [State.event_part]
@[simp] theorem State.event_part_numericCount (s : State) (c : Nat) (d : Dest) (p r : Option Nat) (x : Detail) (k m : Nat) (q : Nat) : ((s.event c d p r x k m).part q).numericCount = (s.part q).numericCount := by rw [State.event_part]
@[simp] theorem State.event_part_deniedCount (s : State) (c : Nat) (d : Dest) (p r : Option Nat) (x : Detail) (k m : Nat) (q : Nat) : ((s.event c d p r x k m).part q).deniedCount = (s.part q).deniedCount := by rw [State.event_part]
@[simp] theorem State.event_part_missed (s : State) (c : Nat) (d : Dest) (p r : Option Nat) (x : Detail) (k m : Nat) (q : Nat) : ((s.event c d p r x k m).part q).missed = (s.part q).missed := by rw [State.event_part]
@[simp] theorem State.event_part_aged (s : State) (c : Nat) (d : Dest) (p r : Option Nat) (x : Detail) (k m : Nat) (q : Nat) : ((s.event c d p r x k m).part q).aged = (s.part q).aged := by rw [State.event_part]
@[simp] theorem State.event_part_keyTransfer (s : State) (c : Nat) (d : Dest) (p r : Option Nat) (x : Detail) (k m : Nat) (q : Nat) : ((s.event c d p r x k m).part q).keyTransfer = (s.part q).keyTransfer := by rw [State.event_part]
@[simp] theorem State.event_part_meter (s : State) (c : Nat) (d : Dest) (p r : Option Nat) (x : Detail) (k m : Nat) (q : Nat) : ((s.event c d p r x k m).part q).meter = (s.part q).meter := by rw [State.event_part]

/-- An entry put in the owner ring is its newest, and the next one's index. -/
theorem State.toOwner_ring (s : State) (e : Bytes) :
    (s.toOwner e).hoop.ownerRing = s.hoop.ownerRing.push 524288 (stampIndex s.hoop.ownerRing.producer e) := by
  unfold State.toOwner; rw [State.fire_hoop, State.fire_hoop]; rfl
theorem State.toManagers_owner (s : State) (e : Bytes) : (s.toManagers e).hoop.ownerRing = s.hoop.ownerRing := by
  unfold State.toManagers; rw [State.fire_hoop, State.fire_hoop]; rfl
theorem State.event_owner (s : State) (c : Nat) (d : Dest) (p r : Option Nat) (x : Detail) (k m : Nat) (h : d.owner = true) :
    (s.event c d p r x k m).hoop.ownerRing = s.hoop.ownerRing.push 524288 (stampIndex s.hoop.ownerRing.producer (s.eventBytes c p k x)) := by
  unfold State.event; cases r <;> simp only [State.toPartRing_hoop, h, ↓reduceIte] <;> split <;>
    first | rw [State.toManagers_owner, State.toOwner_ring] | rw [State.toOwner_ring]

end Sys2Proof.Machine
end

