-- ==== Sys2Proof/Laws/Memory.lean ====
section
/-! SUPPORT. Near-tier memory: every operation keeps the canonical form, and a read after a write. -/

namespace Sys2Proof.Machine

/-! ## The canonical form -/

/-- Every entry of a well-formed list that follows `a`. -/
theorem memWf_cons {c : Host.Cell} {cs : List Host.Cell} :
    memWf (c :: cs) = true ↔ c.2 ≠ unwritten ∧ (∀ d, cs.head? = some d → c.1 < d.1) ∧ memWf cs = true := by
  cases cs with
  | nil => simp [memWf]
  | cons d ds => simp [memWf, and_assoc]

theorem writeByte_head (a : Nat) (b : Byte) (m : List Host.Cell) (k : Nat) (hk : k < a)
    (h : ∀ d, m.head? = some d → k < d.1) (hm : memWf m = true) : ∀ d, (writeByte a b m).head? = some d → k < d.1 := by
  cases m with
  | nil => intro d hd; unfold writeByte at hd; split at hd <;> simp at hd; subst hd; exact hk
  | cons c cs =>
    intro d hd
    have hc := h c rfl
    unfold writeByte at hd
    split at hd
    · simp at hd; subst hd; exact hc
    · split at hd
      · split at hd
        · rcases memWf_cons.1 hm with ⟨_, h2, _⟩
          exact Nat.lt_trans hc (h2 d hd)
        · simp at hd; subst hd; exact hk
      · split at hd <;> (simp at hd; subst hd; first | exact hc | exact hk)

theorem memWf_writeByte (a : Nat) (b : Byte) (m : List Host.Cell) (h : memWf m = true) : memWf (writeByte a b m) = true := by
  induction m with
  | nil => unfold writeByte; split <;> simp_all [memWf]
  | cons c cs ih =>
    rcases memWf_cons.1 h with ⟨h1, h2, h3⟩
    unfold writeByte
    split
    · rename_i hlt
      exact memWf_cons.2 ⟨h1, writeByte_head a b cs c.1 hlt h2 h3, ih h3⟩
    · split
      · split
        · exact h3
        · rename_i heq hb; exact memWf_cons.2 ⟨hb, fun d hd => by have := h2 d hd; omega, h3⟩
      · split
        · exact h
        · rename_i hlt hne hb
          exact memWf_cons.2 ⟨hb, fun d hd => by simp at hd; subst hd; show a < c.1; omega, h⟩

theorem memWf_writeBytes (bs : Bytes) : ∀ (m : List Host.Cell) (a : Nat), memWf m = true → memWf (writeBytes m a bs) = true := by
  induction bs with
  | nil => intro m a h; exact h
  | cons b bs ih => intro m a h; exact ih _ _ (memWf_writeByte a b m h)

theorem memWf_head_filter (p : Host.Cell → Bool) (c : Host.Cell) (cs : List Host.Cell) (h : memWf (c :: cs) = true) :
    ∀ d, (cs.filter p).head? = some d → c.1 < d.1 := by
  induction cs generalizing c with
  | nil => intro d hd; simp at hd
  | cons e es ih =>
    rcases memWf_cons.1 h with ⟨_, h2, h3⟩
    have hce := h2 e rfl
    intro d hd
    rw [List.filter_cons] at hd
    split at hd
    · simp at hd; subst hd; exact hce
    · exact Nat.lt_trans hce (ih e h3 d hd)

theorem memWf_filter (p : Host.Cell → Bool) (m : List Host.Cell) (h : memWf m = true) : memWf (m.filter p) = true := by
  induction m with
  | nil => rfl
  | cons c cs ih =>
    rcases memWf_cons.1 h with ⟨h1, _, h3⟩
    rw [List.filter_cons]
    split
    · exact memWf_cons.2 ⟨h1, memWf_head_filter p c cs h, ih h3⟩
    · exact ih h3

theorem memWf_reset : memWf State.reset.mem.near = true := rfl

/-! ## Reading what was written -/

theorem readByte_nil (x : Nat) : readByte [] x = unwritten := rfl

theorem readByte_cons (c : Host.Cell) (cs : List Host.Cell) (x : Nat) :
    readByte (c :: cs) x = if c.1 = x then c.2 else readByte cs x := by
  unfold readByte
  rw [List.find?_cons]
  by_cases h : c.1 = x <;> simp [h]

/-- A write leaves every other byte as it reads. -/
theorem readByte_writeByte_other (a x : Nat) (b : Byte) (m : List Host.Cell) (h : x ≠ a) :
    readByte (writeByte a b m) x = readByte m x := by
  induction m with
  | nil =>
    unfold writeByte
    split
    · rfl
    · rw [readByte_cons, if_neg (Ne.symm h)]
  | cons c cs ih =>
    unfold writeByte
    split
    · rw [readByte_cons, readByte_cons, ih]
    · split
      · rename_i e
        rw [readByte_cons c, if_neg (show ¬ c.1 = x by omega)]
        split
        · rfl
        · rw [readByte_cons, if_neg (Ne.symm h)]
      · split
        · rfl
        · rw [readByte_cons, if_neg (Ne.symm h)]

/-- No entry of a canonical list stands below its first. -/
theorem readByte_below (x : Nat) : ∀ (m : List Host.Cell), memWf m = true → (∀ d, m.head? = some d → x < d.1) → readByte m x = unwritten
  | [], _, _ => rfl
  | c :: cs, h, hd => by
    rcases memWf_cons.1 h with ⟨_, h2, h3⟩
    have hc := hd c rfl
    rw [readByte_cons, if_neg (by omega)]
    exact readByte_below x cs h3 (fun d e => Nat.lt_trans hc (h2 d e))

/-- A byte written is the byte read. -/
theorem readByte_writeByte_same (a : Nat) (b : Byte) (m : List Host.Cell) (hm : memWf m = true) : readByte (writeByte a b m) a = b := by
  induction m with
  | nil =>
    unfold writeByte
    split
    · rename_i e; rw [e]; rfl
    · rw [readByte_cons, if_pos rfl]
  | cons c cs ih =>
    rcases memWf_cons.1 hm with ⟨_, h2, h3⟩
    unfold writeByte
    split
    · rw [readByte_cons, if_neg (by omega), ih h3]
    · split
      · rename_i e
        split
        · rename_i u; rw [u]; exact readByte_below a cs h3 (fun d e' => e ▸ h2 d e')
        · rw [readByte_cons, if_pos rfl]
      · split
        · rename_i n e u
          rw [u]; exact readByte_below a (c :: cs) hm (fun d e' => by simp at e'; subst e'; omega)
        · rw [readByte_cons, if_pos rfl]

/-- A write of several bytes leaves every byte outside them as it reads. -/
theorem readByte_writeBytes_other (x : Nat) (bs : Bytes) : ∀ (m : List Host.Cell) (a : Nat), ¬(a ≤ x ∧ x < a + bs.length) →
    readByte (writeBytes m a bs) x = readByte m x := by
  induction bs with
  | nil => intro m a _; rfl
  | cons b bs ih =>
    intro m a h
    rw [List.length_cons] at h
    rw [writeBytes, ih _ _ (by omega), readByte_writeByte_other a x b m (by omega)]

/-- Each of several bytes written is the byte read at its address. -/
theorem readByte_writeBytes_same (bs : Bytes) : ∀ (m : List Host.Cell) (a i : Nat) (hi : i < bs.length), memWf m = true →
    readByte (writeBytes m a bs) (a + i) = bs[i] := by
  induction bs with
  | nil => intro m a i hi; simp at hi
  | cons b bs ih =>
    intro m a i hi hm
    cases i with
    | zero =>
      rw [writeBytes, readByte_writeBytes_other _ _ _ _ (by omega)]
      exact readByte_writeByte_same a b m hm
    | succ n =>
      have e : a + (n + 1) = a + 1 + n := by omega
      rw [writeBytes, e, ih _ _ n (by simpa using hi) (memWf_writeByte a b m hm)]
      rfl

/-- What memory reads as, after entries are left out. -/
theorem readByte_filter (p : Nat → Bool) (m : List Host.Cell) (x : Nat) :
    readByte (m.filter (fun c => p c.1)) x = if p x then readByte m x else unwritten := by
  induction m with
  | nil => simp [readByte_nil]
  | cons c cs ih =>
    rw [List.filter_cons]
    split
    · rename_i h
      rw [readByte_cons, readByte_cons, ih]
      by_cases e : c.1 = x
      · subst e; simp [h]
      · simp [e]
    · rename_i h
      rw [ih, readByte_cons]
      by_cases e : c.1 = x
      · subst e; simp [h]
      · simp [e]

theorem memRead_length (s : State) (a n : Nat) : (s.memRead a n).length = n := by simp [State.memRead]

/-- Bytes written to memory are the bytes read back. -/
theorem memRead_memWrite (s : State) (a : Nat) (bs : Bytes) (h : memWf s.mem.near = true) : (s.memWrite a bs).memRead a bs.length = bs := by
  apply List.ext_getElem
  · exact memRead_length _ _ _
  · intro i h1 h2
    simp only [State.memRead, List.getElem_map, List.getElem_range]
    exact readByte_writeBytes_same bs _ a i h2 h

end Sys2Proof.Machine
end

