-- ==== Sys2Proof/Laws/Keeps.lean ====
section
/-! SUPPORT. What the operations of one command keep: the queue, the clock's direction, the state's shape, and, where asked,
the settings and the phase of the start. One lemma per basic update; the lemmas of every operation stand in the Keeps files beside. -/

namespace Sys2Proof.Machine

/-- What the operations of one command keep. With `b` set, the settings and the phase of the start stay as well. -/
structure Keeps (b : Bool) (s t : State) : Prop where
  queue : t.pending = s.pending
  time : s.now ≤ t.now
  intact : s.intact → t.intact
  cfg : b = true → t.cfg = s.cfg
  phase : b = true → t.hoop.phase = s.hoop.phase

theorem Keeps.same {b : Bool} (s : State) : Keeps b s s := ⟨rfl, Nat.le_refl _, id, fun _ => rfl, fun _ => rfl⟩

variable {b : Bool} {o s : State}

theorem Keeps.trans {s t u} (h : Keeps b s t) (k : Keeps b t u) : Keeps b s u :=
  ⟨k.queue.trans h.queue, Nat.le_trans h.time k.time, fun i => k.intact (h.intact i), fun e => (k.cfg e).trans (h.cfg e),
    fun e => (k.phase e).trans (h.phase e)⟩

theorem Keeps.weak {s t} (h : Keeps b s t) : Keeps false s t := ⟨h.queue, h.time, h.intact, fun e => by simp at e, fun e => by simp at e⟩

/-- Kept by an optional result. -/
def KeepsO (b : Bool) (o : State) (x : Option State) : Prop := ∀ t, x = some t → Keeps b o t
def KeepsP {α : Type} (b : Bool) (o : State) (x : Option (State × α)) : Prop := ∀ t, x = some t → Keeps b o t.1
def KeepsE {ε : Type} (b : Bool) (o : State) (x : Except ε State) : Prop := ∀ t, x = .ok t → Keeps b o t
def KeepsD {ε α : Type} (b : Bool) (o : State) (x : Except ε (State × α)) : Prop := ∀ t, x = .ok t → Keeps b o t.1
structure KeepsC (b : Bool) (o : State) (p : Chk) : Prop where
  done : ∀ t, p = .done t → Keeps b o t
  dup : ∀ t x y, p = .dup t x y → Keeps b o t
  go : ∀ t x, p = .go t x → Keeps b o t
structure KeepsR (b : Bool) (o : State) (p : Rx) : Prop where
  done : ∀ t, p = .done t → Keeps b o t
  here : ∀ t x, p = .here t x → Keeps b o t

theorem keeps_snd {α : Type} {p : α × State} {x s'} (e : p = (x, s')) (h : Keeps b o p.2) : Keeps b o s' := by subst e; exact h
theorem keeps_fst {α : Type} {p : State × α} {x s'} (e : p = (s', x)) (h : Keeps b o p.1) : Keeps b o s' := by subst e; exact h
theorem keepsO_some {p : Option State} {t} (e : p = some t) (h : KeepsO b o p) : Keeps b o t := h t e
theorem keepsP_some {α : Type} {p : Option (State × α)} {t x} (e : p = some (t, x)) (h : KeepsP b o p) : Keeps b o t := h _ e
theorem keepsE_ok {ε : Type} {p : Except ε State} {t} (e : p = .ok t) (h : KeepsE b o p) : Keeps b o t := h t e
theorem keepsD_ok {ε α : Type} {p : Except ε (State × α)} {t x} (e : p = .ok (t, x)) (h : KeepsD b o p) : Keeps b o t := h _ e
theorem keepsC_done {p : Chk} {t} (e : p = .done t) (h : KeepsC b o p) : Keeps b o t := h.done _ e
theorem keepsC_dup {p : Chk} {t x y} (e : p = .dup t x y) (h : KeepsC b o p) : Keeps b o t := h.dup _ _ _ e
theorem keepsC_go {p : Chk} {t x} (e : p = .go t x) (h : KeepsC b o p) : Keeps b o t := h.go _ _ e
theorem keepsR_done {p : Rx} {t} (e : p = .done t) (h : KeepsR b o p) : Keeps b o t := h.done _ e
theorem keepsR_here {p : Rx} {t x} (e : p = .here t x) (h : KeepsR b o p) : Keeps b o t := h.here _ _ e
theorem keepsO_intro {t : State} (h : Keeps b o t) : KeepsO b o (some t) := by intro u e; cases e; exact h
theorem keepsO_none : KeepsO b o none := by intro u e; cases e
theorem keepsP_intro {α : Type} {t : State × α} (h : Keeps b o t.1) : KeepsP b o (some t) := by intro u e; cases e; exact h
theorem keepsP_none {α : Type} : KeepsP (α := α) b o none := by intro u e; cases e
theorem keepsE_intro {ε : Type} {t : State} (h : Keeps b o t) : KeepsE (ε := ε) b o (.ok t) := by intro u e; cases e; exact h
theorem keepsE_error {ε : Type} {x : ε} : KeepsE b o (.error x) := by intro u e; cases e
theorem keepsD_intro {ε α : Type} {t : State × α} (h : Keeps b o t.1) : KeepsD (ε := ε) b o (.ok t) := by intro u e; cases e; exact h
theorem keepsD_error {ε α : Type} {x : ε} : KeepsD (α := α) b o (.error x) := by intro u e; cases e
theorem keepsC_i_done {t} (h : Keeps b o t) : KeepsC b o (.done t) := by constructor <;> (intros; simp_all)
theorem keepsC_i_dup {t x y} (h : Keeps b o t) : KeepsC b o (.dup t x y) := by constructor <;> (intros; simp_all)
theorem keepsC_i_go {t x} (h : Keeps b o t) : KeepsC b o (.go t x) := by constructor <;> (intros; simp_all)
theorem keepsR_i_done {t} (h : Keeps b o t) : KeepsR b o (.done t) := by constructor <;> (intros; simp_all)
theorem keepsR_i_here {t x} (h : Keeps b o t) : KeepsR b o (.here t x) := by constructor <;> (intros; simp_all)

theorem keeps_modPart (h : Keeps b o s) (p f) : Keeps b o (s.modPart p f) := h.trans
  ⟨rfl, Nat.le_refl _, fun i => { i with parts := by simp [State.modPart, i.parts] }, fun _ => rfl, fun _ => rfl⟩
theorem keeps_modArb (h : Keeps b o s) (p f) : Keeps b o (s.modArb p f) := h.trans
  ⟨rfl, Nat.le_refl _, fun i => { i with arbs := by simp [State.modArb, i.arbs] }, fun _ => rfl, fun _ => rfl⟩
theorem keeps_modChan (h : Keeps b o s) (p f) : Keeps b o (s.modChan p f) := h.trans
  ⟨rfl, Nat.le_refl _, fun i => { i with chans := by simp [State.modChan, i.chans] }, fun _ => rfl, fun _ => rfl⟩
theorem keeps_modCluster (h : Keeps b o s) (p f) : Keeps b o (s.modCluster p f) := h.trans
  ⟨rfl, Nat.le_refl _, fun i => { i with clusters := by simp [State.modCluster, i.clusters] }, fun _ => rfl, fun _ => rfl⟩
theorem keeps_modWriter (h : Keeps b o s) (p f) : Keeps b o (s.modWriter p f) := h.trans
  ⟨rfl, Nat.le_refl _, fun i => { i with writers := by simp [State.modWriter, i.writers] }, fun _ => rfl, fun _ => rfl⟩
theorem keeps_modLink (h : Keeps b o s) (p q f) : Keeps b o (s.modLink p q f) := h.trans
  ⟨rfl, Nat.le_refl _, fun i => { i with }, fun _ => rfl, fun _ => rfl⟩
theorem keeps_modReq (h : Keeps b o s) (p f) : Keeps b o (s.modReq p f) := h.trans
  ⟨rfl, Nat.le_refl _, fun i => { i with }, fun _ => rfl, fun _ => rfl⟩
theorem keeps_modTabs (h : Keeps b o s) (f) : Keeps b o (s.modTabs f) := h.trans
  ⟨rfl, Nat.le_refl _, fun i => { i with }, fun _ => rfl, fun _ => rfl⟩
theorem keeps_modWarp (h : Keeps b o s) (f) : Keeps b o (s.modWarp f) := h.trans
  ⟨rfl, Nat.le_refl _, fun i => { i with }, fun _ => rfl, fun _ => rfl⟩
theorem keeps_modHoop (h : Keeps b o s) (f) (hf : ∀ h : Hoop, h.intact → (f h).intact)
    (hp : ∀ h : Hoop, b = true → (f h).phase = h.phase) : Keeps b o (s.modHoop f) := h.trans
  ⟨rfl, Nat.le_refl _, fun i => { i with hoop := hf _ i.hoop }, fun _ => rfl, hp _⟩
theorem keeps_modHlt (h : Keeps b o s) (f) (hf : ∀ h : Health, h.fence ≤ 4 → (f h).fence ≤ 4) : Keeps b o (s.modHlt f) := h.trans
  ⟨rfl, Nat.le_refl _, fun i => { i with fence := hf _ i.fence }, fun _ => rfl, fun _ => rfl⟩
theorem keeps_modMem (h : Keeps b o s) (f) (hf : ∀ m : MemSys, memWf m.near = true → memWf (f m).near = true) : Keeps b o (s.modMem f) := h.trans
  ⟨rfl, Nat.le_refl _, fun i => { i with canon := hf _ i.canon }, fun _ => rfl, fun _ => rfl⟩
theorem keeps_modEng (h : Keeps b o s) (f) (hf : ∀ e : Engines, e.clusters.length = 32 → (f e).clusters.length = 32) : Keeps b o (s.modEng f) := h.trans
  ⟨rfl, Nat.le_refl _, fun i => { i with clusters := hf _ i.clusters }, fun _ => rfl, fun _ => rfl⟩
theorem keeps_modJrn (h : Keeps b o s) (f) (hf : ∀ j : Journal, j.writers.length = 2 → (f j).writers.length = 2) : Keeps b o (s.modJrn f) := h.trans
  ⟨rfl, Nat.le_refl _, fun i => { i with writers := hf _ i.writers }, fun _ => rfl, fun _ => rfl⟩
theorem keeps_count (h : Keeps b o s) (c n) : Keeps b o (s.count c n) := h.trans
  ⟨rfl, Nat.le_refl _, fun i => { i with }, fun _ => rfl, fun _ => rfl⟩
theorem keeps_draw (h : Keeps b o s) : Keeps b o s.draw.2 := h.trans
  ⟨rfl, Nat.le_refl _, fun i => { i with }, fun _ => rfl, fun _ => rfl⟩
theorem keeps_at (h : Keeps false o s) (t : Tick) : Keeps false o (s.at t) := h.trans
  ⟨rfl, Nat.le_max_left _ _, fun i => { i with }, fun _ => rfl, fun _ => rfl⟩
theorem keeps_raw (h : Keeps b o s) {l w c d m p wr} (hp : p.length = s.parts.length) (hm : m.high.length = s.mram.high.length) :
    Keeps b o { s with links := l, waves := w, ctrs := c, draws := d, mram := m, parts := p, warp := wr } := h.trans
  ⟨rfl, Nat.le_refl _, fun i => { i with parts := hp.trans i.parts, high := hm.trans i.high }, fun _ => rfl, fun _ => rfl⟩

theorem keeps_each {α : Type} (h : Keeps b o s) (l : List α) (f : State → α → State) (hf : ∀ s x, Keeps b o s → Keeps b o (f s x)) :
    Keeps b o (s.each l f) := by
  unfold State.each
  induction l generalizing s with
  | nil => exact h
  | cons x xs ih => exact ih (hf s x h)
theorem keeps_foldl {α : Type} (h : Keeps b o s) (l : List α) (f : State → α → State) (hf : ∀ s x, Keeps b o s → Keeps b o (f s x)) :
    Keeps b o (l.foldl f s) := keeps_each h l f hf
theorem keeps_foldl_snd {α β : Type} {a : β × State} (h : Keeps b o a.2) (l : List α) (f : β × State → α → β × State)
    (hf : ∀ a x, Keeps b o a.2 → Keeps b o (f a x).2) : Keeps b o (l.foldl f a).2 := by
  induction l generalizing a with
  | nil => exact h
  | cons x xs ih => exact ih (hf a x h)
theorem keeps_foldl_fst {α β : Type} {a : State × β} (h : Keeps b o a.1) (l : List α) (f : State × β → α → State × β)
    (hf : ∀ a x, Keeps b o a.1 → Keeps b o (f a x).1) : Keeps b o (l.foldl f a).1 := by
  induction l generalizing a with
  | nil => exact h
  | cons x xs ih => exact ih (hf a x h)
theorem keeps_getD {x : Option State} {d : State} (h : KeepsO b o x) (k : Keeps b o d) : Keeps b o (x.getD d) := by
  cases x with
  | none => exact k
  | some t => exact h t rfl
structure KeepsU (b : Bool) (o : State) (p : Pump) : Prop where
  moved : ∀ t, p = .moved t → Keeps b o t
  idle : ∀ t, p = .idle t → Keeps b o t
theorem keepsU_moved {p : Pump} {t} (e : p = .moved t) (h : KeepsU b o p) : Keeps b o t := h.moved _ e
theorem keepsU_idle {p : Pump} {t} (e : p = .idle t) (h : KeepsU b o p) : Keeps b o t := h.idle _ e
theorem keepsU_i_moved {t} (h : Keeps b o t) : KeepsU b o (.moved t) := by constructor <;> (intros; simp_all)
theorem keepsU_i_idle {t} (h : Keeps b o t) : KeepsU b o (.idle t) := by constructor <;> (intros; simp_all)
structure KeepsI (b : Bool) (o : State) (p : PfIssue) : Prop where
  issued : ∀ t, p = .issued t → Keeps b o t
theorem keepsI_issued {p : PfIssue} {t} (e : p = .issued t) (h : KeepsI b o p) : Keeps b o t := h.issued _ e
theorem keepsI_i_issued {t} (h : Keeps b o t) : KeepsI b o (.issued t) := by constructor <;> (intros; simp_all)
theorem keepsI_i_quota : KeepsI b o .quota := by constructor <;> (intros; simp_all)
theorem keepsI_i_ways : KeepsI b o .ways := by constructor <;> (intros; simp_all)
theorem keepsI_i_gone : KeepsI b o .gone := by constructor <;> (intros; simp_all)
theorem keepsI_i_refused {st} : KeepsI b o (.refused st) := by constructor <;> (intros; simp_all)
theorem keeps_ite {c : Prop} [Decidable c] {x y : State} (h : Keeps b o x) (k : Keeps b o y) : Keeps b o (if c then x else y) := by
  split <;> assumption
theorem keepsP_map {α : Type} {x : Option State} {g : State → State × α} (h : KeepsO b o x) (hg : ∀ t, (g t).1 = t) : KeepsP b o (x.map g) := by
  intro t e
  cases x with
  | none => simp at e
  | some s => simp at e; subst e; rw [hg]; exact h s rfl
theorem keepsD_map {ε α : Type} {x : Except ε State} {g : State → State × α} (h : KeepsE b o x) (hg : ∀ t, (g t).1 = t) : KeepsD b o (x.map g) := by
  intro t e
  cases x with
  | error x => simp [Except.map] at e
  | ok s => simp [Except.map] at e; subst e; rw [hg]; exact h s rfl
theorem keeps_cfg (h : Keeps false o s) {c m} (hm : m.high.length = s.mram.high.length) : Keeps false o { s with cfg := c, mram := m } := h.trans
  ⟨rfl, Nat.le_refl _, fun i => { i with high := hm.trans i.high }, fun e => absurd e (by decide), fun e => absurd e (by decide)⟩
/-- Kept by a command that answers a next state. -/
def KeepsX (o : State) (r : Host.Outcome State Fault Refusal) : Prop := ∀ u, r = .next u → Keeps false o u
theorem keepsX_next {t : State} (h : Keeps false o t) : KeepsX o (.next t) := by intro u e; cases e; exact h
theorem keepsX_fault {r : Fault} : KeepsX o (.fault r) := by intro u e; cases e

theorem keeps_memWrite (h : Keeps b o s) (a bs) : Keeps b o (s.memWrite a bs) :=
  keeps_modMem h _ (fun _ i => memWf_writeBytes bs _ a i)

end Sys2Proof.Machine
end

