-- ==== Sys2Proof/Laws/KeepsCore.lean ====
section
/-! SUPPORT. What every operation keeps: the shared operations, frames, the shaper, requests, islands, memory, locks and translation. -/

set_option linter.unusedVariables false
set_option linter.unusedSimpArgs false

namespace Sys2Proof.Machine

/-! Ops -/

theorem keeps_fire {lv : Bool} {z0 s : State} (hk : Keeps lv z0 s) (fn : Nat) (vec : Nat) : Keeps lv z0 (State.fire s fn vec) := by
  unfold State.fire
  repeat' (first
    | with_reducible assumption | (show ∀ h : Hoop, _ → _; exact fun _ => id)
    | (show ∀ h : Hoop, _ = true → _; first | exact fun _ _ => rfl | exact fun _ e => absurd e (by decide)) | with_reducible apply keeps_ite
    | with_reducible apply keeps_modHoop | split)

theorem keeps_toOwner {lv : Bool} {z0 s : State} (hk : Keeps lv z0 s) (e : Bytes) : Keeps lv z0 (State.toOwner s e) := by
  unfold State.toOwner
  repeat' (first
    | with_reducible assumption | (show ∀ h : Hoop, _ → _; exact fun _ => id)
    | (show ∀ h : Hoop, _ = true → _; first | exact fun _ _ => rfl | exact fun _ e => absurd e (by decide)) | with_reducible apply keeps_modHoop
    | with_reducible apply keeps_fire)

theorem keeps_toManagers {lv : Bool} {z0 s : State} (hk : Keeps lv z0 s) (e : Bytes) : Keeps lv z0 (State.toManagers s e) := by
  unfold State.toManagers
  repeat' (first
    | with_reducible assumption | (show ∀ h : Hoop, _ = true → _; first | exact fun _ _ => rfl | exact fun _ e => absurd e (by decide))
    | (show Hoop.intact _ → Hoop.intact _; first | exact id | (intro hi; simp_all [Hoop.intact]; done)) | with_reducible intro _ | with_reducible apply keeps_modHoop
    | with_reducible apply keeps_fire)

theorem keeps_toPartRing {lv : Bool} {z0 s : State} (hk : Keeps lv z0 s) (p : Nat) (e : Bytes) : Keeps lv z0 (State.toPartRing s p e) := by
  unfold State.toPartRing
  repeat' (first | with_reducible assumption | with_reducible apply keeps_memWrite | with_reducible apply keeps_modPart | dsimp only | split)

theorem keeps_event {lv : Bool} {z0 s : State} (hk : Keeps lv z0 s) (code : Nat) (dst : Dest) (p : Option Nat) (ring : Option Nat) (d : Detail) (sup :
    Nat) (supRing : Nat) : Keeps lv z0 (State.event s code dst p ring d sup supRing) := by
  unfold State.event
  repeat' (first
    | with_reducible assumption | with_reducible apply keeps_ite | with_reducible apply keeps_toOwner | with_reducible apply keeps_toManagers
    | with_reducible apply keeps_toPartRing | dsimp only | split)

theorem keeps_eventLimited {lv : Bool} {z0 s : State} (hk : Keeps lv z0 s) (code : Nat) (key : List Nat) (dst : Dest) (p : Option Nat) (ring : Option
    Nat) (d : Detail) : Keeps lv z0 (State.eventLimited s code key dst p ring d) := by
  unfold State.eventLimited
  repeat' (first
    | with_reducible assumption | (show ∀ h : Hoop, _ → _; exact fun _ => id)
    | (show ∀ h : Hoop, _ = true → _; first | exact fun _ _ => rfl | exact fun _ e => absurd e (by decide)) | with_reducible apply keeps_ite
    | with_reducible apply keeps_modHoop | with_reducible apply keeps_event | dsimp only | split)

theorem keeps_extendChain {lv : Bool} {z0 s : State} (hk : Keeps lv z0 s) (chain : Nat) (item : Bytes) : Keeps lv z0 (State.extendChain s chain item)
    := by
  unfold State.extendChain
  repeat' (first
    | with_reducible assumption | (show ∀ h : Hoop, _ = true → _; first | exact fun _ _ => rfl | exact fun _ e => absurd e (by decide))
    | (show Hoop.intact _ → Hoop.intact _; first | exact id | (intro hi; simp_all [Hoop.intact]; done)) | with_reducible intro _ | with_reducible apply keeps_modHoop)

theorem keeps_cloveLog {lv : Bool} {z0 s : State} (hk : Keeps lv z0 s) (setting : Nat) (p : Option Nat) (object : Nat) (old : Nat) (new : Nat)
    (counter : Nat) : Keeps lv z0 (State.cloveLog s setting p object old new counter) := by
  unfold State.cloveLog
  repeat' (first
    | with_reducible assumption | (show ∀ h : Hoop, _ → _; exact fun _ => id)
    | (show ∀ h : Hoop, _ = true → _; first | exact fun _ _ => rfl | exact fun _ e => absurd e (by decide)) | with_reducible intro _
    | with_reducible apply keeps_foldl | with_reducible apply keeps_modHoop | with_reducible apply keeps_extendChain
    | with_reducible apply keeps_toOwner)

theorem keeps_healthInput {lv : Bool} {z0 s : State} (hk : Keeps lv z0 s) (part : Nat) (weight : Nat) : Keeps lv z0 (State.healthInput s part weight)
    := by
  unfold State.healthInput
  repeat' (first | with_reducible assumption | (show ∀ h : Health, _ → _; exact fun _ => id) | with_reducible apply keeps_modHlt)

theorem keeps_eccInput {lv : Bool} {z0 s : State} (hk : Keeps lv z0 s) (n : Nat) : Keeps lv z0 (State.eccInput s n) := by
  unfold State.eccInput
  repeat' (first
    | with_reducible assumption | (show ∀ h : Health, _ → _; exact fun _ => id) | with_reducible apply keeps_ite | with_reducible apply keeps_modHlt
    | with_reducible apply keeps_healthInput)

theorem keeps_islandInput {lv : Bool} {z0 s : State} (hk : Keeps lv z0 s) (i : Island) : Keeps lv z0 (State.islandInput s i) := by
  unfold State.islandInput
  repeat' (first | with_reducible assumption | with_reducible apply keeps_healthInput | split)

/-! Frames -/

theorem keeps_agedDiscard {lv : Bool} {z0 s : State} (hk : Keeps lv z0 s) (pos : Nat) (h : Header) (p : Nat) (point : Nat) : Keeps lv z0
    (State.agedDiscard s pos h p point) := by
  unfold State.agedDiscard
  repeat' (first | with_reducible assumption | with_reducible apply keeps_modPart | with_reducible apply keeps_eventLimited)

theorem keeps_spillIsFull {lv : Bool} {z0 s : State} (hk : Keeps lv z0 s) : Keeps lv z0 (State.spillIsFull s) := by
  unfold State.spillIsFull
  repeat' (first | with_reducible assumption | with_reducible apply keeps_modWarp | with_reducible apply keeps_eventLimited)

theorem keeps_freeCells {lv : Bool} {z0 s : State} (hk : Keeps lv z0 s) (arrival : Option (Nat × Nat)) (f : Frame) : Keeps lv z0 (State.freeCells s
    arrival f) := by
  unfold State.freeCells
  repeat' (first | with_reducible assumption | with_reducible apply keeps_modLink | split)

theorem keeps_enqueue {lv : Bool} {z0 s : State} (hk : Keeps lv z0 s) (src : Nat) (dst : Nat) (sub : Nat) (f : Frame) (p : Nat) (resid : Nat) (arrival
    : Option (Nat × Nat)) : Keeps lv z0 (State.enqueue s src dst sub f p resid arrival) := by
  unfold State.enqueue
  repeat' (first
    | with_reducible assumption | with_reducible apply keeps_ite | with_reducible apply keeps_freeCells | with_reducible apply keeps_agedDiscard
    | with_reducible apply keeps_modPart | with_reducible apply keeps_modWarp | with_reducible apply keeps_spillIsFull
    | with_reducible apply keeps_modArb)

theorem keeps_routeLost {lv : Bool} {z0 s : State} (hk : Keeps lv z0 s) (pos : Nat) (h : Header) (p : Nat) : Keeps lv z0 (State.routeLost s pos h p)
    := by
  unfold State.routeLost
  repeat' (first | with_reducible assumption | with_reducible apply keeps_eventLimited)

theorem keeps_missed {lv : Bool} {z0 s : State} (hk : Keeps lv z0 s) (h : Header) (p : Nat) (st : Status) : Keeps lv z0 (State.missed s h p st) := by
  unfold State.missed
  repeat' (first | with_reducible assumption | with_reducible apply keeps_modPart | with_reducible apply keeps_event)

theorem keeps_emitTo {lv : Bool} {z0 s : State} (hk : Keeps lv z0 s) (pos : Nat) (toward : Node) (f : Frame) (p : Nat) (resid : Nat) : Keeps lv z0
    (State.emitTo s pos toward f p resid) := by
  unfold State.emitTo
  repeat' (first
    | with_reducible assumption | with_reducible apply keeps_ite | with_reducible apply keeps_enqueue | with_reducible apply keeps_routeLost
    | with_reducible apply keeps_modWarp | dsimp only | split)

theorem keeps_emit {lv : Bool} {z0 s : State} (hk : Keeps lv z0 s) (pos : Nat) (f : Frame) (p : Nat) (resid : Nat) : Keeps lv z0 (State.emit s pos f p
    resid) := by
  unfold State.emit
  repeat' (first | with_reducible assumption | with_reducible apply keeps_emitTo)

theorem keeps_sendResponse {lv : Bool} {z0 s : State} (hk : Keeps lv z0 s) (pos : Nat) (h : Header) (arrive : Nat) (p : Nat) (ack : Bool) (st :
    Status) (settled : Bool) (fmt : BitVec 3) (data : Bytes) (c : Bool) : Keeps lv z0 (State.sendResponse s pos h arrive p ack st settled fmt data c)
    := by
  unfold State.sendResponse
  repeat' (first | with_reducible assumption | with_reducible apply keeps_emit)

theorem keeps_mcastFail {lv : Bool} {z0 s : State} (hk : Keeps lv z0 s) (h : Header) (p : Nat) (st : Status) : Keeps lv z0 (State.mcastFail s h p st)
    := by
  unfold State.mcastFail
  repeat' (first | with_reducible assumption | with_reducible apply keeps_ite | with_reducible apply keeps_eventLimited)

theorem keeps_refuseOpen {lv : Bool} {z0 s : State} (hk : Keeps lv z0 s) (pos : Nat) (h : Header) (arrive : Nat) (p : Nat) (st : Status) : Keeps lv z0
    (State.refuseOpen s pos h arrive p st) := by
  unfold State.refuseOpen
  repeat' (first
    | with_reducible assumption | with_reducible apply keeps_ite | with_reducible apply keeps_missed | with_reducible apply keeps_mcastFail
    | with_reducible apply keeps_sendResponse)

theorem keeps_parse {lv : Bool} {z0 s : State} (hk : Keeps lv z0 s) (a : Arrival) (f : Frame) : Keeps lv z0 (State.parse s a f).1 := by
  unfold State.parse
  repeat' (first
    | with_reducible assumption | with_reducible apply keeps_ite | with_reducible apply keeps_count | with_reducible apply keeps_eventLimited
    | with_reducible apply keeps_refuseOpen | with_reducible apply keeps_routeLost | with_reducible apply keeps_agedDiscard | dsimp only | split)

theorem keeps_receive {lv : Bool} {z0 s : State} (hk : Keeps lv z0 s) (a : Arrival) (f : Frame) : KeepsR lv z0 (State.receive s a f) := by
  unfold State.receive
  repeat' (first
    | with_reducible assumption | with_reducible apply keepsR_i_done | with_reducible apply keepsR_i_here | with_reducible apply keeps_modWarp
    | with_reducible apply keeps_refuseOpen | with_reducible apply keeps_freeCells | with_reducible apply keeps_parse
    | with_reducible apply keeps_enqueue | with_reducible apply keeps_agedDiscard | dsimp only | split
    | (apply keeps_fst; with_reducible assumption))

theorem keeps_park {lv : Bool} {z0 s : State} (hk : Keeps lv z0 s) (d : Delivered) : Keeps lv z0 (State.park s d) := by
  unfold State.park
  repeat' (first | with_reducible assumption | with_reducible apply keeps_modWarp)

theorem keeps_takeSeq {lv : Bool} {z0 s : State} (hk : Keeps lv z0 s) (dst : Node) (st : Stream) : Keeps lv z0 (State.takeSeq s dst st).2 := by
  unfold State.takeSeq
  repeat' (first | with_reducible assumption | (show ∀ h : Journal, _ → _; exact fun _ => id) | with_reducible apply keeps_modJrn)

theorem keeps_originateTo {lv : Bool} {z0 s : State} (hk : Keeps lv z0 s) (toward : Node) (owner : Owner) (h : Header) (payload : Bytes) (p : Nat)
    (resid : Nat) : Keeps lv z0 (State.originateTo s toward owner h payload p resid) := by
  unfold State.originateTo
  repeat' (first
    | with_reducible assumption | (show ∀ h : Journal, _ → _; exact fun _ => id) | with_reducible apply keeps_modJrn
    | with_reducible apply keeps_emitTo)

theorem keeps_originate {lv : Bool} {z0 s : State} (hk : Keeps lv z0 s) (owner : Owner) (h : Header) (payload : Bytes) (p : Nat) (resid : Nat) : Keeps
    lv z0 (State.originate s owner h payload p resid) := by
  unfold State.originate
  repeat' (first | with_reducible assumption | with_reducible apply keeps_originateTo)

theorem keeps_dropOut {lv : Bool} {z0 s : State} (hk : Keeps lv z0 s) (o : OutFrame) : Keeps lv z0 (State.dropOut s o) := by
  unfold State.dropOut
  repeat' (first | with_reducible assumption | (show ∀ h : Journal, _ → _; exact fun _ => id) | with_reducible apply keeps_modJrn)

theorem keeps_modOut {lv : Bool} {z0 s : State} (hk : Keeps lv z0 s) (o : OutFrame) (f : OutFrame → OutFrame) : Keeps lv z0 (State.modOut s o f) := by
  unfold State.modOut
  repeat' (first | with_reducible assumption | (show ∀ h : Journal, _ → _; exact fun _ => id) | with_reducible apply keeps_modJrn)

theorem keeps_resend {lv : Bool} {z0 s : State} (hk : Keeps lv z0 s) (o : OutFrame) : Keeps lv z0 (State.resend s o) := by
  unfold State.resend
  repeat' (first | with_reducible assumption | with_reducible apply keeps_modOut | with_reducible apply keeps_emitTo)

theorem keeps_fillSeq {lv : Bool} {z0 s : State} (hk : Keeps lv z0 s) (o : OutFrame) (fresh : Bool) : Keeps lv z0 (State.fillSeq s o fresh) := by
  unfold State.fillSeq
  repeat' (first | with_reducible assumption | with_reducible apply keeps_dropOut | with_reducible apply keeps_originate)

theorem keeps_answerRecord {lv : Bool} {z0 s : State} (hk : Keeps lv z0 s) (path : RecPath) (number : Nat) (st : Status) (item : Nat) (consumed :
    Bool) : Keeps lv z0 (State.answerRecord s path number st item consumed) := by
  unfold State.answerRecord
  repeat' (first
    | with_reducible assumption | (show ∀ h : Hoop, _ → _; exact fun _ => id)
    | (show ∀ h : Hoop, _ = true → _; first | exact fun _ _ => rfl | exact fun _ e => absurd e (by decide)) | with_reducible apply keeps_modHoop
    | with_reducible apply keeps_fire | with_reducible apply keeps_sendResponse | dsimp only | split)

theorem keeps_rememberRecord {lv : Bool} {z0 s : State} (hk : Keeps lv z0 s) (signer : Nat) (number : Nat) (digest : Bytes) (st : Status) : Keeps lv
    z0 (State.rememberRecord s signer number digest st) := by
  unfold State.rememberRecord
  repeat' (first
    | with_reducible assumption | dsimp only | (show List.length _ = _; simp [State.draw]; done) | (with_reducible apply keeps_raw))

theorem keeps_unwait {lv : Bool} {z0 s : State} (hk : Keeps lv z0 s) (w : RecWait) : Keeps lv z0 (State.unwait s w) := by
  unfold State.unwait
  repeat' (first
    | with_reducible assumption | (show ∀ h : Hoop, _ → _; exact fun _ => id)
    | (show ∀ h : Hoop, _ = true → _; first | exact fun _ _ => rfl | exact fun _ e => absurd e (by decide)) | with_reducible apply keeps_ite
    | with_reducible apply keeps_modHoop | with_reducible apply keeps_rememberRecord | with_reducible apply keeps_answerRecord | dsimp only | split)

/-! Shaper -/

theorem keeps_modService {lv : Bool} {z0 s : State} (hk : Keeps lv z0 s) (sub : Nat) (svc : Nat) (f : Service → Service) : Keeps lv z0
    (State.modService s sub svc f) := by
  unfold State.modService
  repeat' (first | with_reducible assumption | with_reducible apply keeps_modTabs)

theorem keeps_refillTokens {lv : Bool} {z0 s : State} (hk : Keeps lv z0 s) : Keeps lv z0 (State.refillTokens s) := by
  unfold State.refillTokens
  repeat' (first | with_reducible assumption | with_reducible apply keeps_modTabs)

theorem keeps_chargeService {lv : Bool} {z0 s : State} (hk : Keeps lv z0 s) (sub : Nat) (svc : Nat) (bytes : Nat) : Keeps lv z0 (State.chargeService s
    sub svc bytes) := by
  unfold State.chargeService
  repeat' (first | with_reducible assumption | with_reducible apply keeps_modService)

theorem keeps_moveToBucket {lv : Bool} {z0 s : State} (hk : Keeps lv z0 s) (p : Nat) : Keeps lv z0 (State.moveToBucket s p) := by
  unfold State.moveToBucket
  repeat' (first
    | with_reducible assumption | with_reducible apply keeps_ite | with_reducible apply keeps_modService | with_reducible apply keeps_event
    | dsimp only | split)

theorem keeps_freeLeaving {lv : Bool} {z0 s : State} (hk : Keeps lv z0 s) : Keeps lv z0 (State.freeLeaving s) := by
  unfold State.freeLeaving
  repeat' (first
    | with_reducible assumption | with_reducible intro _ | with_reducible apply keeps_each | with_reducible apply keeps_modTabs
    | with_reducible apply keeps_moveToBucket)

theorem keeps_sampleVoq {lv : Bool} {z0 s : State} (hk : Keeps lv z0 s) (k : Nat × Nat × Nat) (depth : Nat) (wait : Nat) : Keeps lv z0
    (State.sampleVoq s k depth wait) := by
  unfold State.sampleVoq
  repeat' (first | with_reducible assumption | with_reducible apply keeps_modWarp)

theorem keeps_sampleSvc {lv : Bool} {z0 s : State} (hk : Keeps lv z0 s) (sub : Nat) (svc : Nat) (bytes : Nat) (wait : Nat) (held : Nat) : Keeps lv z0
    (State.sampleSvc s sub svc bytes wait held) := by
  unfold State.sampleSvc
  repeat' (first | with_reducible assumption | with_reducible apply keeps_modWarp)

theorem keeps_sampleNow {lv : Bool} {z0 s : State} (hk : Keeps lv z0 s) : Keeps lv z0 (State.sampleNow s) := by
  unfold State.sampleNow
  repeat' (first | with_reducible assumption | with_reducible intro _ | with_reducible apply keeps_each | with_reducible apply keeps_sampleVoq)

theorem keeps_ownerSamples {lv : Bool} {z0 s : State} (hk : Keeps lv z0 s) : Keeps lv z0 (State.ownerSamples s) := by
  unfold State.ownerSamples
  repeat' (first
    | with_reducible assumption | with_reducible intro _ | with_reducible apply keeps_each | with_reducible apply keeps_sampleNow
    | with_reducible apply keeps_toOwner | with_reducible apply keeps_modWarp)

theorem keeps_partSamples {lv : Bool} {z0 s : State} (hk : Keeps lv z0 s) : Keeps lv z0 (State.partSamples s) := by
  unfold State.partSamples
  repeat' (first
    | with_reducible assumption | with_reducible intro _ | with_reducible apply keeps_each | with_reducible apply keeps_ite
    | with_reducible apply keeps_toPartRing | with_reducible apply keeps_modPart | with_reducible apply keeps_modWarp)

/-! Requests -/

theorem keeps_modStream {lv : Bool} {z0 s : State} (hk : Keeps lv z0 s) (n : Node) (t : Stream) (f : StreamRec → StreamRec) : Keeps lv z0
    (State.modStream s n t f) := by
  unfold State.modStream
  repeat' (first | with_reducible assumption | (show ∀ h : Journal, _ → _; exact fun _ => id) | with_reducible apply keeps_modJrn)

theorem keeps_sendMirror {lv : Bool} {z0 s : State} (hk : Keeps lv z0 s) (e : JEntry) : Keeps lv z0 (State.sendMirror s e) := by
  unfold State.sendMirror
  repeat' (first | with_reducible assumption | with_reducible apply keeps_modWriter | with_reducible apply keeps_originate)

theorem keeps_writeEntry {lv : Bool} {z0 s : State} (hk : Keeps lv z0 s) (e : JEntry) : Keeps lv z0 (State.writeEntry s e).2 := by
  unfold State.writeEntry
  repeat' (first
    | with_reducible assumption | with_reducible apply keeps_ite | with_reducible apply keeps_modWriter | with_reducible apply keeps_sendMirror)

theorem keeps_modEntry {lv : Bool} {z0 s : State} (hk : Keeps lv z0 s) (w : Nat) (i : Nat) (f : JEntry → JEntry) : Keeps lv z0 (State.modEntry s w i
    f) := by
  unfold State.modEntry
  repeat' (first | with_reducible assumption | with_reducible apply keeps_modWriter)

theorem keeps_mark {lv : Bool} {z0 s : State} (hk : Keeps lv z0 s) (w : Nat) (covered : Option Nat) : Keeps lv z0 (State.mark s w covered) := by
  unfold State.mark
  repeat' (first | with_reducible assumption | with_reducible apply keeps_writeEntry | with_reducible apply keeps_modWriter)

theorem keeps_finalMarks {lv : Bool} {z0 s : State} (hk : Keeps lv z0 s) : Keeps lv z0 (State.finalMarks s) := by
  unfold State.finalMarks
  repeat' (first | with_reducible assumption | with_reducible apply keeps_ite | with_reducible apply keeps_mark)

theorem keeps_journal {lv : Bool} {z0 s : State} (hk : Keeps lv z0 s) (id : Nat) (st : EntryState) : Keeps lv z0 (State.journal s id st) := by
  unfold State.journal
  repeat' (first
    | with_reducible assumption | with_reducible apply keeps_ite | with_reducible apply keeps_writeEntry | with_reducible apply keeps_modReq
    | dsimp only | split)

theorem keeps_finishDup {lv : Bool} {z0 s : State} (hk : Keeps lv z0 s) (r : Req) (e : JEntry) (tail : Bool) (st : Status) (data : Bytes) (fmt :
    BitVec 3) : Keeps lv z0 (State.finishDup s r e tail st data fmt) := by
  unfold State.finishDup
  repeat' (first
    | with_reducible assumption | (show ∀ h : Journal, _ → _; exact fun _ => id) | with_reducible apply keeps_ite
    | with_reducible apply keeps_modJrn | with_reducible apply keeps_missed | with_reducible apply keeps_sendResponse)

theorem keeps_finish {lv : Bool} {z0 s : State} (hk : Keeps lv z0 s) (id : Nat) (st : Status) (data : Bytes) (fmt : BitVec 3) : Keeps lv z0
    (State.finish s id st data fmt) := by
  unfold State.finish
  repeat' (first
    | with_reducible assumption | with_reducible apply keeps_finishDup | with_reducible apply keeps_modReq | with_reducible apply keeps_modEntry
    | dsimp only | split)

theorem keeps_refuse {lv : Bool} {z0 s : State} (hk : Keeps lv z0 s) (id : Nat) (st : Status) : Keeps lv z0 (State.refuse s id st) := by
  unfold State.refuse
  repeat' (first
    | with_reducible assumption | with_reducible apply keeps_ite | with_reducible apply keeps_finishDup | with_reducible apply keeps_modEntry
    | with_reducible apply keeps_modPart | with_reducible apply keeps_mcastFail | with_reducible apply keeps_writeEntry
    | with_reducible apply keeps_modReq | dsimp only | split)

theorem keeps_reap {lv : Bool} {z0 s : State} (hk : Keeps lv z0 s) : Keeps lv z0 (State.reap s) := by
  unfold State.reap
  repeat' (first
    | with_reducible assumption | with_reducible intro _ | with_reducible apply keeps_each | with_reducible apply keeps_modTabs
    | with_reducible apply keeps_event | with_reducible apply keeps_unwait)

theorem keeps_release {lv : Bool} {z0 s : State} (hk : Keeps lv z0 s) (r : Req) : Keeps lv z0 (State.release s r) := by
  unfold State.release
  repeat' (first | with_reducible assumption | with_reducible apply keeps_modTabs | dsimp only | split)

theorem keeps_retireDone {lv : Bool} {z0 s : State} (hk : Keeps lv z0 s) (n : Node) : Keeps lv z0 (State.retireDone s n) := by
  unfold State.retireDone
  repeat' (first
    | with_reducible assumption | (show ∀ h : Journal, _ → _; exact fun _ => id) | with_reducible apply keeps_ite
    | with_reducible apply keeps_modJrn | with_reducible apply keeps_modTabs | with_reducible apply keeps_unwait)

theorem keeps_numericEvent {lv : Bool} {z0 s : State} (hk : Keeps lv z0 s) (h : Header) (p : Nat) (counts : List Nat) (ovf : Bool) : Keeps lv z0
    (State.numericEvent s h p counts ovf) := by
  unfold State.numericEvent
  repeat' (first | with_reducible assumption | with_reducible apply keeps_modPart | with_reducible apply keeps_eventLimited)

theorem keeps_afterSettle {lv : Bool} {z0 s : State} (hk : Keeps lv z0 s) (r : Req) : Keeps lv z0 (State.afterSettle s r) := by
  unfold State.afterSettle
  repeat' (first
    | with_reducible assumption | (show ∀ h : Journal, _ → _; exact fun _ => id) | with_reducible apply keeps_ite
    | with_reducible apply keeps_modTabs | with_reducible apply keeps_modJrn | with_reducible apply keeps_release | with_reducible apply keeps_reap
    | with_reducible apply keeps_retireDone | with_reducible apply keeps_mark | split)

theorem keeps_settleReq {lv : Bool} {z0 s : State} (hk : Keeps lv z0 s) (r : Req) : Keeps lv z0 (State.settleReq s r) := by
  unfold State.settleReq
  repeat' (first
    | with_reducible assumption | (show ∀ h : Journal, _ → _; exact fun _ => id) | with_reducible apply keeps_ite
    | with_reducible apply keeps_modJrn | with_reducible apply keeps_modPart | with_reducible apply keeps_missed
    | with_reducible apply keeps_modStream | with_reducible apply keeps_modEntry | with_reducible apply keeps_sendResponse
    | with_reducible apply keeps_afterSettle | split)

theorem keeps_trySettle {lv : Bool} {z0 s : State} (hk : Keeps lv z0 s) (n : Node) (t : Stream) : Keeps lv z0 (State.trySettle s n t) := by
  unfold State.trySettle
  repeat' (first | with_reducible assumption | with_reducible apply keeps_ite | with_reducible apply keeps_settleReq | dsimp only | split)

theorem keeps_deniedEvent {lv : Bool} {z0 s : State} (hk : Keeps lv z0 s) (h : Header) (p : Nat) (st : Status) : Keeps lv z0 (State.deniedEvent s h p
    st) := by
  unfold State.deniedEvent
  repeat' (first | with_reducible assumption | with_reducible apply keeps_modPart | with_reducible apply keeps_eventLimited)

theorem keeps_charge {lv : Bool} {z0 s : State} (hk : Keeps lv z0 s) (p : Nat) (tier : Nat) (w : Nat) : KeepsO lv z0 (State.charge s p tier w) := by
  unfold State.charge
  repeat' (first
    | with_reducible assumption | with_reducible apply keepsO_intro | with_reducible apply keepsO_none | with_reducible apply keeps_modPart
    | dsimp only | split)

theorem keeps_turnAway {lv : Bool} {z0 s : State} (hk : Keeps lv z0 s) (d : Delivered) (st : Status) : Keeps lv z0 (State.turnAway s d st) := by
  unfold State.turnAway
  repeat' (first | with_reducible assumption | with_reducible apply keeps_refuseOpen)

theorem keeps_openReq {lv : Bool} {z0 s : State} (hk : Keeps lv z0 s) (d : Delivered) (weight : Nat) (writer : Nat) (e : Option AccessEntry) : Keeps
    lv z0 (State.openReq s d weight writer e).2 := by
  unfold State.openReq
  repeat' (first
    | with_reducible assumption | (show ∀ h : Journal, _ → _; exact fun _ => id) | with_reducible apply keeps_modJrn
    | with_reducible apply keeps_modStream)

theorem keeps_openDup {lv : Bool} {z0 s : State} (hk : Keeps lv z0 s) (d : Delivered) (writer : Nat) (e : JEntry) (tail : Bool) : Keeps lv z0
    (State.openDup s d writer e tail).2 := by
  unfold State.openDup
  repeat' (first | with_reducible assumption | (show ∀ h : Journal, _ → _; exact fun _ => id) | with_reducible apply keeps_modJrn)

theorem keeps_admitWork {lv : Bool} {z0 s : State} (hk : Keeps lv z0 s) (d : Delivered) (w : Want) : KeepsC lv z0 (State.admitWork s d w) := by
  unfold State.admitWork
  repeat' (first
    | with_reducible assumption | with_reducible apply keeps_ite | with_reducible apply keepsC_i_done | with_reducible apply keepsC_i_go
    | with_reducible apply keepsO_intro | with_reducible apply keeps_openReq | with_reducible apply keeps_deniedEvent
    | with_reducible apply keeps_refuse | with_reducible apply keeps_charge | with_reducible apply keeps_eventLimited
    | with_reducible apply keeps_turnAway | with_reducible apply keeps_modWriter | with_reducible apply keeps_event
    | with_reducible apply keeps_modPart | with_reducible apply keeps_modTabs | dsimp only | split | (apply keepsO_some; with_reducible assumption))

theorem keeps_present {lv : Bool} {z0 s : State} (hk : Keeps lv z0 s) (d : Delivered) (w : Want) : KeepsC lv z0 (State.present s d w) := by
  unfold State.present
  repeat' (first
    | with_reducible assumption | (show ∀ h : Journal, _ → _; exact fun _ => id) | with_reducible apply keepsC_i_done
    | with_reducible apply keepsC_i_dup | with_reducible apply keeps_count | with_reducible apply keeps_turnAway | with_reducible apply keeps_park
    | with_reducible apply keeps_event | with_reducible apply keeps_sendResponse | with_reducible apply keeps_admitWork
    | with_reducible apply keeps_modJrn | dsimp only | split)

theorem keeps_answerDup {lv : Bool} {z0 s : State} (hk : Keeps lv z0 s) (d : Delivered) (e : JEntry) (st : Status) (data : Bytes) (fmt : BitVec 3) :
    Keeps lv z0 (State.answerDup s d e st data fmt) := by
  unfold State.answerDup
  repeat' (first | with_reducible assumption | with_reducible apply keeps_sendResponse)

theorem keeps_answerAgain {lv : Bool} {z0 s : State} (hk : Keeps lv z0 s) (d : Delivered) (e : JEntry) (st : Status) (data : Bytes) (fmt : BitVec 3) :
    Keeps lv z0 (State.answerAgain s d e st data fmt) := by
  unfold State.answerAgain
  repeat' (first
    | with_reducible assumption | with_reducible apply keeps_ite | with_reducible apply keeps_missed | with_reducible apply keeps_answerDup)

/-! Islands -/

theorem keeps_refuseAll {lv : Bool} {z0 s : State} (hk : Keeps lv z0 s) (ids : List Nat) (st : Status) : Keeps lv z0 (State.refuseAll s ids st) := by
  unfold State.refuseAll
  repeat' (first | with_reducible assumption | with_reducible intro _ | with_reducible apply keeps_each | with_reducible apply keeps_refuse)

theorem keeps_cohDrop {lv : Bool} {z0 s : State} (hk : Keeps lv z0 s) (c : Nat) : Keeps lv z0 (State.cohDrop s c) := by
  unfold State.cohDrop
  repeat' (first | with_reducible assumption | (show ∀ h : MemSys, _ → _; exact fun _ => id) | with_reducible apply keeps_modMem)

theorem keeps_cohSweep {lv : Bool} {z0 s : State} (hk : Keeps lv z0 s) (c : Nat) : Keeps lv z0 (State.cohSweep s c) := by
  unfold State.cohSweep
  repeat' (first | with_reducible assumption | with_reducible apply keeps_cohDrop | with_reducible apply keeps_event)

theorem keeps_clusterStop {lv : Bool} {z0 s : State} (hk : Keeps lv z0 s) (c : Nat) (st : Status) : Keeps lv z0 (State.clusterStop s c st) := by
  unfold State.clusterStop
  repeat' (first
    | with_reducible assumption | (show ∀ h : Engines, _ → _; exact fun _ => id) | with_reducible intro _ | with_reducible apply keeps_each
    | with_reducible apply keeps_refuseAll | with_reducible apply keeps_modPart | with_reducible apply keeps_modEng)

theorem keeps_refuseArrived {lv : Bool} {z0 s : State} (hk : Keeps lv z0 s) (mine : Nat → Bool) : Keeps lv z0 (State.refuseArrived s mine) := by
  unfold State.refuseArrived
  repeat' (first
    | with_reducible assumption | with_reducible intro _ | with_reducible apply keeps_each | with_reducible apply keeps_modWarp
    | with_reducible apply keeps_refuseOpen)

theorem keeps_clusterLost {lv : Bool} {z0 s : State} (hk : Keeps lv z0 s) (c : Nat) : Keeps lv z0 (State.clusterLost s c) := by
  unfold State.clusterLost
  repeat' (first
    | with_reducible assumption | with_reducible apply keeps_clusterStop | with_reducible apply keeps_refuseArrived
    | with_reducible apply keeps_modCluster | with_reducible apply keeps_cohSweep | with_reducible apply keeps_event)

theorem keeps_islandEvent {lv : Bool} {z0 s : State} (hk : Keeps lv z0 s) (i : Island) (done : Bool) : Keeps lv z0 (State.islandEvent s i done) := by
  unfold State.islandEvent
  repeat' (first | with_reducible assumption | with_reducible apply keeps_event)

theorem keeps_freeze {lv : Bool} {z0 s : State} (hk : Keeps lv z0 s) (a : Nat) : Keeps lv z0 (State.freeze s a) := by
  unfold State.freeze
  repeat' (first | with_reducible assumption | with_reducible apply keeps_modArb)

theorem keeps_osierLost {lv : Bool} {z0 s : State} (hk : Keeps lv z0 s) (d : Nat) : Keeps lv z0 (State.osierLost s d) := by
  unfold State.osierLost
  repeat' (first
    | with_reducible assumption | with_reducible apply keeps_modWarp | with_reducible apply keeps_refuseArrived | dsimp only
    | (with_reducible apply keeps_raw))

theorem keeps_beginReset {lv : Bool} {z0 s : State} (hk : Keeps lv z0 s) (i : Island) : Keeps lv z0 (State.beginReset s i) := by
  unfold State.beginReset
  have h1 : Keeps lv z0 ((s.each (islandArbiters i) State.freeze).islandEvent i false) :=
    keeps_islandEvent (keeps_each hk _ _ (fun _ _ h => keeps_freeze h _)) i false
  generalize (s.each (islandArbiters i) State.freeze).islandEvent i false = s1 at h1 ⊢
  dsimp only
  split
  · exact h1
  · have h2 := keeps_each (keeps_modHoop h1 (fun h =>
      let l := mapIf (fun (r : IslandReset) => r.island == i) (fun (r : IslandReset) => { r with running := true, since := s1.now }) h.resets
      { h with resets := l }) (fun _ => id) (fun _ _ => rfl)) (islandClusters i) State.clusterLost (fun _ _ h => keeps_clusterLost h _)
    dsimp only at h2
    split
    · exact keeps_osierLost h2 _
    · exact h2

theorem keeps_askReset {lv : Bool} {z0 s : State} (hk : Keeps lv z0 s) (i : Island) : Keeps lv z0 (State.askReset s i) := by
  unfold State.askReset
  repeat' (first
    | with_reducible assumption | (show ∀ h : Hoop, _ → _; exact fun _ => id)
    | (show ∀ h : Hoop, _ = true → _; first | exact fun _ _ => rfl | exact fun _ e => absurd e (by decide)) | with_reducible apply keeps_ite
    | with_reducible apply keeps_islandInput | with_reducible apply keeps_modHoop | with_reducible apply keeps_beginReset)

theorem keeps_cohFault {lv : Bool} {z0 s : State} (hk : Keeps lv z0 s) (c : Nat) (line : Nat) : Keeps lv z0 (State.cohFault s c line) := by
  unfold State.cohFault
  repeat' (first
    | with_reducible assumption | with_reducible apply keeps_event | with_reducible apply keeps_healthInput | with_reducible apply keeps_askReset)

/-! Memory -/

theorem keeps_sendCopies {lv : Bool} {z0 s : State} (hk : Keeps lv z0 s) (owner : Owner) (o : Nat) (bs : Bytes) (tc : Nat) (p : Nat) (age : Nat)
    (budget : Nat) (resid : Nat) : Keeps lv z0 (State.sendCopies s owner o bs tc p age budget resid).2 := by
  unfold State.sendCopies
  repeat' (first
    | with_reducible assumption | with_reducible intro _ | with_reducible apply keeps_foldl_snd | with_reducible apply keeps_takeSeq
    | with_reducible apply keeps_originate | dsimp only | split)

theorem keeps_writeBack {lv : Bool} {z0 s : State} (hk : Keeps lv z0 s) (owner : Owner) (tc : Nat) (p : Nat) (age : Nat) (budget : Nat) (resid : Nat)
    (line : Nat) (b : Bytes) : Keeps lv z0 (State.writeBack s owner tc p age budget resid line b).2 := by
  unfold State.writeBack
  repeat' (first | with_reducible assumption | with_reducible apply keeps_memWrite | with_reducible apply keeps_sendCopies)

theorem keeps_setL2 {lv : Bool} {z0 s : State} (hk : Keeps lv z0 s) (c : Nat) (line : Nat) (st : L2State) (data : Option Bytes) : Keeps lv z0
    (State.setL2 s c line st data) := by
  unfold State.setL2
  repeat' (first | with_reducible assumption | (show ∀ h : MemSys, _ → _; exact fun _ => id) | with_reducible apply keeps_modMem)

theorem keeps_snoopCluster {lv : Bool} {z0 s : State} (hk : Keeps lv z0 s) (c : Nat) (line : Nat) (k : Snoop) : Keeps lv z0 (State.snoopCluster s c
    line k).2 := by
  unfold State.snoopCluster
  repeat' (first | with_reducible assumption | with_reducible apply keeps_cohFault | with_reducible apply keeps_setL2 | split)

theorem keeps_listAs {lv : Bool} {z0 s : State} (hk : Keeps lv z0 s) (line : Nat) (c : Nat) (how : Option Listed) : Keeps lv z0 (State.listAs s line c
    how) := by
  unfold State.listAs
  repeat' (first | with_reducible assumption | (show ∀ h : MemSys, _ → _; exact fun _ => id) | with_reducible apply keeps_modMem)

theorem keeps_snoopForRead {lv : Bool} {z0 s : State} (hk : Keeps lv z0 s) (line : Nat) : Keeps lv z0 (State.snoopForRead s line) := by
  unfold State.snoopForRead
  repeat' (first
    | with_reducible assumption | with_reducible apply keeps_ite | with_reducible apply keeps_snoopCluster | with_reducible apply keeps_writeBack
    | with_reducible apply keeps_listAs | dsimp only | split | (apply keeps_snd; with_reducible assumption))

theorem keeps_invalidate {lv : Bool} {z0 s : State} (hk : Keeps lv z0 s) (owner : Owner) (tc : Nat) (p : Nat) (age : Nat) (budget : Nat) (resid : Nat)
    (line : Nat) : Keeps lv z0 (State.invalidate s owner tc p age budget resid line).2 := by
  unfold State.invalidate
  repeat' (first
    | with_reducible assumption | with_reducible intro _ | with_reducible apply keeps_foldl_snd | with_reducible apply keeps_snoopCluster
    | with_reducible apply keeps_listAs | with_reducible apply keeps_writeBack | dsimp only | split | (apply keeps_snd; with_reducible assumption))

theorem keeps_snoopForWrite {lv : Bool} {z0 s : State} (hk : Keeps lv z0 s) (line : Nat) : Keeps lv z0 (State.snoopForWrite s line) := by
  unfold State.snoopForWrite
  repeat' (first | with_reducible assumption | with_reducible apply keeps_invalidate)

theorem keeps_nearRead {lv : Bool} {z0 s : State} (hk : Keeps lv z0 s) (o : Nat) (n : Nat) : Keeps lv z0 (State.nearRead s o n).2 := by
  unfold State.nearRead
  repeat' (first
    | with_reducible assumption | with_reducible intro _ | with_reducible apply keeps_each | with_reducible apply keeps_snoopForRead)

theorem keeps_taint {lv : Bool} {z0 s : State} (hk : Keeps lv z0 s) (o : Nat) (n : Nat) : Keeps lv z0 (State.taint s o n) := by
  unfold State.taint
  repeat' (first | with_reducible assumption | (show ∀ h : Engines, _ → _; exact fun _ => id) | with_reducible apply keeps_modEng)

theorem keeps_nearWrite {lv : Bool} {z0 s : State} (hk : Keeps lv z0 s) (o : Nat) (bs : Bytes) : Keeps lv z0 (State.nearWrite s o bs) := by
  unfold State.nearWrite
  repeat' (first
    | with_reducible assumption | with_reducible intro _ | with_reducible apply keeps_each | with_reducible apply keeps_snoopForWrite
    | with_reducible apply keeps_memWrite | with_reducible apply keeps_taint)

theorem keeps_sendTray {lv : Bool} {z0 s : State} (hk : Keeps lv z0 s) (owner : Owner) (e : Extent) (op : Nat) (tc : Nat) (o : Nat) (len : Nat)
    (payload : Bytes) (p : Nat) (age : Nat) (budget : Nat) (resid : Nat) : Keeps lv z0 (State.sendTray s owner e op tc o len payload p age budget
    resid) := by
  unfold State.sendTray
  repeat' (first
    | with_reducible assumption | with_reducible apply keeps_takeSeq | with_reducible apply keeps_modPart | with_reducible apply keeps_originate)

theorem keeps_touchSector {lv : Bool} {z0 s : State} (hk : Keeps lv z0 s) (x : Sector) : Keeps lv z0 (State.touchSector s x) := by
  unfold State.touchSector
  repeat' (first | with_reducible assumption | (show ∀ h : MemSys, _ → _; exact fun _ => id) | with_reducible apply keeps_modMem)

theorem keeps_fillSector {lv : Bool} {z0 s : State} (hk : Keeps lv z0 s) (owner : Owner) (e : Extent) (sec : Nat) (tc : Nat) (p : Nat) (age : Nat)
    (budget : Nat) (resid : Nat) : KeepsO lv z0 (State.fillSector s owner e sec tc p age budget resid) := by
  unfold State.fillSector
  repeat' (first
    | with_reducible assumption | (show ∀ h : MemSys, _ → _; exact fun _ => id) | with_reducible apply keepsO_intro
    | with_reducible apply keepsO_none | with_reducible apply keeps_modMem | with_reducible apply keeps_sendTray | dsimp only | split)

theorem keeps_updateSector {lv : Bool} {z0 s : State} (hk : Keeps lv z0 s) (e : Extent) (o : Nat) (cipher : Bytes) : Keeps lv z0 (State.updateSector s
    e o cipher) := by
  unfold State.updateSector
  repeat' (first
    | with_reducible assumption | (show ∀ h : MemSys, _ → _; exact fun _ => id) | with_reducible intro _ | with_reducible apply keeps_foldl
    | with_reducible apply keeps_modMem | with_reducible apply keeps_taint)

/-! Locks -/

theorem keeps_signBatch {lv : Bool} {z0 s : State} (hk : Keeps lv z0 s) (p : Nat) (first : Nat) (leaves : List Bytes) (flags : Nat) : Keeps lv z0
    (State.signBatch s p first leaves flags) := by
  unfold State.signBatch
  repeat' (first
    | with_reducible assumption | with_reducible intro _ | with_reducible apply keeps_each | with_reducible apply keeps_modPart
    | with_reducible apply keeps_toPartRing | with_reducible apply keeps_toManagers)

theorem keeps_writeSigned {lv : Bool} {z0 s : State} (hk : Keeps lv z0 s) (p : Nat) : Keeps lv z0 (State.writeSigned s p) := by
  unfold State.writeSigned
  repeat' (first
    | with_reducible assumption | with_reducible apply keeps_nearWrite | with_reducible apply keeps_sendCopies | dsimp only | split)

theorem keeps_closeBatch {lv : Bool} {z0 s : State} (hk : Keeps lv z0 s) (p : Nat) : Keeps lv z0 (State.closeBatch s p) := by
  unfold State.closeBatch
  repeat' (first
    | with_reducible assumption | with_reducible apply keeps_ite | with_reducible apply keeps_modPart | with_reducible apply keeps_signBatch
    | with_reducible apply keeps_writeSigned | dsimp only | split)

theorem keeps_closeBatches {lv : Bool} {z0 s : State} (hk : Keeps lv z0 s) : Keeps lv z0 (State.closeBatches s) := by
  unfold State.closeBatches
  repeat' (first | with_reducible assumption | with_reducible intro _ | with_reducible apply keeps_each | with_reducible apply keeps_closeBatch)

theorem keeps_logFull {lv : Bool} {z0 s : State} (hk : Keeps lv z0 s) (p : Nat) : Keeps lv z0 (State.logFull s p) := by
  unfold State.logFull
  repeat' (first | with_reducible assumption | with_reducible apply keeps_eventLimited)

theorem keeps_reserveLeaf {lv : Bool} {z0 s : State} (hk : Keeps lv z0 s) (p : Nat) : KeepsO lv z0 (State.reserveLeaf s p) := by
  unfold State.reserveLeaf
  repeat' (first
    | with_reducible assumption | with_reducible apply keepsO_intro | with_reducible apply keepsO_none | with_reducible apply keeps_modPart | split)

theorem keeps_unreserveLeaf {lv : Bool} {z0 s : State} (hk : Keeps lv z0 s) (p : Nat) : Keeps lv z0 (State.unreserveLeaf s p) := by
  unfold State.unreserveLeaf
  repeat' (first | with_reducible assumption | with_reducible apply keeps_modPart)

theorem keeps_writeLeaf {lv : Bool} {z0 s : State} (hk : Keeps lv z0 s) (p : Nat) (owner : Owner) (l : LeafOf) : Keeps lv z0 (State.writeLeaf s p
    owner l).2 := by
  unfold State.writeLeaf
  repeat' (first
    | with_reducible assumption | with_reducible apply keeps_ite | with_reducible apply keeps_nearWrite | with_reducible apply keeps_sendCopies
    | with_reducible apply keeps_modPart | with_reducible apply keeps_closeBatch | dsimp only | split)

theorem keeps_writeLeafAgain {lv : Bool} {z0 s : State} (hk : Keeps lv z0 s) (p : Nat) (owner : Owner) (l : LeafOf) : Keeps lv z0
    (State.writeLeafAgain s p owner l).2 := by
  unfold State.writeLeafAgain
  repeat' (first
    | with_reducible assumption | with_reducible apply keeps_logFull | with_reducible apply keeps_modPart | with_reducible apply keeps_writeLeaf
    | split)

theorem keeps_noteLeafCopy {lv : Bool} {z0 s : State} (hk : Keeps lv z0 s) (o : Nat) (n : Nat) : Keeps lv z0 (State.noteLeafCopy s o n) := by
  unfold State.noteLeafCopy
  repeat' (first
    | with_reducible assumption | with_reducible intro _ | with_reducible apply keeps_each | with_reducible apply keeps_ite
    | with_reducible apply keeps_modPart | dsimp only | split)

theorem keeps_custody {lv : Bool} {z0 s : State} (hk : Keeps lv z0 s) : Keeps lv z0 (State.custody s) := by
  unfold State.custody
  repeat' (first
    | with_reducible assumption | with_reducible intro _ | with_reducible apply keeps_each | with_reducible apply keeps_ite
    | with_reducible apply keeps_signBatch | with_reducible apply keeps_modPart | with_reducible apply keeps_writeSigned
    | with_reducible apply keeps_event | dsimp only | split)

/-! Translate -/

theorem keeps_xlateFault {lv : Bool} {z0 s : State} (hk : Keeps lv z0 s) (h : Header) (p : Nat) : Keeps lv z0 (State.xlateFault s h p) := by
  unfold State.xlateFault
  repeat' (first | with_reducible assumption | with_reducible apply keeps_event)

end Sys2Proof.Machine
end

