-- ==== Sys2Proof/Laws/KeepsMemory.lean ====
section
/-! SUPPORT. What every operation keeps: home agents, movers, resynchronisation, prefetch and the memory commands. -/

set_option linter.unusedVariables false
set_option linter.unusedSimpArgs false

namespace Sys2Proof.Machine

/-! Home -/

theorem keeps_say {lv : Bool} {z0 s : State} (hk : Keeps lv z0 s) (ms : List Msg) : Keeps lv z0 (State.say s ms) := by
  unfold State.say
  repeat' (first | with_reducible assumption | (show ∀ h : MemSys, _ → _; exact fun _ => id) | with_reducible apply keeps_modMem)

theorem keeps_hear {lv : Bool} {z0 s : State} (hk : Keeps lv z0 s) (p : Msg → Bool) : Keeps lv z0 (State.hear s p) := by
  unfold State.hear
  repeat' (first | with_reducible assumption | (show ∀ h : MemSys, _ → _; exact fun _ => id) | with_reducible apply keeps_modMem)

theorem keeps_setHold {lv : Bool} {z0 s : State} (hk : Keeps lv z0 s) (line : Nat) (h : Option HomeHold) : Keeps lv z0 (State.setHold s line h) := by
  unfold State.setHold
  repeat' (first | with_reducible assumption | (show ∀ h : MemSys, _ → _; exact fun _ => id) | with_reducible apply keeps_modMem)

theorem keeps_nakCluster {lv : Bool} {z0 s : State} (hk : Keeps lv z0 s) (c : Nat) (line : Nat) (cid : Cid) (write : Bool) (st : Status) : Keeps lv z0
    (State.nakCluster s c line cid write st) := by
  unfold State.nakCluster
  repeat' (first | with_reducible assumption | with_reducible apply keeps_deniedEvent | with_reducible apply keeps_say)

theorem keeps_complete {lv : Bool} {z0 s : State} (hk : Keeps lv z0 s) (c : Nat) (line : Nat) (m : Msg) (how : Listed) (data : Option Bytes) : Keeps
    lv z0 (State.complete s c line m how data) := by
  unfold State.complete
  repeat' (first
    | with_reducible assumption | with_reducible apply keeps_ite | with_reducible apply keeps_setHold | with_reducible apply keeps_listAs
    | with_reducible apply keeps_say)

theorem keeps_uncached {lv : Bool} {z0 s : State} (hk : Keeps lv z0 s) (c : Nat) (b : Bytes) : Keeps lv z0 (State.uncached s c b) := by
  unfold State.uncached
  repeat' (first | with_reducible assumption | (show ∀ h : MemSys, _ → _; exact fun _ => id) | with_reducible apply keeps_modMem)

theorem keeps_homeReply {lv : Bool} {z0 s : State} (hk : Keeps lv z0 s) (line : Nat) (txn : HomeTxn) (named : Bool) : Keeps lv z0 (State.homeReply s
    line txn named) := by
  unfold State.homeReply
  repeat' (first
    | with_reducible assumption | with_reducible apply keeps_ite | with_reducible apply keeps_complete | with_reducible apply keeps_uncached
    | with_reducible apply keeps_setHold | dsimp only | split)

theorem keeps_homeEnd {lv : Bool} {z0 s : State} (hk : Keeps lv z0 s) (line : Nat) (txn : HomeTxn) : Keeps lv z0 (State.homeEnd s line txn) := by
  unfold State.homeEnd
  repeat' (first
    | with_reducible assumption | with_reducible apply keeps_setHold | with_reducible apply keeps_say | with_reducible apply keeps_listAs
    | dsimp only | split)

theorem keeps_snoopsDone {lv : Bool} {z0 s : State} (hk : Keeps lv z0 s) (line : Nat) (txn : HomeTxn) (data : Option Bytes) (dirty : Bool) (sr : Bool)
    : Keeps lv z0 (State.snoopsDone s line txn data dirty sr) := by
  unfold State.snoopsDone
  repeat' (first
    | with_reducible assumption | with_reducible apply keeps_ite | with_reducible apply keeps_writeBack | with_reducible apply keeps_homeReply
    | with_reducible apply keeps_setHold | with_reducible apply keeps_say | dsimp only | split)

theorem keeps_snoopsGo {lv : Bool} {z0 s : State} (hk : Keeps lv z0 s) (line : Nat) : Keeps lv z0 (State.snoopsGo s line) := by
  unfold State.snoopsGo
  repeat' (first | with_reducible assumption | with_reducible apply keeps_snoopsDone | split)

theorem keeps_snoopAll {lv : Bool} {z0 s : State} (hk : Keeps lv z0 s) (line : Nat) (txn : HomeTxn) (l : List (Nat × Msg)) : Keeps lv z0
    (State.snoopAll s line txn l) := by
  unfold State.snoopAll
  repeat' (first | with_reducible assumption | with_reducible apply keeps_say | with_reducible apply keeps_setHold)

theorem keeps_takeLine {lv : Bool} {z0 s : State} (hk : Keeps lv z0 s) (c : Nat) (line : Nat) (txn : HomeTxn) : Keeps lv z0 (State.takeLine s c line
    txn) := by
  unfold State.takeLine
  repeat' (first
    | with_reducible assumption | with_reducible apply keeps_ite | with_reducible apply keeps_snoopsDone | with_reducible apply keeps_snoopAll)

theorem keeps_grantRdS {lv : Bool} {z0 s : State} (hk : Keeps lv z0 s) (c : Nat) (line : Nat) (cid : Cid) : Keeps lv z0 (State.grantRdS s c line cid)
    := by
  unfold State.grantRdS
  repeat' (first
    | with_reducible assumption | with_reducible apply keeps_nakCluster | with_reducible apply keeps_snoopAll | with_reducible apply keeps_setHold
    | dsimp only | split)

theorem keeps_grantRdX {lv : Bool} {z0 s : State} (hk : Keeps lv z0 s) (c : Nat) (line : Nat) (cid : Cid) : Keeps lv z0 (State.grantRdX s c line cid)
    := by
  unfold State.grantRdX
  repeat' (first | with_reducible assumption | with_reducible apply keeps_nakCluster | with_reducible apply keeps_takeLine | split)

theorem keeps_grantUpg {lv : Bool} {z0 s : State} (hk : Keeps lv z0 s) (c : Nat) (line : Nat) (cid : Cid) : Keeps lv z0 (State.grantUpg s c line cid)
    := by
  unfold State.grantUpg
  repeat' (first
    | with_reducible assumption | with_reducible apply keeps_ite | with_reducible apply keeps_grantRdX | with_reducible apply keeps_nakCluster
    | with_reducible apply keeps_takeLine | split)

theorem keeps_homeTray {lv : Bool} {z0 s : State} (hk : Keeps lv z0 s) (line : Nat) (e : Extent) (op : Nat) (o : Nat) (len : Nat) (payload : Bytes) :
    Keeps lv z0 (State.homeTray s line e op o len payload) := by
  unfold State.homeTray
  repeat' (first | with_reducible assumption | with_reducible apply keeps_sendTray)

theorem keeps_grantRdU {lv : Bool} {z0 s : State} (hk : Keeps lv z0 s) (c : Nat) (line : Nat) (served : Nat) (cid : Cid) : Keeps lv z0 (State.grantRdU
    s c line served cid) := by
  unfold State.grantRdU
  repeat' (first
    | with_reducible assumption | with_reducible apply keeps_ite | with_reducible apply keeps_nakCluster | with_reducible apply keeps_snoopAll
    | with_reducible apply keeps_setHold | with_reducible apply keeps_uncached | with_reducible apply keeps_homeTray | dsimp only | split)

theorem keeps_grantWrU {lv : Bool} {z0 s : State} (hk : Keeps lv z0 s) (c : Nat) (line : Nat) (cid : Cid) (mask : BitVec 128) : Keeps lv z0
    (State.grantWrU s c line cid mask) := by
  unfold State.grantWrU
  repeat' (first | with_reducible assumption | with_reducible apply keeps_nakCluster | with_reducible apply keeps_takeLine | split)

theorem keeps_grantEvcC {lv : Bool} {z0 s : State} (hk : Keeps lv z0 s) (c : Nat) (line : Nat) : Keeps lv z0 (State.grantEvcC s c line) := by
  unfold State.grantEvcC
  repeat' (first | with_reducible assumption | with_reducible apply keeps_listAs | with_reducible apply keeps_say)

theorem keeps_grantEvcD {lv : Bool} {z0 s : State} (hk : Keeps lv z0 s) (c : Nat) (line : Nat) : Keeps lv z0 (State.grantEvcD s c line) := by
  unfold State.grantEvcD
  repeat' (first
    | with_reducible assumption | with_reducible apply keeps_ite | with_reducible apply keeps_say | with_reducible apply keeps_setHold
    | with_reducible apply keeps_listAs)

theorem keeps_snoopAnswer {lv : Bool} {z0 s : State} (hk : Keeps lv z0 s) (c : Nat) (line : Nat) (n : Bool) (withData : Bool) (dirty : Bool) : Keeps
    lv z0 (State.snoopAnswer s c line n withData dirty) := by
  unfold State.snoopAnswer
  repeat' (first
    | with_reducible assumption | with_reducible apply keeps_ite | with_reducible apply keeps_listAs | with_reducible apply keeps_setHold
    | with_reducible apply keeps_snoopsGo | dsimp only | split)

theorem keeps_writeUncached {lv : Bool} {z0 s : State} (hk : Keeps lv z0 s) (line : Nat) (txn : HomeTxn) (b : Bytes) (mask : Nat) : Keeps lv z0
    (State.writeUncached s line txn b mask) := by
  unfold State.writeUncached
  repeat' (first
    | with_reducible assumption | with_reducible apply keeps_ite | with_reducible apply keeps_writeBack | with_reducible apply keeps_taint
    | with_reducible apply keeps_setHold | with_reducible apply keeps_updateSector | with_reducible apply keeps_homeTray | dsimp only | split)

theorem keeps_homeData {lv : Bool} {z0 s : State} (hk : Keeps lv z0 s) (c : Nat) (line : Nat) (b : Bytes) (mask : Nat) : Keeps lv z0 (State.homeData s
    c line b mask) := by
  unfold State.homeData
  repeat' (first
    | with_reducible assumption | with_reducible apply keeps_ite | with_reducible apply keeps_setHold | with_reducible apply keeps_snoopsGo
    | with_reducible apply keeps_writeBack | with_reducible apply keeps_writeUncached | split)

theorem keeps_stackDone {lv : Bool} {z0 s : State} (hk : Keeps lv z0 s) (line : Nat) : Keeps lv z0 (State.stackDone s line) := by
  unfold State.stackDone
  repeat' (first
    | with_reducible assumption | with_reducible apply keeps_ite | with_reducible apply keeps_setHold | with_reducible apply keeps_homeEnd
    | with_reducible apply keeps_homeReply | split)

theorem keeps_homeAck {lv : Bool} {z0 s : State} (hk : Keeps lv z0 s) (o : OutFrame) (line : Nat) (payload : Bytes) : Keeps lv z0 (State.homeAck s o
    line payload) := by
  unfold State.homeAck
  repeat' (first
    | with_reducible assumption | with_reducible apply keeps_ite | with_reducible apply keeps_dropOut | with_reducible apply keeps_homeEnd
    | with_reducible apply keeps_uncached | with_reducible apply keeps_setHold | with_reducible apply keeps_updateSector
    | with_reducible apply keeps_homeTray | dsimp only | split)

theorem keeps_homeLost {lv : Bool} {z0 s : State} (hk : Keeps lv z0 s) (line : Nat) (st : Status) : Keeps lv z0 (State.homeLost s line st) := by
  unfold State.homeLost
  repeat' (first
    | with_reducible assumption | with_reducible apply keeps_ite | with_reducible apply keeps_say | with_reducible apply keeps_setHold
    | with_reducible apply keeps_homeEnd | split)

theorem keeps_hit {lv : Bool} {z0 s : State} (hk : Keeps lv z0 s) (x : Stalled) : Keeps lv z0 (State.hit s x) := by
  unfold State.hit
  repeat' (first
    | with_reducible assumption | (show ∀ h : MemSys, _ → _; exact fun _ => id) | with_reducible apply keeps_modMem
    | with_reducible apply keeps_setL2 | dsimp only | split)

theorem keeps_stall {lv : Bool} {z0 s : State} (hk : Keeps lv z0 s) (x : Stalled) : Keeps lv z0 (State.stall s x) := by
  unfold State.stall
  repeat' (first | with_reducible assumption | (show ∀ h : MemSys, _ → _; exact fun _ => id) | with_reducible apply keeps_modMem)

theorem keeps_access {lv : Bool} {z0 s : State} (hk : Keeps lv z0 s) (cid : Cid) (x : Stalled) : Keeps lv z0 (State.access s cid x) := by
  unfold State.access
  repeat' (first
    | with_reducible assumption | with_reducible apply keeps_hit | with_reducible apply keeps_setL2 | with_reducible apply keeps_say
    | with_reducible apply keeps_stall | dsimp only | split)

theorem keeps_replay {lv : Bool} {z0 s : State} (hk : Keeps lv z0 s) (c : Nat) (line : Nat) : Keeps lv z0 (State.replay s c line) := by
  unfold State.replay
  repeat' (first
    | with_reducible assumption | (show ∀ h : MemSys, _ → _; exact fun _ => id) | with_reducible intro _ | with_reducible apply keeps_each
    | with_reducible apply keeps_modMem | with_reducible apply keeps_access | dsimp only | split)

theorem keeps_answerSnoop {lv : Bool} {z0 s : State} (hk : Keeps lv z0 s) (c : Nat) (line : Nat) (k : Snoop) : Keeps lv z0 (State.answerSnoop s c line
    k) := by
  unfold State.answerSnoop
  repeat' (first
    | with_reducible assumption | with_reducible apply keeps_snoopCluster | with_reducible apply keeps_say | dsimp only | split
    | (apply keeps_snd; with_reducible assumption))

theorem keeps_completed {lv : Bool} {z0 s : State} (hk : Keeps lv z0 s) (c : Nat) (line : Nat) (st : L2State) (bytes : Option Bytes) : Keeps lv z0
    (State.completed s c line st bytes) := by
  unfold State.completed
  repeat' (first
    | with_reducible assumption | with_reducible apply keeps_ite | with_reducible apply keeps_hear | with_reducible apply keeps_setL2
    | with_reducible apply keeps_replay | with_reducible apply keeps_say | with_reducible apply keeps_cohFault)

theorem keeps_refused {lv : Bool} {z0 s : State} (hk : Keeps lv z0 s) (c : Nat) (line : Nat) : Keeps lv z0 (State.refused s c line) := by
  unfold State.refused
  repeat' (first
    | with_reducible assumption | (show ∀ h : MemSys, _ → _; exact fun _ => id) | with_reducible apply keeps_modMem
    | with_reducible apply keeps_setL2 | dsimp only | split)

theorem keeps_granted {lv : Bool} {z0 s : State} (hk : Keeps lv z0 s) (c : Nat) (line : Nat) : Keeps lv z0 (State.granted s c line) := by
  unfold State.granted
  repeat' (first
    | with_reducible assumption | (show ∀ h : MemSys, _ → _; exact fun _ => id) | with_reducible apply keeps_ite | with_reducible apply keeps_say
    | with_reducible apply keeps_setL2 | with_reducible apply keeps_cohFault | with_reducible apply keeps_modMem | dsimp only | split)

theorem keeps_evicted {lv : Bool} {z0 s : State} (hk : Keeps lv z0 s) (c : Nat) (line : Nat) : Keeps lv z0 (State.evicted s c line) := by
  unfold State.evicted
  repeat' (first
    | with_reducible assumption | with_reducible apply keeps_ite | with_reducible apply keeps_setL2 | with_reducible apply keeps_replay
    | with_reducible apply keeps_cohFault)

theorem keeps_victim {lv : Bool} {z0 s : State} (hk : Keeps lv z0 s) (c : Nat) (line : Nat) : Keeps lv z0 (State.victim s c line) := by
  unfold State.victim
  repeat' (first | with_reducible assumption | with_reducible apply keeps_setL2 | with_reducible apply keeps_say | split)

/-! Movers -/

theorem keeps_writeRecord {lv : Bool} {z0 s : State} (hk : Keeps lv z0 s) (b : Binding) (ch : Nat) (m : MovDesc) (st : Status) (flags : Nat) (failed :
    Nat) : KeepsO lv z0 (State.writeRecord s b ch m st flags failed) := by
  unfold State.writeRecord
  repeat' (first
    | with_reducible assumption | with_reducible apply keepsO_intro | with_reducible apply keepsO_none | with_reducible apply keeps_nearWrite
    | with_reducible apply keeps_sendCopies | dsimp only | split)

theorem keeps_unbindChan {lv : Bool} {z0 s : State} (hk : Keeps lv z0 s) (ch : Nat) : Keeps lv z0 (State.unbindChan s ch) := by
  unfold State.unbindChan
  repeat' (first
    | with_reducible assumption | with_reducible apply keeps_modTabs | with_reducible apply keeps_modChan | with_reducible apply keeps_unwait)

theorem keeps_haltChan {lv : Bool} {z0 s : State} (hk : Keeps lv z0 s) (ch : Nat) (cause : Nat) (st : Status) (failed : Option Nat) : Keeps lv z0
    (State.haltChan s ch cause st failed) := by
  unfold State.haltChan
  repeat' (first
    | with_reducible assumption | with_reducible intro _ | with_reducible apply keeps_each | with_reducible apply keeps_getD
    | with_reducible apply keeps_ite | with_reducible apply keeps_writeRecord | with_reducible apply keeps_fillSeq
    | with_reducible apply keeps_modChan | with_reducible apply keeps_eventLimited | with_reducible apply keeps_unbindChan | dsimp only | split)

theorem keeps_pumpWrite {lv : Bool} {z0 s : State} (hk : Keeps lv z0 s) (b : Binding) (ch : Nat) (m : MovDesc) (bs : Bytes) : KeepsU lv z0
    (State.pumpWrite s b ch m bs) := by
  unfold State.pumpWrite
  repeat' (first
    | with_reducible assumption | with_reducible apply keepsU_i_idle | with_reducible apply keepsU_i_moved | with_reducible apply keeps_xlateFault
    | with_reducible apply keeps_haltChan | with_reducible apply keeps_modChan | with_reducible apply keeps_deniedEvent
    | with_reducible apply keeps_updateSector | with_reducible apply keeps_sendTray | with_reducible apply keeps_nearWrite
    | with_reducible apply keeps_sendCopies | with_reducible apply keeps_takeSeq | with_reducible apply keeps_originate | dsimp only | split)

theorem keeps_pumpRead {lv : Bool} {z0 s : State} (hk : Keeps lv z0 s) (b : Binding) (ch : Nat) (m : MovDesc) : KeepsU lv z0 (State.pumpRead s b ch m)
    := by
  unfold State.pumpRead
  repeat' (first
    | with_reducible assumption | with_reducible apply keepsU_i_idle | with_reducible apply keepsU_i_moved | with_reducible apply keeps_xlateFault
    | with_reducible apply keeps_haltChan | with_reducible apply keeps_modChan | with_reducible apply keeps_deniedEvent
    | with_reducible apply keeps_sendTray | with_reducible apply keeps_nearRead | with_reducible apply keeps_takeSeq
    | with_reducible apply keeps_originate | dsimp only | split)

theorem keeps_pumpOnce {lv : Bool} {z0 s : State} (hk : Keeps lv z0 s) (ch : Nat) : KeepsU lv z0 (State.pumpOnce s ch) := by
  unfold State.pumpOnce
  repeat' (first
    | with_reducible assumption | with_reducible apply keepsU_i_idle | with_reducible apply keepsU_i_moved | with_reducible apply keeps_haltChan
    | with_reducible apply keeps_pumpWrite | with_reducible apply keeps_modChan | with_reducible apply keeps_pumpRead | dsimp only | split
    | (apply keepsU_moved; with_reducible assumption) | (apply keepsU_idle; with_reducible assumption))

theorem keeps_pumpLoop {lv : Bool} {z0 : State} (ch : Nat) : ∀ (n : Nat) {s : State}, Keeps lv z0 s → Keeps lv z0 (State.pumpLoop ch n  s) := by
  intro n
  induction n with
  | zero => intro  s hk; exact hk
  | succ n ih => 
    intro  s hk
    unfold State.pumpLoop
    repeat' (first
    | with_reducible assumption | with_reducible apply ih | with_reducible apply keeps_pumpOnce | split
    | (apply keepsU_moved; with_reducible assumption) | (apply keepsU_idle; with_reducible assumption))

theorem keeps_pump {lv : Bool} {z0 s : State} (hk : Keeps lv z0 s) (ch : Nat) : Keeps lv z0 (State.pump s ch) := by
  unfold State.pump
  repeat' (first | with_reducible assumption | with_reducible apply keeps_pumpLoop | with_reducible apply keeps_modChan | dsimp only | split)

theorem keeps_fetchShadow {lv : Bool} {z0 s : State} (hk : Keeps lv z0 s) (ch : Nat) : Keeps lv z0 (State.fetchShadow s ch) := by
  unfold State.fetchShadow
  repeat' (first
    | with_reducible assumption | with_reducible apply keeps_ite | with_reducible apply keeps_deniedEvent | with_reducible apply keeps_haltChan
    | with_reducible apply keeps_nearRead | with_reducible apply keeps_modChan | dsimp only | split)

theorem keeps_activate {lv : Bool} {z0 s : State} (hk : Keeps lv z0 s) (ch : Nat) : Keeps lv z0 (State.activate s ch) := by
  unfold State.activate
  repeat' (first
    | with_reducible assumption | with_reducible apply keeps_ite | with_reducible apply keeps_modChan | with_reducible apply keeps_haltChan
    | with_reducible apply keeps_pump | with_reducible apply keeps_fetchShadow | dsimp only | split)

theorem keeps_doorbell {lv : Bool} {z0 s : State} (hk : Keeps lv z0 s) (ch : Nat) (v : Nat) : Keeps lv z0 (State.doorbell s ch v) := by
  unfold State.doorbell
  repeat' (first
    | with_reducible assumption | with_reducible apply keeps_ite | with_reducible apply keeps_modChan | with_reducible apply keeps_haltChan
    | with_reducible apply keeps_fetchShadow | with_reducible apply keeps_activate)

theorem keeps_abandonChan {lv : Bool} {z0 s : State} (hk : Keeps lv z0 s) (ch : Nat) : Keeps lv z0 (State.abandonChan s ch) := by
  unfold State.abandonChan
  repeat' (first
    | with_reducible assumption | with_reducible intro _ | with_reducible apply keeps_each | with_reducible apply keeps_fillSeq
    | with_reducible apply keeps_modChan)

theorem keeps_resetChan {lv : Bool} {z0 s : State} (hk : Keeps lv z0 s) (ch : Nat) : Keeps lv z0 (State.resetChan s ch) := by
  unfold State.resetChan
  repeat' (first
    | with_reducible assumption | with_reducible apply keeps_ite | with_reducible apply keeps_abandonChan | with_reducible apply keeps_modChan
    | with_reducible apply keeps_eventLimited | with_reducible apply keeps_unbindChan | split)

theorem keeps_completeDesc {lv : Bool} {z0 s : State} (hk : Keeps lv z0 s) (ch : Nat) : Keeps lv z0 (State.completeDesc s ch) := by
  unfold State.completeDesc
  repeat' (first
    | with_reducible assumption | with_reducible apply keeps_ite | with_reducible apply keeps_writeRecord | with_reducible apply keeps_haltChan
    | with_reducible apply keeps_modChan | with_reducible apply keeps_unbindChan | with_reducible apply keeps_fetchShadow | dsimp only | split
    | (apply keepsO_some; with_reducible assumption))

theorem keeps_busError {lv : Bool} {z0 s : State} (hk : Keeps lv z0 s) (ch : Nat) (desc : Nat) (o : OutFrame) (st : Status) : Keeps lv z0
    (State.busError s ch desc o st) := by
  unfold State.busError
  repeat' (first
    | with_reducible assumption | with_reducible apply keeps_ite | with_reducible apply keeps_modOut | with_reducible apply keeps_modChan
    | with_reducible apply keeps_haltChan)

theorem keeps_retryPiece {lv : Bool} {z0 s : State} (hk : Keeps lv z0 s) (o : OutFrame) : Keeps lv z0 (State.retryPiece s o) := by
  unfold State.retryPiece
  repeat' (first | with_reducible assumption | with_reducible apply keeps_modOut | with_reducible apply keeps_resend)

theorem keeps_retryChan {lv : Bool} {z0 s : State} (hk : Keeps lv z0 s) (ch : Nat) : Keeps lv z0 (State.retryChan s ch) := by
  unfold State.retryChan
  repeat' (first
    | with_reducible assumption | with_reducible intro _ | with_reducible apply keeps_each | with_reducible apply keeps_ite
    | with_reducible apply keeps_retryPiece | with_reducible apply keeps_modChan | with_reducible apply keeps_haltChan
    | with_reducible apply keeps_pump | split)

theorem keeps_moverAck {lv : Bool} {z0 s : State} (hk : Keeps lv z0 s) (o : OutFrame) (st : Status) (payload : Bytes) : Keeps lv z0 (State.moverAck s
    o st payload) := by
  unfold State.moverAck
  repeat' (first
    | with_reducible assumption | with_reducible apply keeps_ite | with_reducible apply keeps_dropOut | with_reducible apply keeps_modChan
    | with_reducible apply keeps_pump | with_reducible apply keeps_updateSector | with_reducible apply keeps_sendTray | dsimp only | split)

theorem keeps_moverNack {lv : Bool} {z0 s : State} (hk : Keeps lv z0 s) (o : OutFrame) (st : Status) (settled : Bool) : Keeps lv z0 (State.moverNack s
    o st settled) := by
  unfold State.moverNack
  repeat' (first
    | with_reducible assumption | with_reducible apply keeps_ite | with_reducible apply keeps_dropOut | with_reducible apply keeps_haltChan
    | with_reducible apply keeps_busError | split)

theorem keeps_execMoverDescriptorStart {z0 s : State} (hk : Keeps false z0 s) (t : Nat) (ch : Nat) : KeepsX z0 (execMoverDescriptorStart t ch s) := by
  unfold execMoverDescriptorStart
  repeat' (first
    | with_reducible assumption | with_reducible apply keepsX_fault | with_reducible apply keepsX_next | with_reducible apply keeps_activate
    | with_reducible apply keeps_at | split)

theorem keeps_execMoverDescriptorComplete {z0 s : State} (hk : Keeps false z0 s) (t : Nat) (ch : Nat) : KeepsX z0 (execMoverDescriptorComplete t ch s)
    := by
  unfold execMoverDescriptorComplete
  repeat' (first
    | with_reducible assumption | with_reducible apply keepsX_fault | with_reducible apply keepsX_next | with_reducible apply keeps_pump
    | with_reducible apply keeps_completeDesc | with_reducible apply keeps_at | split)

theorem keeps_execMoverRetryTimer {z0 s : State} (hk : Keeps false z0 s) (t : Nat) (ch : Nat) : KeepsX z0 (execMoverRetryTimer t ch s) := by
  unfold execMoverRetryTimer
  repeat' (first
    | with_reducible assumption | with_reducible apply keepsX_fault | with_reducible apply keepsX_next | with_reducible apply keeps_retryChan
    | with_reducible apply keeps_at | split)

theorem keeps_paceResume {lv : Bool} {z0 s : State} (hk : Keeps lv z0 s) (ch : Nat) : Keeps lv z0 (State.paceResume s ch) := by
  unfold State.paceResume
  repeat' (first
    | with_reducible assumption | with_reducible apply keeps_ite | with_reducible apply keeps_modChan | with_reducible apply keeps_pump)

theorem keeps_execMoverPaceResume {z0 s : State} (hk : Keeps false z0 s) (t : Nat) (ch : Nat) : KeepsX z0 (execMoverPaceResume t ch s) := by
  unfold execMoverPaceResume
  repeat' (first
    | with_reducible assumption | with_reducible apply keepsX_fault | with_reducible apply keepsX_next | with_reducible apply keeps_paceResume
    | with_reducible apply keeps_at | split)

/-! Resync -/

theorem keeps_resyncPut {lv : Bool} {z0 s : State} (hk : Keeps lv z0 s) (d : Nat) (q : Nat) (b : Bytes) : Keeps lv z0 (State.resyncPut s d q b) := by
  unfold State.resyncPut
  repeat' (first
    | with_reducible assumption | (show ∀ h : Journal, _ → _; exact fun _ => id) | with_reducible apply keeps_ite
    | with_reducible apply keeps_modJrn | with_reducible apply keeps_modWriter | split)

theorem keeps_resyncStore {lv : Bool} {z0 s : State} (hk : Keeps lv z0 s) (d : Delivered) : Keeps lv z0 (State.resyncStore s d) := by
  unfold State.resyncStore
  repeat' (first
    | with_reducible assumption | with_reducible intro _ | with_reducible apply keeps_foldl | with_reducible apply keeps_ite
    | with_reducible apply keeps_sendResponse | with_reducible apply keeps_turnAway | with_reducible apply keeps_resyncPut
    | with_reducible apply keeps_nearWrite | dsimp only | split)

theorem keeps_resyncPump {lv : Bool} {z0 : State} : ∀ (n : Nat) {s : State}, Keeps lv z0 s → Keeps lv z0 (State.resyncPump  n  s) := by
  intro n
  induction n with
  | zero => intro  s hk; exact hk
  | succ n ih => 
    intro  s hk
    unfold State.resyncPump
    repeat' (first
    | with_reducible assumption | with_reducible apply ih | (show ∀ h : Health, _ → _; exact fun _ => id) | with_reducible apply keeps_ite
    | with_reducible apply keeps_modHlt | with_reducible apply keeps_originate | with_reducible apply keeps_takeSeq
    | with_reducible apply keeps_nearRead | dsimp only | split)

theorem keeps_resyncGo {lv : Bool} {z0 s : State} (hk : Keeps lv z0 s) : Keeps lv z0 (State.resyncGo s) := by
  unfold State.resyncGo
  repeat' (first | with_reducible assumption | with_reducible apply keeps_ite | with_reducible apply keeps_resyncPump)

/-! Prefetch -/

theorem keeps_modSchedule {lv : Bool} {z0 s : State} (hk : Keeps lv z0 s) (p : Nat) (f : Schedule → Schedule) : Keeps lv z0 (State.modSchedule s p f)
    := by
  unfold State.modSchedule
  repeat' (first | with_reducible assumption | with_reducible apply keeps_modTabs)

theorem keeps_modInstance {lv : Bool} {z0 s : State} (hk : Keeps lv z0 s) (p : Nat) (step : Nat) (entry : Nat) (f : PfInstance → PfInstance) : Keeps
    lv z0 (State.modInstance s p step entry f) := by
  unfold State.modInstance
  repeat' (first | with_reducible assumption | with_reducible apply keeps_modSchedule)

theorem keeps_pinSector {lv : Bool} {z0 s : State} (hk : Keeps lv z0 s) (die : Nat) (tray : Nat) (at_ : Nat) : Keeps lv z0 (State.pinSector s die tray
    at_) := by
  unfold State.pinSector
  repeat' (first | with_reducible assumption | (show ∀ h : MemSys, _ → _; exact fun _ => id) | with_reducible apply keeps_modMem)

theorem keeps_releasePins {lv : Bool} {z0 s : State} (hk : Keeps lv z0 s) (p : Nat) (c : Nat) : Keeps lv z0 (State.releasePins s p c) := by
  unfold State.releasePins
  repeat' (first | with_reducible assumption | (show ∀ h : MemSys, _ → _; exact fun _ => id) | with_reducible apply keeps_modMem)

theorem keeps_dropPins {lv : Bool} {z0 s : State} (hk : Keeps lv z0 s) (p : Nat) : Keeps lv z0 (State.dropPins s p) := by
  unfold State.dropPins
  repeat' (first | with_reducible assumption | (show ∀ h : MemSys, _ → _; exact fun _ => id) | with_reducible apply keeps_modMem)

theorem keeps_pfStallEvent {lv : Bool} {z0 s : State} (hk : Keeps lv z0 s) (p : Nat) (cause : Nat) (step : Nat) : Keeps lv z0 (State.pfStallEvent s p
    cause step) := by
  unfold State.pfStallEvent
  repeat' (first | with_reducible assumption | with_reducible apply keeps_eventLimited)

theorem keeps_endSchedule {lv : Bool} {z0 s : State} (hk : Keeps lv z0 s) (p : Nat) (st : Status) (step : Nat) : Keeps lv z0 (State.endSchedule s p st
    step) := by
  unfold State.endSchedule
  repeat' (first | with_reducible assumption | with_reducible apply keeps_modSchedule | with_reducible apply keeps_pfStallEvent)

theorem keeps_pfWrite {lv : Bool} {z0 s : State} (hk : Keeps lv z0 s) (p : Nat) (e : PfEntry) (o : Nat) (bs : Bytes) : Keeps lv z0 (State.pfWrite s p
    e o bs) := by
  unfold State.pfWrite
  repeat' (first | with_reducible assumption | with_reducible apply keeps_nearWrite | with_reducible apply keeps_sendCopies)

theorem keeps_pfIssue {lv : Bool} {z0 s : State} (hk : Keeps lv z0 s) (x : Schedule) (e : PfEntry) (step : Nat) (idx : Nat) (o : Nat) (n : Nat) :
    KeepsI lv z0 (State.pfIssue s x e step idx o n) := by
  unfold State.pfIssue
  repeat' (first
    | with_reducible assumption | with_reducible apply keepsI_i_gone | with_reducible apply keepsI_i_issued | with_reducible apply keepsI_i_quota
    | with_reducible apply keepsI_i_refused | with_reducible apply keepsI_i_ways | with_reducible apply keeps_pinSector
    | with_reducible apply keeps_charge | with_reducible apply keeps_fillSector | with_reducible apply keeps_pfWrite
    | with_reducible apply keeps_sendTray | dsimp only | split | (apply keepsO_some; with_reducible assumption))

theorem keeps_pfIssueAll {lv : Bool} {z0 : State} (p step idx : Nat) (e : PfEntry) : ∀ (l : List (Nat × Nat)) {s : State}, Keeps lv z0 s → Keeps lv z0
    (State.pfIssueAll p step idx e l s) := by
  intro l
  induction l with
  | nil => intro  s hk; unfold State.pfIssueAll; with_reducible apply keeps_modInstance; exact hk
  | cons hd tl ih => 
    intro  s hk
    unfold State.pfIssueAll
    repeat' (first
    | with_reducible assumption | with_reducible apply ih | with_reducible apply keeps_ite | with_reducible apply keeps_modInstance
    | with_reducible apply keeps_endSchedule | with_reducible apply keeps_pfIssue | split | (apply keepsI_issued; with_reducible assumption))

theorem keeps_pfPump {lv : Bool} {z0 s : State} (hk : Keeps lv z0 s) (p : Nat) : Keeps lv z0 (State.pfPump s p) := by
  unfold State.pfPump
  repeat' (first
    | with_reducible assumption | with_reducible intro _ | with_reducible apply keeps_each | with_reducible apply keeps_ite
    | with_reducible apply keeps_modSchedule | with_reducible apply keeps_pfIssueAll | dsimp only | split)

theorem keeps_stepTo {lv : Bool} {z0 s : State} (hk : Keeps lv z0 s) (p : Nat) (n : Nat) (stalled : Bool) : Keeps lv z0 (State.stepTo s p n stalled)
    := by
  unfold State.stepTo
  repeat' (first
    | with_reducible assumption | with_reducible apply keeps_modSchedule | with_reducible apply keeps_releasePins
    | with_reducible apply keeps_pfPump)

theorem keeps_countStall {lv : Bool} {z0 s : State} (hk : Keeps lv z0 s) (p : Nat) (cause : Nat) (step : Nat) : Keeps lv z0 (State.countStall s p
    cause step) := by
  unfold State.countStall
  repeat' (first
    | with_reducible assumption | with_reducible apply keeps_ite | with_reducible apply keeps_modSchedule | with_reducible apply keeps_modPart
    | with_reducible apply keeps_pfStallEvent)

theorem keeps_sectorArrived {lv : Bool} {z0 s : State} (hk : Keeps lv z0 s) (tray : Nat) (payload : Bytes) : Keeps lv z0 (State.sectorArrived s tray
    payload) := by
  unfold State.sectorArrived
  repeat' (first | with_reducible assumption | (show ∀ h : MemSys, _ → _; exact fun _ => id) | with_reducible apply keeps_modMem)

theorem keeps_sectorLost {lv : Bool} {z0 s : State} (hk : Keeps lv z0 s) (tray : Nat) : Keeps lv z0 (State.sectorLost s tray) := by
  unfold State.sectorLost
  repeat' (first | with_reducible assumption | (show ∀ h : MemSys, _ → _; exact fun _ => id) | with_reducible apply keeps_modMem)

theorem keeps_pfAck {lv : Bool} {z0 s : State} (hk : Keeps lv z0 s) (o : OutFrame) (p : Nat) (step : Nat) (entry : Nat) (at_ : Nat) (payload : Bytes)
    : Keeps lv z0 (State.pfAck s o p step entry at_ payload) := by
  unfold State.pfAck
  repeat' (first
    | with_reducible assumption | with_reducible apply keeps_ite | with_reducible apply keeps_dropOut | with_reducible apply keeps_sectorArrived
    | with_reducible apply keeps_modInstance | with_reducible apply keeps_pfWrite | dsimp only | split)

theorem keeps_pfLost {lv : Bool} {z0 s : State} (hk : Keeps lv z0 s) (o : OutFrame) (p : Nat) (step : Nat) (entry : Nat) : Keeps lv z0 (State.pfLost s
    o p step entry) := by
  unfold State.pfLost
  repeat' (first
    | with_reducible assumption | with_reducible apply keeps_dropOut | with_reducible apply keeps_sectorLost
    | with_reducible apply keeps_modInstance)

theorem keeps_pfDepthAdapt {lv : Bool} {z0 s : State} (hk : Keeps lv z0 s) (p : Nat) (up : Bool) (cause : Nat) : Keeps lv z0 (State.pfDepthAdapt s p
    up cause) := by
  unfold State.pfDepthAdapt
  repeat' (first
    | with_reducible assumption | with_reducible apply keeps_ite | with_reducible apply keeps_modPart | with_reducible apply keeps_modSchedule
    | with_reducible apply keeps_cloveLog | with_reducible apply keeps_pfPump | dsimp only | split)

theorem keeps_execClovePfDepthAdapt {z0 s : State} (hk : Keeps false z0 s) (t : Nat) (part : Nat) (up : Bool) (cause : Nat) : KeepsX z0
    (execClovePfDepthAdapt t part up cause s) := by
  unfold execClovePfDepthAdapt
  repeat' (first
    | with_reducible assumption | with_reducible apply keepsX_fault | with_reducible apply keepsX_next | with_reducible apply keeps_pfDepthAdapt
    | with_reducible apply keeps_at | split)

/-! MemOps -/

theorem keeps_serve {lv : Bool} {z0 s : State} (hk : Keeps lv z0 s) (d : Delivered) (w : Want) (o : Nat) (n : Nat) (onDup : State → JEntry → Bool →
    State) (onGo : State → Nat → State) (honDup : ∀ y0 y1 y2, Keeps lv z0 y0 → Keeps lv z0 (onDup y0 y1 y2)) (honGo : ∀ y0 y1, Keeps lv z0 y0 → Keeps
    lv z0 (onGo y0 y1)) : Keeps lv z0 (State.serve s d w o n onDup onGo) := by
  unfold State.serve
  repeat' (first
    | with_reducible assumption | with_reducible apply keeps_ite | with_reducible apply keeps_park | with_reducible apply keeps_present
    | apply honDup | apply honGo | split | (apply keepsC_done; with_reducible assumption) | (apply keepsC_dup; with_reducible assumption)
    | (apply keepsC_go; with_reducible assumption))

theorem keeps_frame {lv : Bool} {z0 s : State} (hk : Keeps lv z0 s) (a : Arrival) (f : Frame) (op : State → Delivered → State) (hop : ∀ y0 y1, Keeps
    lv z0 y0 → Keeps lv z0 (op y0 y1)) : Keeps lv z0 (State.frame s a f op) := by
  unfold State.frame
  repeat' (first
    | with_reducible assumption | with_reducible apply keeps_receive | apply hop | split | (apply keepsR_done; with_reducible assumption)
    | (apply keepsR_here; with_reducible assumption))

theorem keeps_sumacEvent {lv : Bool} {z0 s : State} (hk : Keeps lv z0 s) (p : Nat) (o : Nat) : Keeps lv z0 (State.sumacEvent s p o) := by
  unfold State.sumacEvent
  repeat' (first | with_reducible assumption | with_reducible apply keeps_eventLimited)

theorem keeps_damageNear {lv : Bool} {z0 s : State} (hk : Keeps lv z0 s) (p : Nat) (o : Nat) (d : Damage) : Keeps lv z0 (State.damageNear s p o d).2
    := by
  unfold State.damageNear
  repeat' (first
    | with_reducible assumption | with_reducible apply keeps_count | with_reducible apply keeps_eccInput | with_reducible apply keeps_healthInput
    | with_reducible apply keeps_eventLimited | dsimp only | split)

theorem keeps_reqTray {lv : Bool} {z0 s : State} (hk : Keeps lv z0 s) (r : Req) (e : Extent) (op : Nat) (o : Nat) (len : Nat) (payload : Bytes) :
    Keeps lv z0 (State.reqTray s r e op o len payload) := by
  unfold State.reqTray
  repeat' (first | with_reducible assumption | with_reducible apply keeps_sendTray)

theorem keeps_loadDone {lv : Bool} {z0 s : State} (hk : Keeps lv z0 s) (id : Nat) (stored : Bytes) : Keeps lv z0 (State.loadDone s id stored) := by
  unfold State.loadDone
  repeat' (first
    | with_reducible assumption | with_reducible apply keeps_ite | with_reducible apply keeps_finish | with_reducible apply keeps_sumacEvent
    | with_reducible apply keeps_refuse | with_reducible apply keeps_numericEvent | dsimp only | split)

theorem keeps_farFetch {lv : Bool} {z0 s : State} (hk : Keeps lv z0 s) (id : Nat) (e : Extent) (part : Nat × Nat) : Keeps lv z0 (State.farFetch s id e
    part) := by
  unfold State.farFetch
  repeat' (first
    | with_reducible assumption | with_reducible apply keeps_ite | with_reducible apply keeps_reqTray | with_reducible apply keeps_touchSector
    | with_reducible apply keeps_modReq | with_reducible apply keeps_fillSector | dsimp only | split
    | (apply keepsO_some; with_reducible assumption))

theorem keeps_farLoad {lv : Bool} {z0 s : State} (hk : Keeps lv z0 s) (id : Nat) : Keeps lv z0 (State.farLoad s id) := by
  unfold State.farLoad
  repeat' (first
    | with_reducible assumption | with_reducible intro _ | with_reducible apply keeps_each | with_reducible apply keeps_ite
    | with_reducible apply keeps_refuse | with_reducible apply keeps_modReq | with_reducible apply keeps_farFetch
    | with_reducible apply keeps_loadDone | dsimp only | split)

theorem keeps_damageFar {lv : Bool} {z0 s : State} (hk : Keeps lv z0 s) (o : Nat) (n : Nat) (d : Damage) : Keeps lv z0 (State.damageFar s o n d) := by
  unfold State.damageFar
  repeat' (first
    | with_reducible assumption | (show ∀ h : MemSys, _ → _; exact fun _ => id) | with_reducible intro _ | with_reducible apply keeps_each
    | with_reducible apply keeps_ite | with_reducible apply keeps_count | with_reducible apply keeps_eccInput | with_reducible apply keeps_modMem
    | with_reducible apply keeps_healthInput | split)

theorem keeps_nearLoad {lv : Bool} {z0 s : State} (hk : Keeps lv z0 s) (id : Nat) (dmg : Damage) : Keeps lv z0 (State.nearLoad s id dmg) := by
  unfold State.nearLoad
  repeat' (first
    | with_reducible assumption | with_reducible apply keeps_ite | with_reducible apply keeps_modReq | with_reducible apply keeps_damageNear
    | with_reducible apply keeps_refuse | with_reducible apply keeps_nearRead | with_reducible apply keeps_loadDone | dsimp only | split
    | (apply keeps_snd; with_reducible assumption))

theorem keeps_runLoad {lv : Bool} {z0 s : State} (hk : Keeps lv z0 s) (id : Nat) (dmg : Damage) : Keeps lv z0 (State.runLoad s id dmg) := by
  unfold State.runLoad
  repeat' (first
    | with_reducible assumption | with_reducible apply keeps_ite | with_reducible apply keeps_journal | with_reducible apply keeps_finish
    | with_reducible apply keeps_refuse | with_reducible apply keeps_damageFar | with_reducible apply keeps_farLoad
    | with_reducible apply keeps_nearLoad | dsimp only | split)

theorem keeps_opLoad {lv : Bool} {z0 s : State} (hk : Keeps lv z0 s) (dmg : Damage) (d : Delivered) : Keeps lv z0 (State.opLoad dmg s d) := by
  unfold State.opLoad
  repeat' (first
    | with_reducible assumption | with_reducible intro _ | with_reducible apply keeps_ite | with_reducible apply keeps_serve
    | with_reducible apply keeps_answerDup | with_reducible apply keeps_openDup | with_reducible apply keeps_runLoad)

theorem keeps_ringDoorbells {lv : Bool} {z0 s : State} (hk : Keeps lv z0 s) (o : Nat) (n : Nat) : Keeps lv z0 (State.ringDoorbells s o n) := by
  unfold State.ringDoorbells
  repeat' (first
    | with_reducible assumption | with_reducible intro _ | with_reducible apply keeps_each | with_reducible apply keeps_doorbell
    | with_reducible apply keeps_nearRead)

theorem keeps_nearStore {lv : Bool} {z0 s : State} (hk : Keeps lv z0 s) (id : Nat) (dmg : Damage) : Keeps lv z0 (State.nearStore s id dmg) := by
  unfold State.nearStore
  repeat' (first
    | with_reducible assumption | with_reducible apply keeps_ite | with_reducible apply keeps_finish | with_reducible apply keeps_modReq
    | with_reducible apply keeps_damageNear | with_reducible apply keeps_refuse | with_reducible apply keeps_nearWrite
    | with_reducible apply keeps_noteLeafCopy | with_reducible apply keeps_sendCopies | with_reducible apply keeps_ringDoorbells | dsimp only
    | split | (apply keeps_snd; with_reducible assumption))

theorem keeps_farPut {lv : Bool} {z0 s : State} (hk : Keeps lv z0 s) (id : Nat) (e : Extent) (r : Req) (o : Nat) (part : Bytes) : Keeps lv z0
    (State.farPut s id e r o part) := by
  unfold State.farPut
  repeat' (first
    | with_reducible assumption | with_reducible apply keeps_ite | with_reducible apply keeps_updateSector | with_reducible apply keeps_reqTray
    | with_reducible apply keeps_modReq | dsimp only | split)

theorem keeps_farStore {lv : Bool} {z0 s : State} (hk : Keeps lv z0 s) (id : Nat) : Keeps lv z0 (State.farStore s id) := by
  unfold State.farStore
  repeat' (first
    | with_reducible assumption | with_reducible intro _ | with_reducible apply keeps_each | with_reducible apply keeps_finish
    | with_reducible apply keeps_refuse | with_reducible apply keeps_farPut | split)

theorem keeps_storeNow {lv : Bool} {z0 s : State} (hk : Keeps lv z0 s) (id : Nat) (dmg : Damage) : Keeps lv z0 (State.storeNow s id dmg) := by
  unfold State.storeNow
  repeat' (first
    | with_reducible assumption | with_reducible apply keeps_ite | with_reducible apply keeps_farStore | with_reducible apply keeps_nearStore
    | with_reducible apply keeps_finish | split)

theorem keeps_doorbellStore {lv : Bool} {z0 s : State} (hk : Keeps lv z0 s) (id : Nat) (x : Schedule) (dmg : Damage) : Keeps lv z0
    (State.doorbellStore s id x dmg) := by
  unfold State.doorbellStore
  repeat' (first
    | with_reducible assumption | with_reducible apply keeps_ite | with_reducible apply keeps_storeNow | with_reducible apply keeps_stepTo
    | with_reducible apply keeps_refuse | with_reducible apply keeps_countStall | with_reducible apply keeps_modReq | dsimp only | split)

theorem keeps_runStore {lv : Bool} {z0 s : State} (hk : Keeps lv z0 s) (id : Nat) (dmg : Damage) : Keeps lv z0 (State.runStore s id dmg) := by
  unfold State.runStore
  repeat' (first
    | with_reducible assumption | with_reducible apply keeps_ite | with_reducible apply keeps_journal | with_reducible apply keeps_finish
    | with_reducible apply keeps_refuse | with_reducible apply keeps_sumacEvent | with_reducible apply keeps_numericEvent
    | with_reducible apply keeps_modReq | with_reducible apply keeps_doorbellStore | with_reducible apply keeps_storeNow | dsimp only | split)

theorem keeps_opStore {lv : Bool} {z0 s : State} (hk : Keeps lv z0 s) (dmg : Damage) (d : Delivered) : Keeps lv z0 (State.opStore dmg s d) := by
  unfold State.opStore
  repeat' (first
    | with_reducible assumption | with_reducible intro _ | with_reducible apply keeps_ite | with_reducible apply keeps_resyncStore
    | with_reducible apply keeps_serve | with_reducible apply keeps_answerDup | with_reducible apply keeps_openDup
    | with_reducible apply keeps_runStore)

theorem keeps_flushRange {lv : Bool} {z0 s : State} (hk : Keeps lv z0 s) (owner : Owner) (o : Nat) (n : Nat) (tc : Nat) (p : Nat) (age : Nat) (budget
    : Nat) (resid : Nat) : Keeps lv z0 (State.flushRange s owner o n tc p age budget resid).2 := by
  unfold State.flushRange
  repeat' (first
    | with_reducible assumption | with_reducible intro _ | with_reducible apply keeps_foldl_snd | with_reducible apply keeps_invalidate)

theorem keeps_runFlush {lv : Bool} {z0 s : State} (hk : Keeps lv z0 s) (id : Nat) : Keeps lv z0 (State.runFlush s id) := by
  unfold State.runFlush
  repeat' (first
    | with_reducible assumption | with_reducible apply keeps_ite | with_reducible apply keeps_refuse | with_reducible apply keeps_journal
    | with_reducible apply keeps_flushRange | with_reducible apply keeps_finish | with_reducible apply keeps_modReq | dsimp only | split)

theorem keeps_opFlush {lv : Bool} {z0 s : State} (hk : Keeps lv z0 s) (d : Delivered) : Keeps lv z0 (State.opFlush s d) := by
  unfold State.opFlush
  repeat' (first
    | with_reducible assumption | with_reducible intro _ | with_reducible apply keeps_ite | with_reducible apply keeps_park
    | with_reducible apply keeps_serve | with_reducible apply keeps_answerDup | with_reducible apply keeps_openDup
    | with_reducible apply keeps_runFlush)

theorem keeps_modPublished {lv : Bool} {z0 s : State} (hk : Keeps lv z0 s) (id : Nat) (f : Published → Published) : Keeps lv z0 (State.modPublished s
    id f) := by
  unfold State.modPublished
  repeat' (first | with_reducible assumption | with_reducible apply keeps_modTabs)

theorem keeps_makeCurrent {lv : Bool} {z0 s : State} (hk : Keeps lv z0 s) (v : Published) (version : Nat) : Keeps lv z0 (State.makeCurrent s v
    version) := by
  unfold State.makeCurrent
  repeat' (first | with_reducible assumption | with_reducible apply keeps_modPublished | with_reducible apply keeps_nearWrite)

theorem keeps_publishStep {lv : Bool} {z0 : State} (id rid : Nat) : ∀ (n : Nat) {s : State}, Keeps lv z0 s → Keeps lv z0 (State.publishStep id rid n
    s) := by
  intro n
  induction n with
  | zero => intro  s hk; exact hk
  | succ n ih => 
    intro  s hk
    unfold State.publishStep
    repeat' (first
    | with_reducible assumption | with_reducible apply ih | with_reducible apply keeps_ite | with_reducible apply keeps_writeLeaf
    | with_reducible apply keeps_modReq | with_reducible apply keeps_journal | with_reducible apply keeps_makeCurrent
    | with_reducible apply keeps_finish | dsimp only | split)

theorem keeps_conflictEvent {lv : Bool} {z0 s : State} (hk : Keeps lv z0 s) (v : Published) (r : Req) (version : Nat) : Keeps lv z0
    (State.conflictEvent s v r version) := by
  unfold State.conflictEvent
  repeat' (first | with_reducible assumption | with_reducible apply keeps_event | dsimp only | split)

theorem keeps_runPublish {lv : Bool} {z0 s : State} (hk : Keeps lv z0 s) (id : Nat) : Keeps lv z0 (State.runPublish s id) := by
  unfold State.runPublish
  repeat' (first
    | with_reducible assumption | with_reducible apply keeps_ite | with_reducible apply keeps_journal | with_reducible apply keeps_finish
    | with_reducible apply keeps_refuse | with_reducible apply keeps_conflictEvent | with_reducible apply keeps_modReq
    | with_reducible apply keeps_modPublished | with_reducible apply keeps_publishStep | with_reducible apply keeps_reserveLeaf
    | with_reducible apply keeps_logFull | dsimp only | split | (apply keepsO_some; with_reducible assumption))

theorem keeps_publishAgain {lv : Bool} {z0 s : State} (hk : Keeps lv z0 s) (d : Delivered) (e : JEntry) : Keeps lv z0 (State.publishAgain s d e) := by
  unfold State.publishAgain
  repeat' (first
    | with_reducible assumption | with_reducible apply keeps_ite | with_reducible apply keeps_makeCurrent | with_reducible apply keeps_modPublished
    | with_reducible apply keeps_answerAgain | split)

theorem keeps_opPublish {lv : Bool} {z0 s : State} (hk : Keeps lv z0 s) (d : Delivered) : Keeps lv z0 (State.opPublish s d) := by
  unfold State.opPublish
  repeat' (first
    | with_reducible assumption | with_reducible intro _ | with_reducible apply keeps_ite | with_reducible apply keeps_serve
    | with_reducible apply keeps_answerDup | with_reducible apply keeps_publishAgain | with_reducible apply keeps_runPublish)

theorem keeps_publishFlushed {lv : Bool} {z0 s : State} (hk : Keeps lv z0 s) (rid : Nat) : Keeps lv z0 (State.publishFlushed s rid) := by
  unfold State.publishFlushed
  repeat' (first
    | with_reducible assumption | with_reducible apply keeps_ite | with_reducible apply keeps_flushRange | with_reducible apply keeps_modPublished
    | with_reducible apply keeps_publishStep | with_reducible apply keeps_modReq | dsimp only | split)

theorem keeps_publishAbort {lv : Bool} {z0 s : State} (hk : Keeps lv z0 s) (v : Published) (st : Status) : Keeps lv z0 (State.publishAbort s v st) :=
    by
  unfold State.publishAbort
  repeat' (first | with_reducible assumption | with_reducible apply keeps_refuse | with_reducible apply keeps_modPublished | split)

theorem keeps_dropPublish {lv : Bool} {z0 s : State} (hk : Keeps lv z0 s) (id : Nat) : Keeps lv z0 (State.dropPublish s id) := by
  unfold State.dropPublish
  repeat' (first | with_reducible assumption | with_reducible apply keeps_modTabs)

theorem keeps_fixAtomic {lv : Bool} {z0 s : State} (hk : Keeps lv z0 s) (id : Nat) (r : Req) (p : Nat) (new : Nat) (exc : Bool) : Keeps lv z0
    (State.fixAtomic s id r p new exc) := by
  unfold State.fixAtomic
  repeat' (first
    | with_reducible assumption | with_reducible apply keeps_ite | with_reducible apply keeps_modReq | with_reducible apply keeps_numericEvent
    | with_reducible apply keeps_journal | with_reducible apply keeps_finish)

theorem keeps_notLanded {lv : Bool} {z0 s : State} (hk : Keeps lv z0 s) (id : Nat) (k : Nat) : Keeps lv z0 (State.notLanded s id k) := by
  unfold State.notLanded
  repeat' (first | with_reducible assumption | with_reducible apply keeps_ite | with_reducible apply keeps_modEntry | split)

theorem keeps_nearAtomic {lv : Bool} {z0 s : State} (hk : Keeps lv z0 s) (id : Nat) (dmg : Damage) : Keeps lv z0 (State.nearAtomic s id dmg) := by
  unfold State.nearAtomic
  repeat' (first
    | with_reducible assumption | with_reducible apply keeps_ite | with_reducible apply keeps_modReq | with_reducible apply keeps_damageNear
    | with_reducible apply keeps_refuse | with_reducible apply keeps_nearRead | with_reducible apply keeps_fixAtomic
    | with_reducible apply keeps_nearWrite | with_reducible apply keeps_sendCopies | with_reducible apply keeps_notLanded
    | with_reducible apply keeps_ringDoorbells | dsimp only | split | (apply keeps_snd; with_reducible assumption))

theorem keeps_farAtomicLine {lv : Bool} {z0 s : State} (hk : Keeps lv z0 s) (id : Nat) (r : Req) (e : Extent) (line : Bytes) : Keeps lv z0
    (State.farAtomicLine s id r e line) := by
  unfold State.farAtomicLine
  repeat' (first
    | with_reducible assumption | with_reducible apply keeps_fixAtomic | with_reducible apply keeps_updateSector
    | with_reducible apply keeps_sendTray | with_reducible apply keeps_notLanded)

theorem keeps_farAtomic {lv : Bool} {z0 s : State} (hk : Keeps lv z0 s) (id : Nat) : Keeps lv z0 (State.farAtomic s id) := by
  unfold State.farAtomic
  repeat' (first
    | with_reducible assumption | with_reducible apply keeps_refuse | with_reducible apply keeps_farAtomicLine | with_reducible apply keeps_modReq
    | with_reducible apply keeps_reqTray | dsimp only | split)

theorem keeps_runAtomic {lv : Bool} {z0 s : State} (hk : Keeps lv z0 s) (id : Nat) (dmg : Damage) : Keeps lv z0 (State.runAtomic s id dmg) := by
  unfold State.runAtomic
  repeat' (first
    | with_reducible assumption | with_reducible apply keeps_ite | with_reducible apply keeps_refuse | with_reducible apply keeps_damageFar
    | with_reducible apply keeps_farAtomic | with_reducible apply keeps_nearAtomic | dsimp only | split)

theorem keeps_opAtomic {lv : Bool} {z0 s : State} (hk : Keeps lv z0 s) (dmg : Damage) (d : Delivered) : Keeps lv z0 (State.opAtomic dmg s d) := by
  unfold State.opAtomic
  repeat' (first
    | with_reducible assumption | with_reducible intro _ | with_reducible apply keeps_ite | with_reducible apply keeps_serve
    | with_reducible apply keeps_answerDup | with_reducible apply keeps_runAtomic)

theorem keeps_wakeReq {lv : Bool} {z0 s : State} (hk : Keeps lv z0 s) (id : Nat) : Keeps lv z0 (State.wakeReq s id) := by
  unfold State.wakeReq
  repeat' (first
    | with_reducible assumption | with_reducible apply keeps_ite | with_reducible apply keeps_nearLoad | with_reducible apply keeps_nearAtomic
    | with_reducible apply keeps_nearStore | with_reducible apply keeps_storeNow | with_reducible apply keeps_stepTo
    | with_reducible apply keeps_refuse | with_reducible apply keeps_farLoad | split)

theorem keeps_wake {lv : Bool} {z0 s : State} (hk : Keeps lv z0 s) : Keeps lv z0 (State.wake s) := by
  unfold State.wake
  repeat' (first | with_reducible assumption | with_reducible intro _ | with_reducible apply keeps_each | with_reducible apply keeps_wakeReq)

theorem keeps_releaseStaging {lv : Bool} {z0 s : State} (hk : Keeps lv z0 s) (rid : Nat) (line : Nat) : Keeps lv z0 (State.releaseStaging s rid line)
    := by
  unfold State.releaseStaging
  repeat' (first
    | with_reducible assumption | with_reducible intro _ | with_reducible apply keeps_each | with_reducible apply keeps_wakeReq | split)

theorem keeps_doorbellLate {lv : Bool} {z0 s : State} (hk : Keeps lv z0 s) (p : Nat) : Keeps lv z0 (State.doorbellLate s p) := by
  unfold State.doorbellLate
  repeat' (first | with_reducible assumption | with_reducible intro _ | with_reducible apply keeps_each | with_reducible apply keeps_refuse)

theorem keeps_pfLanded {lv : Bool} {z0 s : State} (hk : Keeps lv z0 s) (p : Nat) (step : Nat) (entry : Nat) : Keeps lv z0 (State.pfLanded s p step
    entry) := by
  unfold State.pfLanded
  repeat' (first
    | with_reducible assumption | with_reducible apply keeps_ite | with_reducible apply keeps_modInstance | with_reducible apply keeps_pfPump
    | with_reducible apply keeps_wake | dsimp only | split)

theorem keeps_execLoad {z0 s : State} (hk : Keeps false z0 s) (t : Nat) (a : Arrival) (f : Frame) (d : Damage) : KeepsX z0 (execLoad t a f d s) := by
  unfold execLoad
  repeat' (first
    | with_reducible assumption | with_reducible intro _ | with_reducible apply keepsX_fault | with_reducible apply keepsX_next
    | with_reducible apply keeps_frame | with_reducible apply keeps_opLoad | with_reducible apply keeps_at | split)

theorem keeps_execStore {z0 s : State} (hk : Keeps false z0 s) (t : Nat) (a : Arrival) (f : Frame) (d : Damage) : KeepsX z0 (execStore t a f d s) :=
    by
  unfold execStore
  repeat' (first
    | with_reducible assumption | with_reducible intro _ | with_reducible apply keepsX_fault | with_reducible apply keepsX_next
    | with_reducible apply keeps_frame | with_reducible apply keeps_opStore | with_reducible apply keeps_at | split)

theorem keeps_execFlush {z0 s : State} (hk : Keeps false z0 s) (t : Nat) (a : Arrival) (f : Frame) : KeepsX z0 (execFlush t a f s) := by
  unfold execFlush
  repeat' (first
    | with_reducible assumption | with_reducible intro _ | with_reducible apply keepsX_fault | with_reducible apply keepsX_next
    | with_reducible apply keeps_frame | with_reducible apply keeps_opFlush | with_reducible apply keeps_at | split)

theorem keeps_execPublish {z0 s : State} (hk : Keeps false z0 s) (t : Nat) (a : Arrival) (f : Frame) : KeepsX z0 (execPublish t a f s) := by
  unfold execPublish
  repeat' (first
    | with_reducible assumption | with_reducible intro _ | with_reducible apply keepsX_fault | with_reducible apply keepsX_next
    | with_reducible apply keeps_frame | with_reducible apply keeps_opPublish | with_reducible apply keeps_at | split)

theorem keeps_execPublishFlushDone {z0 s : State} (hk : Keeps false z0 s) (t : Nat) (rangeId : BitVec 32) : KeepsX z0 (execPublishFlushDone t rangeId
    s) := by
  unfold execPublishFlushDone
  repeat' (first
    | with_reducible assumption | with_reducible apply keepsX_next | with_reducible apply keeps_publishFlushed | with_reducible apply keeps_wake
    | with_reducible apply keeps_at)

theorem keeps_execStagingWriteRelease {z0 s : State} (hk : Keeps false z0 s) (t : Nat) (rangeId : BitVec 32) (line : Nat) : KeepsX z0
    (execStagingWriteRelease t rangeId line s) := by
  unfold execStagingWriteRelease
  repeat' (first
    | with_reducible assumption | with_reducible apply keepsX_next | with_reducible apply keeps_releaseStaging | with_reducible apply keeps_at)

theorem keeps_execAtomicFaddInteger {z0 s : State} (hk : Keeps false z0 s) (t : Nat) (a : Arrival) (f : Frame) (d : Damage) : KeepsX z0
    (execAtomicFaddInteger t a f d s) := by
  unfold execAtomicFaddInteger
  repeat' (first
    | with_reducible assumption | with_reducible intro _ | with_reducible apply keepsX_fault | with_reducible apply keepsX_next
    | with_reducible apply keeps_frame | with_reducible apply keeps_opAtomic | with_reducible apply keeps_at | split)

theorem keeps_execAtomicFaddFloat {z0 s : State} (hk : Keeps false z0 s) (t : Nat) (a : Arrival) (f : Frame) (d : Damage) : KeepsX z0
    (execAtomicFaddFloat t a f d s) := by
  unfold execAtomicFaddFloat
  repeat' (first
    | with_reducible assumption | with_reducible intro _ | with_reducible apply keepsX_fault | with_reducible apply keepsX_next
    | with_reducible apply keeps_frame | with_reducible apply keeps_opAtomic | with_reducible apply keeps_at | split)

theorem keeps_execAtomicFminInteger {z0 s : State} (hk : Keeps false z0 s) (t : Nat) (a : Arrival) (f : Frame) (d : Damage) : KeepsX z0
    (execAtomicFminInteger t a f d s) := by
  unfold execAtomicFminInteger
  repeat' (first
    | with_reducible assumption | with_reducible intro _ | with_reducible apply keepsX_fault | with_reducible apply keepsX_next
    | with_reducible apply keeps_frame | with_reducible apply keeps_opAtomic | with_reducible apply keeps_at | split)

theorem keeps_execAtomicFminFloat {z0 s : State} (hk : Keeps false z0 s) (t : Nat) (a : Arrival) (f : Frame) (d : Damage) : KeepsX z0
    (execAtomicFminFloat t a f d s) := by
  unfold execAtomicFminFloat
  repeat' (first
    | with_reducible assumption | with_reducible intro _ | with_reducible apply keepsX_fault | with_reducible apply keepsX_next
    | with_reducible apply keeps_frame | with_reducible apply keeps_opAtomic | with_reducible apply keeps_at | split)

theorem keeps_execAtomicFmaxInteger {z0 s : State} (hk : Keeps false z0 s) (t : Nat) (a : Arrival) (f : Frame) (d : Damage) : KeepsX z0
    (execAtomicFmaxInteger t a f d s) := by
  unfold execAtomicFmaxInteger
  repeat' (first
    | with_reducible assumption | with_reducible intro _ | with_reducible apply keepsX_fault | with_reducible apply keepsX_next
    | with_reducible apply keeps_frame | with_reducible apply keeps_opAtomic | with_reducible apply keeps_at | split)

theorem keeps_execAtomicFmaxFloat {z0 s : State} (hk : Keeps false z0 s) (t : Nat) (a : Arrival) (f : Frame) (d : Damage) : KeepsX z0
    (execAtomicFmaxFloat t a f d s) := by
  unfold execAtomicFmaxFloat
  repeat' (first
    | with_reducible assumption | with_reducible intro _ | with_reducible apply keepsX_fault | with_reducible apply keepsX_next
    | with_reducible apply keeps_frame | with_reducible apply keeps_opAtomic | with_reducible apply keeps_at | split)

theorem keeps_execAtomicCas {z0 s : State} (hk : Keeps false z0 s) (t : Nat) (a : Arrival) (f : Frame) (d : Damage) : KeepsX z0 (execAtomicCas t a f d
    s) := by
  unfold execAtomicCas
  repeat' (first
    | with_reducible assumption | with_reducible intro _ | with_reducible apply keepsX_fault | with_reducible apply keepsX_next
    | with_reducible apply keeps_frame | with_reducible apply keeps_opAtomic | with_reducible apply keeps_at | split)

theorem keeps_execAtomicSwap {z0 s : State} (hk : Keeps false z0 s) (t : Nat) (a : Arrival) (f : Frame) (d : Damage) : KeepsX z0 (execAtomicSwap t a f
    d s) := by
  unfold execAtomicSwap
  repeat' (first
    | with_reducible assumption | with_reducible intro _ | with_reducible apply keepsX_fault | with_reducible apply keepsX_next
    | with_reducible apply keeps_frame | with_reducible apply keeps_opAtomic | with_reducible apply keeps_at | split)

theorem keeps_execPrefetchDoorbell {z0 s : State} (hk : Keeps false z0 s) (t : Nat) (a : Arrival) (f : Frame) : KeepsX z0 (execPrefetchDoorbell t a f
    s) := by
  unfold execPrefetchDoorbell
  repeat' (first
    | with_reducible assumption | with_reducible intro _ | with_reducible apply keepsX_fault | with_reducible apply keepsX_next
    | with_reducible apply keeps_frame | with_reducible apply keeps_opStore | with_reducible apply keeps_at | split)

theorem keeps_execPrefetchInstanceLanded {z0 s : State} (hk : Keeps false z0 s) (t : Nat) (part : Nat) (step : Nat) (entry : Nat) : KeepsX z0
    (execPrefetchInstanceLanded t part step entry s) := by
  unfold execPrefetchInstanceLanded
  repeat' (first
    | with_reducible assumption | with_reducible apply keepsX_fault | with_reducible apply keepsX_next | with_reducible apply keeps_pfLanded
    | with_reducible apply keeps_at | split)

theorem keeps_execDoorbellStoreDeadline {z0 s : State} (hk : Keeps false z0 s) (t : Nat) (part : Nat) : KeepsX z0 (execDoorbellStoreDeadline t part s)
    := by
  unfold execDoorbellStoreDeadline
  repeat' (first
    | with_reducible assumption | with_reducible apply keepsX_fault | with_reducible apply keepsX_next | with_reducible apply keeps_doorbellLate
    | with_reducible apply keeps_at | split)

theorem keeps_execMoverDoorbell {z0 s : State} (hk : Keeps false z0 s) (t : Nat) (ch : Nat) (a : Arrival) (f : Frame) : KeepsX z0 (execMoverDoorbell t
    ch a f s) := by
  unfold execMoverDoorbell
  repeat' (first
    | with_reducible assumption | with_reducible intro _ | with_reducible apply keepsX_fault | with_reducible apply keepsX_next
    | with_reducible apply keeps_frame | with_reducible apply keeps_opStore | with_reducible apply keeps_at | split)

theorem keeps_execMoverRestart {z0 s : State} (hk : Keeps false z0 s) (t : Nat) (ch : Nat) (a : Arrival) (f : Frame) : KeepsX z0 (execMoverRestart t
    ch a f s) := by
  unfold execMoverRestart
  repeat' (first
    | with_reducible assumption | with_reducible intro _ | with_reducible apply keepsX_fault | with_reducible apply keepsX_next
    | with_reducible apply keeps_frame | with_reducible apply keeps_opStore | with_reducible apply keeps_at | split)

end Sys2Proof.Machine
end

