-- ==== Sys2Proof/Laws/KeepsEngines.lean ====
section
/-! SUPPORT. What every operation keeps: the operators, the lottery, the collectives and multicast. -/

set_option linter.unusedVariables false
set_option linter.unusedSimpArgs false

namespace Sys2Proof.Machine

/-! Operators -/

theorem keeps_modJob {lv : Bool} {z0 s : State} (hk : Keeps lv z0 s) (id : Nat) (f : OpJob → OpJob) : Keeps lv z0 (State.modJob s id f) := by
  unfold State.modJob
  repeat' (first
    | with_reducible assumption | (show List.length _ = 32 → List.length _ = 32; intro hi; simp_all [mapIf]; done) | with_reducible intro _
    | with_reducible apply keeps_modEng)

theorem keeps_dropJob {lv : Bool} {z0 s : State} (hk : Keeps lv z0 s) (id : Nat) : Keeps lv z0 (State.dropJob s id) := by
  unfold State.dropJob
  repeat' (first
    | with_reducible assumption | (show List.length _ = 32 → List.length _ = 32; intro hi; simp_all [mapIf]; done) | with_reducible intro _
    | with_reducible apply keeps_modEng)

theorem keeps_endRequest {lv : Bool} {z0 s : State} (hk : Keeps lv z0 s) (id : Nat) (st : Status) : Keeps lv z0 (State.endRequest s id st) := by
  unfold State.endRequest
  repeat' (first
    | with_reducible assumption | with_reducible intro _ | with_reducible apply keeps_each | with_reducible apply keeps_fillSeq
    | with_reducible apply keeps_dropJob | with_reducible apply keeps_dropPublish | with_reducible apply keeps_refuse)

theorem keeps_opEvent {lv : Bool} {z0 s : State} (hk : Keeps lv z0 s) (code : Nat) (r : Req) (st : Status) : Keeps lv z0 (State.opEvent s code r st)
    := by
  unfold State.opEvent
  repeat' (first | with_reducible assumption | with_reducible apply keeps_eventLimited)

theorem keeps_opInvalid {lv : Bool} {z0 s : State} (hk : Keeps lv z0 s) (id : Nat) : Keeps lv z0 (State.opInvalid s id) := by
  unfold State.opInvalid
  repeat' (first | with_reducible assumption | with_reducible apply keeps_opEvent | with_reducible apply keeps_endRequest | split)

theorem keeps_opLost {lv : Bool} {z0 s : State} (hk : Keeps lv z0 s) (id : Nat) : Keeps lv z0 (State.opLost s id) := by
  unfold State.opLost
  repeat' (first | with_reducible assumption | with_reducible apply keeps_opEvent | with_reducible apply keeps_endRequest | split)

theorem keeps_opDenied {lv : Bool} {z0 s : State} (hk : Keeps lv z0 s) (id : Nat) (st : Status) : Keeps lv z0 (State.opDenied s id st) := by
  unfold State.opDenied
  repeat' (first
    | with_reducible assumption | with_reducible apply keeps_deniedEvent | with_reducible apply keeps_endRequest | dsimp only | split)

theorem keeps_opChecks {lv : Bool} {z0 s : State} (hk : Keeps lv z0 s) (r : Req) (cross : Bool) (c : Nat) : Keeps lv z0 (State.opChecks s r cross c).2
    := by
  unfold State.opChecks
  repeat' (first
    | with_reducible assumption | with_reducible apply keeps_ite | with_reducible apply keeps_xlateFault | with_reducible apply keeps_reserveLeaf
    | with_reducible apply keeps_modReq | with_reducible apply keeps_logFull | dsimp only | split | (apply keepsO_some; with_reducible assumption))

theorem keeps_opEnter {lv : Bool} {z0 s : State} (hk : Keeps lv z0 s) (id : Nat) (c : Nat) (g : Nat) : Keeps lv z0 (State.opEnter s id c g) := by
  unfold State.opEnter
  repeat' (first
    | with_reducible assumption | (show List.length _ = 32 → List.length _ = 32; intro hi; simp_all [mapIf]; done) | with_reducible intro _
    | with_reducible apply keeps_opChecks | with_reducible apply keeps_refuse | with_reducible apply keeps_modEng
    | with_reducible apply keeps_modReq | dsimp only | split | (apply keeps_snd; with_reducible assumption))

theorem keeps_enterPower {lv : Bool} {z0 s : State} (hk : Keeps lv z0 s) (p : Power) : Keeps lv z0 (State.enterPower s p) := by
  unfold State.enterPower
  repeat' (first
    | with_reducible assumption | (show ∀ h : Hoop, _ → _; exact fun _ => id)
    | (show ∀ h : Hoop, _ = true → _; first | exact fun _ _ => rfl | exact fun _ e => absurd e (by decide)) | with_reducible apply keeps_modHoop
    | with_reducible apply keeps_event)

theorem keeps_ungate {lv : Bool} {z0 s : State} (hk : Keeps lv z0 s) : Keeps lv z0 (State.ungate s) := by
  unfold State.ungate
  repeat' (first
    | with_reducible assumption | (show List.length _ = 32 → List.length _ = 32; intro hi; simp_all [mapIf]; done) | with_reducible intro _
    | with_reducible apply keeps_ite | with_reducible apply keeps_modEng | with_reducible apply keeps_enterPower)

theorem keeps_opOffload {lv : Bool} {z0 s : State} (hk : Keeps lv z0 s) (d : Delivered) : Keeps lv z0 (State.opOffload s d) := by
  unfold State.opOffload
  repeat' (first
    | with_reducible assumption | with_reducible apply keeps_ite | with_reducible apply keeps_ungate | with_reducible apply keeps_park
    | with_reducible apply keeps_present | with_reducible apply keeps_opEnter | with_reducible apply keeps_answerDup
    | with_reducible apply keeps_openDup | dsimp only | split | (apply keepsC_done; with_reducible assumption)
    | (apply keepsC_dup; with_reducible assumption) | (apply keepsC_go; with_reducible assumption))

theorem keeps_opReadPart {lv : Bool} {z0 s : State} (hk : Keeps lv z0 s) (r : Req) (j : OpJob) (x : OpPart) : Keeps lv z0 (State.opReadPart s r j x)
    := by
  unfold State.opReadPart
  repeat' (first
    | with_reducible assumption | with_reducible apply keeps_ite | with_reducible apply keeps_modJob | with_reducible apply keeps_nearRead
    | with_reducible apply keeps_takeSeq | with_reducible apply keeps_originate)

theorem keeps_opReads {lv : Bool} {z0 s : State} (hk : Keeps lv z0 s) (id : Nat) : Keeps lv z0 (State.opReads s id) := by
  unfold State.opReads
  repeat' (first
    | with_reducible assumption | with_reducible intro _ | with_reducible apply keeps_each | with_reducible apply keeps_ite
    | with_reducible apply keeps_opReadPart | split)

theorem keeps_opFeed {lv : Bool} {z0 s : State} (hk : Keeps lv z0 s) (id : Nat) : Keeps lv z0 (State.opFeed s id) := by
  unfold State.opFeed
  repeat' (first
    | with_reducible assumption | with_reducible apply keeps_ite | with_reducible apply keeps_opReads | with_reducible apply keeps_opInvalid
    | with_reducible apply keeps_modJob | dsimp only | split)

theorem keeps_opStart {lv : Bool} {z0 s : State} (hk : Keeps lv z0 s) (j : OpJob) : Keeps lv z0 (State.opStart s j) := by
  unfold State.opStart
  repeat' (first
    | with_reducible assumption | (show ∀ h : Engines, _ → _; exact fun _ => id) | with_reducible apply keeps_dropJob
    | with_reducible apply keeps_opDenied | with_reducible apply keeps_modJob | with_reducible apply keeps_modReq
    | with_reducible apply keeps_modEng | with_reducible apply keeps_opFeed | dsimp only | split)

theorem keeps_startTile {lv : Bool} {z0 s : State} (hk : Keeps lv z0 s) (j : OpJob) (core : Nat) : Keeps lv z0 (State.startTile s j core) := by
  unfold State.startTile
  repeat' (first
    | with_reducible assumption | (show ∀ h : Engines, _ → _; exact fun _ => id) | with_reducible apply keeps_modJob
    | with_reducible apply keeps_modEng)

theorem keeps_endTile {lv : Bool} {z0 s : State} (hk : Keeps lv z0 s) (x : Tile) : Keeps lv z0 (State.endTile s x) := by
  unfold State.endTile
  repeat' (first
    | with_reducible assumption | (show ∀ h : Engines, _ → _; exact fun _ => id) | with_reducible apply keeps_modEng
    | with_reducible apply keeps_modJob | with_reducible apply keeps_modPart | with_reducible apply keeps_modCluster | dsimp only | split)

theorem keeps_opSendOut {lv : Bool} {z0 s : State} (hk : Keeps lv z0 s) (id : Nat) : Keeps lv z0 (State.opSendOut s id) := by
  unfold State.opSendOut
  repeat' (first
    | with_reducible assumption | with_reducible intro _ | with_reducible apply keeps_each | with_reducible apply keeps_ite
    | with_reducible apply keeps_takeSeq | with_reducible apply keeps_originate | with_reducible apply keeps_modJob | dsimp only | split)

theorem keeps_opAdvance {lv : Bool} {z0 s : State} (hk : Keeps lv z0 s) (id : Nat) : Keeps lv z0 (State.opAdvance s id) := by
  unfold State.opAdvance
  repeat' (first
    | with_reducible assumption | with_reducible apply keeps_ite | with_reducible apply keeps_modReq | with_reducible apply keeps_writeLeaf
    | with_reducible apply keeps_writeLeafAgain | with_reducible apply keeps_journal | with_reducible apply keeps_numericEvent
    | with_reducible apply keeps_finish | with_reducible apply keeps_dropJob | dsimp only | split)

theorem keeps_opWrite {lv : Bool} {z0 s : State} (hk : Keeps lv z0 s) (id : Nat) : Keeps lv z0 (State.opWrite s id) := by
  unfold State.opWrite
  repeat' (first
    | with_reducible assumption | with_reducible intro _ | with_reducible apply keeps_foldl_fst | with_reducible apply keeps_ite
    | with_reducible apply keeps_modJob | with_reducible apply keeps_opAdvance | with_reducible apply keeps_opDenied
    | with_reducible apply keeps_nearWrite | with_reducible apply keeps_sendCopies | with_reducible apply keeps_ringDoorbells
    | with_reducible apply keeps_opSendOut | dsimp only | split)

theorem keeps_askCrossCheck {lv : Bool} {z0 s : State} (hk : Keeps lv z0 s) (r : Req) (j : OpJob) : Keeps lv z0 (State.askCrossCheck s r j) := by
  unfold State.askCrossCheck
  repeat' (first
    | with_reducible assumption | with_reducible apply keeps_takeSeq | with_reducible apply keeps_originate | with_reducible apply keeps_modReq)

theorem keeps_opComplete {lv : Bool} {z0 s : State} (hk : Keeps lv z0 s) (id : Nat) : Keeps lv z0 (State.opComplete s id) := by
  unfold State.opComplete
  repeat' (first
    | with_reducible assumption | with_reducible apply keeps_ite | with_reducible apply keeps_opWrite | with_reducible apply keeps_opAdvance
    | with_reducible apply keeps_draw | with_reducible apply keeps_modJob | with_reducible apply keeps_askCrossCheck | dsimp only | split)

theorem keeps_operandAck {lv : Bool} {z0 s : State} (hk : Keeps lv z0 s) (o : OutFrame) (id : Nat) (payload : Bytes) : Keeps lv z0 (State.operandAck s
    o id payload) := by
  unfold State.operandAck
  repeat' (first
    | with_reducible assumption | with_reducible apply keeps_ite | with_reducible apply keeps_dropOut | with_reducible apply keeps_modJob
    | with_reducible apply keeps_opFeed | with_reducible apply keeps_opSendOut | with_reducible apply keeps_opAdvance)

theorem keeps_operandRefused {lv : Bool} {z0 s : State} (hk : Keeps lv z0 s) (id : Nat) (st : Status) : Keeps lv z0 (State.operandRefused s id st) :=
    by
  unfold State.operandRefused
  repeat' (first
    | with_reducible assumption | with_reducible apply keeps_opLost | with_reducible apply keeps_opDenied | with_reducible apply keeps_endRequest
    | split)

theorem keeps_opTimeout {lv : Bool} {z0 s : State} (hk : Keeps lv z0 s) (id : Nat) : Keeps lv z0 (State.opTimeout s id) := by
  unfold State.opTimeout
  repeat' (first
    | with_reducible assumption | with_reducible apply keeps_ite | with_reducible apply keeps_modCluster | with_reducible apply keeps_eventLimited
    | with_reducible apply keeps_endRequest | dsimp only | split)

theorem keeps_crossTimeout {lv : Bool} {z0 s : State} (hk : Keeps lv z0 s) (id : Nat) : Keeps lv z0 (State.crossTimeout s id) := by
  unfold State.crossTimeout
  repeat' (first | with_reducible assumption | with_reducible apply keeps_ite | with_reducible apply keeps_endRequest | split)

theorem keeps_execGather {z0 s : State} (hk : Keeps false z0 s) (t : Nat) (a : Arrival) (f : Frame) : KeepsX z0 (execGather t a f s) := by
  unfold execGather
  repeat' (first
    | with_reducible assumption | with_reducible intro _ | with_reducible apply keepsX_fault | with_reducible apply keepsX_next
    | with_reducible apply keeps_frame | with_reducible apply keeps_opOffload | with_reducible apply keeps_at | split)

theorem keeps_execScatterAdd {z0 s : State} (hk : Keeps false z0 s) (t : Nat) (a : Arrival) (f : Frame) : KeepsX z0 (execScatterAdd t a f s) := by
  unfold execScatterAdd
  repeat' (first
    | with_reducible assumption | with_reducible intro _ | with_reducible apply keepsX_fault | with_reducible apply keepsX_next
    | with_reducible apply keeps_frame | with_reducible apply keeps_opOffload | with_reducible apply keeps_at | split)

theorem keeps_execPredicateFilter {z0 s : State} (hk : Keeps false z0 s) (t : Nat) (a : Arrival) (f : Frame) : KeepsX z0 (execPredicateFilter t a f s)
    := by
  unfold execPredicateFilter
  repeat' (first
    | with_reducible assumption | with_reducible intro _ | with_reducible apply keepsX_fault | with_reducible apply keepsX_next
    | with_reducible apply keeps_frame | with_reducible apply keeps_opOffload | with_reducible apply keeps_at | split)

theorem keeps_execTopK {z0 s : State} (hk : Keeps false z0 s) (t : Nat) (a : Arrival) (f : Frame) : KeepsX z0 (execTopK t a f s) := by
  unfold execTopK
  repeat' (first
    | with_reducible assumption | with_reducible intro _ | with_reducible apply keepsX_fault | with_reducible apply keepsX_next
    | with_reducible apply keeps_frame | with_reducible apply keeps_opOffload | with_reducible apply keeps_at | split)

theorem keeps_execEmbeddingBag {z0 s : State} (hk : Keeps false z0 s) (t : Nat) (a : Arrival) (f : Frame) : KeepsX z0 (execEmbeddingBag t a f s) := by
  unfold execEmbeddingBag
  repeat' (first
    | with_reducible assumption | with_reducible intro _ | with_reducible apply keepsX_fault | with_reducible apply keepsX_next
    | with_reducible apply keeps_frame | with_reducible apply keeps_opOffload | with_reducible apply keeps_at | split)

theorem keeps_execSmallDenseProjection {z0 s : State} (hk : Keeps false z0 s) (t : Nat) (a : Arrival) (f : Frame) : KeepsX z0
    (execSmallDenseProjection t a f s) := by
  unfold execSmallDenseProjection
  repeat' (first
    | with_reducible assumption | with_reducible intro _ | with_reducible apply keepsX_fault | with_reducible apply keepsX_next
    | with_reducible apply keeps_frame | with_reducible apply keeps_opOffload | with_reducible apply keeps_at | split)

theorem keeps_execTreeEnsemble {z0 s : State} (hk : Keeps false z0 s) (t : Nat) (a : Arrival) (f : Frame) : KeepsX z0 (execTreeEnsemble t a f s) := by
  unfold execTreeEnsemble
  repeat' (first
    | with_reducible assumption | with_reducible intro _ | with_reducible apply keepsX_fault | with_reducible apply keepsX_next
    | with_reducible apply keeps_frame | with_reducible apply keeps_opOffload | with_reducible apply keeps_at | split)

theorem keeps_execXcheckOffload {z0 s : State} (hk : Keeps false z0 s) (t : Nat) (a : Arrival) (f : Frame) : KeepsX z0 (execXcheckOffload t a f s) :=
    by
  unfold execXcheckOffload
  repeat' (first
    | with_reducible assumption | with_reducible intro _ | with_reducible apply keepsX_fault | with_reducible apply keepsX_next
    | with_reducible apply keeps_frame | with_reducible apply keeps_opOffload | with_reducible apply keeps_at | split)

theorem keeps_execXcheckTimeout {z0 s : State} (hk : Keeps false z0 s) (t : Nat) (req : Nat) : KeepsX z0 (execXcheckTimeout t req s) := by
  unfold execXcheckTimeout
  repeat' (first
    | with_reducible assumption | with_reducible apply keepsX_next | with_reducible apply keeps_crossTimeout | with_reducible apply keeps_at)

theorem keeps_execOperatorStart {z0 s : State} (hk : Keeps false z0 s) (t : Nat) (c : Nat) : KeepsX z0 (execOperatorStart t c s) := by
  unfold execOperatorStart
  repeat' (first
    | with_reducible assumption | with_reducible apply keepsX_fault | with_reducible apply keepsX_next | with_reducible apply keeps_opStart
    | with_reducible apply keeps_at | dsimp only | split)

theorem keeps_execTileStart {z0 s : State} (hk : Keeps false z0 s) (t : Nat) (c : Nat) : KeepsX z0 (execTileStart t c s) := by
  unfold execTileStart
  repeat' (first
    | with_reducible assumption | with_reducible intro _ | with_reducible apply keeps_each | with_reducible apply keepsX_fault
    | with_reducible apply keepsX_next | with_reducible apply keeps_opFeed | with_reducible apply keeps_startTile | with_reducible apply keeps_at
    | dsimp only | split)

theorem keeps_execTileComplete {z0 s : State} (hk : Keeps false z0 s) (t : Nat) (c : Nat) (core : Nat) : KeepsX z0 (execTileComplete t c core s) := by
  unfold execTileComplete
  repeat' (first
    | with_reducible assumption | with_reducible apply keeps_ite | with_reducible apply keepsX_fault | with_reducible apply keepsX_next
    | with_reducible apply keeps_endTile | with_reducible apply keeps_at | dsimp only | split)

theorem keeps_execOperatorComplete {z0 s : State} (hk : Keeps false z0 s) (t : Nat) (req : Nat) : KeepsX z0 (execOperatorComplete t req s) := by
  unfold execOperatorComplete
  repeat' (first
    | with_reducible assumption | with_reducible apply keepsX_next | with_reducible apply keeps_opFeed | with_reducible apply keeps_opComplete
    | with_reducible apply keeps_at)

theorem keeps_execDispatchQueueDeadline {z0 s : State} (hk : Keeps false z0 s) (t : Nat) (req : Nat) : KeepsX z0 (execDispatchQueueDeadline t req s)
    := by
  unfold execDispatchQueueDeadline
  repeat' (first
    | with_reducible assumption | with_reducible apply keepsX_next | with_reducible apply keeps_opTimeout | with_reducible apply keeps_at)

/-! Lottery -/

theorem keeps_lottery {lv : Bool} {z0 s : State} (hk : Keeps lv z0 s) (arb : Nat) : Keeps lv z0 (State.lottery s arb) := by
  unfold State.lottery
  repeat' (first | with_reducible assumption | with_reducible apply keeps_ite | with_reducible apply keeps_modArb | dsimp only | split)

theorem keeps_execLotteryDraw {z0 s : State} (hk : Keeps false z0 s) (t : Nat) (arb : Nat) (arrivals : List ArbItem) : KeepsX z0 (execLotteryDraw t
    arb arrivals s) := by
  unfold execLotteryDraw
  repeat' (first
    | with_reducible assumption | with_reducible apply keepsX_fault | with_reducible apply keepsX_next | with_reducible apply keeps_modArb
    | with_reducible apply keeps_lottery | with_reducible apply keeps_at | dsimp only | split)

/-! Collectives -/

theorem keeps_modColl {lv : Bool} {z0 s : State} (hk : Keeps lv z0 s) (k : CollKey) (f : Collective → Collective) : Keeps lv z0 (State.modColl s k f)
    := by
  unfold State.modColl
  repeat' (first | with_reducible assumption | (show ∀ h : Engines, _ → _; exact fun _ => id) | with_reducible apply keeps_modEng)

theorem keeps_putSeg {lv : Bool} {z0 s : State} (hk : Keeps lv z0 s) (k : CollKey) (g : Segment) : Keeps lv z0 (State.putSeg s k g) := by
  unfold State.putSeg
  repeat' (first | with_reducible assumption | with_reducible apply keeps_modColl)

theorem keeps_settleOk {lv : Bool} {z0 s : State} (hk : Keeps lv z0 s) (id : Nat) : Keeps lv z0 (State.settleOk s id) := by
  unfold State.settleOk
  repeat' (first | with_reducible assumption | with_reducible apply keeps_journal | with_reducible apply keeps_finish)

theorem keeps_setupJudge {lv : Bool} {z0 s : State} (hk : Keeps lv z0 s) (id : Nat) (list : Bytes) : Keeps lv z0 (State.setupJudge s id list) := by
  unfold State.setupJudge
  repeat' (first
    | with_reducible assumption | (show List.length _ = 32 → List.length _ = 32; intro hi; simp_all [mapIf]; done) | with_reducible intro _
    | with_reducible apply keeps_ite | with_reducible apply keeps_refuse | with_reducible apply keeps_settleOk | with_reducible apply keeps_modEng
    | dsimp only | split)

theorem keeps_runSetup {lv : Bool} {z0 s : State} (hk : Keeps lv z0 s) (id : Nat) (c : Nat) (g : Nat) : Keeps lv z0 (State.runSetup s id c g) := by
  unfold State.runSetup
  repeat' (first
    | with_reducible assumption | (show List.length _ = 32 → List.length _ = 32; intro hi; simp_all [mapIf]; done) | with_reducible intro _
    | with_reducible apply keeps_ite | with_reducible apply keeps_refuse | with_reducible apply keeps_settleOk
    | with_reducible apply keeps_xlateFault | with_reducible apply keeps_deniedEvent | with_reducible apply keeps_modEng
    | with_reducible apply keeps_modReq | with_reducible apply keeps_opReads | dsimp only | split)

theorem keeps_setupGo {lv : Bool} {z0 s : State} (hk : Keeps lv z0 s) (id : Nat) : Keeps lv z0 (State.setupGo s id) := by
  unfold State.setupGo
  repeat' (first
    | with_reducible assumption | with_reducible apply keeps_ite | with_reducible apply keeps_dropJob | with_reducible apply keeps_setupJudge
    | split)

theorem keeps_opCollective {lv : Bool} {z0 s : State} (hk : Keeps lv z0 s) (go : State → Nat → Nat → Nat → State) (d : Delivered) (hgo : ∀ y0 y1 y2
    y3, Keeps lv z0 y0 → Keeps lv z0 (go y0 y1 y2 y3)) : Keeps lv z0 (State.opCollective go s d) := by
  unfold State.opCollective
  repeat' (first
    | with_reducible assumption | with_reducible apply keeps_ite | with_reducible apply keeps_ungate | with_reducible apply keeps_present
    | with_reducible apply keeps_answerDup | with_reducible apply keeps_openDup | apply hgo | dsimp only | split
    | (apply keepsC_done; with_reducible assumption) | (apply keepsC_dup; with_reducible assumption) | (apply keepsC_go; with_reducible assumption))

theorem keeps_freeColl {lv : Bool} {z0 s : State} (hk : Keeps lv z0 s) (k : CollKey) : Keeps lv z0 (State.freeColl s k) := by
  unfold State.freeColl
  repeat' (first
    | with_reducible assumption | (show ∀ h : Engines, _ → _; exact fun _ => id) | with_reducible intro _ | with_reducible apply keeps_each
    | with_reducible apply keeps_modEng | with_reducible apply keeps_settleOk)

theorem keeps_runRelease {lv : Bool} {z0 s : State} (hk : Keeps lv z0 s) (id : Nat) : Keeps lv z0 (State.runRelease s id) := by
  unfold State.runRelease
  repeat' (first
    | with_reducible assumption | with_reducible apply keeps_ite | with_reducible apply keeps_refuse | with_reducible apply keeps_settleOk
    | with_reducible apply keeps_modColl | with_reducible apply keeps_modReq | with_reducible apply keeps_freeColl | dsimp only | split)

theorem keeps_releaseDone {lv : Bool} {z0 s : State} (hk : Keeps lv z0 s) (key : CollKey) : Keeps lv z0 (State.releaseDone s key) := by
  unfold State.releaseDone
  repeat' (first | with_reducible assumption | with_reducible apply keeps_ite | with_reducible apply keeps_freeColl | split)

theorem keeps_dropRound {lv : Bool} {z0 s : State} (hk : Keeps lv z0 s) (key : CollKey) (g : Segment) (st : Status) : Keeps lv z0 (State.dropRound s
    key g st) := by
  unfold State.dropRound
  repeat' (first
    | with_reducible assumption | with_reducible apply keeps_ite | with_reducible apply keeps_unreserveLeaf | with_reducible apply keeps_refuseAll
    | with_reducible apply keeps_putSeg | split)

theorem keeps_endRound {lv : Bool} {z0 s : State} (hk : Keeps lv z0 s) (key : CollKey) (g : Segment) : Keeps lv z0 (State.endRound s key g) := by
  unfold State.endRound
  repeat' (first
    | with_reducible assumption | with_reducible intro _ | with_reducible apply keeps_each | with_reducible apply keeps_finish
    | with_reducible apply keeps_modColl | with_reducible apply keeps_putSeg | with_reducible apply keeps_releaseDone | dsimp only | split)

theorem keeps_rootAdvance {lv : Bool} {z0 s : State} (hk : Keeps lv z0 s) (key : CollKey) (g : Segment) : Keeps lv z0 (State.rootAdvance s key g) :=
    by
  unfold State.rootAdvance
  repeat' (first
    | with_reducible assumption | with_reducible intro _ | with_reducible apply keeps_each | with_reducible apply keeps_ite
    | with_reducible apply keeps_journal | with_reducible apply keeps_endRound | with_reducible apply keeps_putSeg | split)

theorem keeps_closeRoot {lv : Bool} {z0 s : State} (hk : Keeps lv z0 s) (k : Collective) (g : Segment) : Keeps lv z0 (State.closeRoot s k g) := by
  unfold State.closeRoot
  repeat' (first
    | with_reducible assumption | with_reducible apply keeps_ite | with_reducible apply keeps_numericEvent | with_reducible apply keeps_modReq
    | with_reducible apply keeps_farStore | with_reducible apply keeps_nearWrite | with_reducible apply keeps_sendCopies
    | with_reducible apply keeps_ringDoorbells | with_reducible apply keeps_writeLeafAgain | with_reducible apply keeps_writeLeaf
    | with_reducible apply keeps_putSeg | with_reducible apply keeps_rootAdvance | dsimp only | split)

theorem keeps_sendPartials {lv : Bool} {z0 s : State} (hk : Keeps lv z0 s) (k : Collective) (g : Segment) : Keeps lv z0 (State.sendPartials s k g) :=
    by
  unfold State.sendPartials
  repeat' (first
    | with_reducible assumption | with_reducible intro _ | with_reducible apply keeps_foldl | with_reducible apply keeps_ite
    | with_reducible apply keeps_takeSeq | with_reducible apply keeps_originate | with_reducible apply keeps_putSeg | dsimp only | split)

theorem keeps_stageAdvance {lv : Bool} {z0 s : State} (hk : Keeps lv z0 s) (k : Collective) (g : Segment) : Keeps lv z0 (State.stageAdvance s k g) :=
    by
  unfold State.stageAdvance
  repeat' (first
    | with_reducible assumption | with_reducible apply keeps_ite | with_reducible apply keeps_putSeg | with_reducible apply keeps_sendPartials)

theorem keeps_closeStage {lv : Bool} {z0 s : State} (hk : Keeps lv z0 s) (k : Collective) (g : Segment) : Keeps lv z0 (State.closeStage s k g) := by
  unfold State.closeStage
  repeat' (first
    | with_reducible assumption | with_reducible intro _ | with_reducible apply keeps_each | with_reducible apply keeps_journal
    | with_reducible apply keeps_putSeg | with_reducible apply keeps_stageAdvance)

theorem keeps_roundGo {lv : Bool} {z0 s : State} (hk : Keeps lv z0 s) (key : CollKey) (i : Nat) (re : Bool) : Keeps lv z0 (State.roundGo s key i re)
    := by
  unfold State.roundGo
  repeat' (first
    | with_reducible assumption | with_reducible apply keeps_ite | with_reducible apply keeps_rootAdvance | with_reducible apply keeps_stageAdvance
    | with_reducible apply keeps_closeRoot | with_reducible apply keeps_closeStage | dsimp only | split)

theorem keeps_roundsGo {lv : Bool} {z0 s : State} (hk : Keeps lv z0 s) : Keeps lv z0 (State.roundsGo s) := by
  unfold State.roundsGo
  repeat' (first | with_reducible assumption | with_reducible intro _ | with_reducible apply keeps_each | with_reducible apply keeps_roundGo)

theorem keeps_partialAck {lv : Bool} {z0 s : State} (hk : Keeps lv z0 s) (o : OutFrame) (key : CollKey) (i : Nat) (st : Status) : Keeps lv z0
    (State.partialAck s o key i st) := by
  unfold State.partialAck
  repeat' (first
    | with_reducible assumption | with_reducible apply keeps_ite | with_reducible apply keeps_dropOut | with_reducible apply keeps_putSeg
    | with_reducible apply keeps_endRound | with_reducible apply keeps_roundGo | dsimp only | split)

theorem keeps_partialNack {lv : Bool} {z0 s : State} (hk : Keeps lv z0 s) (o : OutFrame) (key : CollKey) (i : Nat) (st : Status) (settled : Bool) :
    Keeps lv z0 (State.partialNack s o key i st settled) := by
  unfold State.partialNack
  repeat' (first
    | with_reducible assumption | with_reducible apply keeps_ite | with_reducible apply keeps_dropOut | with_reducible apply keeps_fillSeq
    | with_reducible apply keeps_dropRound | dsimp only | split)

theorem keeps_joinRound {lv : Bool} {z0 s : State} (hk : Keeps lv z0 s) (k : Collective) (g : Segment) (c : Contribution) : Keeps lv z0
    (State.joinRound s k g c) := by
  unfold State.joinRound
  repeat' (first
    | with_reducible assumption | with_reducible apply keeps_putSeg | with_reducible apply keeps_modReq | with_reducible apply keeps_roundGo)

theorem keeps_roundLeafPlace {lv : Bool} {z0 s : State} (hk : Keeps lv z0 s) (k : Collective) (g : Segment) : KeepsP lv z0 (State.roundLeafPlace s k
    g) := by
  unfold State.roundLeafPlace
  repeat' (first
    | with_reducible assumption | with_reducible intro _ | with_reducible apply keepsP_intro | with_reducible apply keepsP_map
    | with_reducible apply keeps_reserveLeaf | dsimp only | split)

theorem keeps_runReduce {lv : Bool} {z0 s : State} (hk : Keeps lv z0 s) (id : Nat) (re : Bool) : Keeps lv z0 (State.runReduce s id re) := by
  unfold State.runReduce
  repeat' (first
    | with_reducible assumption | with_reducible apply keeps_ite | with_reducible apply keeps_writeEntry | with_reducible apply keeps_refuse
    | with_reducible apply keeps_settleOk | with_reducible apply keeps_modReq | with_reducible apply keeps_roundLeafPlace
    | with_reducible apply keeps_joinRound | with_reducible apply keeps_logFull | with_reducible apply keeps_sumacEvent | dsimp only | split
    | (apply keepsP_some; with_reducible assumption))

theorem keeps_opReduce {lv : Bool} {z0 s : State} (hk : Keeps lv z0 s) (d : Delivered) : Keeps lv z0 (State.opReduce s d) := by
  unfold State.opReduce
  repeat' (first
    | with_reducible assumption | with_reducible apply keeps_ite | with_reducible apply keeps_ungate | with_reducible apply keeps_present
    | with_reducible apply keeps_runReduce | with_reducible apply keeps_answerDup | with_reducible apply keeps_count
    | with_reducible apply keeps_openDup | dsimp only | split | (apply keepsC_done; with_reducible assumption)
    | (apply keepsC_dup; with_reducible assumption) | (apply keepsC_go; with_reducible assumption))

theorem keeps_expireRound {lv : Bool} {z0 s : State} (hk : Keeps lv z0 s) (key : CollKey) (i : Nat) : Keeps lv z0 (State.expireRound s key i) := by
  unfold State.expireRound
  repeat' (first
    | with_reducible assumption | with_reducible apply keeps_ite | with_reducible apply keeps_dropRound | with_reducible apply keeps_eventLimited
    | with_reducible apply keeps_releaseDone | dsimp only | split)

theorem keeps_reissueDeadline {lv : Bool} {z0 s : State} (hk : Keeps lv z0 s) (key : CollKey) (i : Nat) : Keeps lv z0 (State.reissueDeadline s key i)
    := by
  unfold State.reissueDeadline
  repeat' (first
    | with_reducible assumption | with_reducible intro _ | with_reducible apply keeps_each | with_reducible apply keeps_ite
    | with_reducible apply keeps_finish | with_reducible apply keeps_putSeg | dsimp only | split)

theorem keeps_collLost {lv : Bool} {z0 s : State} (hk : Keeps lv z0 s) (k : Collective) : Keeps lv z0 (State.collLost s k) := by
  unfold State.collLost
  repeat' (first
    | with_reducible assumption | with_reducible intro _ | with_reducible apply keeps_each | with_reducible apply keeps_dropRound
    | with_reducible apply keeps_freeColl | with_reducible apply keeps_event)

theorem keeps_rebind {lv : Bool} {z0 s : State} (hk : Keeps lv z0 s) (k : Collective) (gone : Nat → Bool) : Keeps lv z0 (State.rebind s k gone) := by
  unfold State.rebind
  repeat' (first
    | with_reducible assumption | with_reducible apply keeps_ite | with_reducible apply keeps_modColl | with_reducible apply keeps_collLost
    | dsimp only | split)

theorem keeps_execCollectiveSetup {z0 s : State} (hk : Keeps false z0 s) (t : Nat) (a : Arrival) (f : Frame) : KeepsX z0 (execCollectiveSetup t a f s)
    := by
  unfold execCollectiveSetup
  repeat' (first
    | with_reducible assumption | with_reducible intro _ | with_reducible apply keepsX_fault | with_reducible apply keepsX_next
    | with_reducible apply keeps_frame | with_reducible apply keeps_opCollective | with_reducible apply keeps_runSetup
    | with_reducible apply keeps_setupGo | with_reducible apply keeps_at | split)

theorem keeps_execCollectiveRelease {z0 s : State} (hk : Keeps false z0 s) (t : Nat) (a : Arrival) (f : Frame) : KeepsX z0 (execCollectiveRelease t a
    f s) := by
  unfold execCollectiveRelease
  repeat' (first
    | with_reducible assumption | with_reducible intro _ | with_reducible apply keepsX_fault | with_reducible apply keepsX_next
    | with_reducible apply keeps_frame | with_reducible apply keeps_opCollective | with_reducible apply keeps_runRelease
    | with_reducible apply keeps_at | split)

theorem keeps_execCollectiveReleaseDone {z0 s : State} (hk : Keeps false z0 s) (t : Nat) (k : CollKey) : KeepsX z0 (execCollectiveReleaseDone t k s)
    := by
  unfold execCollectiveReleaseDone
  repeat' (first
    | with_reducible assumption | with_reducible apply keepsX_next | with_reducible apply keeps_releaseDone | with_reducible apply keeps_at)

theorem keeps_execReducePut {z0 s : State} (hk : Keeps false z0 s) (t : Nat) (a : Arrival) (f : Frame) : KeepsX z0 (execReducePut t a f s) := by
  unfold execReducePut
  repeat' (first
    | with_reducible assumption | with_reducible intro _ | with_reducible apply keepsX_fault | with_reducible apply keepsX_next
    | with_reducible apply keeps_frame | with_reducible apply keeps_opReduce | with_reducible apply keeps_at | split)

theorem keeps_execPartialFrame {z0 s : State} (hk : Keeps false z0 s) (t : Nat) (a : Arrival) (f : Frame) : KeepsX z0 (execPartialFrame t a f s) := by
  unfold execPartialFrame
  repeat' (first
    | with_reducible assumption | with_reducible intro _ | with_reducible apply keepsX_fault | with_reducible apply keepsX_next
    | with_reducible apply keeps_frame | with_reducible apply keeps_opReduce | with_reducible apply keeps_at | split)

theorem keeps_execSegmentRoundExpiry {z0 s : State} (hk : Keeps false z0 s) (t : Nat) (k : CollKey) (seg : Nat) : KeepsX z0 (execSegmentRoundExpiry t
    k seg s) := by
  unfold execSegmentRoundExpiry
  repeat' (first
    | with_reducible assumption | with_reducible apply keepsX_next | with_reducible apply keeps_expireRound | with_reducible apply keeps_at)

theorem keeps_execReissueRoundDeadline {z0 s : State} (hk : Keeps false z0 s) (t : Nat) (k : CollKey) (seg : Nat) : KeepsX z0
    (execReissueRoundDeadline t k seg s) := by
  unfold execReissueRoundDeadline
  repeat' (first
    | with_reducible assumption | with_reducible apply keepsX_next | with_reducible apply keeps_reissueDeadline | with_reducible apply keeps_at)

theorem keeps_execCollectiveRebind {z0 s : State} (hk : Keeps false z0 s) (t : Nat) (k : CollKey) : KeepsX z0 (execCollectiveRebind t k s) := by
  unfold execCollectiveRebind
  repeat' (first
    | with_reducible assumption | with_reducible apply keepsX_next | with_reducible apply keeps_rebind | with_reducible apply keeps_at | split)

/-! Multicast -/

theorem keeps_mcastLocal {lv : Bool} {z0 s : State} (hk : Keeps lv z0 s) (id : Nat) (k : Nat) (a : Nat) : Keeps lv z0 (State.mcastLocal s id k a) :=
    by
  unfold State.mcastLocal
  repeat' (first
    | with_reducible assumption | with_reducible intro _ | with_reducible apply keeps_each | with_reducible apply keeps_ite
    | with_reducible apply keeps_deniedEvent | with_reducible apply keeps_modReq | with_reducible apply keeps_farPut
    | with_reducible apply keeps_nearWrite | with_reducible apply keeps_sendCopies | with_reducible apply keeps_ringDoorbells | dsimp only | split)

theorem keeps_mcastRelay {lv : Bool} {z0 s : State} (hk : Keeps lv z0 s) (id : Nat) (k : Nat) (node : Node) : Keeps lv z0 (State.mcastRelay s id k
    node) := by
  unfold State.mcastRelay
  repeat' (first
    | with_reducible assumption | with_reducible apply keeps_ite | with_reducible apply keeps_takeSeq | with_reducible apply keeps_originateTo
    | dsimp only | split)

theorem keeps_mcastCheck {lv : Bool} {z0 s : State} (hk : Keeps lv z0 s) (id : Nat) : Keeps lv z0 (State.mcastCheck s id) := by
  unfold State.mcastCheck
  repeat' (first
    | with_reducible assumption | with_reducible apply keeps_ite | with_reducible apply keeps_refuse | with_reducible apply keeps_finish | split)

theorem keeps_runMcast {lv : Bool} {z0 s : State} (hk : Keeps lv z0 s) (id : Nat) : Keeps lv z0 (State.runMcast s id) := by
  unfold State.runMcast
  repeat' (first
    | with_reducible assumption | with_reducible intro _ | with_reducible apply keeps_each | with_reducible apply keeps_ite
    | with_reducible apply keeps_refuse | with_reducible apply keeps_modReq | with_reducible apply keeps_settleOk
    | with_reducible apply keeps_journal | with_reducible apply keeps_mcastLocal | with_reducible apply keeps_mcastRelay
    | with_reducible apply keeps_mcastCheck | dsimp only | split)

theorem keeps_opMcast {lv : Bool} {z0 s : State} (hk : Keeps lv z0 s) (d : Delivered) : Keeps lv z0 (State.opMcast s d) := by
  unfold State.opMcast
  repeat' (first
    | with_reducible assumption | with_reducible apply keeps_ite | with_reducible apply keeps_park | with_reducible apply keeps_present
    | with_reducible apply keeps_runMcast | with_reducible apply keeps_answerDup | with_reducible apply keeps_openDup | dsimp only | split
    | (apply keepsC_done; with_reducible assumption) | (apply keepsC_dup; with_reducible assumption) | (apply keepsC_go; with_reducible assumption))

theorem keeps_opUnknown {lv : Bool} {z0 s : State} (hk : Keeps lv z0 s) (d : Delivered) : Keeps lv z0 (State.opUnknown s d) := by
  unfold State.opUnknown
  repeat' (first
    | with_reducible assumption | with_reducible intro _ | with_reducible apply keeps_opCollective | with_reducible apply keeps_refuse)

theorem keeps_execMcastStore {z0 s : State} (hk : Keeps false z0 s) (t : Nat) (a : Arrival) (f : Frame) : KeepsX z0 (execMcastStore t a f s) := by
  unfold execMcastStore
  repeat' (first
    | with_reducible assumption | with_reducible intro _ | with_reducible apply keepsX_fault | with_reducible apply keepsX_next
    | with_reducible apply keeps_frame | with_reducible apply keeps_opMcast | with_reducible apply keeps_at | split)

theorem keeps_execUnsupportedOpcode {z0 s : State} (hk : Keeps false z0 s) (t : Nat) (a : Arrival) (f : Frame) : KeepsX z0 (execUnsupportedOpcode t a
    f s) := by
  unfold execUnsupportedOpcode
  repeat' (first
    | with_reducible assumption | with_reducible intro _ | with_reducible apply keepsX_fault | with_reducible apply keepsX_next
    | with_reducible apply keeps_frame | with_reducible apply keeps_opUnknown | with_reducible apply keeps_at | split)

end Sys2Proof.Machine
end

