-- ==== Sys2Proof/Laws/KeepsDelivery.lean ====
section
/-! SUPPORT. What every operation keeps: health, partitions, responses, the journal and the directory. -/

set_option linter.unusedVariables false
set_option linter.unusedSimpArgs false

namespace Sys2Proof.Machine

/-! Health -/

theorem keeps_contactPartner {lv : Bool} {z0 s : State} (hk : Keeps lv z0 s) : Keeps lv z0 (State.contactPartner s) := by
  unfold State.contactPartner
  repeat' (first | with_reducible assumption | (show ∀ h : Health, _ → _; exact fun _ => id) | with_reducible apply keeps_modHlt)

theorem keeps_abandonReq {lv : Bool} {z0 s : State} (hk : Keeps lv z0 s) (id : Nat) : Keeps lv z0 (State.abandonReq s id) := by
  unfold State.abandonReq
  repeat' (first
    | with_reducible assumption | (show List.length _ = 2 → List.length _ = 2; intro hi; simp_all [mapIf]; done) | with_reducible intro _
    | with_reducible apply keeps_each | with_reducible apply keeps_ite | with_reducible apply keeps_fillSeq | with_reducible apply keeps_dropJob
    | with_reducible apply keeps_dropPublish | with_reducible apply keeps_modPart | with_reducible apply keeps_unreserveLeaf
    | with_reducible apply keeps_modJrn | with_reducible apply keeps_release | with_reducible apply keeps_reap | dsimp only | split)

theorem keeps_clearRounds {lv : Bool} {z0 s : State} (hk : Keeps lv z0 s) (mine : Collective → Bool) : Keeps lv z0 (State.clearRounds s mine) := by
  unfold State.clearRounds
  repeat' (first
    | with_reducible assumption | with_reducible intro _ | with_reducible apply keeps_each | with_reducible apply keeps_ite
    | with_reducible apply keeps_unreserveLeaf | with_reducible apply keeps_putSeg)

theorem keeps_endUnaccepted {lv : Bool} {z0 s : State} (hk : Keeps lv z0 s) (mine : Req → Bool) (st : Status) (answer : Bool) : Keeps lv z0
    (State.endUnaccepted s mine st answer) := by
  unfold State.endUnaccepted
  repeat' (first
    | with_reducible assumption | with_reducible intro _ | with_reducible apply keeps_each | with_reducible apply keeps_ite
    | with_reducible apply keeps_endRequest | with_reducible apply keeps_abandonReq | split)

theorem keeps_enterFence {lv : Bool} {z0 s : State} (hk : Keeps lv z0 s) (f : Nat) (hf4 : f ≤ 4) : Keeps lv z0 (State.enterFence s f) := by
  unfold State.enterFence
  repeat' (first
    | with_reducible assumption | (show ∀ h : Journal, _ → _; exact fun _ => id) | with_reducible intro _ | with_reducible apply keeps_each
    | with_reducible apply keeps_ite | with_reducible apply keeps_modHlt | with_reducible apply keeps_modJrn
    | with_reducible apply keeps_clearRounds | with_reducible apply keeps_endUnaccepted | with_reducible apply keeps_freeColl
    | with_reducible apply keeps_finalMarks | with_reducible apply keeps_closeBatches | with_reducible apply keeps_pump
    | with_reducible apply keeps_event)

theorem keeps_unfence {lv : Bool} {z0 s : State} (hk : Keeps lv z0 s) : Keeps lv z0 (State.unfence s) := by
  unfold State.unfence
  repeat' (first
    | with_reducible assumption | with_reducible intro _ | with_reducible apply keeps_each | with_reducible apply keeps_modHlt
    | with_reducible apply keeps_event | with_reducible apply keeps_pfPump | dsimp only | (show _ ≤ 4; first | assumption | decide))

theorem keeps_quorumCheck {lv : Bool} {z0 s : State} (hk : Keeps lv z0 s) : Keeps lv z0 (State.quorumCheck s) := by
  unfold State.quorumCheck
  repeat' (first
    | with_reducible assumption | with_reducible apply keeps_ite | with_reducible apply keeps_enterFence | with_reducible apply keeps_unfence
    | (show _ ≤ 4; first | assumption | decide))

theorem keeps_holdTimeout {lv : Bool} {z0 s : State} (hk : Keeps lv z0 s) : Keeps lv z0 (State.holdTimeout s) := by
  unfold State.holdTimeout
  repeat' (first
    | with_reducible assumption | with_reducible apply keeps_ite | with_reducible apply keeps_enterFence | split
    | (show _ ≤ 4; first | assumption | decide))

theorem keeps_clearCluster {lv : Bool} {z0 s : State} (hk : Keeps lv z0 s) (c : Nat) : Keeps lv z0 (State.clearCluster s c) := by
  unfold State.clearCluster
  repeat' (first
    | with_reducible assumption | with_reducible intro _ | with_reducible apply keeps_each | with_reducible apply keeps_writeBack
    | with_reducible apply keeps_cohDrop | with_reducible apply keeps_modCluster)

theorem keeps_assignCluster {lv : Bool} {z0 s : State} (hk : Keeps lv z0 s) (c : Nat) (part : Option Nat) (split : Option Nat) : Keeps lv z0
    (State.assignCluster s c part split) := by
  unfold State.assignCluster
  repeat' (first
    | with_reducible assumption | with_reducible apply keeps_clearCluster | with_reducible apply keeps_modCluster
    | with_reducible apply keeps_modTabs | with_reducible apply keeps_event | dsimp only | (with_reducible apply keeps_raw))

theorem keeps_leaveProceed {lv : Bool} {z0 s : State} (hk : Keeps lv z0 s) (c : Nat) : Keeps lv z0 (State.leaveProceed s c) := by
  unfold State.leaveProceed
  repeat' (first
    | with_reducible assumption | with_reducible apply keeps_ite | with_reducible apply keeps_assignCluster | with_reducible apply keeps_unwait
    | split)

theorem keeps_setPart {lv : Bool} {z0 s : State} (hk : Keeps lv z0 s) (part : Nat) (st : PartState) : Keeps lv z0 (State.setPart s part st) := by
  unfold State.setPart
  repeat' (first | with_reducible assumption | (show ∀ h : Health, _ → _; exact fun _ => id) | with_reducible apply keeps_modHlt)

theorem keeps_expelCluster {lv : Bool} {z0 s : State} (hk : Keeps lv z0 s) (c : Nat) : Keeps lv z0 (State.expelCluster s c) := by
  unfold State.expelCluster
  repeat' (first
    | with_reducible assumption | with_reducible intro _ | with_reducible apply keeps_each | with_reducible apply keeps_ite
    | with_reducible apply keeps_clusterStop | with_reducible apply keeps_assignCluster | with_reducible apply keeps_unwait
    | with_reducible apply keeps_setPart | with_reducible apply keeps_event | with_reducible apply keeps_cloveLog
    | with_reducible apply keeps_rebind | dsimp only | split)

theorem keeps_expelPort {lv : Bool} {z0 s : State} (hk : Keeps lv z0 s) (p : Nat) : Keeps lv z0 (State.expelPort s p) := by
  unfold State.expelPort
  repeat' (first | with_reducible assumption | dsimp only | (with_reducible apply keeps_raw))

theorem keeps_markExpelled {lv : Bool} {z0 s : State} (hk : Keeps lv z0 s) (part : Nat) (counted : Bool) : Keeps lv z0 (State.markExpelled s part
    counted) := by
  unfold State.markExpelled
  repeat' (first
    | with_reducible assumption | (show ∀ h : Health, _ → _; exact fun _ => id) | with_reducible apply keeps_ite
    | with_reducible apply keeps_setPart | with_reducible apply keeps_modHlt | with_reducible apply keeps_event
    | with_reducible apply keeps_cloveLog)

theorem keeps_expelOne {lv : Bool} {z0 s : State} (hk : Keeps lv z0 s) (counted : Bool) (part : Nat) : Keeps lv z0 (State.expelOne s counted part) :=
    by
  unfold State.expelOne
  repeat' (first
    | with_reducible assumption | (show ∀ h : Health, _ → _; exact fun _ => id) | with_reducible apply keeps_ite
    | with_reducible apply keeps_markExpelled | with_reducible apply keeps_expelCluster | with_reducible apply keeps_expelPort
    | with_reducible apply keeps_modHlt | with_reducible apply keeps_enterFence | dsimp only | split | (show _ ≤ 4; first | assumption | decide))

theorem keeps_expel {lv : Bool} {z0 s : State} (hk : Keeps lv z0 s) (counted : Bool) (part : Nat) : Keeps lv z0 (State.expel s counted part) := by
  unfold State.expel
  repeat' (first
    | with_reducible assumption | with_reducible intro _ | with_reducible apply keeps_each | with_reducible apply keeps_ite
    | with_reducible apply keeps_expelOne | dsimp only | split)

theorem keeps_hardFailure {lv : Bool} {z0 s : State} (hk : Keeps lv z0 s) (part : Nat) : Keeps lv z0 (State.hardFailure s part) := by
  unfold State.hardFailure
  repeat' (first | with_reducible assumption | with_reducible apply keeps_expel)

theorem keeps_setThreshold {lv : Bool} {z0 s : State} (hk : Keeps lv z0 s) (kind : Nat) (new : Nat) (cause : Nat) : Keeps lv z0 (State.setThreshold s
    kind new cause) := by
  unfold State.setThreshold
  repeat' (first
    | with_reducible assumption | (show ∀ h : Health, _ → _; exact fun _ => id) | with_reducible apply keeps_ite | with_reducible apply keeps_modHlt
    | with_reducible apply keeps_cloveLog)

theorem keeps_enterSuspect {lv : Bool} {z0 s : State} (hk : Keeps lv z0 s) (part : Nat) : Keeps lv z0 (State.enterSuspect s part) := by
  unfold State.enterSuspect
  repeat' (first
    | with_reducible assumption | (show ∀ h : Health, _ → _; exact fun _ => id) | with_reducible apply keeps_setPart
    | with_reducible apply keeps_modHlt | with_reducible apply keeps_event | with_reducible apply keeps_cloveLog
    | with_reducible apply keeps_setThreshold)

theorem keeps_leaveSuspect {lv : Bool} {z0 s : State} (hk : Keeps lv z0 s) (part : Nat) : Keeps lv z0 (State.leaveSuspect s part) := by
  unfold State.leaveSuspect
  repeat' (first
    | with_reducible assumption | with_reducible apply keeps_setPart | with_reducible apply keeps_event | with_reducible apply keeps_cloveLog)

theorem keeps_judgePart {lv : Bool} {z0 s : State} (hk : Keeps lv z0 s) (part : Nat) : Keeps lv z0 (State.judgePart s part) := by
  unfold State.judgePart
  repeat' (first
    | with_reducible assumption | (show ∀ h : Health, _ → _; exact fun _ => id) | with_reducible apply keeps_ite | with_reducible apply keeps_modHlt
    | with_reducible apply keeps_expel | with_reducible apply keeps_enterSuspect | with_reducible apply keeps_leaveSuspect | dsimp only | split)

theorem keeps_expelUnchecked {lv : Bool} {z0 s : State} (hk : Keeps lv z0 s) : Keeps lv z0 (State.expelUnchecked s) := by
  unfold State.expelUnchecked
  repeat' (first
    | with_reducible assumption | with_reducible intro _ | with_reducible apply keeps_each | with_reducible apply keeps_ite
    | with_reducible apply keeps_expel)

theorem keeps_healthTick {lv : Bool} {z0 s : State} (hk : Keeps lv z0 s) : Keeps lv z0 (State.healthTick s) := by
  unfold State.healthTick
  repeat' (first
    | with_reducible assumption | (show ∀ h : Health, _ → _; exact fun _ => id) | with_reducible intro _ | with_reducible apply keeps_each
    | with_reducible apply keeps_modHlt | with_reducible apply keeps_judgePart | with_reducible apply keeps_expelUnchecked)

theorem keeps_budgetRoom {lv : Bool} {z0 s : State} (hk : Keeps lv z0 s) : Keeps lv z0 (State.budgetRoom s) := by
  unfold State.budgetRoom
  repeat' (first | with_reducible assumption | with_reducible apply keeps_ite | with_reducible apply keeps_expel | split)

theorem keeps_lowerThreshold {lv : Bool} {z0 s : State} (hk : Keeps lv z0 s) (kind : Nat) : Keeps lv z0 (State.lowerThreshold s kind) := by
  unfold State.lowerThreshold
  repeat' (first
    | with_reducible assumption | (show ∀ h : Health, _ → _; exact fun _ => id) | with_reducible apply keeps_ite | with_reducible apply keeps_modHlt
    | with_reducible apply keeps_setThreshold)

theorem keeps_execHealthScoreTick {z0 s : State} (hk : Keeps false z0 s) (t : Nat) : KeepsX z0 (execHealthScoreTick t s) := by
  unfold execHealthScoreTick
  repeat' (first
    | with_reducible assumption | with_reducible apply keepsX_next | with_reducible apply keeps_healthTick | with_reducible apply keeps_at)

theorem keeps_execExpelBudgetRoom {z0 s : State} (hk : Keeps false z0 s) (t : Nat) : KeepsX z0 (execExpelBudgetRoom t s) := by
  unfold execExpelBudgetRoom
  repeat' (first
    | with_reducible assumption | with_reducible apply keepsX_next | with_reducible apply keeps_budgetRoom | with_reducible apply keeps_at)

theorem keeps_execExpelThresholdLower {z0 s : State} (hk : Keeps false z0 s) (t : Nat) (kind : Nat) : KeepsX z0 (execExpelThresholdLower t kind s) :=
    by
  unfold execExpelThresholdLower
  repeat' (first
    | with_reducible assumption | with_reducible apply keepsX_fault | with_reducible apply keepsX_next | with_reducible apply keeps_lowerThreshold
    | with_reducible apply keeps_at | split)

theorem keeps_execWitnessExpiry {z0 s : State} (hk : Keeps false z0 s) (t : Nat) : KeepsX z0 (execWitnessExpiry t s) := by
  unfold execWitnessExpiry
  repeat' (first
    | with_reducible assumption | with_reducible apply keepsX_next | with_reducible apply keeps_quorumCheck | with_reducible apply keeps_at)

theorem keeps_execSoloHoldTimeout {z0 s : State} (hk : Keeps false z0 s) (t : Nat) : KeepsX z0 (execSoloHoldTimeout t s) := by
  unfold execSoloHoldTimeout
  repeat' (first
    | with_reducible assumption | with_reducible apply keepsX_next | with_reducible apply keeps_holdTimeout | with_reducible apply keeps_at)

theorem keeps_execClusterLeaveProceed {z0 s : State} (hk : Keeps false z0 s) (t : Nat) (c : Nat) : KeepsX z0 (execClusterLeaveProceed t c s) := by
  unfold execClusterLeaveProceed
  repeat' (first
    | with_reducible assumption | with_reducible apply keepsX_fault | with_reducible apply keepsX_next | with_reducible apply keeps_leaveProceed
    | with_reducible apply keeps_at | split)

/-! Partitions -/

theorem keeps_trayLost {lv : Bool} {z0 s : State} (hk : Keeps lv z0 s) (o : OutFrame) : Keeps lv z0 (State.trayLost s o) := by
  unfold State.trayLost
  repeat' (first | with_reducible assumption | with_reducible apply keeps_eventLimited | split)

theorem keeps_landed {lv : Bool} {z0 s : State} (hk : Keeps lv z0 s) (o : OutFrame) (w : Nat) (i : Nat) : Keeps lv z0 (State.landed s o w i) := by
  unfold State.landed
  repeat' (first
    | with_reducible assumption | with_reducible apply keeps_ite | with_reducible apply keeps_dropOut | with_reducible apply keeps_modEntry)

theorem keeps_extentGone {lv : Bool} {z0 s : State} (hk : Keeps lv z0 s) (e : Extent) : Keeps lv z0 (State.extentGone s e) := by
  unfold State.extentGone
  repeat' (first
    | with_reducible assumption | with_reducible intro _ | with_reducible apply keeps_each | with_reducible apply keeps_ite
    | with_reducible apply keeps_trayLost | with_reducible apply keeps_landed | split)

theorem keeps_dropSectors {lv : Bool} {z0 s : State} (hk : Keeps lv z0 s) (e : Extent) : Keeps lv z0 (State.dropSectors s e) := by
  unfold State.dropSectors
  repeat' (first | with_reducible assumption | (show ∀ h : MemSys, _ → _; exact fun _ => id) | with_reducible apply keeps_modMem)

theorem keeps_generateKey {lv : Bool} {z0 s : State} (hk : Keeps lv z0 s) (p : Nat) : Keeps lv z0 (State.generateKey s p) := by
  unfold State.generateKey
  repeat' (first
    | with_reducible assumption | with_reducible apply keeps_draw | with_reducible apply keeps_modPart | dsimp only
    | (with_reducible apply keeps_raw))

theorem keeps_eraseKey {lv : Bool} {z0 s : State} (hk : Keeps lv z0 s) (p : Nat) : Keeps lv z0 (State.eraseKey s p) := by
  unfold State.eraseKey
  repeat' (first | with_reducible assumption | with_reducible apply keeps_modPart)

theorem keeps_activatePart {lv : Bool} {z0 s : State} (hk : Keeps lv z0 s) (p : Nat) : Keeps lv z0 (State.activatePart s p) := by
  unfold State.activatePart
  repeat' (first | with_reducible assumption | with_reducible apply keeps_modPart)

theorem keeps_endConsent {lv : Bool} {z0 s : State} (hk : Keeps lv z0 s) (p : Nat) (reason : Nat) : Keeps lv z0 (State.endConsent s p reason) := by
  unfold State.endConsent
  repeat' (first
    | with_reducible assumption | with_reducible apply keeps_modPart | with_reducible apply keeps_event | with_reducible apply keeps_extendChain
    | dsimp only | split)

theorem keeps_scrubFrame {lv : Bool} {z0 s : State} (hk : Keeps lv z0 s) (p : Nat) (key : Bytes) (e : Extent) (o : Nat) (n : Nat) : Keeps lv z0
    (State.scrubFrame s p key e o n) := by
  unfold State.scrubFrame
  repeat' (first | with_reducible assumption | with_reducible apply keeps_takeSeq | with_reducible apply keeps_originate)

theorem keeps_scrubPump {lv : Bool} {z0 : State} (p : Nat) : ∀ (n : Nat) {s : State}, Keeps lv z0 s → Keeps lv z0 (State.scrubPump p n  s) := by
  intro n
  induction n with
  | zero => intro  s hk; exact hk
  | succ n ih => 
    intro  s hk
    unfold State.scrubPump
    repeat' (first
    | with_reducible assumption | with_reducible apply ih | with_reducible apply keeps_ite | with_reducible apply keeps_scrubFrame
    | with_reducible apply keeps_modPart | dsimp only | split)

theorem keeps_beginScrub {lv : Bool} {z0 s : State} (hk : Keeps lv z0 s) (p : Nat) (near : List (Nat × Nat)) (far : List Extent) (whole : Bool) :
    Keeps lv z0 (State.beginScrub s p near far whole) := by
  unfold State.beginScrub
  repeat' (first
    | with_reducible assumption | with_reducible apply keeps_modPart | with_reducible apply keeps_draw | with_reducible apply keeps_scrubPump
    | dsimp only | split)

theorem keeps_scrubComplete {lv : Bool} {z0 s : State} (hk : Keeps lv z0 s) (p : Nat) : Keeps lv z0 (State.scrubComplete s p) := by
  unfold State.scrubComplete
  repeat' (first
    | with_reducible assumption | with_reducible intro _ | with_reducible apply keeps_ite | with_reducible apply keeps_modMem
    | with_reducible apply keeps_modPart | with_reducible apply keeps_event | dsimp only | split
    | (show memWf (List.filter _ _) = true; exact memWf_filter _ _ (by assumption)))

theorem keeps_scrubLost {lv : Bool} {z0 s : State} (hk : Keeps lv z0 s) (o : OutFrame) (p : Nat) : Keeps lv z0 (State.scrubLost s o p) := by
  unfold State.scrubLost
  repeat' (first | with_reducible assumption | with_reducible apply keeps_eventLimited | split)

theorem keeps_scrubResume {lv : Bool} {z0 s : State} (hk : Keeps lv z0 s) (p : Nat) : Keeps lv z0 (State.scrubResume s p) := by
  unfold State.scrubResume
  repeat' (first | with_reducible assumption | with_reducible apply keeps_draw | with_reducible apply keeps_modPart | dsimp only | split)

theorem keeps_teardown {lv : Bool} {z0 s : State} (hk : Keeps lv z0 s) (p : Nat) : Keeps lv z0 (State.teardown s p) := by
  unfold State.teardown
  repeat' (first
    | with_reducible assumption | (show ∀ h : Journal, _ → _; exact fun _ => id) | with_reducible intro _ | with_reducible apply keeps_each
    | with_reducible apply keeps_ite | with_reducible apply keeps_modPart | with_reducible apply keeps_endConsent
    | with_reducible apply keeps_clearRounds | with_reducible apply keeps_endUnaccepted | with_reducible apply keeps_freeColl
    | with_reducible apply keeps_abandonChan | with_reducible apply keeps_unbindChan | with_reducible apply keeps_modSchedule
    | with_reducible apply keeps_dropPins | with_reducible apply keeps_closeBatch | with_reducible apply keeps_modJrn)

theorem keeps_removeTables {lv : Bool} {z0 s : State} (hk : Keeps lv z0 s) (p : Nat) : Keeps lv z0 (State.removeTables s p) := by
  unfold State.removeTables
  repeat' (first
    | with_reducible assumption | with_reducible intro _ | with_reducible apply keeps_each | with_reducible apply keeps_event
    | with_reducible apply keeps_extentGone | with_reducible apply keeps_dropSectors | with_reducible apply keeps_modTabs
    | with_reducible apply keeps_freeLeaving | with_reducible apply keeps_unwait | with_reducible apply keeps_assignCluster)

theorem keeps_teardownGo {lv : Bool} {z0 s : State} (hk : Keeps lv z0 s) (p : Nat) : Keeps lv z0 (State.teardownGo s p) := by
  unfold State.teardownGo
  repeat' (first
    | with_reducible assumption | (show ∀ h : MemSys, _ → _; exact fun _ => id) | with_reducible apply keeps_ite
    | with_reducible apply keeps_removeTables | with_reducible apply keeps_eraseKey | with_reducible apply keeps_modPart
    | with_reducible apply keeps_modMem | with_reducible apply keeps_event | with_reducible apply keeps_beginScrub
    | with_reducible apply keeps_unwait)

theorem keeps_teardownsGo {lv : Bool} {z0 s : State} (hk : Keeps lv z0 s) : Keeps lv z0 (State.teardownsGo s) := by
  unfold State.teardownsGo
  repeat' (first | with_reducible assumption | with_reducible intro _ | with_reducible apply keeps_each | with_reducible apply keeps_teardownGo)

/-! Responses -/

theorem keeps_stir {lv : Bool} {z0 s : State} (hk : Keeps lv z0 s) : Keeps lv z0 (State.stir s) := by
  unfold State.stir
  repeat' (first
    | with_reducible assumption | with_reducible intro _ | with_reducible apply keeps_each | with_reducible apply keeps_wake
    | with_reducible apply keeps_opFeed | with_reducible apply keeps_roundsGo | with_reducible apply keeps_pump)

theorem keeps_reqGo {lv : Bool} {z0 s : State} (hk : Keeps lv z0 s) (id : Nat) : Keeps lv z0 (State.reqGo s id) := by
  unfold State.reqGo
  repeat' (first
    | with_reducible assumption | with_reducible apply keeps_ite | with_reducible apply keeps_publishStep | with_reducible apply keeps_modReq
    | with_reducible apply keeps_roundGo | with_reducible apply keeps_opAdvance | with_reducible apply keeps_finish
    | with_reducible apply keeps_mcastCheck | with_reducible apply keeps_setupGo | dsimp only | split)

theorem keeps_endOf {lv : Bool} {z0 s : State} (hk : Keeps lv z0 s) (id : Nat) (st : Status) : Keeps lv z0 (State.endOf s id st) := by
  unfold State.endOf
  repeat' (first
    | with_reducible assumption | with_reducible intro _ | with_reducible apply keeps_each | with_reducible apply keeps_fillSeq
    | with_reducible apply keeps_dropRound | with_reducible apply keeps_refuse | with_reducible apply keeps_endRequest | dsimp only | split)

theorem keeps_again {lv : Bool} {z0 s : State} (hk : Keeps lv z0 s) (o : OutFrame) : Keeps lv z0 (State.again s o) := by
  unfold State.again
  repeat' (first | with_reducible assumption | with_reducible apply keeps_modOut)

theorem keeps_trayAck {lv : Bool} {z0 s : State} (hk : Keeps lv z0 s) (o : OutFrame) (id : Nat) (payload : Bytes) : Keeps lv z0 (State.trayAck s o id
    payload) := by
  unfold State.trayAck
  repeat' (first
    | with_reducible assumption | with_reducible apply keeps_ite | with_reducible apply keeps_dropOut | with_reducible apply keeps_reqGo
    | with_reducible apply keeps_modReq | with_reducible apply keeps_farLoad | with_reducible apply keeps_farAtomicLine
    | with_reducible apply keeps_updateSector | with_reducible apply keeps_reqTray | dsimp only | split)

theorem keeps_sectorRefused {lv : Bool} {z0 s : State} (hk : Keeps lv z0 s) (tray : Nat) (st : Status) : Keeps lv z0 (State.sectorRefused s tray st)
    := by
  unfold State.sectorRefused
  repeat' (first
    | with_reducible assumption | with_reducible intro _ | with_reducible apply keeps_each | with_reducible apply keeps_endOf
    | with_reducible apply keeps_sectorLost)

theorem keeps_landingMerge {lv : Bool} {z0 s : State} (hk : Keeps lv z0 s) (o : OutFrame) (line : Nat) (w : Nat) (i : Nat) (payload : Bytes) : Keeps
    lv z0 (State.landingMerge s o line w i payload) := by
  unfold State.landingMerge
  repeat' (first
    | with_reducible assumption | with_reducible apply keeps_dropOut | with_reducible apply keeps_updateSector | with_reducible apply keeps_sendTray
    | dsimp only | split)

theorem keeps_landingRefill {lv : Bool} {z0 s : State} (hk : Keeps lv z0 s) (o : OutFrame) : Keeps lv z0 (State.landingRefill s o) := by
  unfold State.landingRefill
  repeat' (first
    | with_reducible assumption | with_reducible apply keeps_fillSeq | with_reducible apply keeps_takeSeq | with_reducible apply keeps_originate)

theorem keeps_landingResend {lv : Bool} {z0 s : State} (hk : Keeps lv z0 s) (o : OutFrame) : Keeps lv z0 (State.landingResend s o) := by
  unfold State.landingResend
  repeat' (first
    | with_reducible assumption | with_reducible apply keeps_ite | with_reducible apply keeps_landingRefill | with_reducible apply keeps_resend)

theorem keeps_scrubResend {lv : Bool} {z0 s : State} (hk : Keeps lv z0 s) (o : OutFrame) : Keeps lv z0 (State.scrubResend s o) := by
  unfold State.scrubResend
  repeat' (first
    | with_reducible assumption | with_reducible apply keeps_ite | with_reducible apply keeps_landingRefill | with_reducible apply keeps_resend)

theorem keeps_keyAck {lv : Bool} {z0 s : State} (hk : Keeps lv z0 s) (p : Nat) : Keeps lv z0 (State.keyAck s p) := by
  unfold State.keyAck
  repeat' (first | with_reducible assumption | with_reducible apply keeps_modPart | with_reducible apply keeps_unwait | dsimp only | split)

theorem keeps_declareLost {lv : Bool} {z0 s : State} (hk : Keeps lv z0 s) : Keeps lv z0 (State.declareLost s) := by
  unfold State.declareLost
  repeat' (first
    | with_reducible assumption | (show ∀ h : Health, _ → _; exact fun _ => id) | (show ∀ h : Journal, _ → _; exact fun _ => id)
    | with_reducible apply keeps_ite | with_reducible apply keeps_event | with_reducible apply keeps_modHlt | with_reducible apply keeps_modJrn
    | with_reducible apply keeps_enterFence | (show _ ≤ 4; first | assumption | decide))

theorem keeps_mirrorFail {lv : Bool} {z0 s : State} (hk : Keeps lv z0 s) (o : OutFrame) : Keeps lv z0 (State.mirrorFail s o) := by
  unfold State.mirrorFail
  repeat' (first
    | with_reducible assumption | with_reducible apply keeps_ite | with_reducible apply keeps_resend | with_reducible apply keeps_declareLost)

theorem keeps_without {lv : Bool} {z0 s : State} (hk : Keeps lv z0 s) (o : OutFrame) : Keeps lv z0 (State.without s o) := by
  unfold State.without
  repeat' (first
    | with_reducible assumption | with_reducible apply keeps_dropOut | with_reducible apply keeps_reqGo | with_reducible apply keeps_landed
    | with_reducible apply keeps_pump | with_reducible apply keeps_homeAck | split)

theorem keeps_enterSolo {lv : Bool} {z0 s : State} (hk : Keeps lv z0 s) : Keeps lv z0 (State.enterSolo s) := by
  unfold State.enterSolo
  repeat' (first
    | with_reducible assumption | (show List.length _ = 2 → List.length _ = 2; intro hi; simp_all [mapIf]; done) | with_reducible intro _
    | with_reducible apply keeps_each | with_reducible apply keeps_modJrn | with_reducible apply keeps_event | with_reducible apply keeps_without
    | with_reducible apply keeps_stir)

theorem keeps_soloCheck {lv : Bool} {z0 s : State} (hk : Keeps lv z0 s) : Keeps lv z0 (State.soloCheck s) := by
  unfold State.soloCheck
  repeat' (first | with_reducible assumption | with_reducible apply keeps_ite | with_reducible apply keeps_enterSolo | dsimp only | split)

theorem keeps_drained {lv : Bool} {z0 s : State} (hk : Keeps lv z0 s) : Keeps lv z0 (State.drained s) := by
  unfold State.drained
  repeat' (first
    | with_reducible assumption | (show ∀ h : Journal, _ → _; exact fun _ => id) | with_reducible apply keeps_ite
    | with_reducible apply keeps_modJrn | with_reducible apply keeps_event)

theorem keeps_mirrorAck {lv : Bool} {z0 s : State} (hk : Keeps lv z0 s) (o : OutFrame) (w : Nat) (i : Nat) : Keeps lv z0 (State.mirrorAck s o w i) :=
    by
  unfold State.mirrorAck
  repeat' (first
    | with_reducible assumption | (show ∀ h : Journal, _ → _; exact fun _ => id) | with_reducible apply keeps_dropOut
    | with_reducible apply keeps_contactPartner | with_reducible apply keeps_modEntry | with_reducible apply keeps_modJrn
    | with_reducible apply keeps_drained | with_reducible apply keeps_roundsGo)

theorem keeps_crossAck {lv : Bool} {z0 s : State} (hk : Keeps lv z0 s) (o : OutFrame) (id : Nat) (payload : Bytes) : Keeps lv z0 (State.crossAck s o
    id payload) := by
  unfold State.crossAck
  repeat' (first
    | with_reducible assumption | (show List.length _ = 32 → List.length _ = 32; intro hi; simp_all [mapIf]; done) | with_reducible intro _
    | with_reducible apply keeps_ite | with_reducible apply keeps_dropOut | with_reducible apply keeps_modJob | with_reducible apply keeps_modReq
    | with_reducible apply keeps_opWrite | with_reducible apply keeps_event | with_reducible apply keeps_endRequest
    | with_reducible apply keeps_modEng | with_reducible apply keeps_hardFailure | dsimp only | split)

theorem keeps_onAck {lv : Bool} {z0 s : State} (hk : Keeps lv z0 s) (o : OutFrame) (st : Status) (payload : Bytes) : Keeps lv z0 (State.onAck s o st
    payload) := by
  unfold State.onAck
  repeat' (first
    | with_reducible assumption | (show ∀ h : MemSys, _ → _; exact fun _ => id) | with_reducible apply keeps_ite
    | with_reducible apply keeps_mirrorAck | with_reducible apply keeps_trayAck | with_reducible apply keeps_without
    | with_reducible apply keeps_dropOut | with_reducible apply keeps_mcastCheck | with_reducible apply keeps_operandAck
    | with_reducible apply keeps_setupGo | with_reducible apply keeps_crossAck | with_reducible apply keeps_partialAck
    | with_reducible apply keeps_moverAck | with_reducible apply keeps_pfAck | with_reducible apply keeps_sectorArrived
    | with_reducible apply keeps_landingMerge | with_reducible apply keeps_landed | with_reducible apply keeps_resyncGo
    | with_reducible apply keeps_homeAck | with_reducible apply keeps_modMem | with_reducible apply keeps_scrubPump
    | with_reducible apply keeps_keyAck | dsimp only | split)

theorem keeps_frameRefused {lv : Bool} {z0 s : State} (hk : Keeps lv z0 s) (o : OutFrame) (st : Status) (settled : Bool) (ends : State → State) (hends
    : ∀ y0, Keeps lv z0 y0 → Keeps lv z0 (ends y0)) : Keeps lv z0 (State.frameRefused s o st settled ends) := by
  unfold State.frameRefused
  repeat' (first
    | with_reducible assumption | with_reducible apply keeps_ite | with_reducible apply keeps_dropOut | with_reducible apply keeps_again
    | apply hends)

theorem keeps_relayRefused {lv : Bool} {z0 s : State} (hk : Keeps lv z0 s) (o : OutFrame) (id : Nat) (k : Nat) (st : Status) (settled : Bool) : Keeps
    lv z0 (State.relayRefused s o id k st settled) := by
  unfold State.relayRefused
  repeat' (first
    | with_reducible assumption | with_reducible apply keeps_ite | with_reducible apply keeps_dropOut | with_reducible apply keeps_modReq
    | with_reducible apply keeps_mcastCheck | with_reducible apply keeps_fillSeq | with_reducible apply keeps_again)

theorem keeps_onNack {lv : Bool} {z0 s : State} (hk : Keeps lv z0 s) (o : OutFrame) (st : Status) (settled : Bool) : Keeps lv z0 (State.onNack s o st
    settled) := by
  unfold State.onNack
  repeat' (first
    | with_reducible assumption | with_reducible intro _ | with_reducible apply keeps_ite | with_reducible apply keeps_mirrorFail
    | with_reducible apply keeps_frameRefused | with_reducible apply keeps_trayLost | with_reducible apply keeps_endOf
    | with_reducible apply keeps_relayRefused | with_reducible apply keeps_operandRefused | with_reducible apply keeps_dropOut
    | with_reducible apply keeps_endRequest | with_reducible apply keeps_partialNack | with_reducible apply keeps_moverNack
    | with_reducible apply keeps_pfLost | with_reducible apply keeps_sectorRefused | with_reducible apply keeps_fillSeq
    | with_reducible apply keeps_again | with_reducible apply keeps_homeLost | with_reducible apply keeps_scrubLost | dsimp only | split)

theorem keeps_onResponse {lv : Bool} {z0 s : State} (hk : Keeps lv z0 s) (d : Delivered) : Keeps lv z0 (State.onResponse s d) := by
  unfold State.onResponse
  repeat' (first
    | with_reducible assumption | with_reducible apply keeps_ite | with_reducible apply keeps_count | with_reducible apply keeps_onAck
    | with_reducible apply keeps_onNack | with_reducible apply keeps_stir | dsimp only | split)

theorem keeps_resendDue {lv : Bool} {z0 s : State} (hk : Keeps lv z0 s) (o : OutFrame) : Keeps lv z0 (State.resendDue s o) := by
  unfold State.resendDue
  repeat' (first
    | with_reducible assumption | with_reducible apply keeps_ite | with_reducible apply keeps_landingResend | with_reducible apply keeps_scrubResend
    | with_reducible apply keeps_resend | split)

theorem keeps_unanswered {lv : Bool} {z0 s : State} (hk : Keeps lv z0 s) (o : OutFrame) : Keeps lv z0 (State.unanswered s o) := by
  unfold State.unanswered
  repeat' (first
    | with_reducible assumption | with_reducible apply keeps_ite | with_reducible apply keeps_mirrorFail | with_reducible apply keeps_resend
    | with_reducible apply keeps_trayLost | with_reducible apply keeps_landingResend | with_reducible apply keeps_scrubLost
    | with_reducible apply keeps_scrubResend | split)

theorem keeps_requestOld {lv : Bool} {z0 s : State} (hk : Keeps lv z0 s) (id : Nat) : Keeps lv z0 (State.requestOld s id) := by
  unfold State.requestOld
  repeat' (first
    | with_reducible assumption | with_reducible intro _ | with_reducible apply keeps_each | with_reducible apply keeps_ite
    | with_reducible apply keeps_trayLost | with_reducible apply keeps_opLost | with_reducible apply keeps_endOf | dsimp only | split)

theorem keeps_execFrameResendTimer {z0 s : State} (hk : Keeps false z0 s) (t : Nat) (n : BitVec 16) (st : BitVec 8) (q : BitVec 32) : KeepsX z0
    (execFrameResendTimer t n st q s) := by
  unfold execFrameResendTimer
  repeat' (first
    | with_reducible assumption | with_reducible apply keepsX_next | with_reducible apply keeps_resendDue | with_reducible apply keeps_at | split)

theorem keeps_execFrameUnanswered {z0 s : State} (hk : Keeps false z0 s) (t : Nat) (n : BitVec 16) (st : BitVec 8) (q : BitVec 32) : KeepsX z0
    (execFrameUnanswered t n st q s) := by
  unfold execFrameUnanswered
  repeat' (first
    | with_reducible assumption | with_reducible apply keepsX_next | with_reducible apply keeps_unanswered | with_reducible apply keeps_at | split)

theorem keeps_execRequestAgeLimit {z0 s : State} (hk : Keeps false z0 s) (t : Nat) (req : Nat) : KeepsX z0 (execRequestAgeLimit t req s) := by
  unfold execRequestAgeLimit
  repeat' (first
    | with_reducible assumption | with_reducible apply keepsX_next | with_reducible apply keeps_requestOld | with_reducible apply keeps_at)

theorem keeps_execLandingWriteRefill {z0 s : State} (hk : Keeps false z0 s) (t : Nat) (n : BitVec 16) (st : BitVec 8) (q : BitVec 32) : KeepsX z0
    (execLandingWriteRefill t n st q s) := by
  unfold execLandingWriteRefill
  repeat' (first
    | with_reducible assumption | with_reducible apply keeps_ite | with_reducible apply keepsX_next | with_reducible apply keeps_landingRefill
    | with_reducible apply keeps_at | split)

/-! Journal -/

theorem keeps_runOffer {lv : Bool} {z0 s : State} (hk : Keeps lv z0 s) (id : Nat) : Keeps lv z0 (State.runOffer s id) := by
  unfold State.runOffer
  repeat' (first
    | with_reducible assumption | (show List.length _ = 2 → List.length _ = 2; intro hi; simp_all [mapIf]; done) | with_reducible intro _
    | with_reducible apply keeps_ite | with_reducible apply keeps_refuse | with_reducible apply keeps_modJrn | with_reducible apply keeps_modReq
    | with_reducible apply keeps_journal | with_reducible apply keeps_finish | dsimp only | split)

theorem keeps_runTake {lv : Bool} {z0 s : State} (hk : Keeps lv z0 s) (id : Nat) : Keeps lv z0 (State.runTake s id) := by
  unfold State.runTake
  repeat' (first
    | with_reducible assumption | with_reducible apply keeps_ite | with_reducible apply keeps_refuse | with_reducible apply keeps_modReq
    | with_reducible apply keeps_journal | with_reducible apply keeps_finish | dsimp only | split)

theorem keeps_opHand {lv : Bool} {z0 s : State} (hk : Keeps lv z0 s) (run : State → Nat → State) (d : Delivered) (hrun : ∀ y0 y1, Keeps lv z0 y0 →
    Keeps lv z0 (run y0 y1)) : Keeps lv z0 (State.opHand run s d) := by
  unfold State.opHand
  repeat' (first
    | with_reducible assumption | with_reducible apply keeps_present | with_reducible apply keeps_answerDup | apply hrun | dsimp only | split
    | (apply keepsC_done; with_reducible assumption) | (apply keepsC_dup; with_reducible assumption) | (apply keepsC_go; with_reducible assumption))

theorem keeps_orphanHold {lv : Bool} {z0 s : State} (hk : Keeps lv z0 s) (i : BitVec 32) : Keeps lv z0 (State.orphanHold s i) := by
  unfold State.orphanHold
  repeat' (first
    | with_reducible assumption | (show ∀ h : Journal, _ → _; exact fun _ => id) | with_reducible intro _ | with_reducible apply keeps_each
    | with_reducible apply keeps_ite | with_reducible apply keeps_modJrn | with_reducible apply keeps_refuse | with_reducible apply keeps_event
    | dsimp only | split)

theorem keeps_followEntry {lv : Bool} {z0 s : State} (hk : Keeps lv z0 s) (e : JEntry) : Keeps lv z0 (State.followEntry s e) := by
  unfold State.followEntry
  repeat' (first
    | with_reducible assumption | (show ∀ h : Journal, _ → _; exact fun _ => id) | with_reducible apply keeps_ite
    | with_reducible apply keeps_modStream | with_reducible apply keeps_modJrn)

theorem keeps_takeEntry {lv : Bool} {z0 s : State} (hk : Keeps lv z0 s) (e : JEntry) : Keeps lv z0 (State.takeEntry s e) := by
  unfold State.takeEntry
  repeat' (first
    | with_reducible assumption | with_reducible apply keeps_ite | with_reducible apply keeps_modWriter | with_reducible apply keeps_followEntry
    | with_reducible apply keeps_makeCurrent | with_reducible apply keeps_modPublished | with_reducible apply keeps_wake | dsimp only | split)

theorem keeps_opMirror {lv : Bool} {z0 s : State} (hk : Keeps lv z0 s) (d : Delivered) : Keeps lv z0 (State.opMirror s d) := by
  unfold State.opMirror
  repeat' (first
    | with_reducible assumption | with_reducible apply keeps_ite | with_reducible apply keeps_turnAway | with_reducible apply keeps_contactPartner
    | with_reducible apply keeps_takeEntry | with_reducible apply keeps_sendResponse | split)

theorem keeps_opFrame {lv : Bool} {z0 s : State} (hk : Keeps lv z0 s) (dmg : Damage) (d : Delivered) : Keeps lv z0 (State.opFrame dmg s d) := by
  unfold State.opFrame
  repeat' (first
    | with_reducible assumption | with_reducible intro _ | with_reducible apply keeps_ite | with_reducible apply keeps_opLoad
    | with_reducible apply keeps_opStore | with_reducible apply keeps_opFlush | with_reducible apply keeps_opPublish
    | with_reducible apply keeps_opReduce | with_reducible apply keeps_opMcast | with_reducible apply keeps_opCollective
    | with_reducible apply keeps_runSetup | with_reducible apply keeps_setupGo | with_reducible apply keeps_runRelease
    | with_reducible apply keeps_opOffload | with_reducible apply keeps_opUnknown | with_reducible apply keeps_opHand
    | with_reducible apply keeps_runOffer | with_reducible apply keeps_runTake | with_reducible apply keeps_opMirror
    | with_reducible apply keeps_opAtomic | dsimp only | split)

theorem keeps_dropHeld {lv : Bool} {z0 s : State} (hk : Keeps lv z0 s) (x : HeldFrame) : Keeps lv z0 (State.dropHeld s x) := by
  unfold State.dropHeld
  repeat' (first | with_reducible assumption | (show ∀ h : Journal, _ → _; exact fun _ => id) | with_reducible apply keeps_modJrn)

theorem keeps_releaseHeld {lv : Bool} {z0 s : State} (hk : Keeps lv z0 s) (n : Node) (t : Stream) (dmg : Damage) : Keeps lv z0 (State.releaseHeld s n
    t dmg) := by
  unfold State.releaseHeld
  repeat' (first | with_reducible assumption | with_reducible apply keeps_dropHeld | with_reducible apply keeps_opFrame | split)

theorem keeps_heldLate {lv : Bool} {z0 s : State} (hk : Keeps lv z0 s) (n : Node) (t : Stream) (q : Seq) : Keeps lv z0 (State.heldLate s n t q) := by
  unfold State.heldLate
  repeat' (first
    | with_reducible assumption | with_reducible apply keeps_ite | with_reducible apply keeps_dropHeld | with_reducible apply keeps_turnAway | split)

theorem keeps_markInterval {lv : Bool} {z0 s : State} (hk : Keeps lv z0 s) (w : Nat) : Keeps lv z0 (State.markInterval s w) := by
  unfold State.markInterval
  repeat' (first | with_reducible assumption | with_reducible apply keeps_ite | with_reducible apply keeps_mark)

theorem keeps_idleMark {lv : Bool} {z0 s : State} (hk : Keeps lv z0 s) (w : Nat) : Keeps lv z0 (State.idleMark s w) := by
  unfold State.idleMark
  repeat' (first | with_reducible assumption | with_reducible apply keeps_ite | with_reducible apply keeps_mark)

theorem keeps_retire {lv : Bool} {z0 s : State} (hk : Keeps lv z0 s) (w : Nat) (i : Nat) (shadow : Bool) : Keeps lv z0 (State.retire s w i shadow) :=
    by
  unfold State.retire
  repeat' (first | with_reducible assumption | with_reducible apply keeps_modWriter)

theorem keeps_updateAnchor {lv : Bool} {z0 s : State} (hk : Keeps lv z0 s) (w : Nat) : Keeps lv z0 (State.updateAnchor s w) := by
  unfold State.updateAnchor
  repeat' (first | with_reducible assumption | with_reducible apply keeps_modWriter)

theorem keeps_graceOver {lv : Bool} {z0 s : State} (hk : Keeps lv z0 s) : Keeps lv z0 (State.graceOver s) := by
  unfold State.graceOver
  repeat' (first | with_reducible assumption | with_reducible apply keeps_ite | with_reducible apply keeps_modTabs | split)

theorem keeps_completeEntry {lv : Bool} {z0 s : State} (hk : Keeps lv z0 s) (w : Nat) (e : JEntry) : Keeps lv z0 (State.completeEntry s w e) := by
  unfold State.completeEntry
  repeat' (first
    | with_reducible assumption | with_reducible apply keeps_ite | with_reducible apply keeps_updateSector | with_reducible apply keeps_sendTray
    | with_reducible apply keeps_nearWrite | with_reducible apply keeps_ringDoorbells | dsimp only | split)

theorem keeps_completeTail {lv : Bool} {z0 s : State} (hk : Keeps lv z0 s) (base : Nat) (w : Nat) : Keeps lv z0 (State.completeTail s base w) := by
  unfold State.completeTail
  repeat' (first
    | with_reducible assumption | with_reducible intro _ | with_reducible apply keeps_each | with_reducible apply keeps_completeEntry)

theorem keeps_failoverBegin {lv : Bool} {z0 s : State} (hk : Keeps lv z0 s) : Keeps lv z0 (State.failoverBegin s) := by
  unfold State.failoverBegin
  repeat' (first
    | with_reducible assumption | (show List.length _ = 2 → List.length _ = 2; intro hi; simp_all [mapIf]; done) | with_reducible intro _
    | with_reducible apply keeps_event | with_reducible apply keeps_modJrn | with_reducible apply keeps_completeTail)

theorem keeps_openStreams {lv : Bool} {z0 s : State} (hk : Keeps lv z0 s) : Keeps lv z0 (State.openStreams s) := by
  unfold State.openStreams
  repeat' (first
    | with_reducible assumption | (show ∀ h : Journal, _ → _; exact fun _ => id) | with_reducible apply keeps_ite
    | with_reducible apply keeps_modJrn | with_reducible apply keeps_enterSolo | with_reducible apply keeps_event
    | with_reducible apply keeps_custody)

theorem keeps_resyncReceive {lv : Bool} {z0 s : State} (hk : Keeps lv z0 s) : Keeps lv z0 (State.resyncReceive s) := by
  unfold State.resyncReceive
  repeat' (first
    | with_reducible assumption | (show ∀ h : Health, _ → _; exact fun _ => id)
    | (show List.length _ = 2 → List.length _ = 2; intro hi; simp_all [mapIf]; done) | with_reducible intro _ | with_reducible apply keeps_event
    | with_reducible apply keeps_modHlt | with_reducible apply keeps_modJrn | dsimp only | (show List.length _ = _; simp [State.draw]; done)
    | (with_reducible apply keeps_raw))

theorem keeps_resyncSend {lv : Bool} {z0 s : State} (hk : Keeps lv z0 s) : Keeps lv z0 (State.resyncSend s) := by
  unfold State.resyncSend
  repeat' (first
    | with_reducible assumption | (show ∀ h : Health, _ → _; exact fun _ => id) | with_reducible apply keeps_event
    | with_reducible apply keeps_modHlt | with_reducible apply keeps_resyncGo)

theorem keeps_resyncEnd {lv : Bool} {z0 s : State} (hk : Keeps lv z0 s) : Keeps lv z0 (State.resyncEnd s) := by
  unfold State.resyncEnd
  repeat' (first
    | with_reducible assumption | (show ∀ h : Health, _ → _; exact fun _ => id) | (show ∀ h : Journal, _ → _; exact fun _ => id)
    | (show List.length _ = 2 → List.length _ = 2; intro hi; simp_all [mapIf]; done) | with_reducible intro _ | with_reducible apply keeps_ite
    | with_reducible apply keeps_event | with_reducible apply keeps_modJrn | with_reducible apply keeps_modHlt | dsimp only | split
    | (show List.length _ = _; simp [State.draw]; done) | (with_reducible apply keeps_raw))

theorem keeps_execOffer {z0 s : State} (hk : Keeps false z0 s) (t : Nat) (a : Arrival) (f : Frame) : KeepsX z0 (execOffer t a f s) := by
  unfold execOffer
  repeat' (first
    | with_reducible assumption | with_reducible intro _ | with_reducible apply keepsX_fault | with_reducible apply keepsX_next
    | with_reducible apply keeps_frame | with_reducible apply keeps_opHand | with_reducible apply keeps_runOffer | with_reducible apply keeps_at
    | split)

theorem keeps_execTake {z0 s : State} (hk : Keeps false z0 s) (t : Nat) (a : Arrival) (f : Frame) : KeepsX z0 (execTake t a f s) := by
  unfold execTake
  repeat' (first
    | with_reducible assumption | with_reducible intro _ | with_reducible apply keepsX_fault | with_reducible apply keepsX_next
    | with_reducible apply keeps_frame | with_reducible apply keeps_opHand | with_reducible apply keeps_runTake | with_reducible apply keeps_at
    | split)

theorem keeps_execOrphanHoldExpiry {z0 s : State} (hk : Keeps false z0 s) (t : Nat) (i : BitVec 32) : KeepsX z0 (execOrphanHoldExpiry t i s) := by
  unfold execOrphanHoldExpiry
  repeat' (first
    | with_reducible assumption | with_reducible apply keepsX_next | with_reducible apply keeps_orphanHold | with_reducible apply keeps_at)

theorem keeps_execMirror {z0 s : State} (hk : Keeps false z0 s) (t : Nat) (a : Arrival) (f : Frame) : KeepsX z0 (execMirror t a f s) := by
  unfold execMirror
  repeat' (first
    | with_reducible assumption | with_reducible intro _ | with_reducible apply keepsX_fault | with_reducible apply keepsX_next
    | with_reducible apply keeps_frame | with_reducible apply keeps_opMirror | with_reducible apply keeps_at | split)

theorem keeps_execNodeRetireComplete {z0 s : State} (hk : Keeps false z0 s) (t : Nat) (n : BitVec 16) : KeepsX z0 (execNodeRetireComplete t n s) := by
  unfold execNodeRetireComplete
  repeat' (first
    | with_reducible assumption | with_reducible apply keepsX_next | with_reducible apply keeps_retireDone | with_reducible apply keeps_at)

theorem keeps_execPendingFrameRelease {z0 s : State} (hk : Keeps false z0 s) (t : Nat) (n : BitVec 16) (st : BitVec 8) (d : Damage) : KeepsX z0
    (execPendingFrameRelease t n st d s) := by
  unfold execPendingFrameRelease
  repeat' (first
    | with_reducible assumption | with_reducible apply keepsX_next | with_reducible apply keeps_releaseHeld | with_reducible apply keeps_at)

theorem keeps_execPendingFrameDeadline {z0 s : State} (hk : Keeps false z0 s) (t : Nat) (n : BitVec 16) (st : BitVec 8) (q : BitVec 32) : KeepsX z0
    (execPendingFrameDeadline t n st q s) := by
  unfold execPendingFrameDeadline
  repeat' (first
    | with_reducible assumption | with_reducible apply keepsX_next | with_reducible apply keeps_heldLate | with_reducible apply keeps_at)

theorem keeps_execMirrorTimeout {z0 s : State} (hk : Keeps false z0 s) (t : Nat) (w : Nat) (i : Nat) : KeepsX z0 (execMirrorTimeout t w i s) := by
  unfold execMirrorTimeout
  repeat' (first
    | with_reducible assumption | with_reducible apply keepsX_fault | with_reducible apply keepsX_next | with_reducible apply keeps_unanswered
    | with_reducible apply keeps_at | dsimp only | split)

theorem keeps_execMarkInterval {z0 s : State} (hk : Keeps false z0 s) (t : Nat) (w : Nat) : KeepsX z0 (execMarkInterval t w s) := by
  unfold execMarkInterval
  repeat' (first
    | with_reducible assumption | with_reducible apply keepsX_fault | with_reducible apply keepsX_next | with_reducible apply keeps_markInterval
    | with_reducible apply keeps_at | split)

theorem keeps_execIdleMarkInterval {z0 s : State} (hk : Keeps false z0 s) (t : Nat) (w : Nat) : KeepsX z0 (execIdleMarkInterval t w s) := by
  unfold execIdleMarkInterval
  repeat' (first
    | with_reducible assumption | with_reducible apply keepsX_fault | with_reducible apply keepsX_next | with_reducible apply keeps_idleMark
    | with_reducible apply keeps_at | split)

theorem keeps_execEntryRetire {z0 s : State} (hk : Keeps false z0 s) (t : Nat) (w : Nat) (i : Nat) (shadow : Bool) : KeepsX z0 (execEntryRetire t w i
    shadow s) := by
  unfold execEntryRetire
  repeat' (first
    | with_reducible assumption | with_reducible apply keepsX_fault | with_reducible apply keepsX_next | with_reducible apply keeps_retire
    | with_reducible apply keeps_at | split)

theorem keeps_execAnchorUpdate {z0 s : State} (hk : Keeps false z0 s) (t : Nat) (w : Nat) : KeepsX z0 (execAnchorUpdate t w s) := by
  unfold execAnchorUpdate
  repeat' (first
    | with_reducible assumption | with_reducible apply keepsX_fault | with_reducible apply keepsX_next | with_reducible apply keeps_updateAnchor
    | with_reducible apply keeps_at | split)

theorem keeps_execMapEpochGraceExpiry {z0 s : State} (hk : Keeps false z0 s) (t : Nat) : KeepsX z0 (execMapEpochGraceExpiry t s) := by
  unfold execMapEpochGraceExpiry
  repeat' (first
    | with_reducible assumption | with_reducible apply keepsX_next | with_reducible apply keeps_graceOver | with_reducible apply keeps_at)

theorem keeps_execFailoverStreamsOpen {z0 s : State} (hk : Keeps false z0 s) (t : Nat) : KeepsX z0 (execFailoverStreamsOpen t s) := by
  unfold execFailoverStreamsOpen
  repeat' (first
    | with_reducible assumption | with_reducible apply keepsX_next | with_reducible apply keeps_openStreams | with_reducible apply keeps_at)

theorem keeps_execResyncStore {z0 s : State} (hk : Keeps false z0 s) (t : Nat) (a : Arrival) (f : Frame) : KeepsX z0 (execResyncStore t a f s) := by
  unfold execResyncStore
  repeat' (first
    | with_reducible assumption | with_reducible intro _ | with_reducible apply keepsX_fault | with_reducible apply keepsX_next
    | with_reducible apply keeps_frame | with_reducible apply keeps_opStore | with_reducible apply keeps_at | split)

theorem keeps_execResyncCopyDone {z0 s : State} (hk : Keeps false z0 s) (t : Nat) : KeepsX z0 (execResyncCopyDone t s) := by
  unfold execResyncCopyDone
  repeat' (first
    | with_reducible assumption | with_reducible apply keepsX_next | with_reducible apply keeps_resyncEnd | with_reducible apply keeps_at)

/-! Coherence -/

theorem keeps_ask {lv : Bool} {z0 s : State} (hk : Keeps lv z0 s) (c : Nat) (line : Nat) (m : Msg) (is : Msg → Bool) (fromStates : List L2State) (goal
    : Option L2State) (near : Bool) (grant : State → State) (hgrant : ∀ y0, Keeps lv z0 y0 → Keeps lv z0 (grant y0)) : Keeps lv z0 (State.ask s c line
    m is fromStates goal near grant) := by
  unfold State.ask
  repeat' (first
    | with_reducible assumption | with_reducible apply keeps_ite | with_reducible apply keeps_setL2 | with_reducible apply keeps_say
    | with_reducible apply keeps_hear | with_reducible apply keeps_stir | apply hgrant | split)

theorem keeps_execRdS {z0 s : State} (hk : Keeps false z0 s) (t : Nat) (c : Nat) (line : Nat) (cid : BitVec 16) : KeepsX z0 (execRdS t c line cid s)
    := by
  unfold execRdS
  repeat' (first
    | with_reducible assumption | with_reducible intro _ | with_reducible apply keepsX_fault | with_reducible apply keepsX_next
    | with_reducible apply keeps_ask | with_reducible apply keeps_grantRdS | with_reducible apply keeps_at | dsimp only | split)

theorem keeps_execRdX {z0 s : State} (hk : Keeps false z0 s) (t : Nat) (c : Nat) (line : Nat) (cid : BitVec 16) : KeepsX z0 (execRdX t c line cid s)
    := by
  unfold execRdX
  repeat' (first
    | with_reducible assumption | with_reducible intro _ | with_reducible apply keepsX_fault | with_reducible apply keepsX_next
    | with_reducible apply keeps_ask | with_reducible apply keeps_grantRdX | with_reducible apply keeps_at | dsimp only | split)

theorem keeps_execUpg {z0 s : State} (hk : Keeps false z0 s) (t : Nat) (c : Nat) (line : Nat) (cid : BitVec 16) : KeepsX z0 (execUpg t c line cid s)
    := by
  unfold execUpg
  repeat' (first
    | with_reducible assumption | with_reducible intro _ | with_reducible apply keepsX_fault | with_reducible apply keepsX_next
    | with_reducible apply keeps_ask | with_reducible apply keeps_grantUpg | with_reducible apply keeps_at | dsimp only | split)

theorem keeps_execRdU {z0 s : State} (hk : Keeps false z0 s) (t : Nat) (c : Nat) (line : Nat) (cid : BitVec 16) : KeepsX z0 (execRdU t c line cid s)
    := by
  unfold execRdU
  repeat' (first
    | with_reducible assumption | with_reducible intro _ | with_reducible apply keepsX_fault | with_reducible apply keepsX_next
    | with_reducible apply keeps_ask | with_reducible apply keeps_grantRdU | with_reducible apply keeps_at | dsimp only | split)

theorem keeps_execWrU {z0 s : State} (hk : Keeps false z0 s) (t : Nat) (c : Nat) (line : Nat) (cid : BitVec 16) (mask : BitVec 128) : KeepsX z0
    (execWrU t c line cid mask s) := by
  unfold execWrU
  repeat' (first
    | with_reducible assumption | with_reducible intro _ | with_reducible apply keepsX_fault | with_reducible apply keepsX_next
    | with_reducible apply keeps_ask | with_reducible apply keeps_grantWrU | with_reducible apply keeps_at | dsimp only | split)

theorem keeps_execEvcC {z0 s : State} (hk : Keeps false z0 s) (t : Nat) (c : Nat) (line : Nat) : KeepsX z0 (execEvcC t c line s) := by
  unfold execEvcC
  repeat' (first
    | with_reducible assumption | with_reducible intro _ | with_reducible apply keepsX_fault | with_reducible apply keepsX_next
    | with_reducible apply keeps_ask | with_reducible apply keeps_grantEvcC | with_reducible apply keeps_at | dsimp only | split)

theorem keeps_execEvcD {z0 s : State} (hk : Keeps false z0 s) (t : Nat) (c : Nat) (line : Nat) : KeepsX z0 (execEvcD t c line s) := by
  unfold execEvcD
  repeat' (first
    | with_reducible assumption | with_reducible intro _ | with_reducible apply keepsX_fault | with_reducible apply keepsX_next
    | with_reducible apply keeps_ask | with_reducible apply keeps_grantEvcD | with_reducible apply keeps_at | dsimp only | split)

theorem keeps_execLineFlush {z0 s : State} (hk : Keeps false z0 s) (t : Nat) (line : Nat) : KeepsX z0 (execLineFlush t line s) := by
  unfold execLineFlush
  repeat' (first
    | with_reducible assumption | with_reducible apply keeps_ite | with_reducible apply keepsX_next | with_reducible apply keeps_takeLine
    | with_reducible apply keeps_stir | with_reducible apply keeps_at)

theorem keeps_execSrI {z0 s : State} (hk : Keeps false z0 s) (t : Nat) (c : Nat) (line : Nat) (withData : Bool) (dirty : Bool) : KeepsX z0 (execSrI t
    c line withData dirty s) := by
  unfold execSrI
  repeat' (first
    | with_reducible assumption | with_reducible apply keepsX_fault | with_reducible apply keepsX_next | with_reducible apply keeps_hear
    | with_reducible apply keeps_snoopAnswer | with_reducible apply keeps_stir | with_reducible apply keeps_at | dsimp only | split)

theorem keeps_execSrN {z0 s : State} (hk : Keeps false z0 s) (t : Nat) (c : Nat) (line : Nat) (withData : Bool) (dirty : Bool) : KeepsX z0 (execSrN t
    c line withData dirty s) := by
  unfold execSrN
  repeat' (first
    | with_reducible assumption | with_reducible apply keepsX_fault | with_reducible apply keepsX_next | with_reducible apply keeps_hear
    | with_reducible apply keeps_snoopAnswer | with_reducible apply keeps_stir | with_reducible apply keeps_at | dsimp only | split)

theorem keeps_execLineData {z0 s : State} (hk : Keeps false z0 s) (t : Nat) (c : Nat) (line : Nat) (bytes : Bytes) (mask : BitVec 128) : KeepsX z0
    (execLineData t c line bytes mask s) := by
  unfold execLineData
  repeat' (first
    | with_reducible assumption | with_reducible apply keepsX_fault | with_reducible apply keepsX_next | with_reducible apply keeps_hear
    | with_reducible apply keeps_homeData | with_reducible apply keeps_stir | with_reducible apply keeps_at | dsimp only | split)

theorem keeps_execCack {z0 s : State} (hk : Keeps false z0 s) (t : Nat) (c : Nat) (line : Nat) : KeepsX z0 (execCack t c line s) := by
  unfold execCack
  repeat' (first
    | with_reducible assumption | with_reducible apply keeps_ite | with_reducible apply keepsX_fault | with_reducible apply keepsX_next
    | with_reducible apply keeps_hear | with_reducible apply keeps_setHold | with_reducible apply keeps_stir | with_reducible apply keeps_at
    | dsimp only | split)

theorem keeps_execStackAccessDone {z0 s : State} (hk : Keeps false z0 s) (t : Nat) (line : Nat) : KeepsX z0 (execStackAccessDone t line s) := by
  unfold execStackAccessDone
  repeat' (first
    | with_reducible assumption | with_reducible apply keepsX_next | with_reducible apply keeps_stackDone | with_reducible apply keeps_stir
    | with_reducible apply keeps_at)

theorem keeps_execSnpShr {z0 s : State} (hk : Keeps false z0 s) (t : Nat) (c : Nat) (line : Nat) : KeepsX z0 (execSnpShr t c line s) := by
  unfold execSnpShr
  repeat' (first
    | with_reducible assumption | with_reducible apply keepsX_fault | with_reducible apply keepsX_next | with_reducible apply keeps_hear
    | with_reducible apply keeps_answerSnoop | with_reducible apply keeps_at | split)

theorem keeps_execSnpFwd {z0 s : State} (hk : Keeps false z0 s) (t : Nat) (c : Nat) (line : Nat) : KeepsX z0 (execSnpFwd t c line s) := by
  unfold execSnpFwd
  repeat' (first
    | with_reducible assumption | with_reducible apply keepsX_fault | with_reducible apply keepsX_next | with_reducible apply keeps_hear
    | with_reducible apply keeps_answerSnoop | with_reducible apply keeps_at | split)

theorem keeps_execSnpI {z0 s : State} (hk : Keeps false z0 s) (t : Nat) (c : Nat) (line : Nat) : KeepsX z0 (execSnpI t c line s) := by
  unfold execSnpI
  repeat' (first
    | with_reducible assumption | with_reducible apply keepsX_fault | with_reducible apply keepsX_next | with_reducible apply keeps_hear
    | with_reducible apply keeps_answerSnoop | with_reducible apply keeps_at | split)

theorem keeps_execCmpE {z0 s : State} (hk : Keeps false z0 s) (t : Nat) (c : Nat) (line : Nat) (bytes : Bytes) : KeepsX z0 (execCmpE t c line bytes s)
    := by
  unfold execCmpE
  repeat' (first
    | with_reducible assumption | with_reducible apply keepsX_fault | with_reducible apply keepsX_next | with_reducible apply keeps_hear
    | with_reducible apply keeps_completed | with_reducible apply keeps_at | dsimp only | split)

theorem keeps_execCmpS {z0 s : State} (hk : Keeps false z0 s) (t : Nat) (c : Nat) (line : Nat) (bytes : Bytes) : KeepsX z0 (execCmpS t c line bytes s)
    := by
  unfold execCmpS
  repeat' (first
    | with_reducible assumption | with_reducible apply keepsX_fault | with_reducible apply keepsX_next | with_reducible apply keeps_hear
    | with_reducible apply keeps_completed | with_reducible apply keeps_at | dsimp only | split)

theorem keeps_execCmpN {z0 s : State} (hk : Keeps false z0 s) (t : Nat) (c : Nat) (line : Nat) (bytes : Bytes) : KeepsX z0 (execCmpN t c line bytes s)
    := by
  unfold execCmpN
  repeat' (first
    | with_reducible assumption | with_reducible apply keepsX_fault | with_reducible apply keepsX_next | with_reducible apply keeps_hear
    | with_reducible apply keeps_completed | with_reducible apply keeps_at | dsimp only | split)

theorem keeps_execCmpM {z0 s : State} (hk : Keeps false z0 s) (t : Nat) (c : Nat) (line : Nat) (bytes : Option Bytes) : KeepsX z0 (execCmpM t c line
    bytes s) := by
  unfold execCmpM
  repeat' (first
    | with_reducible assumption | with_reducible apply keepsX_fault | with_reducible apply keepsX_next | with_reducible apply keeps_hear
    | with_reducible apply keeps_completed | with_reducible apply keeps_at | dsimp only | split)

theorem keeps_execBufGnt {z0 s : State} (hk : Keeps false z0 s) (t : Nat) (c : Nat) (line : Nat) : KeepsX z0 (execBufGnt t c line s) := by
  unfold execBufGnt
  repeat' (first
    | with_reducible assumption | with_reducible apply keepsX_fault | with_reducible apply keepsX_next | with_reducible apply keeps_hear
    | with_reducible apply keeps_granted | with_reducible apply keeps_at | split)

theorem keeps_execCmpW {z0 s : State} (hk : Keeps false z0 s) (t : Nat) (c : Nat) (line : Nat) : KeepsX z0 (execCmpW t c line s) := by
  unfold execCmpW
  repeat' (first
    | with_reducible assumption | with_reducible apply keepsX_fault | with_reducible apply keepsX_next | with_reducible apply keeps_hear
    | with_reducible apply keeps_at | split)

theorem keeps_execCmpEvc {z0 s : State} (hk : Keeps false z0 s) (t : Nat) (c : Nat) (line : Nat) : KeepsX z0 (execCmpEvc t c line s) := by
  unfold execCmpEvc
  repeat' (first
    | with_reducible assumption | with_reducible apply keepsX_fault | with_reducible apply keepsX_next | with_reducible apply keeps_hear
    | with_reducible apply keeps_evicted | with_reducible apply keeps_at | split)

theorem keeps_execNak {z0 s : State} (hk : Keeps false z0 s) (t : Nat) (c : Nat) (line : Nat) (_st : Status) : KeepsX z0 (execNak t c line _st s) :=
    by
  unfold execNak
  repeat' (first
    | with_reducible assumption | with_reducible apply keepsX_fault | with_reducible apply keepsX_next | with_reducible apply keeps_hear
    | with_reducible apply keeps_refused | with_reducible apply keeps_at | dsimp only | split)

theorem keeps_coreFault {lv : Bool} {z0 s : State} (hk : Keeps lv z0 s) (c : Nat) (core : Nat) (write : Bool) (vaddr : Nat) (n : Nat) : Keeps lv z0
    (State.coreFault s c core write vaddr n) := by
  unfold State.coreFault
  repeat' (first
    | with_reducible assumption | with_reducible apply keeps_xlateFault | with_reducible apply keeps_endRequest | dsimp only | split)

theorem keeps_coreLine {lv : Bool} {z0 s : State} (hk : Keeps lv z0 s) (c : Nat) (core : Nat) (k : Context) (g : Nat) (data : Option Bytes) : Keeps lv
    z0 (State.coreLine s c core k g data) := by
  unfold State.coreLine
  repeat' (first
    | with_reducible assumption | with_reducible apply keeps_ite | with_reducible apply keeps_takeSeq | with_reducible apply keeps_originate
    | with_reducible apply keeps_access | with_reducible apply keeps_say | with_reducible apply keeps_stall | split)

theorem keeps_coreAccess {lv : Bool} {z0 s : State} (hk : Keeps lv z0 s) (c : Nat) (core : Nat) (vaddr : Nat) (data : Option Bytes) : Keeps lv z0
    (State.coreAccess s c core vaddr data) := by
  unfold State.coreAccess
  repeat' (first
    | with_reducible assumption | with_reducible apply keeps_ite | with_reducible apply keeps_coreFault | with_reducible apply keeps_modCluster
    | with_reducible apply keeps_coreLine | dsimp only | split)

theorem keeps_execCoreRead {z0 s : State} (hk : Keeps false z0 s) (t : Nat) (c : Nat) (core : Nat) (vaddr : Nat) : KeepsX z0 (execCoreRead t c core
    vaddr s) := by
  unfold execCoreRead
  repeat' (first
    | with_reducible assumption | with_reducible apply keepsX_fault | with_reducible apply keepsX_next | with_reducible apply keeps_coreAccess
    | with_reducible apply keeps_at | split)

theorem keeps_execCoreWrite {z0 s : State} (hk : Keeps false z0 s) (t : Nat) (c : Nat) (core : Nat) (vaddr : Nat) (bytes : Bytes) : KeepsX z0
    (execCoreWrite t c core vaddr bytes s) := by
  unfold execCoreWrite
  repeat' (first
    | with_reducible assumption | with_reducible intro _ | with_reducible apply keeps_each | with_reducible apply keepsX_fault
    | with_reducible apply keepsX_next | with_reducible apply keeps_coreAccess | with_reducible apply keeps_at | split)

theorem keeps_execVictimChosen {z0 s : State} (hk : Keeps false z0 s) (t : Nat) (c : Nat) (line : Nat) : KeepsX z0 (execVictimChosen t c line s) := by
  unfold execVictimChosen
  repeat' (first
    | with_reducible assumption | with_reducible apply keepsX_fault | with_reducible apply keepsX_next | with_reducible apply keeps_victim
    | with_reducible apply keeps_at | split)

theorem keeps_execSnoopAnswerTimeout {z0 s : State} (hk : Keeps false z0 s) (t : Nat) (c : Nat) (line : Nat) : KeepsX z0 (execSnoopAnswerTimeout t c
    line s) := by
  unfold execSnoopAnswerTimeout
  repeat' (first
    | with_reducible assumption | with_reducible apply keepsX_fault | with_reducible apply keepsX_next | with_reducible apply keeps_event
    | with_reducible apply keeps_healthInput | with_reducible apply keeps_askReset | with_reducible apply keeps_at | dsimp only | split)

end Sys2Proof.Machine
end

