-- ==== Sys2Proof/Laws/KeepsFabric.lean ====
section
/-! SUPPORT. What every operation keeps: the crossbar, tables, links and compositions. -/

set_option linter.unusedVariables false
set_option linter.unusedSimpArgs false

namespace Sys2Proof.Machine

/-! Switch -/

theorem keeps_modV {lv : Bool} {z0 s : State} (hk : Keeps lv z0 s) (v : VFrame) (f : VFrame → VFrame) : Keeps lv z0 (State.modV s v f) := by
  unfold State.modV
  repeat' (first | with_reducible assumption | with_reducible apply keeps_modWarp)

theorem keeps_dropV {lv : Bool} {z0 s : State} (hk : Keeps lv z0 s) (v : VFrame) : Keeps lv z0 (State.dropV s v) := by
  unfold State.dropV
  repeat' (first | with_reducible assumption | with_reducible apply keeps_modWarp | with_reducible apply keeps_freeLeaving)

theorem keeps_newHead {lv : Bool} {z0 : State} (i j tc : Nat) : ∀ (n : Nat) {s : State}, Keeps lv z0 s → Keeps lv z0 (State.newHead i j tc n  s) := by
  intro n
  induction n with
  | zero => intro  s hk; exact hk
  | succ n ih => 
    intro  s hk
    unfold State.newHead
    repeat' (first
    | with_reducible assumption | with_reducible apply ih | with_reducible apply keeps_ite | with_reducible apply keeps_agedDiscard
    | with_reducible apply keeps_dropV | with_reducible apply keeps_modV | split)

theorem keeps_tryStore {lv : Bool} {z0 s : State} (hk : Keeps lv z0 s) (v : VFrame) : Keeps lv z0 (State.tryStore s v) := by
  unfold State.tryStore
  repeat' (first
    | with_reducible assumption | with_reducible apply keeps_ite | with_reducible apply keeps_modV | with_reducible apply keeps_freeCells
    | with_reducible apply keeps_modArb | with_reducible apply keeps_spillIsFull)

theorem keeps_storeWaiting {lv : Bool} {z0 s : State} (hk : Keeps lv z0 s) : Keeps lv z0 (State.storeWaiting s) := by
  unfold State.storeWaiting
  repeat' (first | with_reducible assumption | with_reducible intro _ | with_reducible apply keeps_each | with_reducible apply keeps_tryStore)

theorem keeps_spillEnd {lv : Bool} {z0 s : State} (hk : Keeps lv z0 s) : Keeps lv z0 (State.spillEnd s) := by
  unfold State.spillEnd
  repeat' (first
    | with_reducible assumption | with_reducible apply keeps_ite | with_reducible apply keeps_modWarp | with_reducible apply keeps_event)

theorem keeps_combine {lv : Bool} {z0 s : State} (hk : Keeps lv z0 s) (pos : Nat) (p : Nat) (h : Header) : Keeps lv z0 (State.combine s pos p h) := by
  unfold State.combine
  repeat' (first | with_reducible assumption | with_reducible apply keeps_ite | with_reducible apply keeps_modWarp | dsimp only | split)

theorem keeps_reassembled {lv : Bool} {z0 s : State} (hk : Keeps lv z0 s) (v : VFrame) : Keeps lv z0 (State.reassembled s v) := by
  unfold State.reassembled
  repeat' (first
    | with_reducible assumption | with_reducible apply keeps_ite | with_reducible apply keeps_modPart | with_reducible apply keeps_agedDiscard
    | with_reducible apply keeps_refuseOpen | with_reducible apply keeps_combine | with_reducible apply keeps_modWarp)

theorem keeps_transfer {lv : Bool} {z0 s : State} (hk : Keeps lv z0 s) (m : Nat × Nat × Nat) : Keeps lv z0 (State.transfer s m) := by
  unfold State.transfer
  repeat' (first
    | with_reducible assumption | with_reducible apply keeps_ite | with_reducible apply keeps_modV | with_reducible apply keeps_newHead
    | with_reducible apply keeps_dropV | with_reducible apply keeps_reassembled | split)

theorem keeps_demotions {lv : Bool} {z0 s : State} (hk : Keeps lv z0 s) (heads : List VFrame) : Keeps lv z0 (State.demotions s heads) := by
  unfold State.demotions
  repeat' (first
    | with_reducible assumption | with_reducible intro _ | with_reducible apply keeps_each | with_reducible apply keeps_eventLimited)

theorem keeps_rounds {lv : Bool} {z0 s : State} (hk : Keeps lv z0 s) : Keeps lv z0 (State.rounds s) := by
  unfold State.rounds
  repeat' (first | with_reducible assumption | with_reducible apply keeps_modWarp)

theorem keeps_charge1 {lv : Bool} {z0 s : State} (hk : Keeps lv z0 s) (v : VFrame) : Keeps lv z0 (State.charge1 s v) := by
  unfold State.charge1
  repeat' (first
    | with_reducible assumption | with_reducible apply keeps_ite | with_reducible apply keeps_sampleVoq | with_reducible apply keeps_modWarp
    | with_reducible apply keeps_chargeService | with_reducible apply keeps_sampleSvc | dsimp only | split)

theorem keeps_matched1 {lv : Bool} {z0 s : State} (hk : Keeps lv z0 s) (heads : List VFrame) (x : Ask) : Keeps lv z0 (State.matched1 s heads x) := by
  unfold State.matched1
  repeat' (first | with_reducible assumption | with_reducible apply keeps_charge1 | with_reducible apply keeps_modWarp | dsimp only | split)

theorem keeps_heldBack {lv : Bool} {z0 s : State} (hk : Keeps lv z0 s) : Keeps lv z0 (State.heldBack s) := by
  unfold State.heldBack
  repeat' (first
    | with_reducible assumption | with_reducible intro _ | with_reducible apply keeps_each | with_reducible apply keeps_modV
    | with_reducible apply keeps_sampleSvc | dsimp only | split)

theorem keeps_slot {lv : Bool} {z0 s : State} (hk : Keeps lv z0 s) : Keeps lv z0 (State.slot s) := by
  have h1 := keeps_modWarp (keeps_each hk s.warp.matched State.transfer (fun _ _ h => keeps_transfer h _)) (fun w => { w with matched := [] })
  have h2 := keeps_rounds (keeps_heldBack (keeps_sampleNow (keeps_refillTokens (keeps_storeWaiting h1))))
  have h3 : ∀ s, Keeps lv z0 s → Keeps lv z0 ((fun s : State =>
      let all := s.heads
      let s := s.demotions all
      let heads := all.filter (fun v => s.condition124 v && s.condition3 v)
      let (m, g, a) := matching (s.asks heads) s.warp.gPtr s.warp.aPtr
      let s := s.each m (fun s x => s.matched1 heads x)
      s.modWarp (fun w => { w with gPtr := g, aPtr := a, slot := w.slot + 1,
                                   levelUse := w.levelUse.filter (fun x => w.slot < x.2.2 + 1024) })) s) := by
    intro s hk
    dsimp only
    have h4 := keeps_demotions hk s.heads
    generalize s.demotions s.heads = t at h4 ⊢
    exact keeps_modWarp (keeps_each h4 _ _ (fun _ _ h => keeps_matched1 h _ _)) _
  exact h3 _ h2

theorem keeps_slotGo {lv : Bool} {z0 s : State} (hk : Keeps lv z0 s) : Keeps lv z0 (State.slotGo s) := by
  unfold State.slotGo
  repeat' (first | with_reducible assumption | with_reducible apply keeps_ite | with_reducible apply keeps_slot)

theorem keeps_execCrossbarSlot {z0 s : State} (hk : Keeps false z0 s) (t : Nat) : KeepsX z0 (execCrossbarSlot t s) := by
  unfold execCrossbarSlot
  repeat' (first
    | with_reducible assumption | with_reducible apply keeps_ite | with_reducible apply keepsX_next | with_reducible apply keeps_slotGo
    | with_reducible apply keeps_stir | with_reducible apply keeps_at)

theorem keeps_execUrgentPromotion {z0 s : State} (hk : Keeps false z0 s) (t : Nat) (inp : Nat) (out : Nat) (tc : Nat) : KeepsX z0 (execUrgentPromotion
    t inp out tc s) := by
  unfold execUrgentPromotion
  repeat' (first
    | with_reducible assumption | with_reducible apply keeps_ite | with_reducible apply keepsX_fault | with_reducible apply keepsX_next
    | with_reducible apply keeps_modV | with_reducible apply keeps_at | dsimp only | split)

theorem keeps_execCalendarWheelTick {z0 s : State} (hk : Keeps false z0 s) (t : Nat) : KeepsX z0 (execCalendarWheelTick t s) := by
  unfold execCalendarWheelTick
  repeat' (first
    | with_reducible assumption | with_reducible apply keepsX_next | with_reducible apply keeps_modWarp | with_reducible apply keeps_at)

theorem keeps_execSpillOn {z0 s : State} (hk : Keeps false z0 s) (t : Nat) : KeepsX z0 (execSpillOn t s) := by
  unfold execSpillOn
  repeat' (first
    | with_reducible assumption | with_reducible apply keeps_ite | with_reducible apply keepsX_next | with_reducible apply keeps_modWarp
    | with_reducible apply keeps_event | with_reducible apply keeps_at)

theorem keeps_execSpillOff {z0 s : State} (hk : Keeps false z0 s) (t : Nat) : KeepsX z0 (execSpillOff t s) := by
  unfold execSpillOff
  repeat' (first
    | with_reducible assumption | with_reducible apply keeps_ite | with_reducible apply keepsX_next | with_reducible apply keeps_modWarp
    | with_reducible apply keeps_spillEnd | with_reducible apply keeps_at)

theorem keeps_execSpillRefill {z0 s : State} (hk : Keeps false z0 s) (t : Nat) (inp : Nat) (out : Nat) (tc : Nat) : KeepsX z0 (execSpillRefill t inp
    out tc s) := by
  unfold execSpillRefill
  repeat' (first
    | with_reducible assumption | with_reducible apply keeps_ite | with_reducible apply keepsX_fault | with_reducible apply keepsX_next
    | with_reducible apply keeps_modV | with_reducible apply keeps_modArb | with_reducible apply keeps_at | dsimp only | split)

theorem keeps_execRefillReturn {z0 s : State} (hk : Keeps false z0 s) (t : Nat) (inp : Nat) (out : Nat) (tc : Nat) (d : Damage) : KeepsX z0
    (execRefillReturn t inp out tc d s) := by
  unfold execRefillReturn
  repeat' (first
    | with_reducible assumption | with_reducible apply keeps_ite | with_reducible apply keepsX_fault | with_reducible apply keepsX_next
    | with_reducible apply keeps_modArb | with_reducible apply keeps_count | with_reducible apply keeps_healthInput
    | with_reducible apply keeps_eventLimited | with_reducible apply keeps_newHead | with_reducible apply keeps_dropV
    | with_reducible apply keeps_eccInput | with_reducible apply keeps_modV | with_reducible apply keeps_spillEnd | with_reducible apply keeps_at
    | dsimp only | split)

theorem keeps_execVoqSamplePeriod {z0 s : State} (hk : Keeps false z0 s) (t : Nat) : KeepsX z0 (execVoqSamplePeriod t s) := by
  unfold execVoqSamplePeriod
  repeat' (first
    | with_reducible assumption | with_reducible apply keeps_ite | with_reducible apply keepsX_next | with_reducible apply keeps_ownerSamples
    | with_reducible apply keeps_at)

theorem keeps_execServiceSampleWindow {z0 s : State} (hk : Keeps false z0 s) (t : Nat) : KeepsX z0 (execServiceSampleWindow t s) := by
  unfold execServiceSampleWindow
  repeat' (first
    | with_reducible assumption | with_reducible apply keeps_ite | with_reducible apply keepsX_next | with_reducible apply keeps_partSamples
    | with_reducible apply keeps_at)

theorem keeps_execCloveRateAdapt {z0 s : State} (hk : Keeps false z0 s) (t : Nat) (sub : Nat) (svc : Nat) (rate : Nat) (cause : Nat) : KeepsX z0
    (execCloveRateAdapt t sub svc rate cause s) := by
  unfold execCloveRateAdapt
  repeat' (first
    | with_reducible assumption | with_reducible apply keeps_ite | with_reducible apply keepsX_fault | with_reducible apply keepsX_next
    | with_reducible apply keeps_modService | with_reducible apply keeps_cloveLog | with_reducible apply keeps_at | dsimp only | split)

theorem keeps_execCloveAdmitAdapt {z0 s : State} (hk : Keeps false z0 s) (t : Nat) (part : Nat) (window : Nat) (cause : Nat) : KeepsX z0
    (execCloveAdmitAdapt t part window cause s) := by
  unfold execCloveAdmitAdapt
  repeat' (first
    | with_reducible assumption | with_reducible apply keeps_ite | with_reducible apply keepsX_fault | with_reducible apply keepsX_next
    | with_reducible apply keeps_modPart | with_reducible apply keeps_cloveLog | with_reducible apply keeps_at | dsimp only | split)

theorem keeps_execCloveWeakSymAdapt {z0 s : State} (hk : Keeps false z0 s) (t : Nat) (port : Nat) (value : Nat) (cause : Nat) : KeepsX z0
    (execCloveWeakSymAdapt t port value cause s) := by
  unfold execCloveWeakSymAdapt
  repeat' (first
    | with_reducible assumption | (show ∀ h : Hoop, _ → _; exact fun _ => id)
    | (show ∀ h : Hoop, _ = true → _; first | exact fun _ _ => rfl | exact fun _ e => absurd e (by decide)) | with_reducible apply keeps_ite
    | with_reducible apply keepsX_fault | with_reducible apply keepsX_next | with_reducible apply keeps_modHoop
    | with_reducible apply keeps_cloveLog | with_reducible apply keeps_at | dsimp only | split)

theorem keeps_meterMs {lv : Bool} {z0 s : State} (hk : Keeps lv z0 s) (d : Nat) : Keeps lv z0 (State.meterMs s d) := by
  unfold State.meterMs
  repeat' (first
    | with_reducible assumption | dsimp only | (show List.length _ = _; simp [State.draw]; done) | (with_reducible apply keeps_raw))

theorem keeps_execOneMsWindow {z0 s : State} (hk : Keeps false z0 s) (t : Nat) : KeepsX z0 (execOneMsWindow t s) := by
  unfold execOneMsWindow
  repeat' (first
    | with_reducible assumption | (show ∀ h : Hoop, _ → _; exact fun _ => id)
    | (show ∀ h : Hoop, _ = true → _; first | exact fun _ _ => rfl | exact fun _ e => absurd e (by decide)) | with_reducible intro _
    | with_reducible apply keeps_each | with_reducible apply keeps_ite | with_reducible apply keepsX_next | with_reducible apply keeps_meterMs
    | with_reducible apply keeps_modHoop | with_reducible apply keeps_modTabs | with_reducible apply keeps_pfPump | with_reducible apply keeps_at
    | dsimp only | (show List.length _ = _; simp [State.draw]; done) | (with_reducible apply keeps_raw))

/-! Tables -/

theorem keeps_install {lv : Bool} {z0 s : State} (hk : Keeps lv z0 s) {α : Type} (x : Except Status α) (check : α → Option Status) (effect : State → α
    → State) (heffect : ∀ y0 y1, Keeps lv z0 y0 → Keeps lv z0 (effect y0 y1)) : KeepsE lv z0 (State.install s x check effect) := by
  unfold State.install
  repeat' (first | with_reducible assumption | with_reducible apply keepsE_error | with_reducible apply keepsE_intro | apply heffect | split)

theorem keeps_uninstall {lv : Bool} {z0 s : State} (hk : Keeps lv z0 s) {α : Type} (x : Except Status α) (find : α → Option α) (effect : State → α →
    State) (heffect : ∀ y0 y1, Keeps lv z0 y0 → Keeps lv z0 (effect y0 y1)) : KeepsE lv z0 (State.uninstall s x find effect) := by
  unfold State.uninstall
  repeat' (first | with_reducible assumption | with_reducible apply keepsE_error | with_reducible apply keepsE_intro | apply heffect | split)

theorem keeps_addContext {lv : Bool} {z0 s : State} (hk : Keeps lv z0 s) (x : Context) : Keeps lv z0 (State.addContext s x) := by
  unfold State.addContext
  repeat' (first | with_reducible assumption | with_reducible apply keeps_modTabs)

theorem keeps_dropLines {lv : Bool} {z0 s : State} (hk : Keeps lv z0 s) (e : AccessEntry) : Keeps lv z0 (State.dropLines s e) := by
  unfold State.dropLines
  repeat' (first
    | with_reducible assumption | with_reducible intro _ | with_reducible apply keeps_each | with_reducible apply keeps_ite
    | with_reducible apply keeps_snoopForWrite | dsimp only | split)

theorem keeps_revoke {lv : Bool} {z0 s : State} (hk : Keeps lv z0 s) (mine : AccessEntry → Bool) (byGrant : Bool) : Keeps lv z0 (State.revoke s mine
    byGrant) := by
  unfold State.revoke
  repeat' (first
    | with_reducible assumption | with_reducible intro _ | with_reducible apply keeps_each | with_reducible apply keeps_modTabs
    | with_reducible apply keeps_dropLines | with_reducible apply keeps_reap)

theorem keeps_removeContext {lv : Bool} {z0 s : State} (hk : Keeps lv z0 s) (x : Context) : Keeps lv z0 (State.removeContext s x) := by
  unfold State.removeContext
  repeat' (first | with_reducible assumption | with_reducible apply keeps_modTabs | with_reducible apply keeps_revoke)

theorem keeps_addRun {lv : Bool} {z0 s : State} (hk : Keeps lv z0 s) (r : Run) : Keeps lv z0 (State.addRun s r) := by
  unfold State.addRun
  repeat' (first | with_reducible assumption | with_reducible apply keeps_modTabs)

theorem keeps_removeRun {lv : Bool} {z0 s : State} (hk : Keeps lv z0 s) (r : Run) : Keeps lv z0 (State.removeRun s r) := by
  unfold State.removeRun
  repeat' (first
    | with_reducible assumption | with_reducible intro _ | with_reducible apply keeps_each | with_reducible apply keeps_modTabs
    | with_reducible apply keeps_modCluster)

theorem keeps_unmapped {lv : Bool} {z0 s : State} (hk : Keeps lv z0 s) (p : Nat) (virt : Nat) : Keeps lv z0 (State.unmapped s p virt) := by
  unfold State.unmapped
  repeat' (first
    | with_reducible assumption | with_reducible apply keeps_ite | with_reducible apply keeps_modTabs | with_reducible apply keeps_event
    | with_reducible apply keeps_unwait | dsimp only | split)

theorem keeps_addAccess {lv : Bool} {z0 s : State} (hk : Keeps lv z0 s) (e : AccessEntry) : Keeps lv z0 (State.addAccess s e) := by
  unfold State.addAccess
  repeat' (first | with_reducible assumption | with_reducible apply keeps_ite | with_reducible apply keeps_modTabs)

theorem keeps_removeAccess {lv : Bool} {z0 s : State} (hk : Keeps lv z0 s) (e : AccessEntry) : Keeps lv z0 (State.removeAccess s e) := by
  unfold State.removeAccess
  repeat' (first
    | with_reducible assumption | with_reducible apply keeps_ite | with_reducible apply keeps_dropLines | with_reducible apply keeps_modTabs
    | with_reducible apply keeps_event | with_reducible apply keeps_reap)

theorem keeps_addSubscriber {lv : Bool} {z0 s : State} (hk : Keeps lv z0 s) (x : Subscriber) : Keeps lv z0 (State.addSubscriber s x) := by
  unfold State.addSubscriber
  repeat' (first | with_reducible assumption | with_reducible apply keeps_modTabs)

theorem keeps_removeSubscriber {lv : Bool} {z0 s : State} (hk : Keeps lv z0 s) (x : Subscriber) : Keeps lv z0 (State.removeSubscriber s x) := by
  unfold State.removeSubscriber
  repeat' (first
    | with_reducible assumption | with_reducible apply keeps_ite | with_reducible apply keeps_modTabs | with_reducible apply keeps_freeLeaving)

theorem keeps_addService {lv : Bool} {z0 s : State} (hk : Keeps lv z0 s) (x : Service) : Keeps lv z0 (State.addService s x) := by
  unfold State.addService
  repeat' (first
    | with_reducible assumption | with_reducible apply keeps_ite | with_reducible apply keeps_modTabs | with_reducible apply keeps_moveToBucket
    | with_reducible apply keeps_event)

theorem keeps_removeService {lv : Bool} {z0 s : State} (hk : Keeps lv z0 s) (x : Service) : Keeps lv z0 (State.removeService s x) := by
  unfold State.removeService
  repeat' (first | with_reducible assumption | with_reducible apply keeps_modService | with_reducible apply keeps_freeLeaving)

theorem keeps_addGroup {lv : Bool} {z0 s : State} (hk : Keeps lv z0 s) (g : Group) : Keeps lv z0 (State.addGroup s g) := by
  unfold State.addGroup
  repeat' (first | with_reducible assumption | with_reducible apply keeps_modTabs)

theorem keeps_removeGroup {lv : Bool} {z0 s : State} (hk : Keeps lv z0 s) (g : Group) : Keeps lv z0 (State.removeGroup s g) := by
  unfold State.removeGroup
  repeat' (first | with_reducible assumption | with_reducible apply keeps_modTabs)

theorem keeps_addSumac {lv : Bool} {z0 s : State} (hk : Keeps lv z0 s) (x : SumacRange) : Keeps lv z0 (State.addSumac s x) := by
  unfold State.addSumac
  repeat' (first | with_reducible assumption | with_reducible apply keeps_ite | with_reducible apply keeps_modTabs)

theorem keeps_removeSumac {lv : Bool} {z0 s : State} (hk : Keeps lv z0 s) (x : SumacRange) : Keeps lv z0 (State.removeSumac s x) := by
  unfold State.removeSumac
  repeat' (first | with_reducible assumption | with_reducible apply keeps_modTabs)

theorem keeps_addExtent {lv : Bool} {z0 s : State} (hk : Keeps lv z0 s) (e : Extent) : Keeps lv z0 (State.addExtent s e) := by
  unfold State.addExtent
  repeat' (first | with_reducible assumption | with_reducible apply keeps_ite | with_reducible apply keeps_modTabs)

theorem keeps_removeExtent {lv : Bool} {z0 s : State} (hk : Keeps lv z0 s) (e : Extent) : Keeps lv z0 (State.removeExtent s e) := by
  unfold State.removeExtent
  repeat' (first
    | with_reducible assumption | with_reducible apply keeps_extentGone | with_reducible apply keeps_dropSectors
    | with_reducible apply keeps_modTabs)

theorem keeps_addMirrored {lv : Bool} {z0 s : State} (hk : Keeps lv z0 s) (m : MirroredRange) : Keeps lv z0 (State.addMirrored s m) := by
  unfold State.addMirrored
  repeat' (first | with_reducible assumption | with_reducible apply keeps_ite | with_reducible apply keeps_modTabs)

theorem keeps_removeMirrored {lv : Bool} {z0 s : State} (hk : Keeps lv z0 s) (m : MirroredRange) : Keeps lv z0 (State.removeMirrored s m) := by
  unfold State.removeMirrored
  repeat' (first | with_reducible assumption | with_reducible apply keeps_modTabs)

theorem keeps_removeSchedule {lv : Bool} {z0 s : State} (hk : Keeps lv z0 s) (x : Schedule) : Keeps lv z0 (State.removeSchedule s x) := by
  unfold State.removeSchedule
  repeat' (first | with_reducible assumption | with_reducible apply keeps_dropPins | with_reducible apply keeps_modTabs)

theorem keeps_addSchedule {lv : Bool} {z0 s : State} (hk : Keeps lv z0 s) (x : Schedule) : Keeps lv z0 (State.addSchedule s x) := by
  unfold State.addSchedule
  repeat' (first
    | with_reducible assumption | with_reducible apply keeps_removeSchedule | with_reducible apply keeps_modTabs | with_reducible apply keeps_pfPump)

theorem keeps_addBinding {lv : Bool} {z0 s : State} (hk : Keeps lv z0 s) (x : Binding) : Keeps lv z0 (State.addBinding s x) := by
  unfold State.addBinding
  repeat' (first | with_reducible assumption | with_reducible apply keeps_modTabs | with_reducible apply keeps_modChan)

theorem keeps_removeBinding {lv : Bool} {z0 s : State} (hk : Keeps lv z0 s) (x : Binding) : Keeps lv z0 (State.removeBinding s x) := by
  unfold State.removeBinding
  repeat' (first
    | with_reducible assumption | with_reducible apply keeps_ite | with_reducible apply keeps_unbindChan | with_reducible apply keeps_modChan)

theorem keeps_addShare {lv : Bool} {z0 s : State} (hk : Keeps lv z0 s) (x : PortShare) : Keeps lv z0 (State.addShare s x) := by
  unfold State.addShare
  repeat' (first | with_reducible assumption | with_reducible apply keeps_modTabs)

theorem keeps_removeShare {lv : Bool} {z0 s : State} (hk : Keeps lv z0 s) (x : PortShare) : Keeps lv z0 (State.removeShare s x) := by
  unfold State.removeShare
  repeat' (first | with_reducible assumption | with_reducible apply keeps_modTabs)

theorem keeps_addPublished {lv : Bool} {z0 s : State} (hk : Keeps lv z0 s) (p : Published) : Keeps lv z0 (State.addPublished s p) := by
  unfold State.addPublished
  repeat' (first
    | with_reducible assumption | with_reducible apply keeps_ite | with_reducible apply keeps_modTabs | with_reducible apply keeps_nearWrite)

theorem keeps_removePublished {lv : Bool} {z0 s : State} (hk : Keeps lv z0 s) (p : Published) : Keeps lv z0 (State.removePublished s p) := by
  unfold State.removePublished
  repeat' (first
    | with_reducible assumption | with_reducible intro _ | with_reducible apply keeps_each | with_reducible apply keeps_endRequest
    | with_reducible apply keeps_modTabs)

theorem keeps_addForwarding {lv : Bool} {z0 s : State} (hk : Keeps lv z0 s) (f : FwdSpan) : Keeps lv z0 (State.addForwarding s f) := by
  unfold State.addForwarding
  repeat' (first | with_reducible assumption | with_reducible apply keeps_ite | with_reducible apply keeps_modTabs)

theorem keeps_removeForwarding {lv : Bool} {z0 s : State} (hk : Keeps lv z0 s) (f : FwdSpan) : Keeps lv z0 (State.removeForwarding s f) := by
  unfold State.removeForwarding
  repeat' (first | with_reducible assumption | with_reducible apply keeps_modTabs)

theorem keeps_addSources {lv : Bool} {z0 s : State} (hk : Keeps lv z0 s) (x : SourceRanges) : Keeps lv z0 (State.addSources s x) := by
  unfold State.addSources
  repeat' (first | with_reducible assumption | with_reducible apply keeps_modTabs)

theorem keeps_removeSources {lv : Bool} {z0 s : State} (hk : Keeps lv z0 s) (x : SourceRanges) : Keeps lv z0 (State.removeSources s x) := by
  unfold State.removeSources
  repeat' (first | with_reducible assumption | with_reducible apply keeps_modTabs)

theorem keeps_installItem {lv : Bool} {z0 s : State} (hk : Keeps lv z0 s) (kind : Nat) (b : Bytes) : KeepsE lv z0 (State.installItem s kind b) := by
  unfold State.installItem
  repeat' (first
    | with_reducible assumption | with_reducible intro _ | with_reducible apply keepsE_error | with_reducible apply keeps_install
    | with_reducible apply keeps_addContext | with_reducible apply keeps_addRun | with_reducible apply keeps_addAccess
    | with_reducible apply keeps_addSubscriber | with_reducible apply keeps_addService | with_reducible apply keeps_addGroup
    | with_reducible apply keeps_addSumac | with_reducible apply keeps_addExtent | with_reducible apply keeps_addMirrored
    | with_reducible apply keeps_addSchedule | with_reducible apply keeps_addBinding | with_reducible apply keeps_addShare
    | with_reducible apply keeps_addPublished | with_reducible apply keeps_addForwarding | with_reducible apply keeps_addSources | split)

theorem keeps_removeItem {lv : Bool} {z0 s : State} (hk : Keeps lv z0 s) (kind : Nat) (b : Bytes) : KeepsE lv z0 (State.removeItem s kind b) := by
  unfold State.removeItem
  repeat' (first
    | with_reducible assumption | with_reducible intro _ | with_reducible apply keepsE_error | with_reducible apply keeps_uninstall
    | with_reducible apply keeps_removeContext | with_reducible apply keeps_removeRun | with_reducible apply keeps_removeAccess
    | with_reducible apply keeps_removeSubscriber | with_reducible apply keeps_removeService | with_reducible apply keeps_removeGroup
    | with_reducible apply keeps_removeSumac | with_reducible apply keeps_removeExtent | with_reducible apply keeps_removeMirrored
    | with_reducible apply keeps_removeSchedule | with_reducible apply keeps_removeBinding | with_reducible apply keeps_removeShare
    | with_reducible apply keeps_removePublished | with_reducible apply keeps_removeForwarding | with_reducible apply keeps_removeSources | split)

theorem keeps_execRunUnmapComplete {z0 s : State} (hk : Keeps false z0 s) (t : Nat) (part : Nat) (virt : Nat) : KeepsX z0 (execRunUnmapComplete t part
    virt s) := by
  unfold execRunUnmapComplete
  repeat' (first
    | with_reducible assumption | with_reducible apply keepsX_next | with_reducible apply keeps_unmapped | with_reducible apply keeps_at)

/-! Optical -/

theorem keeps_lightPorts {lv : Bool} {z0 s : State} (hk : Keeps lv z0 s) : Keeps lv z0 (State.lightPorts s) := by
  unfold State.lightPorts
  repeat' (first | with_reducible assumption | dsimp only | (with_reducible apply keeps_raw))

theorem keeps_linkEvent {lv : Bool} {z0 s : State} (hk : Keeps lv z0 s) (code : Nat) (l : Link) (vs : List Nat) : Keeps lv z0 (State.linkEvent s code
    l vs) := by
  unfold State.linkEvent
  repeat' (first | with_reducible assumption | with_reducible apply keeps_eventLimited)

theorem keeps_stopLink {lv : Bool} {z0 s : State} (hk : Keeps lv z0 s) (l : Link) (st : LinkState) : Keeps lv z0 (State.stopLink s l st) := by
  unfold State.stopLink
  repeat' (first | with_reducible assumption | with_reducible apply keeps_modLink)

theorem keeps_retrain {lv : Bool} {z0 s : State} (hk : Keeps lv z0 s) (l : Link) : Keeps lv z0 (State.retrain s l) := by
  unfold State.retrain
  repeat' (first
    | with_reducible assumption | with_reducible apply keeps_stopLink | with_reducible apply keeps_modLink | with_reducible apply keeps_healthInput)

theorem keeps_linkDown {lv : Bool} {z0 s : State} (hk : Keeps lv z0 s) (l : Link) : Keeps lv z0 (State.linkDown s l) := by
  unfold State.linkDown
  repeat' (first
    | with_reducible assumption | with_reducible intro _ | with_reducible apply keeps_each | with_reducible apply keeps_dropV
    | with_reducible apply keeps_modWarp | with_reducible apply keeps_modLink | with_reducible apply keeps_newHead
    | with_reducible apply keeps_linkEvent | with_reducible apply keeps_healthInput)

theorem keeps_lightSpare {lv : Bool} {z0 s : State} (hk : Keeps lv z0 s) (port : Nat) (sub : Nat) : Keeps lv z0 (State.lightSpare s port sub) := by
  unfold State.lightSpare
  repeat' (first | with_reducible assumption | with_reducible apply keeps_ite | with_reducible apply keeps_modLink)

theorem keeps_weakWave {lv : Bool} {z0 s : State} (hk : Keeps lv z0 s) (l : Link) (wave : Nat) : Keeps lv z0 (State.weakWave s l wave) := by
  unfold State.weakWave
  repeat' (first
    | with_reducible assumption | with_reducible apply keeps_ite | with_reducible apply keeps_modLink | with_reducible apply keeps_lightSpare)

theorem keeps_failWave {lv : Bool} {z0 s : State} (hk : Keeps lv z0 s) (l : Link) (wave : Nat) : Keeps lv z0 (State.failWave s l wave) := by
  unfold State.failWave
  repeat' (first
    | with_reducible assumption | with_reducible apply keeps_ite | with_reducible apply keeps_modLink | with_reducible apply keeps_linkEvent
    | with_reducible apply keeps_healthInput | with_reducible apply keeps_lightSpare | with_reducible apply keeps_stopLink)

theorem keeps_spareIn {lv : Bool} {z0 s : State} (hk : Keeps lv z0 s) (l : Link) : Keeps lv z0 (State.spareIn s l) := by
  unfold State.spareIn
  repeat' (first
    | with_reducible assumption | with_reducible apply keeps_modLink | with_reducible apply keeps_linkEvent | with_reducible apply keeps_cloveLog
    | dsimp only | split)

theorem keeps_waveReading {lv : Bool} {z0 s : State} (hk : Keeps lv z0 s) (port : Nat) (r : WaveReading) : Keeps lv z0 (State.waveReading s port r) :=
    by
  unfold State.waveReading
  repeat' (first
    | with_reducible assumption | with_reducible apply keeps_ite | with_reducible apply keeps_modLink | with_reducible apply keeps_healthInput
    | with_reducible apply keeps_stopLink | with_reducible apply keeps_retrain | with_reducible apply keeps_weakWave | dsimp only | split
    | (with_reducible apply keeps_raw))

theorem keeps_blockLost {lv : Bool} {z0 s : State} (hk : Keeps lv z0 s) (l : Link) (badCheck : Bool) : Keeps lv z0 (State.blockLost s l badCheck) :=
    by
  unfold State.blockLost
  repeat' (first
    | with_reducible assumption | with_reducible apply keeps_ite | with_reducible apply keeps_modLink | with_reducible apply keeps_healthInput)

theorem keeps_acknowledge {lv : Bool} {z0 s : State} (hk : Keeps lv z0 s) (l : Link) (acked : BitVec 16) : Keeps lv z0 (State.acknowledge s l acked)
    := by
  unfold State.acknowledge
  repeat' (first | with_reducible assumption | with_reducible apply keeps_modLink)

theorem keeps_replayBlocks {lv : Bool} {z0 s : State} (hk : Keeps lv z0 s) (l : Link) (acked : BitVec 16) : Keeps lv z0 (State.replayBlocks s l acked)
    := by
  unfold State.replayBlocks
  repeat' (first | with_reducible assumption | with_reducible apply keeps_acknowledge | with_reducible apply keeps_modLink)

theorem keeps_arrive {lv : Bool} {z0 s : State} (hk : Keeps lv z0 s) (port : Nat) (sub : Nat) (replay : Nat) (f : Frame) : Keeps lv z0 (State.arrive s
    port sub replay f) := by
  unfold State.arrive
  repeat' (first
    | with_reducible assumption | with_reducible apply keeps_ite | with_reducible apply keeps_freeCells | with_reducible apply keeps_parse
    | with_reducible apply keeps_enqueue | split | (apply keeps_fst; with_reducible assumption))

theorem keeps_takeFrames {lv : Bool} {z0 : State} (port sub delay : Nat) : ∀ (n : Nat) (x : Bytes) {s : State}, Keeps lv z0 s → Keeps lv z0
    (State.takeFrames port sub delay n x s) := by
  intro n
  induction n with
  | zero => intro x s hk; exact hk
  | succ n ih => 
    intro x s hk
    unfold State.takeFrames
    repeat' (first
    | with_reducible assumption | with_reducible apply ih | with_reducible apply keeps_modLink | with_reducible apply keeps_count
    | with_reducible apply keeps_eventLimited | with_reducible apply keeps_arrive | dsimp only | split)

theorem keeps_takeRegion {lv : Bool} {z0 s : State} (hk : Keeps lv z0 s) (l : Link) (b : Block) (bytes : Bytes) : Keeps lv z0 (State.takeRegion s l b
    bytes) := by
  unfold State.takeRegion
  repeat' (first
    | with_reducible assumption | with_reducible apply keeps_ite | with_reducible apply keeps_takeFrames | with_reducible apply keeps_modLink
    | with_reducible apply keeps_arrive | split)

theorem keeps_peerMask {lv : Bool} {z0 s : State} (hk : Keeps lv z0 s) (l : Link) (mask : Nat) (losing : Bool) : Keeps lv z0 (State.peerMask s l mask
    losing) := by
  unfold State.peerMask
  repeat' (first
    | with_reducible assumption | with_reducible intro _ | with_reducible apply keeps_each | with_reducible apply keeps_ite
    | with_reducible apply keeps_retrain | with_reducible apply keeps_failWave | with_reducible apply keeps_weakWave | split)

theorem keeps_blockIn {lv : Bool} {z0 s : State} (hk : Keeps lv z0 s) (l : Link) (b : Block) (bytes : Bytes) : Keeps lv z0 (State.blockIn s l b bytes)
    := by
  unfold State.blockIn
  repeat' (first
    | with_reducible assumption | with_reducible apply keeps_ite | with_reducible apply keeps_blockLost | with_reducible apply keeps_modLink
    | with_reducible apply keeps_replayBlocks | with_reducible apply keeps_acknowledge | with_reducible apply keeps_takeRegion
    | with_reducible apply keeps_peerMask | dsimp only | split)

theorem keeps_serialise {lv : Bool} {z0 s : State} (hk : Keeps lv z0 s) (l : Link) (a : AFrame) : Keeps lv z0 (State.serialise s l a) := by
  unfold State.serialise
  repeat' (first | with_reducible assumption | with_reducible apply keeps_modLink | with_reducible apply keeps_modWarp)

theorem keeps_egress {lv : Bool} {z0 : State} : ∀ (n : Nat) (l : Link) {s : State}, Keeps lv z0 s → Keeps lv z0 (State.egress s l n) := by
  intro n
  induction n with
  | zero => intro l s hk; exact hk
  | succ n ih =>
    intro l s hk
    unfold State.egress
    repeat' (first
    | with_reducible assumption | with_reducible apply ih | with_reducible apply keeps_ite | with_reducible apply keeps_modWarp
    | with_reducible apply keeps_agedDiscard | with_reducible apply keeps_modLink | with_reducible apply keeps_serialise | dsimp only | split)

theorem keeps_trainBlock {z0 s : State} (hk : Keeps false z0 s) (l : Link) (b : TrainBlock) (receipt : Nat) : Keeps false z0 (State.trainBlock s l b
    receipt) := by
  unfold State.trainBlock
  repeat' (first
    | with_reducible assumption | with_reducible apply keeps_ite | with_reducible apply keeps_modLink | with_reducible apply keeps_linkEvent)

theorem keeps_trained {lv : Bool} {z0 s : State} (hk : Keeps lv z0 s) (l : Link) : Keeps lv z0 (State.trained s l) := by
  unfold State.trained
  repeat' (first
    | with_reducible assumption | with_reducible apply keeps_ite | with_reducible apply keeps_modLink | with_reducible apply keeps_linkEvent)

theorem keeps_laneMarker {lv : Bool} {z0 s : State} (hk : Keeps lv z0 s) (port : Nat) (b : Bytes) : Keeps lv z0 (State.laneMarker s port b) := by
  unfold State.laneMarker
  repeat' (first | with_reducible assumption | with_reducible apply keeps_ite | with_reducible apply keeps_modLink)

theorem keeps_onLink {z0 s : State} (hk : Keeps false z0 s) (port : Nat) (sub : Nat) (f : State → Link → State) (hf : ∀ y0 y1, Keeps false z0 y0 →
    Keeps false z0 (f y0 y1)) : KeepsX z0 (State.onLink s port sub f) := by
  unfold State.onLink
  repeat' (first | with_reducible assumption | with_reducible apply keepsX_fault | with_reducible apply keepsX_next | apply hf | split)

theorem keeps_execEgressFrameStart {z0 s : State} (hk : Keeps false z0 s) (t : Nat) (port : Nat) (sub : Nat) : KeepsX z0 (execEgressFrameStart t port
    sub s) := by
  unfold execEgressFrameStart
  repeat' (first
    | with_reducible assumption | with_reducible intro _ | with_reducible apply keeps_onLink | with_reducible apply keeps_egress
    | with_reducible apply keeps_at)

theorem keeps_execBlockReceived {z0 s : State} (hk : Keeps false z0 s) (t : Nat) (port : Nat) (sub : Nat) (b : Block) (bytes : Bytes) : KeepsX z0
    (execBlockReceived t port sub b bytes s) := by
  unfold execBlockReceived
  repeat' (first
    | with_reducible assumption | with_reducible intro _ | with_reducible apply keepsX_fault | with_reducible apply keeps_onLink
    | with_reducible apply keeps_blockIn | with_reducible apply keeps_at | split)

theorem keeps_execBlockCheckFail {z0 s : State} (hk : Keeps false z0 s) (t : Nat) (port : Nat) (sub : Nat) : KeepsX z0 (execBlockCheckFail t port sub
    s) := by
  unfold execBlockCheckFail
  repeat' (first
    | with_reducible assumption | with_reducible intro _ | with_reducible apply keeps_ite | with_reducible apply keeps_onLink
    | with_reducible apply keeps_blockLost | with_reducible apply keeps_at)

theorem keeps_execRetryRequest {z0 s : State} (hk : Keeps false z0 s) (t : Nat) (port : Nat) (sub : Nat) (acked : BitVec 16) : KeepsX z0
    (execRetryRequest t port sub acked s) := by
  unfold execRetryRequest
  repeat' (first
    | with_reducible assumption | with_reducible intro _ | with_reducible apply keeps_ite | with_reducible apply keeps_onLink
    | with_reducible apply keeps_replayBlocks | with_reducible apply keeps_at)

theorem keeps_execRetryLimitRetrain {z0 s : State} (hk : Keeps false z0 s) (t : Nat) (port : Nat) (sub : Nat) : KeepsX z0 (execRetryLimitRetrain t
    port sub s) := by
  unfold execRetryLimitRetrain
  repeat' (first
    | with_reducible assumption | with_reducible intro _ | with_reducible apply keeps_ite | with_reducible apply keeps_onLink
    | with_reducible apply keeps_retrain | with_reducible apply keeps_at)

theorem keeps_execTrainBlockReceived {z0 s : State} (hk : Keeps false z0 s) (t : Nat) (port : Nat) (sub : Nat) (b : TrainBlock) (receiptMark : Nat) :
    KeepsX z0 (execTrainBlockReceived t port sub b receiptMark s) := by
  unfold execTrainBlockReceived
  repeat' (first
    | with_reducible assumption | with_reducible intro _ | with_reducible apply keeps_onLink | with_reducible apply keeps_trainBlock
    | with_reducible apply keeps_at)

theorem keeps_execLinkTrainingDone {z0 s : State} (hk : Keeps false z0 s) (t : Nat) (port : Nat) (sub : Nat) : KeepsX z0 (execLinkTrainingDone t port
    sub s) := by
  unfold execLinkTrainingDone
  repeat' (first
    | with_reducible assumption | with_reducible intro _ | with_reducible apply keeps_ite | with_reducible apply keeps_onLink
    | with_reducible apply keeps_trained | with_reducible apply keeps_at)

theorem keeps_execLaneMarker {z0 s : State} (hk : Keeps false z0 s) (t : Nat) (port : Nat) (bytes : Bytes) : KeepsX z0 (execLaneMarker t port bytes s)
    := by
  unfold execLaneMarker
  repeat' (first
    | with_reducible assumption | with_reducible apply keepsX_fault | with_reducible apply keepsX_next | with_reducible apply keeps_laneMarker
    | with_reducible apply keeps_at | split)

theorem keeps_execWavelengthHealthWindow {z0 s : State} (hk : Keeps false z0 s) (t : Nat) (port : Nat) (readings : List WaveReading) : KeepsX z0
    (execWavelengthHealthWindow t port readings s) := by
  unfold execWavelengthHealthWindow
  repeat' (first
    | with_reducible assumption | with_reducible intro _ | with_reducible apply keeps_each | with_reducible apply keepsX_fault
    | with_reducible apply keepsX_next | with_reducible apply keeps_waveReading | with_reducible apply keeps_at | split)

theorem keeps_execLaserMonitorFault {z0 s : State} (hk : Keeps false z0 s) (t : Nat) (port : Nat) (wave : Nat) : KeepsX z0 (execLaserMonitorFault t
    port wave s) := by
  unfold execLaserMonitorFault
  repeat' (first
    | with_reducible assumption | with_reducible apply keepsX_fault | with_reducible apply keepsX_next | with_reducible apply keeps_failWave
    | with_reducible apply keeps_at | dsimp only | split)

theorem keeps_execSpareLocked {z0 s : State} (hk : Keeps false z0 s) (t : Nat) (port : Nat) : KeepsX z0 (execSpareLocked t port s) := by
  unfold execSpareLocked
  repeat' (first
    | with_reducible assumption | with_reducible apply keeps_ite | with_reducible apply keepsX_fault | with_reducible apply keepsX_next
    | with_reducible apply keeps_spareIn | with_reducible apply keeps_modLink | with_reducible apply keeps_at | dsimp only | split)

theorem keeps_execLinkDownHoldExpiry {z0 s : State} (hk : Keeps false z0 s) (t : Nat) (port : Nat) (sub : Nat) : KeepsX z0 (execLinkDownHoldExpiry t
    port sub s) := by
  unfold execLinkDownHoldExpiry
  repeat' (first
    | with_reducible assumption | with_reducible intro _ | with_reducible apply keeps_ite | with_reducible apply keeps_onLink
    | with_reducible apply keeps_linkDown | with_reducible apply keeps_at | split)

theorem keeps_execRxLightLoss {z0 s : State} (hk : Keeps false z0 s) (t : Nat) (port : Nat) : KeepsX z0 (execRxLightLoss t port s) := by
  unfold execRxLightLoss
  repeat' (first
    | with_reducible assumption | with_reducible intro _ | with_reducible apply keeps_each | with_reducible apply keepsX_fault
    | with_reducible apply keepsX_next | with_reducible apply keeps_stopLink | with_reducible apply keeps_modLink | with_reducible apply keeps_at
    | split)

theorem keeps_execRxLightReturn {z0 s : State} (hk : Keeps false z0 s) (t : Nat) (port : Nat) : KeepsX z0 (execRxLightReturn t port s) := by
  unfold execRxLightReturn
  repeat' (first
    | with_reducible assumption | with_reducible intro _ | with_reducible apply keeps_each | with_reducible apply keeps_ite
    | with_reducible apply keepsX_fault | with_reducible apply keepsX_next | with_reducible apply keeps_modLink | with_reducible apply keeps_at
    | dsimp only | split)

/-! Composition -/

theorem keeps_closeMeter {lv : Bool} {z0 s : State} (hk : Keeps lv z0 s) (p : Nat) : Keeps lv z0 (State.closeMeter s p) := by
  unfold State.closeMeter
  repeat' (first
    | with_reducible assumption | with_reducible intro _ | with_reducible apply keeps_each | with_reducible apply keeps_ite
    | with_reducible apply keeps_modPart | with_reducible apply keeps_toOwner)

theorem keeps_sendRecord {lv : Bool} {z0 s : State} (hk : Keeps lv z0 s) (owner : Owner) (recType : Nat) (body : Bytes) : Keeps lv z0
    (State.sendRecord s owner recType body) := by
  unfold State.sendRecord
  repeat' (first
    | with_reducible assumption | with_reducible apply keeps_takeSeq | with_reducible apply keeps_originate | dsimp only
    | (with_reducible apply keeps_raw))

theorem keeps_sendKey {lv : Bool} {z0 s : State} (hk : Keeps lv z0 s) (p : Nat) : Keeps lv z0 (State.sendKey s p) := by
  unfold State.sendKey
  repeat' (first | with_reducible assumption | with_reducible apply keeps_sendRecord | split)

theorem keeps_sendOffer {lv : Bool} {z0 s : State} (hk : Keeps lv z0 s) : Keeps lv z0 (State.sendOffer s) := by
  unfold State.sendOffer
  repeat' (first
    | with_reducible assumption | (show ∀ h : Hoop, _ → _; exact fun _ => id)
    | (show ∀ h : Hoop, _ = true → _; first | exact fun _ _ => rfl | exact fun _ e => absurd e (by decide)) | with_reducible apply keeps_draw
    | with_reducible apply keeps_modHoop | with_reducible apply keeps_sendRecord)

theorem keeps_clusterItem {lv : Bool} {z0 s : State} (hk : Keeps lv z0 s) (b : Bytes) : KeepsE lv z0 (State.clusterItem s b) := by
  unfold State.clusterItem
  repeat' (first
    | with_reducible assumption | with_reducible apply keepsE_error | with_reducible apply keepsE_intro | with_reducible apply keeps_assignCluster
    | with_reducible apply keeps_modTabs | with_reducible apply keeps_modCluster | with_reducible apply keeps_leaveProceed | dsimp only | split)

theorem keeps_setUpPart {lv : Bool} {z0 s : State} (hk : Keeps lv z0 s) (p : Nat) (primary : Bool) (tenant : Bytes) : KeepsD lv z0 (State.setUpPart s
    p primary tenant) := by
  unfold State.setUpPart
  repeat' (first
    | with_reducible assumption | with_reducible apply keepsD_error | with_reducible apply keepsD_intro | with_reducible apply keeps_modPart
    | with_reducible apply keeps_activatePart | with_reducible apply keeps_generateKey | dsimp only | split)

theorem keeps_tearDownPart {lv : Bool} {z0 s : State} (hk : Keeps lv z0 s) (p : Nat) : Keeps lv z0 (State.tearDownPart s p) := by
  unfold State.tearDownPart
  repeat' (first
    | with_reducible assumption | with_reducible apply keeps_ite | with_reducible apply keeps_teardown | with_reducible apply keeps_teardownGo)

theorem keeps_partitionItem {lv : Bool} {z0 s : State} (hk : Keeps lv z0 s) (b : Bytes) : KeepsD lv z0 (State.partitionItem s b) := by
  unfold State.partitionItem
  repeat' (first
    | with_reducible assumption | with_reducible apply keepsD_error | with_reducible apply keepsD_intro | with_reducible apply keeps_setUpPart
    | with_reducible apply keeps_tearDownPart | dsimp only | split)

theorem keeps_addRing {lv : Bool} {z0 s : State} (hk : Keeps lv z0 s) (r : PartRing) : Keeps lv z0 (State.addRing s r) := by
  unfold State.addRing
  repeat' (first | with_reducible assumption | with_reducible apply keeps_modTabs | with_reducible apply keeps_modPart)

theorem keeps_removeRing {lv : Bool} {z0 s : State} (hk : Keeps lv z0 s) (r : PartRing) : Keeps lv z0 (State.removeRing s r) := by
  unfold State.removeRing
  repeat' (first | with_reducible assumption | with_reducible apply keeps_modTabs)

theorem keeps_resetJournals {lv : Bool} {z0 s : State} (hk : Keeps lv z0 s) : Keeps lv z0 (State.resetJournals s) := by
  unfold State.resetJournals
  repeat' (first
    | with_reducible assumption | (show List.length _ = 2 → List.length _ = 2; intro hi; simp_all [mapIf]; done) | with_reducible intro _
    | with_reducible apply keeps_each | with_reducible apply keeps_ite | with_reducible apply keeps_modJrn)

theorem keeps_admitDevice {lv : Bool} {z0 s : State} (hk : Keeps lv z0 s) : Keeps lv z0 (State.admitDevice s) := by
  unfold State.admitDevice
  repeat' (first
    | with_reducible assumption | (show ∀ h : Journal, _ → _; exact fun _ => id) | with_reducible intro _ | with_reducible apply keeps_ite
    | with_reducible apply keeps_modHlt | with_reducible apply keeps_modJrn | with_reducible apply keeps_event | dsimp only
    | (show _ ≤ 4; first | assumption | decide))

theorem keeps_leaveStandby {lv : Bool} {z0 s : State} (hk : Keeps lv z0 s) : Keeps lv z0 (State.leaveStandby s) := by
  unfold State.leaveStandby
  repeat' (first
    | with_reducible assumption | (show ∀ h : Hoop, _ → _; exact fun _ => id) | (show ∀ h : MemSys, _ → _; exact fun _ => id)
    | (show ∀ h : Hoop, _ = true → _; first | exact fun _ _ => rfl | exact fun _ e => absurd e (by decide))
    | (show List.length _ = 32 → List.length _ = 32; intro hi; simp_all [mapIf]; done) | with_reducible intro _ | with_reducible apply keeps_draw
    | with_reducible apply keeps_modHoop | with_reducible apply keeps_modMem | with_reducible apply keeps_modEng
    | with_reducible apply keeps_enterPower | dsimp only | (with_reducible apply keeps_raw))

theorem keeps_standbyFlag {lv : Bool} {z0 s : State} (hk : Keeps lv z0 s) (on : Bool) : Keeps lv z0 (State.standbyFlag s on) := by
  unfold State.standbyFlag
  repeat' (first
    | with_reducible assumption | (show ∀ h : Hoop, _ → _; exact fun _ => id)
    | (show ∀ h : Hoop, _ = true → _; first | exact fun _ _ => rfl | exact fun _ e => absurd e (by decide)) | with_reducible apply keeps_ite
    | with_reducible apply keeps_modHoop | with_reducible apply keeps_leaveStandby)

theorem keeps_setNode {lv : Bool} {z0 s : State} (hk : Keeps lv z0 s) (x : NodeItem) : Keeps lv z0 (State.setNode s x) := by
  unfold State.setNode
  repeat' (first
    | with_reducible assumption | with_reducible apply keeps_ite | with_reducible apply keeps_modTabs | with_reducible apply keeps_resetJournals
    | with_reducible apply keeps_admitDevice | with_reducible apply keeps_standbyFlag)

theorem keeps_setWitnesses {lv : Bool} {z0 s : State} (hk : Keeps lv z0 s) (x : Bytes × Bytes) : Keeps lv z0 (State.setWitnesses s x) := by
  unfold State.setWitnesses
  repeat' (first
    | with_reducible assumption | with_reducible intro _ | with_reducible apply keeps_modHlt | with_reducible apply keeps_modTabs | split)

theorem keeps_putItem {lv : Bool} {z0 s : State} (hk : Keeps lv z0 s) (kind : Nat) (b : Bytes) : KeepsD lv z0 (State.putItem s kind b) := by
  unfold State.putItem
  repeat' (first
    | with_reducible assumption | with_reducible intro _ | with_reducible apply keepsD_map | with_reducible apply keeps_clusterItem
    | with_reducible apply keeps_partitionItem | with_reducible apply keeps_install | with_reducible apply keeps_addRing
    | with_reducible apply keeps_setNode | with_reducible apply keeps_setWitnesses | with_reducible apply keeps_installItem | dsimp only | split)

theorem keeps_takeItem {lv : Bool} {z0 s : State} (hk : Keeps lv z0 s) (kind : Nat) (b : Bytes) : KeepsD lv z0 (State.takeItem s kind b) := by
  unfold State.takeItem
  repeat' (first
    | with_reducible assumption | with_reducible intro _ | with_reducible apply keepsD_error | with_reducible apply keepsD_map
    | with_reducible apply keeps_uninstall | with_reducible apply keeps_removeRing | with_reducible apply keeps_removeItem | dsimp only | split)

theorem keeps_applyItem {lv : Bool} {z0 s : State} (hk : Keeps lv z0 s) (x : Item) : KeepsD lv z0 (State.applyItem s x) := by
  unfold State.applyItem
  repeat' (first
    | with_reducible assumption | with_reducible apply keepsD_error | with_reducible apply keeps_putItem | with_reducible apply keeps_takeItem
    | dsimp only | split)

theorem keeps_applyItems {lv : Bool} {z0 : State} : ∀ (n i : Nat) (x : Bytes) (ks : List (Nat × Nat)) {s : State}, Keeps lv z0 s → KeepsD lv z0
    (State.applyItems n i x s ks) := by
  intro n
  induction n with
  | zero => intro i x ks s hk; unfold State.applyItems; split; exact keepsD_intro hk; exact keepsD_error
  | succ n ih =>
    intro i x ks s hk
    unfold State.applyItems
    repeat' (first
    | with_reducible assumption | with_reducible apply ih | with_reducible apply keepsD_error | with_reducible apply keeps_applyItem | split
    | (apply keepsD_ok; with_reducible assumption))

theorem keeps_setEpochs {lv : Bool} {z0 s : State} (hk : Keeps lv z0 s) (c : BitVec 32) (m : BitVec 16) : Keeps lv z0 (State.setEpochs s c m) := by
  unfold State.setEpochs
  repeat' (first
    | with_reducible assumption | with_reducible intro _ | with_reducible apply keeps_each | with_reducible apply keeps_ite
    | with_reducible apply keeps_closeMeter | with_reducible apply keeps_endConsent | with_reducible apply keeps_modTabs)

theorem keeps_scrubGiven {lv : Bool} {z0 s : State} (hk : Keeps lv z0 s) (old : State) : Keeps lv z0 (State.scrubGiven s old) := by
  unfold State.scrubGiven
  repeat' (first
    | with_reducible assumption | with_reducible intro _ | with_reducible apply keeps_each | with_reducible apply keeps_ite
    | with_reducible apply keeps_beginScrub)

theorem keeps_lostFar {lv : Bool} {z0 s : State} (hk : Keeps lv z0 s) : Keeps lv z0 (State.lostFar s) := by
  unfold State.lostFar
  repeat' (first | with_reducible assumption | with_reducible intro _ | with_reducible apply keeps_each | with_reducible apply keeps_endOf)

theorem keeps_roleMoved {lv : Bool} {z0 s : State} (hk : Keeps lv z0 s) (old : State) : Keeps lv z0 (State.roleMoved s old) := by
  unfold State.roleMoved
  repeat' (first
    | with_reducible assumption | (show ∀ h : Journal, _ → _; exact fun _ => id) | with_reducible apply keeps_ite
    | with_reducible apply keeps_modJrn | with_reducible apply keeps_failoverBegin | with_reducible apply keeps_mark
    | with_reducible apply keeps_drained)

theorem keeps_offerDue {lv : Bool} {z0 s : State} (hk : Keeps lv z0 s) (items : List Item) : Keeps lv z0 (State.offerDue s items) := by
  unfold State.offerDue
  repeat' (first | with_reducible assumption | with_reducible apply keeps_ite | with_reducible apply keeps_sendOffer)

theorem keeps_afterItems {lv : Bool} {z0 s : State} (hk : Keeps lv z0 s) (old : State) (items : List Item) : Keeps lv z0 (State.afterItems s old
    items).1 := by
  unfold State.afterItems
  repeat' (first
    | with_reducible assumption | with_reducible intro _ | with_reducible apply keeps_each | with_reducible apply keeps_ite
    | with_reducible apply keeps_scrubGiven | with_reducible apply keeps_lostFar | with_reducible apply keeps_roleMoved
    | with_reducible apply keeps_offerDue | with_reducible apply keeps_retireDone | with_reducible apply keeps_pfPump
    | with_reducible apply keeps_wake | with_reducible apply keeps_quorumCheck)

theorem keeps_drainStep {lv : Bool} {z0 s : State} (hk : Keeps lv z0 s) : Keeps lv z0 (State.drainStep s).1 := by
  unfold State.drainStep
  repeat' (first | with_reducible assumption | with_reducible apply keeps_mark | split)

theorem keeps_cleanAnchors {lv : Bool} {z0 s : State} (hk : Keeps lv z0 s) : Keeps lv z0 (State.cleanAnchors s) := by
  unfold State.cleanAnchors
  repeat' (first
    | with_reducible assumption | with_reducible intro _ | with_reducible apply keeps_each | with_reducible apply keeps_updateAnchor
    | with_reducible apply keeps_modWriter)

theorem keeps_darkLinks {lv : Bool} {z0 s : State} (hk : Keeps lv z0 s) : Keeps lv z0 (State.darkLinks s) := by
  unfold State.darkLinks
  repeat' (first | with_reducible assumption | dsimp only | (with_reducible apply keeps_raw))

theorem keeps_powerDown {lv : Bool} {z0 s : State} (hk : Keeps lv z0 s) : Keeps lv z0 (State.powerDown s) := by
  unfold State.powerDown
  repeat' (first
    | with_reducible assumption | (show ∀ h : Hoop, _ → _; exact fun _ => id)
    | (show ∀ h : Hoop, _ = true → _; first | exact fun _ _ => rfl | exact fun _ e => absurd e (by decide))
    | (show List.length _ = 32 → List.length _ = 32; intro hi; simp_all [mapIf]; done) | with_reducible intro _ | with_reducible apply keeps_modEng
    | with_reducible apply keeps_darkLinks | with_reducible apply keeps_modWarp | with_reducible apply keeps_modHoop)

theorem keeps_standbyGo {lv : Bool} {z0 s : State} (hk : Keeps lv z0 s) : Keeps lv z0 (State.standbyGo s) := by
  unfold State.standbyGo
  repeat' (first
    | with_reducible assumption | with_reducible intro _ | with_reducible apply keeps_each | with_reducible apply keeps_ite
    | with_reducible apply keeps_drainStep | with_reducible apply keeps_closeBatches | with_reducible apply keeps_cleanAnchors
    | with_reducible apply keeps_freeColl | with_reducible apply keeps_clearCluster | with_reducible apply keeps_powerDown
    | with_reducible apply keeps_enterPower | with_reducible apply keeps_unwait)

end Sys2Proof.Machine
end

