-- ==== Sys2Proof/Laws/KeepsRecords.lean ====
section
/-! SUPPORT. What every operation keeps: the owner, partner and service records. -/

set_option linter.unusedVariables false
set_option linter.unusedSimpArgs false

namespace Sys2Proof.Machine

/-! Records -/

theorem keeps_endRecord {lv : Bool} {z0 s : State} (hk : Keeps lv z0 s) (q : QRec) (st : Status) (item : Nat) : Keeps lv z0 (State.endRecord s q st
    item) := by
  unfold State.endRecord
  repeat' (first | with_reducible assumption | with_reducible apply keeps_rememberRecord | with_reducible apply keeps_answerRecord)

theorem keeps_deny {lv : Bool} {z0 s : State} (hk : Keeps lv z0 s) (q : QRec) (st : Status) : Keeps lv z0 (State.deny s q st) := by
  unfold State.deny
  repeat' (first | with_reducible assumption | with_reducible apply keeps_endRecord)

theorem keeps_applied {lv : Bool} {z0 s : State} (hk : Keeps lv z0 s) (q : QRec) (waits : List RecWait) : Keeps lv z0 (State.applied s q waits) := by
  unfold State.applied
  repeat' (first
    | with_reducible assumption | (show ∀ h : Hoop, _ → _; exact fun _ => id)
    | (show ∀ h : Hoop, _ = true → _; first | exact fun _ _ => rfl | exact fun _ e => absurd e (by decide)) | with_reducible apply keeps_ite
    | with_reducible apply keeps_extendChain | with_reducible apply keeps_endRecord | with_reducible apply keeps_modHoop)

theorem keeps_undoKeys {lv : Bool} {z0 s : State} (hk : Keeps lv z0 s) (q : QRec) : Keeps lv z0 (State.undoKeys s q) := by
  unfold State.undoKeys
  repeat' (first
    | with_reducible assumption | (show ∀ h : Journal, _ → _; exact fun _ => id) | with_reducible intro _ | with_reducible apply keeps_each
    | with_reducible apply keeps_ite | with_reducible apply keeps_eraseKey | with_reducible apply keeps_modPart | with_reducible apply keeps_modJrn)

theorem keeps_startTransfers {lv : Bool} {z0 s : State} (hk : Keeps lv z0 s) (q : QRec) (keys : List (Nat × Nat)) : Keeps lv z0 (State.startTransfers
    s q keys) := by
  unfold State.startTransfers
  repeat' (first
    | with_reducible assumption | (show ∀ h : Hoop, _ → _; exact fun _ => id)
    | (show ∀ h : Hoop, _ = true → _; first | exact fun _ _ => rfl | exact fun _ e => absurd e (by decide)) | with_reducible intro _
    | with_reducible apply keeps_each | with_reducible apply keeps_ite | with_reducible apply keeps_generateKey | with_reducible apply keeps_sendKey
    | with_reducible apply keeps_modPart | with_reducible apply keeps_modHoop)

theorem keeps_runComposition {lv : Bool} {z0 s : State} (hk : Keeps lv z0 s) (q : QRec) (ready : Bool) : Keeps lv z0 (State.runComposition s q ready)
    := by
  unfold State.runComposition
  repeat' (first
    | with_reducible assumption | with_reducible apply keeps_ite | with_reducible apply keeps_deny | with_reducible apply keeps_undoKeys
    | with_reducible apply keeps_applyItems | with_reducible apply keeps_setEpochs | with_reducible apply keeps_endRecord
    | with_reducible apply keeps_afterItems | with_reducible apply keeps_applied | with_reducible apply keeps_startTransfers | dsimp only | split
    | (apply keepsD_ok; with_reducible assumption))

theorem keeps_recordGo {lv : Bool} {z0 s : State} (hk : Keeps lv z0 s) : Keeps lv z0 (State.recordGo s) := by
  unfold State.recordGo
  repeat' (first
    | with_reducible assumption | (show ∀ h : Hoop, _ → _; exact fun _ => id)
    | (show ∀ h : Hoop, _ = true → _; first | exact fun _ _ => rfl | exact fun _ e => absurd e (by decide)) | with_reducible apply keeps_modHoop
    | with_reducible apply keeps_runComposition | split)

theorem keeps_keyTimeout {lv : Bool} {z0 s : State} (hk : Keeps lv z0 s) (p : Nat) : Keeps lv z0 (State.keyTimeout s p) := by
  unfold State.keyTimeout
  repeat' (first
    | with_reducible assumption | (show ∀ h : Hoop, _ → _; exact fun _ => id)
    | (show ∀ h : Hoop, _ = true → _; first | exact fun _ _ => rfl | exact fun _ e => absurd e (by decide)) | with_reducible apply keeps_ite
    | with_reducible apply keeps_event | with_reducible apply keeps_undoKeys | with_reducible apply keeps_modHoop
    | with_reducible apply keeps_endRecord | dsimp only | split)

theorem keeps_revokeGrant {lv : Bool} {z0 s : State} (hk : Keeps lv z0 s) (g : Bytes) : Keeps lv z0 (State.revokeGrant s g) := by
  unfold State.revokeGrant
  repeat' (first
    | with_reducible assumption | with_reducible apply keeps_ite | with_reducible apply keeps_revoke | with_reducible apply keeps_event)

theorem keeps_runRevocation {lv : Bool} {z0 s : State} (hk : Keeps lv z0 s) (q : QRec) : Keeps lv z0 (State.runRevocation s q) := by
  unfold State.runRevocation
  repeat' (first
    | with_reducible assumption | with_reducible intro _ | with_reducible apply keeps_each | with_reducible apply keeps_ite
    | with_reducible apply keeps_deny | with_reducible apply keeps_revokeGrant | with_reducible apply keeps_applied)

theorem keeps_heard {lv : Bool} {z0 s : State} (hk : Keeps lv z0 s) (witness : Nat) : Keeps lv z0 (State.heard s witness) := by
  unfold State.heard
  repeat' (first
    | with_reducible assumption | with_reducible intro _ | with_reducible apply keeps_modHlt | with_reducible apply keeps_soloCheck
    | with_reducible apply keeps_quorumCheck | split)

theorem keeps_runWitness {lv : Bool} {z0 s : State} (hk : Keeps lv z0 s) (q : QRec) : Keeps lv z0 (State.runWitness s q) := by
  unfold State.runWitness
  repeat' (first
    | with_reducible assumption | (show ∀ h : Hoop, _ → _; exact fun _ => id)
    | (show ∀ h : Hoop, _ = true → _; first | exact fun _ _ => rfl | exact fun _ e => absurd e (by decide)) | with_reducible apply keeps_ite
    | with_reducible apply keeps_deny | with_reducible apply keeps_heard | with_reducible apply keeps_applied | with_reducible apply keeps_modHoop
    | with_reducible apply keeps_enterFence | (show _ ≤ 4; first | assumption | decide))

theorem keeps_runConsent {lv : Bool} {z0 s : State} (hk : Keeps lv z0 s) (q : QRec) : Keeps lv z0 (State.runConsent s q) := by
  unfold State.runConsent
  repeat' (first
    | with_reducible assumption | with_reducible apply keeps_ite | with_reducible apply keeps_deny | with_reducible apply keeps_endConsent
    | with_reducible apply keeps_modPart | with_reducible apply keeps_extendChain | with_reducible apply keeps_event
    | with_reducible apply keeps_applied | dsimp only | split)

theorem keeps_consentExpires {lv : Bool} {z0 s : State} (hk : Keeps lv z0 s) (p : Nat) : Keeps lv z0 (State.consentExpires s p) := by
  unfold State.consentExpires
  repeat' (first | with_reducible assumption | with_reducible apply keeps_ite | with_reducible apply keeps_endConsent | split)

theorem keeps_runLock {lv : Bool} {z0 s : State} (hk : Keeps lv z0 s) (q : QRec) : Keeps lv z0 (State.runLock s q) := by
  unfold State.runLock
  repeat' (first
    | with_reducible assumption | with_reducible apply keeps_ite | with_reducible apply keeps_deny | with_reducible apply keeps_applied
    | with_reducible apply keeps_modPart | with_reducible apply keeps_closeBatch | with_reducible apply keeps_extendChain
    | with_reducible apply keeps_event | dsimp only | split)

theorem keeps_runKey {lv : Bool} {z0 s : State} (hk : Keeps lv z0 s) (q : QRec) : Keeps lv z0 (State.runKey s q) := by
  unfold State.runKey
  repeat' (first
    | with_reducible assumption | with_reducible apply keeps_ite | with_reducible apply keeps_deny | with_reducible apply keeps_modPart
    | with_reducible apply keeps_activatePart | with_reducible apply keeps_applied | dsimp only | split)

theorem keeps_runAdmission {lv : Bool} {z0 s : State} (hk : Keeps lv z0 s) (q : QRec) : Keeps lv z0 (State.runAdmission s q) := by
  unfold State.runAdmission
  repeat' (first
    | with_reducible assumption | (show ∀ h : Hoop, _ → _; exact fun _ => id)
    | (show ∀ h : Hoop, _ = true → _; first | exact fun _ _ => rfl | exact fun _ e => absurd e (by decide)) | with_reducible intro _
    | with_reducible apply keeps_each | with_reducible apply keeps_ite | with_reducible apply keeps_deny | with_reducible apply keeps_draw
    | with_reducible apply keeps_sendRecord | with_reducible apply keeps_modHoop | with_reducible apply keeps_applied
    | with_reducible apply keeps_sendKey | with_reducible apply keeps_resyncSend | with_reducible apply keeps_resyncReceive | dsimp only | split)

theorem keeps_runCertificate {lv : Bool} {z0 s : State} (hk : Keeps lv z0 s) (q : QRec) : Keeps lv z0 (State.runCertificate s q) := by
  unfold State.runCertificate
  repeat' (first
    | with_reducible assumption | (show ∀ h : Hoop, _ → _; exact fun _ => id)
    | (show ∀ h : Hoop, _ = true → _; first | exact fun _ _ => rfl | exact fun _ e => absurd e (by decide)) | with_reducible apply keeps_ite
    | with_reducible apply keeps_deny | with_reducible apply keeps_modHoop | with_reducible apply keeps_applied | dsimp only | split
    | (with_reducible apply keeps_raw))

theorem keeps_runReset {lv : Bool} {z0 s : State} (hk : Keeps lv z0 s) (q : QRec) : Keeps lv z0 (State.runReset s q) := by
  unfold State.runReset
  repeat' (first
    | with_reducible assumption | (show ∀ h : Hoop, _ → _; exact fun _ => id)
    | (show ∀ h : Hoop, _ = true → _; first | exact fun _ _ => rfl | exact fun _ e => absurd e (by decide)) | with_reducible apply keeps_ite
    | with_reducible apply keeps_deny | with_reducible apply keeps_modHoop | with_reducible apply keeps_applied)

theorem keeps_runRecord {lv : Bool} {z0 s : State} (hk : Keeps lv z0 s) (q : QRec) : Keeps lv z0 (State.runRecord s q) := by
  unfold State.runRecord
  repeat' (first
    | with_reducible assumption | with_reducible apply keeps_ite | with_reducible apply keeps_answerRecord
    | with_reducible apply keeps_runComposition | with_reducible apply keeps_runRevocation | with_reducible apply keeps_runWitness
    | with_reducible apply keeps_runConsent | with_reducible apply keeps_runLock | with_reducible apply keeps_runKey
    | with_reducible apply keeps_runAdmission | with_reducible apply keeps_runCertificate | with_reducible apply keeps_runReset | split)

theorem keeps_witnessesGo {lv : Bool} {z0 s : State} (hk : Keeps lv z0 s) : Keeps lv z0 (State.witnessesGo s) := by
  unfold State.witnessesGo
  repeat' (first
    | with_reducible assumption | (show ∀ h : Hoop, _ → _; exact fun _ => id)
    | (show ∀ h : Hoop, _ = true → _; first | exact fun _ _ => rfl | exact fun _ e => absurd e (by decide)) | with_reducible intro _
    | with_reducible apply keeps_each | with_reducible apply keeps_modHoop | with_reducible apply keeps_runRecord)

theorem keeps_queueGo {lv : Bool} {z0 s : State} (hk : Keeps lv z0 s) : Keeps lv z0 (State.queueGo s) := by
  unfold State.queueGo
  repeat' (first
    | with_reducible assumption | (show ∀ h : Hoop, _ → _; exact fun _ => id)
    | (show ∀ h : Hoop, _ = true → _; first | exact fun _ _ => rfl | exact fun _ e => absurd e (by decide)) | with_reducible apply keeps_ite
    | with_reducible apply keeps_modHoop | with_reducible apply keeps_runRecord | split)

theorem keeps_enterRecord {lv : Bool} {z0 s : State} (hk : Keeps lv z0 s) (q : QRec) : Keeps lv z0 (State.enterRecord s q) := by
  unfold State.enterRecord
  repeat' (first
    | with_reducible assumption | (show ∀ h : Hoop, _ → _; exact fun _ => id)
    | (show ∀ h : Hoop, _ = true → _; first | exact fun _ _ => rfl | exact fun _ e => absurd e (by decide)) | with_reducible apply keeps_ite
    | with_reducible apply keeps_runRecord | with_reducible apply keeps_modHoop | with_reducible apply keeps_queueGo)

theorem keeps_recordDenied {lv : Bool} {z0 s : State} (hk : Keeps lv z0 s) (path : RecPath) (t : Nat) : Keeps lv z0 (State.recordDenied s path t) :=
    by
  unfold State.recordDenied
  repeat' (first | with_reducible assumption | with_reducible apply keeps_eventLimited)

theorem keeps_submit {lv : Bool} {z0 s : State} (hk : Keeps lv z0 s) (path : RecPath) (raw : Bytes) : Keeps lv z0 (State.submit s path raw) := by
  unfold State.submit
  repeat' (first
    | with_reducible assumption | with_reducible apply keeps_ite | with_reducible apply keeps_answerRecord | with_reducible apply keeps_recordDenied
    | with_reducible apply keeps_enterRecord | dsimp only | split)

theorem keeps_arriveRecord {lv : Bool} {z0 s : State} (hk : Keeps lv z0 s) (path : RecPath) (b : Bytes) : Keeps lv z0 (State.arriveRecord s path b) :=
    by
  unfold State.arriveRecord
  repeat' (first
    | with_reducible assumption | with_reducible apply keeps_ite | with_reducible apply keeps_submit | with_reducible apply keeps_modWarp
    | with_reducible apply keeps_sendResponse | dsimp only | split)

theorem keeps_recordRow {z0 s : State} (hk : Keeps false z0 s) (t : Nat) (r : RecEnv) (mine : Bool) (body : Bytes) : KeepsX z0 (recordRow t r mine
    body s) := by
  unfold recordRow
  repeat' (first
    | with_reducible assumption | with_reducible apply keepsX_fault | with_reducible apply keepsX_next | with_reducible apply keeps_arriveRecord
    | with_reducible apply keeps_at | split)

theorem keeps_itemRow {z0 s : State} (hk : Keeps false z0 s) (t : Nat) (r : RecEnv) (pre : List Item) (kind : Nat) (op : Nat) (body : Bytes) (post :
    List Item) (mine : Bool) : KeepsX z0 (itemRow t r pre kind op body post mine s) := by
  unfold itemRow
  repeat' (first | with_reducible assumption | with_reducible apply keeps_recordRow)

theorem keeps_execContextInstall {z0 s : State} (hk : Keeps false z0 s) (t : Nat) (r : RecEnv) (pre : List Item) (body : Bytes) (post : List Item) :
    KeepsX z0 (execContextInstall t r pre body post s) := by
  unfold execContextInstall
  repeat' (first | with_reducible assumption | with_reducible apply keeps_itemRow)

theorem keeps_execContextRemove {z0 s : State} (hk : Keeps false z0 s) (t : Nat) (r : RecEnv) (pre : List Item) (body : Bytes) (post : List Item) :
    KeepsX z0 (execContextRemove t r pre body post s) := by
  unfold execContextRemove
  repeat' (first | with_reducible assumption | with_reducible apply keeps_itemRow)

theorem keeps_execRunInstall {z0 s : State} (hk : Keeps false z0 s) (t : Nat) (r : RecEnv) (pre : List Item) (body : Bytes) (post : List Item) :
    KeepsX z0 (execRunInstall t r pre body post s) := by
  unfold execRunInstall
  repeat' (first | with_reducible assumption | with_reducible apply keeps_itemRow)

theorem keeps_execRunRemove {z0 s : State} (hk : Keeps false z0 s) (t : Nat) (r : RecEnv) (pre : List Item) (body : Bytes) (post : List Item) : KeepsX
    z0 (execRunRemove t r pre body post s) := by
  unfold execRunRemove
  repeat' (first | with_reducible assumption | with_reducible apply keeps_itemRow)

theorem keeps_execAccessEntryInstall {z0 s : State} (hk : Keeps false z0 s) (t : Nat) (r : RecEnv) (pre : List Item) (body : Bytes) (post : List Item)
    : KeepsX z0 (execAccessEntryInstall t r pre body post s) := by
  unfold execAccessEntryInstall
  repeat' (first | with_reducible assumption | with_reducible apply keeps_itemRow)

theorem keeps_execAccessEntryRemove {z0 s : State} (hk : Keeps false z0 s) (t : Nat) (r : RecEnv) (pre : List Item) (body : Bytes) (post : List Item)
    : KeepsX z0 (execAccessEntryRemove t r pre body post s) := by
  unfold execAccessEntryRemove
  repeat' (first | with_reducible assumption | with_reducible apply keeps_itemRow)

theorem keeps_execSubscriberInstall {z0 s : State} (hk : Keeps false z0 s) (t : Nat) (r : RecEnv) (pre : List Item) (body : Bytes) (post : List Item)
    : KeepsX z0 (execSubscriberInstall t r pre body post s) := by
  unfold execSubscriberInstall
  repeat' (first | with_reducible assumption | with_reducible apply keeps_itemRow)

theorem keeps_execSubscriberRemove {z0 s : State} (hk : Keeps false z0 s) (t : Nat) (r : RecEnv) (pre : List Item) (body : Bytes) (post : List Item) :
    KeepsX z0 (execSubscriberRemove t r pre body post s) := by
  unfold execSubscriberRemove
  repeat' (first | with_reducible assumption | with_reducible apply keeps_itemRow)

theorem keeps_execServiceInstall {z0 s : State} (hk : Keeps false z0 s) (t : Nat) (r : RecEnv) (pre : List Item) (body : Bytes) (post : List Item) :
    KeepsX z0 (execServiceInstall t r pre body post s) := by
  unfold execServiceInstall
  repeat' (first | with_reducible assumption | with_reducible apply keeps_itemRow)

theorem keeps_execServiceRemove {z0 s : State} (hk : Keeps false z0 s) (t : Nat) (r : RecEnv) (pre : List Item) (body : Bytes) (post : List Item) :
    KeepsX z0 (execServiceRemove t r pre body post s) := by
  unfold execServiceRemove
  repeat' (first | with_reducible assumption | with_reducible apply keeps_itemRow)

theorem keeps_execGroupInstall {z0 s : State} (hk : Keeps false z0 s) (t : Nat) (r : RecEnv) (pre : List Item) (body : Bytes) (post : List Item) :
    KeepsX z0 (execGroupInstall t r pre body post s) := by
  unfold execGroupInstall
  repeat' (first | with_reducible assumption | with_reducible apply keeps_itemRow)

theorem keeps_execGroupRemove {z0 s : State} (hk : Keeps false z0 s) (t : Nat) (r : RecEnv) (pre : List Item) (body : Bytes) (post : List Item) :
    KeepsX z0 (execGroupRemove t r pre body post s) := by
  unfold execGroupRemove
  repeat' (first | with_reducible assumption | with_reducible apply keeps_itemRow)

theorem keeps_execSumacRangeInstall {z0 s : State} (hk : Keeps false z0 s) (t : Nat) (r : RecEnv) (pre : List Item) (body : Bytes) (post : List Item)
    : KeepsX z0 (execSumacRangeInstall t r pre body post s) := by
  unfold execSumacRangeInstall
  repeat' (first | with_reducible assumption | with_reducible apply keeps_itemRow)

theorem keeps_execSumacRangeRemove {z0 s : State} (hk : Keeps false z0 s) (t : Nat) (r : RecEnv) (pre : List Item) (body : Bytes) (post : List Item) :
    KeepsX z0 (execSumacRangeRemove t r pre body post s) := by
  unfold execSumacRangeRemove
  repeat' (first | with_reducible assumption | with_reducible apply keeps_itemRow)

theorem keeps_execExtentInstall {z0 s : State} (hk : Keeps false z0 s) (t : Nat) (r : RecEnv) (pre : List Item) (body : Bytes) (post : List Item) :
    KeepsX z0 (execExtentInstall t r pre body post s) := by
  unfold execExtentInstall
  repeat' (first | with_reducible assumption | with_reducible apply keeps_itemRow)

theorem keeps_execExtentRemove {z0 s : State} (hk : Keeps false z0 s) (t : Nat) (r : RecEnv) (pre : List Item) (body : Bytes) (post : List Item) :
    KeepsX z0 (execExtentRemove t r pre body post s) := by
  unfold execExtentRemove
  repeat' (first | with_reducible assumption | with_reducible apply keeps_itemRow)

theorem keeps_execMirroredRangeInstall {z0 s : State} (hk : Keeps false z0 s) (t : Nat) (r : RecEnv) (pre : List Item) (body : Bytes) (post : List
    Item) : KeepsX z0 (execMirroredRangeInstall t r pre body post s) := by
  unfold execMirroredRangeInstall
  repeat' (first | with_reducible assumption | with_reducible apply keeps_itemRow)

theorem keeps_execMirroredRangeRemove {z0 s : State} (hk : Keeps false z0 s) (t : Nat) (r : RecEnv) (pre : List Item) (body : Bytes) (post : List
    Item) : KeepsX z0 (execMirroredRangeRemove t r pre body post s) := by
  unfold execMirroredRangeRemove
  repeat' (first | with_reducible assumption | with_reducible apply keeps_itemRow)

theorem keeps_execPrefetchScheduleInstall {z0 s : State} (hk : Keeps false z0 s) (t : Nat) (r : RecEnv) (pre : List Item) (body : Bytes) (post : List
    Item) : KeepsX z0 (execPrefetchScheduleInstall t r pre body post s) := by
  unfold execPrefetchScheduleInstall
  repeat' (first | with_reducible assumption | with_reducible apply keeps_itemRow)

theorem keeps_execPrefetchScheduleRemove {z0 s : State} (hk : Keeps false z0 s) (t : Nat) (r : RecEnv) (pre : List Item) (body : Bytes) (post : List
    Item) : KeepsX z0 (execPrefetchScheduleRemove t r pre body post s) := by
  unfold execPrefetchScheduleRemove
  repeat' (first | with_reducible assumption | with_reducible apply keeps_itemRow)

theorem keeps_execChannelBindingInstall {z0 s : State} (hk : Keeps false z0 s) (t : Nat) (r : RecEnv) (pre : List Item) (body : Bytes) (post : List
    Item) : KeepsX z0 (execChannelBindingInstall t r pre body post s) := by
  unfold execChannelBindingInstall
  repeat' (first | with_reducible assumption | with_reducible apply keeps_itemRow)

theorem keeps_execChannelBindingRemove {z0 s : State} (hk : Keeps false z0 s) (t : Nat) (r : RecEnv) (pre : List Item) (body : Bytes) (post : List
    Item) : KeepsX z0 (execChannelBindingRemove t r pre body post s) := by
  unfold execChannelBindingRemove
  repeat' (first | with_reducible assumption | with_reducible apply keeps_itemRow)

theorem keeps_execPortShareInstall {z0 s : State} (hk : Keeps false z0 s) (t : Nat) (r : RecEnv) (pre : List Item) (body : Bytes) (post : List Item) :
    KeepsX z0 (execPortShareInstall t r pre body post s) := by
  unfold execPortShareInstall
  repeat' (first | with_reducible assumption | with_reducible apply keeps_itemRow)

theorem keeps_execPortShareRemove {z0 s : State} (hk : Keeps false z0 s) (t : Nat) (r : RecEnv) (pre : List Item) (body : Bytes) (post : List Item) :
    KeepsX z0 (execPortShareRemove t r pre body post s) := by
  unfold execPortShareRemove
  repeat' (first | with_reducible assumption | with_reducible apply keeps_itemRow)

theorem keeps_execPublishedRangeInstall {z0 s : State} (hk : Keeps false z0 s) (t : Nat) (r : RecEnv) (pre : List Item) (body : Bytes) (post : List
    Item) : KeepsX z0 (execPublishedRangeInstall t r pre body post s) := by
  unfold execPublishedRangeInstall
  repeat' (first | with_reducible assumption | with_reducible apply keeps_itemRow)

theorem keeps_execPublishedRangeRemove {z0 s : State} (hk : Keeps false z0 s) (t : Nat) (r : RecEnv) (pre : List Item) (body : Bytes) (post : List
    Item) : KeepsX z0 (execPublishedRangeRemove t r pre body post s) := by
  unfold execPublishedRangeRemove
  repeat' (first | with_reducible assumption | with_reducible apply keeps_itemRow)

theorem keeps_execForwardingInstall {z0 s : State} (hk : Keeps false z0 s) (t : Nat) (r : RecEnv) (pre : List Item) (body : Bytes) (post : List Item)
    : KeepsX z0 (execForwardingInstall t r pre body post s) := by
  unfold execForwardingInstall
  repeat' (first | with_reducible assumption | with_reducible apply keeps_itemRow)

theorem keeps_execForwardingRemove {z0 s : State} (hk : Keeps false z0 s) (t : Nat) (r : RecEnv) (pre : List Item) (body : Bytes) (post : List Item) :
    KeepsX z0 (execForwardingRemove t r pre body post s) := by
  unfold execForwardingRemove
  repeat' (first | with_reducible assumption | with_reducible apply keeps_itemRow)

theorem keeps_execSourceRangesInstall {z0 s : State} (hk : Keeps false z0 s) (t : Nat) (r : RecEnv) (pre : List Item) (body : Bytes) (post : List
    Item) : KeepsX z0 (execSourceRangesInstall t r pre body post s) := by
  unfold execSourceRangesInstall
  repeat' (first | with_reducible assumption | with_reducible apply keeps_itemRow)

theorem keeps_execSourceRangesRemove {z0 s : State} (hk : Keeps false z0 s) (t : Nat) (r : RecEnv) (pre : List Item) (body : Bytes) (post : List Item)
    : KeepsX z0 (execSourceRangesRemove t r pre body post s) := by
  unfold execSourceRangesRemove
  repeat' (first | with_reducible assumption | with_reducible apply keeps_itemRow)

theorem keeps_execClusterItem {z0 s : State} (hk : Keeps false z0 s) (t : Nat) (r : RecEnv) (pre : List Item) (body : Bytes) (post : List Item) :
    KeepsX z0 (execClusterItem t r pre body post s) := by
  unfold execClusterItem
  repeat' (first | with_reducible assumption | with_reducible apply keeps_itemRow)

theorem keeps_execPartitionSetup {z0 s : State} (hk : Keeps false z0 s) (t : Nat) (r : RecEnv) (pre : List Item) (body : Bytes) (post : List Item) :
    KeepsX z0 (execPartitionSetup t r pre body post s) := by
  unfold execPartitionSetup
  repeat' (first | with_reducible assumption | with_reducible apply keeps_itemRow)

theorem keeps_execPartitionTeardown {z0 s : State} (hk : Keeps false z0 s) (t : Nat) (r : RecEnv) (pre : List Item) (body : Bytes) (post : List Item)
    : KeepsX z0 (execPartitionTeardown t r pre body post s) := by
  unfold execPartitionTeardown
  repeat' (first | with_reducible assumption | with_reducible apply keeps_itemRow)

theorem keeps_execPartitionRingInstall {z0 s : State} (hk : Keeps false z0 s) (t : Nat) (r : RecEnv) (pre : List Item) (body : Bytes) (post : List
    Item) : KeepsX z0 (execPartitionRingInstall t r pre body post s) := by
  unfold execPartitionRingInstall
  repeat' (first | with_reducible assumption | with_reducible apply keeps_itemRow)

theorem keeps_execPartitionRingRemove {z0 s : State} (hk : Keeps false z0 s) (t : Nat) (r : RecEnv) (pre : List Item) (body : Bytes) (post : List
    Item) : KeepsX z0 (execPartitionRingRemove t r pre body post s) := by
  unfold execPartitionRingRemove
  repeat' (first | with_reducible assumption | with_reducible apply keeps_itemRow)

theorem keeps_execNodeAndPairInstall {z0 s : State} (hk : Keeps false z0 s) (t : Nat) (r : RecEnv) (pre : List Item) (body : Bytes) (post : List Item)
    : KeepsX z0 (execNodeAndPairInstall t r pre body post s) := by
  unfold execNodeAndPairInstall
  repeat' (first | with_reducible assumption | with_reducible apply keeps_itemRow)

theorem keeps_execJournalReset {z0 s : State} (hk : Keeps false z0 s) (t : Nat) (r : RecEnv) (pre : List Item) (body : Bytes) (post : List Item) :
    KeepsX z0 (execJournalReset t r pre body post s) := by
  unfold execJournalReset
  repeat' (first | with_reducible assumption | with_reducible apply keeps_itemRow)

theorem keeps_execStandbyEnter {z0 s : State} (hk : Keeps false z0 s) (t : Nat) (r : RecEnv) (pre : List Item) (body : Bytes) (post : List Item) :
    KeepsX z0 (execStandbyEnter t r pre body post s) := by
  unfold execStandbyEnter
  repeat' (first | with_reducible assumption | with_reducible apply keeps_itemRow)

theorem keeps_execStandbyLeave {z0 s : State} (hk : Keeps false z0 s) (t : Nat) (r : RecEnv) (pre : List Item) (body : Bytes) (post : List Item) :
    KeepsX z0 (execStandbyLeave t r pre body post s) := by
  unfold execStandbyLeave
  repeat' (first | with_reducible assumption | with_reducible apply keeps_itemRow)

theorem keeps_execDeviceAdmit {z0 s : State} (hk : Keeps false z0 s) (t : Nat) (r : RecEnv) (pre : List Item) (body : Bytes) (post : List Item) :
    KeepsX z0 (execDeviceAdmit t r pre body post s) := by
  unfold execDeviceAdmit
  repeat' (first | with_reducible assumption | with_reducible apply keeps_itemRow)

theorem keeps_execWitnessSetInstall {z0 s : State} (hk : Keeps false z0 s) (t : Nat) (r : RecEnv) (pre : List Item) (body : Bytes) (post : List Item)
    : KeepsX z0 (execWitnessSetInstall t r pre body post s) := by
  unfold execWitnessSetInstall
  repeat' (first | with_reducible assumption | with_reducible apply keeps_itemRow)

theorem keeps_execCompositionEpochAdvance {z0 s : State} (hk : Keeps false z0 s) (t : Nat) (r : RecEnv) (items : List Item) : KeepsX z0
    (execCompositionEpochAdvance t r items s) := by
  unfold execCompositionEpochAdvance
  repeat' (first | with_reducible assumption | with_reducible apply keeps_recordRow)

theorem keeps_execMapEpochAdvance {z0 s : State} (hk : Keeps false z0 s) (t : Nat) (r : RecEnv) (items : List Item) : KeepsX z0 (execMapEpochAdvance t
    r items s) := by
  unfold execMapEpochAdvance
  repeat' (first | with_reducible assumption | with_reducible apply keeps_recordRow)

theorem keeps_execRevocation {z0 s : State} (hk : Keeps false z0 s) (t : Nat) (r : RecEnv) (body : Bytes) : KeepsX z0 (execRevocation t r body s) :=
    by
  unfold execRevocation
  repeat' (first | with_reducible assumption | with_reducible apply keeps_recordRow)

theorem keeps_execPublishWitness {z0 s : State} (hk : Keeps false z0 s) (t : Nat) (r : RecEnv) (body : Bytes) : KeepsX z0 (execPublishWitness t r body
    s) := by
  unfold execPublishWitness
  repeat' (first | with_reducible assumption | with_reducible apply keeps_recordRow)

theorem keeps_execConsent {z0 s : State} (hk : Keeps false z0 s) (t : Nat) (r : RecEnv) (body : Bytes) : KeepsX z0 (execConsent t r body s) := by
  unfold execConsent
  repeat' (first | with_reducible assumption | with_reducible apply keeps_recordRow)

theorem keeps_execReplayLockOn {z0 s : State} (hk : Keeps false z0 s) (t : Nat) (r : RecEnv) (body : Bytes) : KeepsX z0 (execReplayLockOn t r body s)
    := by
  unfold execReplayLockOn
  repeat' (first | with_reducible assumption | with_reducible apply keeps_recordRow)

theorem keeps_execReplayLockOff {z0 s : State} (hk : Keeps false z0 s) (t : Nat) (r : RecEnv) (body : Bytes) : KeepsX z0 (execReplayLockOff t r body
    s) := by
  unfold execReplayLockOff
  repeat' (first | with_reducible assumption | with_reducible apply keeps_recordRow)

theorem keeps_execKeyTransfer {z0 s : State} (hk : Keeps false z0 s) (t : Nat) (r : RecEnv) (body : Bytes) : KeepsX z0 (execKeyTransfer t r body s) :=
    by
  unfold execKeyTransfer
  repeat' (first | with_reducible assumption | with_reducible apply keeps_recordRow)

theorem keeps_execPairAdmissionOffer {z0 s : State} (hk : Keeps false z0 s) (t : Nat) (r : RecEnv) (body : Bytes) : KeepsX z0 (execPairAdmissionOffer
    t r body s) := by
  unfold execPairAdmissionOffer
  repeat' (first | with_reducible assumption | with_reducible apply keeps_recordRow)

theorem keeps_execPairAdmissionAnswer {z0 s : State} (hk : Keeps false z0 s) (t : Nat) (r : RecEnv) (body : Bytes) : KeepsX z0
    (execPairAdmissionAnswer t r body s) := by
  unfold execPairAdmissionAnswer
  repeat' (first | with_reducible assumption | with_reducible apply keeps_recordRow)

theorem keeps_execOwnerCertificateFragment {z0 s : State} (hk : Keeps false z0 s) (t : Nat) (r : RecEnv) (body : Bytes) : KeepsX z0
    (execOwnerCertificateFragment t r body s) := by
  unfold execOwnerCertificateFragment
  repeat' (first | with_reducible assumption | with_reducible apply keeps_recordRow)

theorem keeps_execUnsupportedRecordType {z0 s : State} (hk : Keeps false z0 s) (t : Nat) (r : RecEnv) (body : Bytes) : KeepsX z0
    (execUnsupportedRecordType t r body s) := by
  unfold execUnsupportedRecordType
  repeat' (first | with_reducible assumption | with_reducible apply keeps_recordRow)

theorem keeps_execDeviceReset {z0 s : State} (hk : Keeps false z0 s) (t : Nat) (r : RecEnv) (body : Bytes) : KeepsX z0 (execDeviceReset t r body s) :=
    by
  unfold execDeviceReset
  repeat' (first | with_reducible assumption | with_reducible apply keeps_recordRow)

theorem keeps_execMctpSubmitRecord {z0 s : State} (hk : Keeps false z0 s) (t : Nat) (r : RecEnv) (body : Bytes) : KeepsX z0 (execMctpSubmitRecord t r
    body s) := by
  unfold execMctpSubmitRecord
  repeat' (first | with_reducible assumption | with_reducible apply keeps_recordRow)

theorem keeps_execRecordQueueAdvance {z0 s : State} (hk : Keeps false z0 s) (t : Nat) : KeepsX z0 (execRecordQueueAdvance t s) := by
  unfold execRecordQueueAdvance
  repeat' (first
    | with_reducible assumption | with_reducible apply keepsX_next | with_reducible apply keeps_standbyGo | with_reducible apply keeps_recordGo
    | with_reducible apply keeps_queueGo | with_reducible apply keeps_at)

theorem keeps_execPublishWitnessDeferred {z0 s : State} (hk : Keeps false z0 s) (t : Nat) : KeepsX z0 (execPublishWitnessDeferred t s) := by
  unfold execPublishWitnessDeferred
  repeat' (first
    | with_reducible assumption | with_reducible apply keepsX_next | with_reducible apply keeps_witnessesGo | with_reducible apply keeps_at)

theorem keeps_execKeyTransferTimeout {z0 s : State} (hk : Keeps false z0 s) (t : Nat) (p : Nat) : KeepsX z0 (execKeyTransferTimeout t p s) := by
  unfold execKeyTransferTimeout
  repeat' (first
    | with_reducible assumption | with_reducible apply keepsX_fault | with_reducible apply keepsX_next | with_reducible apply keeps_keyTimeout
    | with_reducible apply keeps_at | split)

theorem keeps_execConsentExpiry {z0 s : State} (hk : Keeps false z0 s) (t : Nat) (p : Nat) : KeepsX z0 (execConsentExpiry t p s) := by
  unfold execConsentExpiry
  repeat' (first
    | with_reducible assumption | with_reducible apply keepsX_fault | with_reducible apply keepsX_next | with_reducible apply keeps_consentExpires
    | with_reducible apply keeps_at | split)

theorem keeps_execScrubComplete {z0 s : State} (hk : Keeps false z0 s) (t : Nat) (p : Nat) : KeepsX z0 (execScrubComplete t p s) := by
  unfold execScrubComplete
  repeat' (first
    | with_reducible assumption | with_reducible apply keepsX_fault | with_reducible apply keepsX_next | with_reducible apply keeps_scrubComplete
    | with_reducible apply keeps_at | split)

theorem keeps_execBatchClose {z0 s : State} (hk : Keeps false z0 s) (t : Nat) (p : Nat) : KeepsX z0 (execBatchClose t p s) := by
  unfold execBatchClose
  repeat' (first
    | with_reducible assumption | with_reducible apply keeps_ite | with_reducible apply keepsX_fault | with_reducible apply keepsX_next
    | with_reducible apply keeps_closeBatch | with_reducible apply keeps_at | dsimp only | split)

theorem keeps_execMeterClose {z0 s : State} (hk : Keeps false z0 s) (t : Nat) (p : Nat) : KeepsX z0 (execMeterClose t p s) := by
  unfold execMeterClose
  repeat' (first
    | with_reducible assumption | with_reducible apply keeps_ite | with_reducible apply keepsX_fault | with_reducible apply keepsX_next
    | with_reducible apply keeps_closeMeter | with_reducible apply keeps_at | dsimp only | split)

theorem keeps_execEntrySettle {z0 s : State} (hk : Keeps false z0 s) (t : Nat) (n : BitVec 16) (st : BitVec 8) : KeepsX z0 (execEntrySettle t n st s)
    := by
  unfold execEntrySettle
  repeat' (first
    | with_reducible assumption | with_reducible apply keepsX_next | with_reducible apply keeps_trySettle | with_reducible apply keeps_drained
    | with_reducible apply keeps_wake | with_reducible apply keeps_teardownsGo | with_reducible apply keeps_standbyGo
    | with_reducible apply keeps_at)

theorem keeps_execResponseAck {z0 s : State} (hk : Keeps false z0 s) (t : Nat) (a : Arrival) (f : Frame) : KeepsX z0 (execResponseAck t a f s) := by
  unfold execResponseAck
  repeat' (first
    | with_reducible assumption | with_reducible intro _ | with_reducible apply keepsX_fault | with_reducible apply keepsX_next
    | with_reducible apply keeps_frame | with_reducible apply keeps_onResponse | with_reducible apply keeps_recordGo | with_reducible apply keeps_at
    | split)

theorem keeps_execResponseNack {z0 s : State} (hk : Keeps false z0 s) (t : Nat) (a : Arrival) (f : Frame) : KeepsX z0 (execResponseNack t a f s) := by
  unfold execResponseNack
  repeat' (first
    | with_reducible assumption | with_reducible intro _ | with_reducible apply keepsX_fault | with_reducible apply keepsX_next
    | with_reducible apply keeps_frame | with_reducible apply keeps_onResponse | with_reducible apply keeps_recordGo | with_reducible apply keeps_at
    | split)

end Sys2Proof.Machine
end

