-- ==== Sys2Proof/Laws/KeepsStart.lean ====
section
/-! SUPPORT. What every operation keeps: the start, power, registers and attestation. -/

set_option linter.unusedVariables false
set_option linter.unusedSimpArgs false

namespace Sys2Proof.Machine

/-! Start -/

theorem keeps_consumeRunning {lv : Bool} {z0 s : State} (hk : Keeps lv z0 s) : Keeps lv z0 (State.consumeRunning s) := by
  unfold State.consumeRunning
  repeat' (first | with_reducible assumption | with_reducible apply keeps_ite | with_reducible apply keeps_rememberRecord | split)

theorem keeps_finishLeaves {lv : Bool} {z0 s : State} (hk : Keeps lv z0 s) : Keeps lv z0 (State.finishLeaves s) := by
  unfold State.finishLeaves
  repeat' (first
    | with_reducible assumption | with_reducible intro _ | with_reducible apply keeps_each | dsimp only | (with_reducible apply keeps_raw))

theorem keeps_dropDies {z0 s : State} (hk : Keeps false z0 s) (cold lost : Bool) : Keeps false z0 (State.dropDies s cold lost) := by
  unfold State.dropDies
  have h1 := keeps_finishLeaves (keeps_each hk (List.range 16) State.scrubResume (fun _ _ h => keeps_scrubResume h _))
  generalize (s.each (List.range 16) State.scrubResume).finishLeaves = t at h1 ⊢
  exact h1.trans ⟨rfl, Nat.le_refl _, fun i =>
    { canon := by dsimp only; split; rfl; exact i.canon
      parts := by simp [i.parts]
      arbs := by simp
      chans := by simp [State.restartChannels]
      clusters := by simp
      writers := by simp [i.writers]
      hoop := i.hoop
      fence := by simp
      high := i.high }, fun e => by simp at e, fun e => by simp at e⟩

theorem keeps_resetAll {z0 s : State} (hk : Keeps false z0 s) (cause : Nat) (cold lost : Bool) (ph : Phase) :
    Keeps false z0 (State.resetAll s cause cold lost ph) := by
  unfold State.resetAll
  have h1 := keeps_dropDies (keeps_consumeRunning hk) cold lost
  generalize s.consumeRunning.dropDies cold lost = t at h1 ⊢
  have h2 : t.intact → (t.hoop.restart t.now cause cold ph).intact := by
    intro i
    obtain ⟨_, _, _, h4, h5, _, _⟩ := i.hoop
    refine ⟨rfl, rfl, rfl, ?_, ?_, by simp [Hoop.restart], by simp [Hoop.restart]⟩ <;>
     (simp only [Hoop.restart]; split <;> simp_all)
  exact h1.trans ⟨rfl, Nat.le_refl _, fun i => { i with hoop := h2 i }, fun e => by simp at e, fun e => by simp at e⟩

theorem keeps_restoreAdapt {lv : Bool} {z0 s : State} (hk : Keeps lv z0 s) (first : Bool) : Keeps lv z0 (State.restoreAdapt s first) := by
  unfold State.restoreAdapt
  repeat' (first
    | with_reducible assumption | (show ∀ h : Hoop, _ → _; exact fun _ => id) | (show ∀ h : Health, _ → _; exact fun _ => id)
    | (show ∀ h : Hoop, _ = true → _; first | exact fun _ _ => rfl | exact fun _ e => absurd e (by decide)) | with_reducible apply keeps_modHlt
    | with_reducible apply keeps_modHoop | dsimp only | split | (show List.length _ = _; simp [State.draw]; done) | (with_reducible apply keeps_raw))

theorem keeps_startTests {lv : Bool} {z0 s : State} (hk : Keeps lv z0 s) (failed : List Nat) : Keeps lv z0 (State.startTests s failed) := by
  unfold State.startTests
  repeat' (first
    | with_reducible assumption | (show ∀ h : Health, _ → _; exact fun _ => id) | with_reducible intro _ | with_reducible apply keeps_each
    | with_reducible apply keeps_ite | with_reducible apply keeps_setPart | with_reducible apply keeps_modHlt)

theorem keeps_startCluster {lv : Bool} {z0 s : State} (hk : Keeps lv z0 s) (c : Nat) (part : Option Nat) (acc : Nat) : Keeps lv z0 (State.startCluster
    s c part acc) := by
  unfold State.startCluster
  repeat' (first | with_reducible assumption | with_reducible apply keeps_modCluster)

theorem keeps_startClusters {lv : Bool} {z0 s : State} (hk : Keeps lv z0 s) : Keeps lv z0 (State.startClusters s) := by
  unfold State.startClusters
  repeat' (first
    | with_reducible assumption | (show ∀ h : Health, _ → _; exact fun _ => id) | (show ∀ h : Engines, _ → _; exact fun _ => id)
    | with_reducible intro _ | with_reducible apply keeps_each | with_reducible apply keeps_startCluster | with_reducible apply keeps_modHlt
    | with_reducible apply keeps_setPart | with_reducible apply keeps_modEng | dsimp only | split | (with_reducible apply keeps_raw))

theorem keeps_seedArbiters {lv : Bool} {z0 s : State} (hk : Keeps lv z0 s) (l : List Nat) : Keeps lv z0 (State.seedArbiters s l) := by
  unfold State.seedArbiters
  repeat' (first | with_reducible assumption | with_reducible intro _ | with_reducible apply keeps_each | with_reducible apply keeps_modArb)

theorem keeps_loadKeys {lv : Bool} {z0 s : State} (hk : Keeps lv z0 s) : Keeps lv z0 (State.loadKeys s) := by
  unfold State.loadKeys
  repeat' (first
    | with_reducible assumption | (show ∀ h : Hoop, _ → _; exact fun _ => id)
    | (show ∀ h : Hoop, _ = true → _; first | exact fun _ _ => rfl | exact fun _ e => absurd e (by decide)) | with_reducible apply keeps_draw
    | with_reducible apply keeps_modHoop | dsimp only | (show List.length _ = _; simp [State.draw]; done) | (with_reducible apply keeps_raw))

theorem keeps_startServices {lv : Bool} {z0 s : State} (hk : Keeps lv z0 s) : Keeps lv z0 (State.startServices s) := by
  unfold State.startServices
  repeat' (first
    | with_reducible assumption | with_reducible intro _ | with_reducible apply keeps_each | with_reducible apply keeps_modTabs
    | with_reducible apply keeps_addService)

theorem keeps_restartTail {lv : Bool} {z0 s : State} (hk : Keeps lv z0 s) (w : Nat) : Keeps lv z0 (State.restartTail s w) := by
  unfold State.restartTail
  repeat' (first
    | with_reducible assumption | with_reducible intro _ | with_reducible apply keeps_each | with_reducible apply keeps_ite
    | with_reducible apply keeps_modWriter | with_reducible apply keeps_modStream | with_reducible apply keeps_completeTail)

theorem keeps_seal {z0 s : State} (hk : Keeps false z0 s) (l : Loaded) : Keeps false z0 (State.seal s l) := by
  unfold State.seal
  repeat' (first
    | with_reducible assumption | (show ∀ h : Hoop, _ = true → _; first | exact fun _ _ => rfl | exact fun _ e => absurd e (by decide))
    | (show Hoop.intact _ → Hoop.intact _; first | exact id | (intro hi; simp_all [Hoop.intact]; done)) | with_reducible intro _ | with_reducible apply keeps_each
    | with_reducible apply keeps_ite | with_reducible apply keeps_restoreAdapt | with_reducible apply keeps_startTests
    | with_reducible apply keeps_startClusters | with_reducible apply keeps_seedArbiters | with_reducible apply keeps_loadKeys
    | with_reducible apply keeps_startServices | with_reducible apply keeps_modHoop | with_reducible apply keeps_modHlt
    | with_reducible apply keeps_restartTail | with_reducible apply keeps_updateAnchor | with_reducible apply keeps_nearWrite
    | with_reducible apply keeps_lightPorts | with_reducible apply keeps_scrubPump | with_reducible apply keeps_teardownsGo
    | with_reducible apply keeps_event | with_reducible apply keeps_cfg | dsimp only | split | (show List.length _ = _; simp [State.draw]; done)
    | (show _ ≤ 4; first | assumption | decide))

theorem keeps_recover {z0 s : State} (hk : Keeps false z0 s) (cause : Nat) : Keeps false z0 (State.recover s cause) := by
  unfold State.recover
  refine keeps_modHoop hk _ ?_ (fun _ e => by simp at e)
  intro h hi
  obtain ⟨h1, h2, h3, h4, h5, h6, h7⟩ := hi
  refine ⟨h1, h2, h3, ?_, h5, h6, h7⟩
  dsimp only
  split
  · exact h4
  · rfl

theorem keeps_stepSix {z0 s : State} (hk : Keeps false z0 s) (l : Loaded) (locked : Bool) : KeepsO false z0 (State.stepSix s l locked) := by
  unfold State.stepSix
  repeat' (first
    | with_reducible assumption | (show ∀ h : Hoop, _ → _; exact fun _ => id)
    | (show ∀ h : Hoop, _ = true → _; first | exact fun _ _ => rfl | exact fun _ e => absurd e (by decide)) | with_reducible apply keepsO_intro
    | with_reducible apply keepsO_none | with_reducible apply keeps_modHoop | with_reducible apply keeps_seal | dsimp only | split)

theorem keeps_trainPcie {lv : Bool} {z0 s : State} (hk : Keeps lv z0 s) (d : Card) (k : Nat) : Keeps lv z0 (State.trainPcie s d k) := by
  unfold State.trainPcie
  repeat' (first
    | with_reducible assumption | (show ∀ h : Hoop, _ = true → _; first | exact fun _ _ => rfl | exact fun _ e => absurd e (by decide))
    | (show Hoop.intact _ → Hoop.intact _; first | exact id | (intro hi; simp_all [Hoop.intact]; done)) | with_reducible intro _ | with_reducible apply keeps_ite
    | with_reducible apply keeps_modHoop)

theorem keeps_trySlots {z0 : State} (d : Card) (c : StartCond) : ∀ (l : List Nat) {s : State}, Keeps false z0 s → Keeps false z0 (State.trySlots d c l
    s) := by
  intro l
  induction l with
  | nil => intro s hk; exact keeps_recover hk _
  | cons k rest ih =>
    intro s hk
    unfold State.trySlots
    repeat' (first
    | with_reducible assumption | with_reducible apply ih | (show ∀ h : Hoop, _ → _; exact fun _ => id)
    | (show ∀ h : Hoop, _ = true → _; first | exact fun _ _ => rfl | exact fun _ e => absurd e (by decide)) | with_reducible apply keeps_modHoop
    | with_reducible apply keeps_trainPcie | with_reducible apply keeps_stepSix | dsimp only | split
    | (apply keepsO_some; with_reducible assumption))

theorem keeps_resume {z0 s : State} (hk : Keeps false z0 s) (l : Loaded) (locked : Bool) : Keeps false z0 (State.resume s l locked) := by
  unfold State.resume
  repeat' (first
    | with_reducible assumption | (show ∀ h : Hoop, _ → _; exact fun _ => id)
    | (show ∀ h : Hoop, _ = true → _; first | exact fun _ _ => rfl | exact fun _ e => absurd e (by decide)) | with_reducible apply keeps_stepSix
    | with_reducible apply keeps_trySlots | with_reducible apply keeps_modHoop | split | (apply keepsO_some; with_reducible assumption))

theorem keeps_boot {z0 s : State} (hk : Keeps false z0 s) (d : Card) (c : StartCond) : Keeps false z0 (State.boot s d c) := by
  unfold State.boot
  repeat' (first
    | with_reducible assumption | (show ∀ h : Hoop, _ → _; exact fun _ => id)
    | (show ∀ h : Hoop, _ = true → _; first | exact fun _ _ => rfl | exact fun _ e => absurd e (by decide)) | with_reducible apply keeps_ite
    | with_reducible apply keeps_resetAll | with_reducible apply keeps_modHoop | with_reducible apply keeps_recover
    | with_reducible apply keeps_trySlots)

theorem keeps_resetAsked {lv : Bool} {z0 s : State} (hk : Keeps lv z0 s) (cause : ResetCause) (go : State → State) (hgo : ∀ y0, Keeps lv z0 y0 → Keeps
    lv z0 (go y0)) : Keeps lv z0 (State.resetAsked s cause go) := by
  unfold State.resetAsked
  repeat' (first
    | with_reducible assumption | (show ∀ h : Hoop, _ → _; exact fun _ => id)
    | (show ∀ h : Hoop, _ = true → _; first | exact fun _ _ => rfl | exact fun _ e => absurd e (by decide)) | with_reducible apply keeps_modHoop
    | apply hgo | split)

theorem keeps_execColdPowerOn {z0 s : State} (hk : Keeps false z0 s) (t : Nat) : KeepsX z0 (execColdPowerOn t s) := by
  unfold execColdPowerOn
  repeat' (first
    | with_reducible assumption | with_reducible intro _ | with_reducible apply keeps_ite | with_reducible apply keepsX_next
    | with_reducible apply keeps_resetAll | with_reducible apply keeps_resetAsked | with_reducible apply keeps_at)

theorem keeps_execPerstWarmReset {z0 s : State} (hk : Keeps false z0 s) (t : Nat) : KeepsX z0 (execPerstWarmReset t s) := by
  unfold execPerstWarmReset
  repeat' (first
    | with_reducible assumption | with_reducible intro _ | with_reducible apply keepsX_next | with_reducible apply keeps_resetAsked
    | with_reducible apply keeps_resetAll | with_reducible apply keeps_at)

theorem keeps_execHoopRestart {z0 s : State} (hk : Keeps false z0 s) (t : Nat) : KeepsX z0 (execHoopRestart t s) := by
  unfold execHoopRestart
  repeat' (first
    | with_reducible assumption | with_reducible intro _ | with_reducible apply keepsX_next | with_reducible apply keeps_resetAsked
    | with_reducible apply keeps_resetAll | with_reducible apply keeps_at)

theorem keeps_execPerstLink1 {z0 s : State} (hk : Keeps false z0 s) (t : Nat) : KeepsX z0 (execPerstLink1 t s) := by
  unfold execPerstLink1
  repeat' (first
    | with_reducible assumption | (show ∀ h : Hoop, _ = true → _; first | exact fun _ _ => rfl | exact fun _ e => absurd e (by decide))
    | (show Hoop.intact _ → Hoop.intact _; first | exact id | (intro hi; simp_all [Hoop.intact]; done)) | with_reducible intro _ | with_reducible apply keepsX_next
    | with_reducible apply keeps_modHoop | with_reducible apply keeps_at)

theorem keeps_execVin12Loss {z0 s : State} (hk : Keeps false z0 s) (t : Nat) : KeepsX z0 (execVin12Loss t s) := by
  unfold execVin12Loss
  repeat' (first
    | with_reducible assumption | (show ∀ h : Hoop, _ → _; exact fun _ => id)
    | (show ∀ h : Hoop, _ = true → _; first | exact fun _ _ => rfl | exact fun _ e => absurd e (by decide)) | with_reducible apply keepsX_next
    | with_reducible apply keeps_dropDies | with_reducible apply keeps_modHoop | with_reducible apply keeps_resetAll | with_reducible apply keeps_at
    | split)

theorem keeps_execVaux3Loss {z0 s : State} (hk : Keeps false z0 s) (t : Nat) : KeepsX z0 (execVaux3Loss t s) := by
  unfold execVaux3Loss
  repeat' (first
    | with_reducible assumption | with_reducible apply keepsX_next | with_reducible apply keeps_resetAll | with_reducible apply keeps_at)

theorem keeps_execVin12InRange {z0 s : State} (hk : Keeps false z0 s) (t : Nat) : KeepsX z0 (execVin12InRange t s) := by
  unfold execVin12InRange
  repeat' (first
    | with_reducible assumption | (show ∀ h : Hoop, _ → _; exact fun _ => id)
    | (show ∀ h : Hoop, _ = true → _; first | exact fun _ _ => rfl | exact fun _ e => absurd e (by decide)) | with_reducible apply keepsX_next
    | with_reducible apply keeps_modHoop | with_reducible apply keeps_resume | with_reducible apply keeps_at | dsimp only | split)

theorem keeps_execBootStart {z0 s : State} (hk : Keeps false z0 s) (t : Nat) (card : Card) (c : StartCond) : KeepsX z0 (execBootStart t card c s) :=
    by
  unfold execBootStart
  repeat' (first
    | with_reducible assumption | with_reducible apply keepsX_next | with_reducible apply keeps_boot | with_reducible apply keeps_at)

theorem keeps_execReferenceLock {z0 s : State} (hk : Keeps false z0 s) (t : Nat) (port : Option Nat) : KeepsX z0 (execReferenceLock t port s) := by
  unfold execReferenceLock
  repeat' (first
    | with_reducible assumption | (show ∀ h : Hoop, _ → _; exact fun _ => id)
    | (show ∀ h : Hoop, _ = true → _; first | exact fun _ _ => rfl | exact fun _ e => absurd e (by decide)) | with_reducible apply keeps_ite
    | with_reducible apply keepsX_fault | with_reducible apply keepsX_next | with_reducible apply keeps_resume | with_reducible apply keeps_trySlots
    | with_reducible apply keeps_modHoop | with_reducible apply keeps_at | dsimp only | split)

theorem keeps_resetProceed {z0 s : State} (hk : Keeps false z0 s) : Keeps false z0 (State.resetProceed s) := by
  unfold State.resetProceed
  repeat' (first
    | with_reducible assumption | with_reducible apply keeps_ite | with_reducible apply keeps_unwait | with_reducible apply keeps_resetAll
    | with_reducible apply keeps_drainStep | with_reducible apply keeps_closeBatches | with_reducible apply keeps_cleanAnchors)

theorem keeps_execDeviceResetProceed {z0 s : State} (hk : Keeps false z0 s) (t : Nat) : KeepsX z0 (execDeviceResetProceed t s) := by
  unfold execDeviceResetProceed
  repeat' (first
    | with_reducible assumption | with_reducible apply keepsX_next | with_reducible apply keeps_resetProceed | with_reducible apply keeps_at)

/-! Power -/

theorem keeps_rescan {lv : Bool} {z0 s : State} (hk : Keeps lv z0 s) (w : Nat) : Keeps lv z0 (State.rescan s w) := by
  unfold State.rescan
  repeat' (first | with_reducible assumption | with_reducible apply keeps_modWriter)

theorem keeps_rimLost {lv : Bool} {z0 s : State} (hk : Keeps lv z0 s) (d : Nat) : Keeps lv z0 (State.rimLost s d) := by
  unfold State.rimLost
  repeat' (first
    | with_reducible assumption | (show ∀ h : MemSys, _ → _; exact fun _ => id) | (show ∀ h : Journal, _ → _; exact fun _ => id)
    | with_reducible intro _ | with_reducible apply keeps_each | with_reducible apply keeps_endUnaccepted | with_reducible apply keeps_refuseArrived
    | with_reducible apply keeps_modJrn | with_reducible apply keeps_refuseOpen | with_reducible apply keeps_modMem
    | with_reducible apply keeps_resetChan | with_reducible apply keeps_dropV | with_reducible apply keeps_rescan | dsimp only
    | (with_reducible apply keeps_raw))

theorem keeps_warpLost {lv : Bool} {z0 s : State} (hk : Keeps lv z0 s) : Keeps lv z0 (State.warpLost s) := by
  unfold State.warpLost
  repeat' (first
    | with_reducible assumption | (show ∀ h : Hoop, _ → _; exact fun _ => id)
    | (show ∀ h : Hoop, _ = true → _; first | exact fun _ _ => rfl | exact fun _ e => absurd e (by decide)) | with_reducible intro _
    | with_reducible apply keeps_each | with_reducible apply keeps_dropV | with_reducible apply keeps_draw | with_reducible apply keeps_modTabs
    | with_reducible apply keeps_modHoop | with_reducible apply keeps_freeLeaving | dsimp only | (show List.length _ = _; simp [State.draw]; done)
    | (with_reducible apply keeps_raw))

theorem keeps_holdIsland {lv : Bool} {z0 s : State} (hk : Keeps lv z0 s) (i : Island) : Keeps lv z0 (State.holdIsland s i) := by
  unfold State.holdIsland
  repeat' (first
    | with_reducible assumption | (show ∀ h : Hoop, _ → _; exact fun _ => id)
    | (show ∀ h : Hoop, _ = true → _; first | exact fun _ _ => rfl | exact fun _ e => absurd e (by decide)) | with_reducible apply keeps_modHoop
    | with_reducible apply keeps_rimLost | with_reducible apply keeps_warpLost | dsimp only | split)

theorem keeps_drainGo {lv : Bool} {z0 s : State} (hk : Keeps lv z0 s) (arb : Nat) : Keeps lv z0 (State.drainGo s arb) := by
  unfold State.drainGo
  repeat' (first | with_reducible assumption | with_reducible apply keeps_ite | with_reducible apply keeps_holdIsland | dsimp only | split)

theorem keeps_drainDone {lv : Bool} {z0 s : State} (hk : Keeps lv z0 s) (arb : Nat) : Keeps lv z0 (State.drainDone s arb) := by
  unfold State.drainDone
  repeat' (first
    | with_reducible assumption | with_reducible apply keeps_ite | with_reducible apply keeps_modArb | with_reducible apply keeps_drainGo)

theorem keeps_drainLate {lv : Bool} {z0 s : State} (hk : Keeps lv z0 s) (arb : Nat) : Keeps lv z0 (State.drainLate s arb) := by
  unfold State.drainLate
  repeat' (first
    | with_reducible assumption | with_reducible apply keeps_ite | with_reducible apply keeps_modArb | with_reducible apply keeps_event
    | with_reducible apply keeps_healthInput | with_reducible apply keeps_drainGo)

theorem keeps_islandBack {lv : Bool} {z0 s : State} (hk : Keeps lv z0 s) (i : Island) : Keeps lv z0 (State.islandBack s i) := by
  unfold State.islandBack
  repeat' (first
    | with_reducible assumption | (show ∀ h : Hoop, _ → _; exact fun _ => id)
    | (show ∀ h : Hoop, _ = true → _; first | exact fun _ _ => rfl | exact fun _ e => absurd e (by decide)) | with_reducible apply keeps_ite
    | with_reducible apply keeps_modHoop | with_reducible apply keeps_seedArbiters | with_reducible apply keeps_islandEvent
    | with_reducible apply keeps_resyncReceive | with_reducible apply keeps_resyncSend | with_reducible apply keeps_beginReset
    | with_reducible apply keeps_stir | dsimp only | split | (with_reducible apply keeps_raw))

theorem keeps_resetOvertime {lv : Bool} {z0 s : State} (hk : Keeps lv z0 s) (i : Island) : Keeps lv z0 (State.resetOvertime s i) := by
  unfold State.resetOvertime
  repeat' (first | with_reducible assumption | with_reducible apply keeps_ite | with_reducible apply keeps_hardFailure)

theorem keeps_flitReplay {lv : Bool} {z0 s : State} (hk : Keeps lv z0 s) (x : Crossing) (again : Bool) : Keeps lv z0 (State.flitReplay s x again) :=
    by
  unfold State.flitReplay
  repeat' (first
    | with_reducible assumption | (show ∀ h : Health, _ → _; exact fun _ => id) | with_reducible intro _ | with_reducible apply keeps_each
    | with_reducible apply keeps_ite | with_reducible apply keeps_healthInput | with_reducible apply keeps_count | with_reducible apply keeps_modHlt
    | with_reducible apply keeps_askReset)

theorem keeps_sidebandLost {lv : Bool} {z0 s : State} (hk : Keeps lv z0 s) (d : Die) (part : Nat) : Keeps lv z0 (State.sidebandLost s d part) := by
  unfold State.sidebandLost
  repeat' (first
    | with_reducible assumption | (show ∀ h : Health, _ → _; exact fun _ => id) | with_reducible apply keeps_modHlt
    | with_reducible apply keeps_hardFailure)

theorem keeps_quiesce {lv : Bool} {z0 s : State} (hk : Keeps lv z0 s) : Keeps lv z0 (State.quiesce s) := by
  unfold State.quiesce
  repeat' (first
    | with_reducible assumption | with_reducible intro _ | with_reducible apply keeps_each | with_reducible apply keeps_ite
    | with_reducible apply keeps_finalMarks | with_reducible apply keeps_closeBatches | with_reducible apply keeps_clearCluster
    | with_reducible apply keeps_modCluster | with_reducible apply keeps_enterPower)

theorem stepHold_le {up down : Bool} {h : Nat} (hi : h ≤ 12) : stepHold up down h ≤ 12 := by
  unfold stepHold; split
  · exact Nat.min_le_left _ _
  · split <;> omega

theorem keeps_stepHolds {lv : Bool} {z0 s : State} (hk : Keeps lv z0 s) (which : Nat) (f : Hoop → Hoop)
   (hf : ∀ h : Hoop, h.intact → (f h).intact) (hp : ∀ h : Hoop, lv = true → (f h).phase = h.phase) :
    Keeps lv z0 (State.stepHolds s which f) := by
  unfold State.stepHolds
  repeat' (first
    | with_reducible assumption | (show ∀ h : Hoop, _ → _; exact fun _ => id)
    | (show ∀ h : Hoop, _ = true → _; first | exact fun _ _ => rfl | exact fun _ e => absurd e (by decide)) | with_reducible apply keeps_ite
    | with_reducible apply keeps_modHoop | with_reducible apply keeps_event)

theorem keeps_trip {z0 s : State} (hk : Keeps false z0 s) (k : Nat) : Keeps false z0 (State.trip s k) := by
  unfold State.trip
  repeat' (first
    | with_reducible assumption | (show ∀ h : Hoop, _ → _; exact fun _ => id)
    | (show ∀ h : Hoop, _ = true → _; first | exact fun _ _ => rfl | exact fun _ e => absurd e (by decide)) | with_reducible apply keeps_event
    | with_reducible apply keeps_consumeRunning | with_reducible apply keeps_dropDies | with_reducible apply keeps_modHoop | dsimp only
    | (with_reducible apply keeps_raw))

theorem keeps_thermalSample {z0 s : State} (hk : Keeps false z0 s) (l : List Nat) : Keeps false z0 (State.thermalSample s l) := by
  unfold State.thermalSample
  repeat' (first
    | with_reducible assumption | exact fun _ hi => ⟨hi.1, hi.2.1, hi.2.2.1, hi.2.2.2.1, hi.2.2.2.2.1, hi.2.2.2.2.2.1, stepHold_le hi.2.2.2.2.2.2⟩
    | (show ∀ h : Hoop, _ → _; exact fun _ => id)
    | (show ∀ h : Hoop, _ = true → _; first | exact fun _ _ => rfl | exact fun _ e => absurd e (by decide)) | with_reducible apply keeps_ite
    | with_reducible apply keeps_modHoop | with_reducible apply keeps_trip | with_reducible apply keeps_stepHolds | dsimp only | split)

theorem keeps_powerSample {lv : Bool} {z0 s : State} (hk : Keeps lv z0 s) (mw : Nat) : Keeps lv z0 (State.powerSample s mw) := by
  unfold State.powerSample
  repeat' (first
    | with_reducible assumption | exact fun _ hi => ⟨hi.1, hi.2.1, hi.2.2.1, hi.2.2.2.1, hi.2.2.2.2.1, stepHold_le hi.2.2.2.2.2.1, hi.2.2.2.2.2.2⟩
    | (show ∀ h : Hoop, _ = true → _; first | exact fun _ _ => rfl | exact fun _ e => absurd e (by decide)) | with_reducible apply keeps_ite
    | with_reducible apply keeps_stepHolds)

theorem keeps_stopWindow {lv : Bool} {z0 s : State} (hk : Keeps lv z0 s) (c : Nat) (opening : Bool) : Keeps lv z0 (State.stopWindow s c opening) := by
  unfold State.stopWindow
  repeat' (first | with_reducible assumption | (show ∀ h : Engines, _ → _; exact fun _ => id) | with_reducible apply keeps_modEng)

theorem keeps_powerReport {lv : Bool} {z0 s : State} (hk : Keeps lv z0 s) (mw : Nat) : Keeps lv z0 (State.powerReport s mw) := by
  unfold State.powerReport
  repeat' (first
    | with_reducible assumption | (show ∀ h : Hoop, _ → _; exact fun _ => id)
    | (show ∀ h : Hoop, _ = true → _; first | exact fun _ _ => rfl | exact fun _ e => absurd e (by decide)) | with_reducible intro _
    | with_reducible apply keeps_each | with_reducible apply keeps_ite | with_reducible apply keeps_modHoop | with_reducible apply keeps_toOwner)

theorem keeps_tripGo {z0 s : State} (hk : Keeps false z0 s) (cause : ResetCause) : Keeps false z0 (State.tripGo s cause) := by
  unfold State.tripGo
  repeat' (first
    | with_reducible assumption | with_reducible apply keeps_ite | with_reducible apply keeps_resetAll | with_reducible apply keeps_unwait | split)

theorem keeps_execIslandReset {z0 s : State} (hk : Keeps false z0 s) (t : Nat) (i : Island) : KeepsX z0 (execIslandReset t i s) := by
  unfold execIslandReset
  repeat' (first
    | with_reducible assumption | with_reducible apply keeps_ite | with_reducible apply keepsX_fault | with_reducible apply keepsX_next
    | with_reducible apply keeps_askReset | with_reducible apply keeps_at | dsimp only | split)

theorem keeps_execIslandRecoveryDone {z0 s : State} (hk : Keeps false z0 s) (t : Nat) (i : Island) : KeepsX z0 (execIslandRecoveryDone t i s) := by
  unfold execIslandRecoveryDone
  repeat' (first
    | with_reducible assumption | with_reducible apply keepsX_fault | with_reducible apply keepsX_next | with_reducible apply keeps_islandBack
    | with_reducible apply keeps_at | split)

theorem keeps_execIslandResetOvertime {z0 s : State} (hk : Keeps false z0 s) (t : Nat) (i : Island) : KeepsX z0 (execIslandResetOvertime t i s) := by
  unfold execIslandResetOvertime
  repeat' (first
    | with_reducible assumption | with_reducible apply keepsX_fault | with_reducible apply keepsX_next | with_reducible apply keeps_resetOvertime
    | with_reducible apply keeps_at | split)

theorem keeps_execFlitReplay {z0 s : State} (hk : Keeps false z0 s) (t : Nat) (x : Crossing) (again : Bool) : KeepsX z0 (execFlitReplay t x again s)
    := by
  unfold execFlitReplay
  repeat' (first
    | with_reducible assumption | with_reducible apply keeps_ite | with_reducible apply keepsX_fault | with_reducible apply keepsX_next
    | with_reducible apply keeps_flitReplay | with_reducible apply keeps_at | dsimp only | split)

theorem keeps_execSidebandLoss {z0 s : State} (hk : Keeps false z0 s) (t : Nat) (d : Die) : KeepsX z0 (execSidebandLoss t d s) := by
  unfold execSidebandLoss
  repeat' (first
    | with_reducible assumption | with_reducible apply keeps_ite | with_reducible apply keepsX_fault | with_reducible apply keepsX_next
    | with_reducible apply keeps_sidebandLost | with_reducible apply keeps_at | dsimp only | split)

theorem keeps_execLotDrainComplete {z0 s : State} (hk : Keeps false z0 s) (t : Nat) (arb : Nat) : KeepsX z0 (execLotDrainComplete t arb s) := by
  unfold execLotDrainComplete
  repeat' (first
    | with_reducible assumption | with_reducible apply keepsX_fault | with_reducible apply keepsX_next | with_reducible apply keeps_drainDone
    | with_reducible apply keeps_at | split)

theorem keeps_execLotDrainTimeout {z0 s : State} (hk : Keeps false z0 s) (t : Nat) (arb : Nat) : KeepsX z0 (execLotDrainTimeout t arb s) := by
  unfold execLotDrainTimeout
  repeat' (first
    | with_reducible assumption | with_reducible apply keepsX_fault | with_reducible apply keepsX_next | with_reducible apply keeps_drainLate
    | with_reducible apply keeps_at | split)

theorem keeps_execQuiesceTimer {z0 s : State} (hk : Keeps false z0 s) (t : Nat) : KeepsX z0 (execQuiesceTimer t s) := by
  unfold execQuiesceTimer
  repeat' (first
    | with_reducible assumption | with_reducible apply keepsX_next | with_reducible apply keeps_quiesce | with_reducible apply keeps_at)

theorem keeps_execThermalSample {z0 s : State} (hk : Keeps false z0 s) (t : Nat) (temps : List Nat) : KeepsX z0 (execThermalSample t temps s) := by
  unfold execThermalSample
  repeat' (first
    | with_reducible assumption | with_reducible apply keepsX_next | with_reducible apply keeps_thermalSample | with_reducible apply keeps_at)

theorem keeps_execTripRestart {z0 s : State} (hk : Keeps false z0 s) (t : Nat) (cause : ResetCause) : KeepsX z0 (execTripRestart t cause s) := by
  unfold execTripRestart
  repeat' (first
    | with_reducible assumption | with_reducible apply keepsX_next | with_reducible apply keeps_tripGo | with_reducible apply keeps_at)

theorem keeps_execPowerSample {z0 s : State} (hk : Keeps false z0 s) (t : Nat) (milliwatts : Nat) : KeepsX z0 (execPowerSample t milliwatts s) := by
  unfold execPowerSample
  repeat' (first
    | with_reducible assumption | with_reducible apply keepsX_next | with_reducible apply keeps_powerSample | with_reducible apply keeps_at)

theorem keeps_execClusterStopWindow {z0 s : State} (hk : Keeps false z0 s) (t : Nat) (c : Nat) (opening : Bool) : KeepsX z0 (execClusterStopWindow t c
    opening s) := by
  unfold execClusterStopWindow
  repeat' (first
    | with_reducible assumption | with_reducible apply keepsX_fault | with_reducible apply keepsX_next | with_reducible apply keeps_stopWindow
    | with_reducible apply keeps_at | split)

theorem keeps_execPowerReportWindow {z0 s : State} (hk : Keeps false z0 s) (t : Nat) (milliwatts : Nat) : KeepsX z0 (execPowerReportWindow t
    milliwatts s) := by
  unfold execPowerReportWindow
  repeat' (first
    | with_reducible assumption | with_reducible apply keepsX_next | with_reducible apply keeps_powerReport | with_reducible apply keeps_at)

/-! Registers -/

theorem keeps_clearBits {lv : Bool} {z0 s : State} (hk : Keeps lv z0 s) (o : Nat) (v : Nat) : Keeps lv z0 (State.clearBits s o v) := by
  unfold State.clearBits
  repeat' (first
    | with_reducible assumption | (show ∀ h : Hoop, _ → _; exact fun _ => id) | (show ∀ h : Health, _ → _; exact fun _ => id)
    | (show ∀ h : Hoop, _ = true → _; first | exact fun _ _ => rfl | exact fun _ e => absurd e (by decide)) | with_reducible apply keeps_ite
    | with_reducible apply keeps_modArb | with_reducible apply keeps_modHoop | with_reducible apply keeps_modLink
    | with_reducible apply keeps_modWarp | with_reducible apply keeps_modCluster | with_reducible apply keeps_modChan
    | with_reducible apply keeps_modPart | with_reducible apply keeps_modHlt | with_reducible apply keeps_modWriter)

theorem keeps_barWrite {lv : Bool} {z0 s : State} (hk : Keeps lv z0 s) (fn : Nat) (o : Nat) (v : Nat) : Keeps lv z0 (State.barWrite s fn o v) := by
  unfold State.barWrite
  repeat' (first | with_reducible assumption | with_reducible apply keeps_ite | with_reducible apply keeps_clearBits)

theorem keeps_mailboxRing {lv : Bool} {z0 s : State} (hk : Keeps lv z0 s) (fn : Nat) (v : Nat) (b : Bytes) : Keeps lv z0 (State.mailboxRing s fn v b)
    := by
  unfold State.mailboxRing
  repeat' (first
    | with_reducible assumption | (show ∀ h : Hoop, _ → _; exact fun _ => id)
    | (show ∀ h : Hoop, _ = true → _; first | exact fun _ _ => rfl | exact fun _ e => absurd e (by decide)) | with_reducible apply keeps_ite
    | with_reducible apply keeps_modHoop | with_reducible apply keeps_arriveRecord)

theorem keeps_aerRecord {lv : Bool} {z0 s : State} (hk : Keeps lv z0 s) (fn : Nat) (err : BitVec 32) : Keeps lv z0 (State.aerRecord s fn err) := by
  unfold State.aerRecord
  repeat' (first
    | with_reducible assumption | (show ∀ h : Hoop, _ = true → _; first | exact fun _ _ => rfl | exact fun _ e => absurd e (by decide))
    | (show Hoop.intact _ → Hoop.intact _; first | exact id | (intro hi; simp_all [Hoop.intact]; done)) | with_reducible intro _ | with_reducible apply keeps_modHoop
    | with_reducible apply keeps_fire)

theorem keeps_holdoffOver {lv : Bool} {z0 s : State} (hk : Keeps lv z0 s) (fn : Nat) (vec : Nat) : Keeps lv z0 (State.holdoffOver s fn vec) := by
  unfold State.holdoffOver
  repeat' (first
    | with_reducible assumption | (show ∀ h : Hoop, _ → _; exact fun _ => id)
    | (show ∀ h : Hoop, _ = true → _; first | exact fun _ _ => rfl | exact fun _ e => absurd e (by decide)) | with_reducible apply keeps_ite
    | with_reducible apply keeps_modHoop | split)

theorem keeps_execHoopMbxDoorbell {z0 s : State} (hk : Keeps false z0 s) (t : Nat) (fn : Nat) (value : BitVec 64) (slotBytes : Bytes) : KeepsX z0
    (execHoopMbxDoorbell t fn value slotBytes s) := by
  unfold execHoopMbxDoorbell
  repeat' (first
    | with_reducible assumption | with_reducible apply keepsX_fault | with_reducible apply keepsX_next | with_reducible apply keeps_mailboxRing
    | with_reducible apply keeps_at | split)

theorem keeps_execW1cClear {z0 s : State} (hk : Keeps false z0 s) (t : Nat) (fn : Nat) (offset : Nat) (value : BitVec 64) : KeepsX z0 (execW1cClear t
    fn offset value s) := by
  unfold execW1cClear
  repeat' (first
    | with_reducible assumption | with_reducible apply keepsX_fault | with_reducible apply keepsX_next | with_reducible apply keeps_barWrite
    | with_reducible apply keeps_at | split)

theorem keeps_execRegisterWriteDropped {z0 s : State} (hk : Keeps false z0 s) (t : Nat) (fn : Nat) (offset : Nat) (value : BitVec 64) : KeepsX z0
    (execRegisterWriteDropped t fn offset value s) := by
  unfold execRegisterWriteDropped
  repeat' (first
    | with_reducible assumption | with_reducible apply keepsX_fault | with_reducible apply keepsX_next | with_reducible apply keeps_barWrite
    | with_reducible apply keeps_at | split)

theorem keeps_execUnsupportedRequestTlp {z0 s : State} (hk : Keeps false z0 s) (t : Nat) (fn : Nat) (_addr : Nat) (_isRead : Bool) : KeepsX z0
    (execUnsupportedRequestTlp t fn _addr _isRead s) := by
  unfold execUnsupportedRequestTlp
  repeat' (first
    | with_reducible assumption | with_reducible apply keeps_ite | with_reducible apply keepsX_fault | with_reducible apply keepsX_next
    | with_reducible apply keeps_aerRecord | with_reducible apply keeps_at | dsimp only | split)

theorem keeps_execAerError {z0 s : State} (hk : Keeps false z0 s) (t : Nat) (fn : Nat) (err : BitVec 32) : KeepsX z0 (execAerError t fn err s) := by
  unfold execAerError
  repeat' (first
    | with_reducible assumption | with_reducible apply keeps_ite | with_reducible apply keepsX_fault | with_reducible apply keepsX_next
    | with_reducible apply keeps_aerRecord | with_reducible apply keeps_at | dsimp only | split)

theorem keeps_execMsixHoldoffExpiry {z0 s : State} (hk : Keeps false z0 s) (t : Nat) (fn : Nat) (vec : Nat) : KeepsX z0 (execMsixHoldoffExpiry t fn
    vec s) := by
  unfold execMsixHoldoffExpiry
  repeat' (first
    | with_reducible assumption | with_reducible apply keepsX_fault | with_reducible apply keepsX_next | with_reducible apply keeps_holdoffOver
    | with_reducible apply keeps_at | split)

/-! Attest -/

theorem keeps_respond {lv : Bool} {z0 s : State} (hk : Keeps lv z0 s) (q : Requester) (b : Bytes) : Keeps lv z0 (State.respond s q b) := by
  unfold State.respond
  repeat' (first
    | with_reducible assumption | (show ∀ h : Hoop, _ → _; exact fun _ => id)
    | (show ∀ h : Hoop, _ = true → _; first | exact fun _ _ => rfl | exact fun _ e => absurd e (by decide)) | with_reducible apply keeps_modHoop
    | with_reducible apply keeps_fire | dsimp only | split)

theorem keeps_spdmSend {lv : Bool} {z0 s : State} (hk : Keeps lv z0 s) (q : Requester) (b : Bytes) (f : Spdm → Spdm) : Keeps lv z0 (State.spdmSend s q
    b f) := by
  unfold State.spdmSend
  repeat' (first
    | with_reducible assumption | (show ∀ h : Hoop, _ = true → _; first | exact fun _ _ => rfl | exact fun _ e => absurd e (by decide))
    | (show Hoop.intact _ → Hoop.intact _; first | exact id | (intro hi; simp_all [Hoop.intact]; done)) | with_reducible intro _ | with_reducible apply keeps_modHoop
    | with_reducible apply keeps_respond)

theorem keeps_spdmError {lv : Bool} {z0 s : State} (hk : Keeps lv z0 s) (q : Requester) (code : Nat) (data : Nat) : Keeps lv z0 (State.spdmError s q
    code data) := by
  unfold State.spdmError
  repeat' (first | with_reducible assumption | with_reducible apply keeps_spdmSend)

theorem keeps_spdmRow {z0 s : State} (hk : Keeps false z0 s) (t : Nat) (q : Requester) (f : State → State) (hf : ∀ y0, Keeps false z0 y0 → Keeps false
    z0 (f y0)) : KeepsX z0 (spdmRow t q f s) := by
  unfold spdmRow
  repeat' (first
    | with_reducible assumption | with_reducible apply keeps_ite | with_reducible apply keepsX_fault | with_reducible apply keepsX_next
    | with_reducible apply keeps_at | apply hf | dsimp only | split)

theorem keeps_version {lv : Bool} {z0 s : State} (hk : Keeps lv z0 s) (q : Requester) : Keeps lv z0 (State.version s q) := by
  unfold State.version
  repeat' (first | with_reducible assumption | with_reducible apply keeps_spdmSend)

theorem keeps_capabilities {lv : Bool} {z0 s : State} (hk : Keeps lv z0 s) (q : Requester) (v : BitVec 8) : Keeps lv z0 (State.capabilities s q v) :=
    by
  unfold State.capabilities
  repeat' (first
    | with_reducible assumption | with_reducible apply keeps_ite | with_reducible apply keeps_spdmError | with_reducible apply keeps_spdmSend)

theorem keeps_algorithms {lv : Bool} {z0 s : State} (hk : Keeps lv z0 s) (q : Requester) (asym : BitVec 32) (hash : BitVec 32) : Keeps lv z0
    (State.algorithms s q asym hash) := by
  unfold State.algorithms
  repeat' (first
    | with_reducible assumption | with_reducible apply keeps_ite | with_reducible apply keeps_spdmError | with_reducible apply keeps_spdmSend)

theorem keeps_digests {lv : Bool} {z0 s : State} (hk : Keeps lv z0 s) (q : Requester) : Keeps lv z0 (State.digests s q) := by
  unfold State.digests
  repeat' (first
    | with_reducible assumption | with_reducible apply keeps_ite | with_reducible apply keeps_spdmError | with_reducible apply keeps_spdmSend)

theorem keeps_certificate {lv : Bool} {z0 s : State} (hk : Keeps lv z0 s) (q : Requester) (slot : Nat) (off : Nat) (len : Nat) : Keeps lv z0
    (State.certificate s q slot off len) := by
  unfold State.certificate
  repeat' (first
    | with_reducible assumption | with_reducible apply keeps_ite | with_reducible apply keeps_spdmError | with_reducible apply keeps_spdmSend
    | dsimp only | split)

theorem keeps_challenge {lv : Bool} {z0 s : State} (hk : Keeps lv z0 s) (q : Requester) (slot : Nat) (nonce : Bytes) (kind : Nat) : Keeps lv z0
    (State.challenge s q slot nonce kind) := by
  unfold State.challenge
  repeat' (first
    | with_reducible assumption | with_reducible apply keeps_ite | with_reducible apply keeps_spdmError | with_reducible apply keeps_draw
    | with_reducible apply keeps_spdmSend | dsimp only | split)

theorem keeps_measurements {lv : Bool} {z0 s : State} (hk : Keeps lv z0 s) (q : Requester) (op : Nat) (signed : Bool) (nonce : Bytes) (slot : Nat) :
    Keeps lv z0 (State.measurements s q op signed nonce slot) := by
  unfold State.measurements
  repeat' (first
    | with_reducible assumption | with_reducible apply keeps_ite | with_reducible apply keeps_spdmError | with_reducible apply keeps_draw
    | with_reducible apply keeps_spdmSend)

theorem keeps_execDoeDiscovery {z0 s : State} (hk : Keeps false z0 s) (t : Nat) (fn : Nat) (index : Nat) : KeepsX z0 (execDoeDiscovery t fn index s)
    := by
  unfold execDoeDiscovery
  repeat' (first
    | with_reducible assumption | with_reducible apply keeps_ite | with_reducible apply keepsX_fault | with_reducible apply keepsX_next
    | with_reducible apply keeps_respond | with_reducible apply keeps_at | dsimp only | split)

theorem keeps_execGetVersion {z0 s : State} (hk : Keeps false z0 s) (t : Nat) (q : Requester) : KeepsX z0 (execGetVersion t q s) := by
  unfold execGetVersion
  repeat' (first | with_reducible assumption | with_reducible intro _ | with_reducible apply keeps_version | with_reducible apply keeps_spdmRow)

theorem keeps_execGetCapabilities {z0 s : State} (hk : Keeps false z0 s) (t : Nat) (q : Requester) (version : BitVec 8) : KeepsX z0
    (execGetCapabilities t q version s) := by
  unfold execGetCapabilities
  repeat' (first
    | with_reducible assumption | with_reducible intro _ | with_reducible apply keeps_capabilities | with_reducible apply keeps_spdmRow)

theorem keeps_execNegotiateAlgorithms {z0 s : State} (hk : Keeps false z0 s) (t : Nat) (q : Requester) (baseAsym : BitVec 32) (baseHash : BitVec 32) :
    KeepsX z0 (execNegotiateAlgorithms t q baseAsym baseHash s) := by
  unfold execNegotiateAlgorithms
  repeat' (first
    | with_reducible assumption | with_reducible intro _ | with_reducible apply keeps_algorithms | with_reducible apply keeps_spdmRow)

theorem keeps_execGetDigests {z0 s : State} (hk : Keeps false z0 s) (t : Nat) (q : Requester) : KeepsX z0 (execGetDigests t q s) := by
  unfold execGetDigests
  repeat' (first | with_reducible assumption | with_reducible intro _ | with_reducible apply keeps_digests | with_reducible apply keeps_spdmRow)

theorem keeps_execGetCertificate {z0 s : State} (hk : Keeps false z0 s) (t : Nat) (q : Requester) (slot : Nat) (offset : Nat) (length : Nat) : KeepsX
    z0 (execGetCertificate t q slot offset length s) := by
  unfold execGetCertificate
  repeat' (first
    | with_reducible assumption | with_reducible intro _ | with_reducible apply keeps_certificate | with_reducible apply keeps_spdmRow)

theorem keeps_execChallenge {z0 s : State} (hk : Keeps false z0 s) (t : Nat) (q : Requester) (slot : Nat) (nonce : Bytes) (measType : BitVec 8) :
    KeepsX z0 (execChallenge t q slot nonce measType s) := by
  unfold execChallenge
  repeat' (first
    | with_reducible assumption | with_reducible intro _ | with_reducible apply keeps_challenge | with_reducible apply keeps_spdmRow)

theorem keeps_execGetMeasurements {z0 s : State} (hk : Keeps false z0 s) (t : Nat) (q : Requester) (op : Nat) (signed : Bool) (nonce : Bytes) (slot :
    Nat) : KeepsX z0 (execGetMeasurements t q op signed nonce slot s) := by
  unfold execGetMeasurements
  repeat' (first
    | with_reducible assumption | with_reducible intro _ | with_reducible apply keeps_measurements | with_reducible apply keeps_spdmRow)

theorem keeps_execSpdmUnsupportedRequest {z0 s : State} (hk : Keeps false z0 s) (t : Nat) (q : Requester) (code : BitVec 8) : KeepsX z0
    (execSpdmUnsupportedRequest t q code s) := by
  unfold execSpdmUnsupportedRequest
  repeat' (first
    | with_reducible assumption | with_reducible intro _ | with_reducible apply keepsX_fault | with_reducible apply keeps_spdmError
    | with_reducible apply keeps_spdmRow | split)

theorem keeps_execMctpControl {z0 s : State} (hk : Keeps false z0 s) (t : Nat) (bytes : Bytes) : KeepsX z0 (execMctpControl t bytes s) := by
  unfold execMctpControl
  repeat' (first
    | with_reducible assumption | with_reducible apply keeps_ite | with_reducible apply keepsX_next | with_reducible apply keeps_respond
    | with_reducible apply keeps_at)

theorem keeps_execMctpStatus {z0 s : State} (hk : Keeps false z0 s) (t : Nat) : KeepsX z0 (execMctpStatus t s) := by
  unfold execMctpStatus
  repeat' (first
    | with_reducible assumption | with_reducible apply keeps_ite | with_reducible apply keepsX_next | with_reducible apply keeps_respond
    | with_reducible apply keeps_at)

theorem keeps_execMctpReadRing {z0 s : State} (hk : Keeps false z0 s) (t : Nat) (ring : Nat) (start : Nat) (count : Nat) : KeepsX z0 (execMctpReadRing
    t ring start count s) := by
  unfold execMctpReadRing
  repeat' (first
    | with_reducible assumption | with_reducible apply keeps_ite | with_reducible apply keepsX_next | with_reducible apply keeps_respond
    | with_reducible apply keeps_at)

theorem keeps_execEntdaa {z0 s : State} (hk : Keeps false z0 s) (t : Nat) (addr : BitVec 7) : KeepsX z0 (execEntdaa t addr s) := by
  unfold execEntdaa
  repeat' (first
    | with_reducible assumption | (show ∀ h : Hoop, _ → _; exact fun _ => id)
    | (show ∀ h : Hoop, _ = true → _; first | exact fun _ _ => rfl | exact fun _ e => absurd e (by decide)) | with_reducible apply keeps_ite
    | with_reducible apply keepsX_next | with_reducible apply keeps_modHoop | with_reducible apply keeps_at)

theorem keeps_execSetdasa {z0 s : State} (hk : Keeps false z0 s) (t : Nat) (static : BitVec 7) (dynamic : BitVec 7) : KeepsX z0 (execSetdasa t static
    dynamic s) := by
  unfold execSetdasa
  repeat' (first
    | with_reducible assumption | (show ∀ h : Hoop, _ → _; exact fun _ => id)
    | (show ∀ h : Hoop, _ = true → _; first | exact fun _ _ => rfl | exact fun _ e => absurd e (by decide)) | with_reducible apply keeps_ite
    | with_reducible apply keepsX_next | with_reducible apply keeps_modHoop | with_reducible apply keeps_at)

end Sys2Proof.Machine
end

