-- ==== Sys2Proof/Laws/PerInstr.lean ====
section
/-! SUPPORT. One lemma per command: whether a command is well formed does not depend on its moment. -/

namespace Sys2Proof

/-- The moment of a command. -/
def Instr.moment : Instr → Nat
  | .coldPowerOn t => t
  | .perstWarmReset t => t
  | .perstLink1 t => t
  | .hoopRestart t => t
  | .vin12Loss t => t
  | .vaux3Loss t => t
  | .vin12InRange t => t
  | .bootStart t _ _ => t
  | .referenceLock t _ => t
  | .deviceReset t _ _ => t
  | .deviceResetProceed t => t
  | .islandReset t _ => t
  | .islandRecoveryDone t _ => t
  | .islandResetOvertime t _ => t
  | .flitReplay t _ _ => t
  | .sidebandLoss t _ => t
  | .lotDrainComplete t _ => t
  | .lotDrainTimeout t _ => t
  | .quiesceTimer t => t
  | .thermalSample t _ => t
  | .tripRestart t _ => t
  | .powerSample t _ => t
  | .clusterStopWindow t _ _ => t
  | .powerReportWindow t _ => t
  | .load t _ _ _ => t
  | .store t _ _ _ => t
  | .flush t _ _ => t
  | .publish t _ _ => t
  | .publishFlushDone t _ => t
  | .stagingWriteRelease t _ _ => t
  | .atomicFaddInteger t _ _ _ => t
  | .atomicFaddFloat t _ _ _ => t
  | .atomicFminInteger t _ _ _ => t
  | .atomicFminFloat t _ _ _ => t
  | .atomicFmaxInteger t _ _ _ => t
  | .atomicFmaxFloat t _ _ _ => t
  | .atomicCas t _ _ _ => t
  | .atomicSwap t _ _ _ => t
  | .reducePut t _ _ => t
  | .partialFrame t _ _ => t
  | .segmentRoundExpiry t _ _ => t
  | .reissueRoundDeadline t _ _ => t
  | .collectiveRebind t _ => t
  | .mcastStore t _ _ => t
  | .gather t _ _ => t
  | .scatterAdd t _ _ => t
  | .predicateFilter t _ _ => t
  | .topK t _ _ => t
  | .embeddingBag t _ _ => t
  | .smallDenseProjection t _ _ => t
  | .treeEnsemble t _ _ => t
  | .collectiveSetup t _ _ => t
  | .collectiveRelease t _ _ => t
  | .collectiveReleaseDone t _ => t
  | .unsupportedOpcode t _ _ => t
  | .xcheckOffload t _ _ => t
  | .xcheckTimeout t _ => t
  | .operatorStart t _ => t
  | .tileStart t _ => t
  | .tileComplete t _ _ => t
  | .operatorComplete t _ => t
  | .dispatchQueueDeadline t _ => t
  | .offer t _ _ => t
  | .take t _ _ => t
  | .orphanHoldExpiry t _ => t
  | .mirror t _ _ => t
  | .responseAck t _ _ => t
  | .responseNack t _ _ => t
  | .frameResendTimer t _ _ _ => t
  | .frameUnanswered t _ _ _ => t
  | .requestAgeLimit t _ => t
  | .landingWriteRefill t _ _ _ => t
  | .entrySettle t _ _ => t
  | .nodeRetireComplete t _ => t
  | .pendingFrameRelease t _ _ _ => t
  | .pendingFrameDeadline t _ _ _ => t
  | .mirrorTimeout t _ _ => t
  | .markInterval t _ => t
  | .idleMarkInterval t _ => t
  | .entryRetire t _ _ _ => t
  | .anchorUpdate t _ => t
  | .mapEpochGraceExpiry t => t
  | .failoverStreamsOpen t => t
  | .crossbarSlot t => t
  | .urgentPromotion t _ _ _ => t
  | .calendarWheelTick t => t
  | .spillOn t => t
  | .spillOff t => t
  | .spillRefill t _ _ _ => t
  | .refillReturn t _ _ _ _ => t
  | .egressFrameStart t _ _ => t
  | .lotteryDraw t _ _ => t
  | .stackAccessDone t _ => t
  | .rdS t _ _ _ => t
  | .rdX t _ _ _ => t
  | .upg t _ _ _ => t
  | .rdU t _ _ _ => t
  | .wrU t _ _ _ _ => t
  | .evcC t _ _ => t
  | .evcD t _ _ => t
  | .lineFlush t _ => t
  | .srI t _ _ _ _ => t
  | .srN t _ _ _ _ => t
  | .lineData t _ _ _ _ => t
  | .cack t _ _ => t
  | .snpShr t _ _ => t
  | .snpFwd t _ _ => t
  | .snpI t _ _ => t
  | .cmpE t _ _ _ => t
  | .cmpS t _ _ _ => t
  | .cmpN t _ _ _ => t
  | .cmpM t _ _ _ => t
  | .bufGnt t _ _ => t
  | .cmpW t _ _ => t
  | .cmpEvc t _ _ => t
  | .nak t _ _ _ => t
  | .coreRead t _ _ _ => t
  | .coreWrite t _ _ _ _ => t
  | .victimChosen t _ _ => t
  | .snoopAnswerTimeout t _ _ => t
  | .prefetchDoorbell t _ _ => t
  | .prefetchInstanceLanded t _ _ _ => t
  | .oneMsWindow t => t
  | .moverDoorbell t _ _ _ => t
  | .moverRestart t _ _ _ => t
  | .moverDescriptorStart t _ => t
  | .moverDescriptorComplete t _ => t
  | .moverRetryTimer t _ => t
  | .moverPaceResume t _ => t
  | .scrubComplete t _ => t
  | .consentExpiry t _ => t
  | .keyTransferTimeout t _ => t
  | .batchClose t _ => t
  | .blockReceived t _ _ _ _ => t
  | .blockCheckFail t _ _ => t
  | .retryRequest t _ _ _ => t
  | .retryLimitRetrain t _ _ => t
  | .trainBlockReceived t _ _ _ _ => t
  | .linkTrainingDone t _ _ => t
  | .laneMarker t _ _ => t
  | .wavelengthHealthWindow t _ _ => t
  | .laserMonitorFault t _ _ => t
  | .spareLocked t _ => t
  | .linkDownHoldExpiry t _ _ => t
  | .rxLightLoss t _ => t
  | .rxLightReturn t _ => t
  | .resyncStore t _ _ => t
  | .resyncCopyDone t => t
  | .healthScoreTick t => t
  | .expelBudgetRoom t => t
  | .expelThresholdLower t _ => t
  | .witnessExpiry t => t
  | .soloHoldTimeout t => t
  | .cloveRateAdapt t _ _ _ _ => t
  | .cloveAdmitAdapt t _ _ _ => t
  | .clovePfDepthAdapt t _ _ _ => t
  | .cloveWeakSymAdapt t _ _ _ => t
  | .voqSamplePeriod t => t
  | .serviceSampleWindow t => t
  | .meterClose t _ => t
  | .msixHoldoffExpiry t _ _ => t
  | .recordQueueAdvance t => t
  | .compositionEpochAdvance t _ _ => t
  | .mapEpochAdvance t _ _ => t
  | .contextInstall t _ _ _ _ => t
  | .contextRemove t _ _ _ _ => t
  | .runInstall t _ _ _ _ => t
  | .runRemove t _ _ _ _ => t
  | .runUnmapComplete t _ _ => t
  | .accessEntryInstall t _ _ _ _ => t
  | .accessEntryRemove t _ _ _ _ => t
  | .subscriberInstall t _ _ _ _ => t
  | .subscriberRemove t _ _ _ _ => t
  | .serviceInstall t _ _ _ _ => t
  | .serviceRemove t _ _ _ _ => t
  | .groupInstall t _ _ _ _ => t
  | .groupRemove t _ _ _ _ => t
  | .sumacRangeInstall t _ _ _ _ => t
  | .sumacRangeRemove t _ _ _ _ => t
  | .extentInstall t _ _ _ _ => t
  | .extentRemove t _ _ _ _ => t
  | .mirroredRangeInstall t _ _ _ _ => t
  | .mirroredRangeRemove t _ _ _ _ => t
  | .prefetchScheduleInstall t _ _ _ _ => t
  | .prefetchScheduleRemove t _ _ _ _ => t
  | .channelBindingInstall t _ _ _ _ => t
  | .channelBindingRemove t _ _ _ _ => t
  | .portShareInstall t _ _ _ _ => t
  | .portShareRemove t _ _ _ _ => t
  | .publishedRangeInstall t _ _ _ _ => t
  | .publishedRangeRemove t _ _ _ _ => t
  | .forwardingInstall t _ _ _ _ => t
  | .forwardingRemove t _ _ _ _ => t
  | .sourceRangesInstall t _ _ _ _ => t
  | .sourceRangesRemove t _ _ _ _ => t
  | .clusterItem t _ _ _ _ => t
  | .clusterLeaveProceed t _ => t
  | .partitionSetup t _ _ _ _ => t
  | .partitionTeardown t _ _ _ _ => t
  | .partitionRingInstall t _ _ _ _ => t
  | .partitionRingRemove t _ _ _ _ => t
  | .nodeAndPairInstall t _ _ _ _ => t
  | .journalReset t _ _ _ _ => t
  | .standbyEnter t _ _ _ _ => t
  | .standbyLeave t _ _ _ _ => t
  | .deviceAdmit t _ _ _ _ => t
  | .witnessSetInstall t _ _ _ _ => t
  | .revocation t _ _ => t
  | .publishWitness t _ _ => t
  | .publishWitnessDeferred t => t
  | .consent t _ _ => t
  | .replayLockOn t _ _ => t
  | .replayLockOff t _ _ => t
  | .keyTransfer t _ _ => t
  | .pairAdmissionOffer t _ _ => t
  | .pairAdmissionAnswer t _ _ => t
  | .ownerCertificateFragment t _ _ => t
  | .unsupportedRecordType t _ _ => t
  | .hoopMbxDoorbell t _ _ _ => t
  | .w1cClear t _ _ _ => t
  | .registerWriteDropped t _ _ _ => t
  | .unsupportedRequestTlp t _ _ _ => t
  | .doeDiscovery t _ _ => t
  | .getVersion t _ => t
  | .getCapabilities t _ _ => t
  | .negotiateAlgorithms t _ _ _ => t
  | .getDigests t _ => t
  | .getCertificate t _ _ _ _ => t
  | .challenge t _ _ _ _ => t
  | .getMeasurements t _ _ _ _ _ => t
  | .spdmUnsupportedRequest t _ _ => t
  | .mctpControl t _ => t
  | .mctpStatus t => t
  | .mctpReadRing t _ _ _ => t
  | .mctpSubmitRecord t _ _ => t
  | .entdaa t _ => t
  | .setdasa t _ _ => t
  | .doorbellStoreDeadline t _ => t
  | .aerError t _ _ => t

/-- The same command at another moment. -/
def Instr.atMoment (t : Nat) : Instr → Instr
  | .coldPowerOn _ => .coldPowerOn t
  | .perstWarmReset _ => .perstWarmReset t
  | .perstLink1 _ => .perstLink1 t
  | .hoopRestart _ => .hoopRestart t
  | .vin12Loss _ => .vin12Loss t
  | .vaux3Loss _ => .vaux3Loss t
  | .vin12InRange _ => .vin12InRange t
  | .bootStart _ card c => .bootStart t card c
  | .referenceLock _ port => .referenceLock t port
  | .deviceReset _ r body => .deviceReset t r body
  | .deviceResetProceed _ => .deviceResetProceed t
  | .islandReset _ isl => .islandReset t isl
  | .islandRecoveryDone _ isl => .islandRecoveryDone t isl
  | .islandResetOvertime _ isl => .islandResetOvertime t isl
  | .flitReplay _ x again => .flitReplay t x again
  | .sidebandLoss _ d => .sidebandLoss t d
  | .lotDrainComplete _ arb => .lotDrainComplete t arb
  | .lotDrainTimeout _ arb => .lotDrainTimeout t arb
  | .quiesceTimer _ => .quiesceTimer t
  | .thermalSample _ temps => .thermalSample t temps
  | .tripRestart _ cause => .tripRestart t cause
  | .powerSample _ milliwatts => .powerSample t milliwatts
  | .clusterStopWindow _ c opening => .clusterStopWindow t c opening
  | .powerReportWindow _ milliwatts => .powerReportWindow t milliwatts
  | .load _ a f d => .load t a f d
  | .store _ a f d => .store t a f d
  | .flush _ a f => .flush t a f
  | .publish _ a f => .publish t a f
  | .publishFlushDone _ rangeId => .publishFlushDone t rangeId
  | .stagingWriteRelease _ rangeId line => .stagingWriteRelease t rangeId line
  | .atomicFaddInteger _ a f d => .atomicFaddInteger t a f d
  | .atomicFaddFloat _ a f d => .atomicFaddFloat t a f d
  | .atomicFminInteger _ a f d => .atomicFminInteger t a f d
  | .atomicFminFloat _ a f d => .atomicFminFloat t a f d
  | .atomicFmaxInteger _ a f d => .atomicFmaxInteger t a f d
  | .atomicFmaxFloat _ a f d => .atomicFmaxFloat t a f d
  | .atomicCas _ a f d => .atomicCas t a f d
  | .atomicSwap _ a f d => .atomicSwap t a f d
  | .reducePut _ a f => .reducePut t a f
  | .partialFrame _ a f => .partialFrame t a f
  | .segmentRoundExpiry _ k seg => .segmentRoundExpiry t k seg
  | .reissueRoundDeadline _ k seg => .reissueRoundDeadline t k seg
  | .collectiveRebind _ k => .collectiveRebind t k
  | .mcastStore _ a f => .mcastStore t a f
  | .gather _ a f => .gather t a f
  | .scatterAdd _ a f => .scatterAdd t a f
  | .predicateFilter _ a f => .predicateFilter t a f
  | .topK _ a f => .topK t a f
  | .embeddingBag _ a f => .embeddingBag t a f
  | .smallDenseProjection _ a f => .smallDenseProjection t a f
  | .treeEnsemble _ a f => .treeEnsemble t a f
  | .collectiveSetup _ a f => .collectiveSetup t a f
  | .collectiveRelease _ a f => .collectiveRelease t a f
  | .collectiveReleaseDone _ k => .collectiveReleaseDone t k
  | .unsupportedOpcode _ a f => .unsupportedOpcode t a f
  | .xcheckOffload _ a f => .xcheckOffload t a f
  | .xcheckTimeout _ req => .xcheckTimeout t req
  | .operatorStart _ c => .operatorStart t c
  | .tileStart _ c => .tileStart t c
  | .tileComplete _ c core => .tileComplete t c core
  | .operatorComplete _ req => .operatorComplete t req
  | .dispatchQueueDeadline _ req => .dispatchQueueDeadline t req
  | .offer _ a f => .offer t a f
  | .take _ a f => .take t a f
  | .orphanHoldExpiry _ stateIndex => .orphanHoldExpiry t stateIndex
  | .mirror _ a f => .mirror t a f
  | .responseAck _ a f => .responseAck t a f
  | .responseNack _ a f => .responseNack t a f
  | .frameResendTimer _ node stream seq => .frameResendTimer t node stream seq
  | .frameUnanswered _ node stream seq => .frameUnanswered t node stream seq
  | .requestAgeLimit _ req => .requestAgeLimit t req
  | .landingWriteRefill _ node stream seq => .landingWriteRefill t node stream seq
  | .entrySettle _ node stream => .entrySettle t node stream
  | .nodeRetireComplete _ node => .nodeRetireComplete t node
  | .pendingFrameRelease _ node stream d => .pendingFrameRelease t node stream d
  | .pendingFrameDeadline _ node stream seq => .pendingFrameDeadline t node stream seq
  | .mirrorTimeout _ writer index => .mirrorTimeout t writer index
  | .markInterval _ writer => .markInterval t writer
  | .idleMarkInterval _ writer => .idleMarkInterval t writer
  | .entryRetire _ writer index shadow => .entryRetire t writer index shadow
  | .anchorUpdate _ writer => .anchorUpdate t writer
  | .mapEpochGraceExpiry _ => .mapEpochGraceExpiry t
  | .failoverStreamsOpen _ => .failoverStreamsOpen t
  | .crossbarSlot _ => .crossbarSlot t
  | .urgentPromotion _ inp out tc => .urgentPromotion t inp out tc
  | .calendarWheelTick _ => .calendarWheelTick t
  | .spillOn _ => .spillOn t
  | .spillOff _ => .spillOff t
  | .spillRefill _ inp out tc => .spillRefill t inp out tc
  | .refillReturn _ inp out tc d => .refillReturn t inp out tc d
  | .egressFrameStart _ port sub => .egressFrameStart t port sub
  | .lotteryDraw _ arb arrivals => .lotteryDraw t arb arrivals
  | .stackAccessDone _ line => .stackAccessDone t line
  | .rdS _ c line cid => .rdS t c line cid
  | .rdX _ c line cid => .rdX t c line cid
  | .upg _ c line cid => .upg t c line cid
  | .rdU _ c line cid => .rdU t c line cid
  | .wrU _ c line cid mask => .wrU t c line cid mask
  | .evcC _ c line => .evcC t c line
  | .evcD _ c line => .evcD t c line
  | .lineFlush _ line => .lineFlush t line
  | .srI _ c line withData dirty => .srI t c line withData dirty
  | .srN _ c line withData dirty => .srN t c line withData dirty
  | .lineData _ c line bytes mask => .lineData t c line bytes mask
  | .cack _ c line => .cack t c line
  | .snpShr _ c line => .snpShr t c line
  | .snpFwd _ c line => .snpFwd t c line
  | .snpI _ c line => .snpI t c line
  | .cmpE _ c line bytes => .cmpE t c line bytes
  | .cmpS _ c line bytes => .cmpS t c line bytes
  | .cmpN _ c line bytes => .cmpN t c line bytes
  | .cmpM _ c line bytes => .cmpM t c line bytes
  | .bufGnt _ c line => .bufGnt t c line
  | .cmpW _ c line => .cmpW t c line
  | .cmpEvc _ c line => .cmpEvc t c line
  | .nak _ c line status => .nak t c line status
  | .coreRead _ c core vaddr => .coreRead t c core vaddr
  | .coreWrite _ c core vaddr bytes => .coreWrite t c core vaddr bytes
  | .victimChosen _ c line => .victimChosen t c line
  | .snoopAnswerTimeout _ c line => .snoopAnswerTimeout t c line
  | .prefetchDoorbell _ a f => .prefetchDoorbell t a f
  | .prefetchInstanceLanded _ part step entry => .prefetchInstanceLanded t part step entry
  | .oneMsWindow _ => .oneMsWindow t
  | .moverDoorbell _ ch a f => .moverDoorbell t ch a f
  | .moverRestart _ ch a f => .moverRestart t ch a f
  | .moverDescriptorStart _ ch => .moverDescriptorStart t ch
  | .moverDescriptorComplete _ ch => .moverDescriptorComplete t ch
  | .moverRetryTimer _ ch => .moverRetryTimer t ch
  | .moverPaceResume _ ch => .moverPaceResume t ch
  | .scrubComplete _ part => .scrubComplete t part
  | .consentExpiry _ part => .consentExpiry t part
  | .keyTransferTimeout _ part => .keyTransferTimeout t part
  | .batchClose _ part => .batchClose t part
  | .blockReceived _ port sub b bytes => .blockReceived t port sub b bytes
  | .blockCheckFail _ port sub => .blockCheckFail t port sub
  | .retryRequest _ port sub acked => .retryRequest t port sub acked
  | .retryLimitRetrain _ port sub => .retryLimitRetrain t port sub
  | .trainBlockReceived _ port sub b receiptMark => .trainBlockReceived t port sub b receiptMark
  | .linkTrainingDone _ port sub => .linkTrainingDone t port sub
  | .laneMarker _ port bytes => .laneMarker t port bytes
  | .wavelengthHealthWindow _ port readings => .wavelengthHealthWindow t port readings
  | .laserMonitorFault _ port wave => .laserMonitorFault t port wave
  | .spareLocked _ port => .spareLocked t port
  | .linkDownHoldExpiry _ port sub => .linkDownHoldExpiry t port sub
  | .rxLightLoss _ port => .rxLightLoss t port
  | .rxLightReturn _ port => .rxLightReturn t port
  | .resyncStore _ a f => .resyncStore t a f
  | .resyncCopyDone _ => .resyncCopyDone t
  | .healthScoreTick _ => .healthScoreTick t
  | .expelBudgetRoom _ => .expelBudgetRoom t
  | .expelThresholdLower _ kind => .expelThresholdLower t kind
  | .witnessExpiry _ => .witnessExpiry t
  | .soloHoldTimeout _ => .soloHoldTimeout t
  | .cloveRateAdapt _ sub svc rate cause => .cloveRateAdapt t sub svc rate cause
  | .cloveAdmitAdapt _ part window cause => .cloveAdmitAdapt t part window cause
  | .clovePfDepthAdapt _ part up cause => .clovePfDepthAdapt t part up cause
  | .cloveWeakSymAdapt _ port value cause => .cloveWeakSymAdapt t port value cause
  | .voqSamplePeriod _ => .voqSamplePeriod t
  | .serviceSampleWindow _ => .serviceSampleWindow t
  | .meterClose _ part => .meterClose t part
  | .msixHoldoffExpiry _ fn vec => .msixHoldoffExpiry t fn vec
  | .recordQueueAdvance _ => .recordQueueAdvance t
  | .compositionEpochAdvance _ r items => .compositionEpochAdvance t r items
  | .mapEpochAdvance _ r items => .mapEpochAdvance t r items
  | .contextInstall _ r pre body post => .contextInstall t r pre body post
  | .contextRemove _ r pre body post => .contextRemove t r pre body post
  | .runInstall _ r pre body post => .runInstall t r pre body post
  | .runRemove _ r pre body post => .runRemove t r pre body post
  | .runUnmapComplete _ part virtBase => .runUnmapComplete t part virtBase
  | .accessEntryInstall _ r pre body post => .accessEntryInstall t r pre body post
  | .accessEntryRemove _ r pre body post => .accessEntryRemove t r pre body post
  | .subscriberInstall _ r pre body post => .subscriberInstall t r pre body post
  | .subscriberRemove _ r pre body post => .subscriberRemove t r pre body post
  | .serviceInstall _ r pre body post => .serviceInstall t r pre body post
  | .serviceRemove _ r pre body post => .serviceRemove t r pre body post
  | .groupInstall _ r pre body post => .groupInstall t r pre body post
  | .groupRemove _ r pre body post => .groupRemove t r pre body post
  | .sumacRangeInstall _ r pre body post => .sumacRangeInstall t r pre body post
  | .sumacRangeRemove _ r pre body post => .sumacRangeRemove t r pre body post
  | .extentInstall _ r pre body post => .extentInstall t r pre body post
  | .extentRemove _ r pre body post => .extentRemove t r pre body post
  | .mirroredRangeInstall _ r pre body post => .mirroredRangeInstall t r pre body post
  | .mirroredRangeRemove _ r pre body post => .mirroredRangeRemove t r pre body post
  | .prefetchScheduleInstall _ r pre body post => .prefetchScheduleInstall t r pre body post
  | .prefetchScheduleRemove _ r pre body post => .prefetchScheduleRemove t r pre body post
  | .channelBindingInstall _ r pre body post => .channelBindingInstall t r pre body post
  | .channelBindingRemove _ r pre body post => .channelBindingRemove t r pre body post
  | .portShareInstall _ r pre body post => .portShareInstall t r pre body post
  | .portShareRemove _ r pre body post => .portShareRemove t r pre body post
  | .publishedRangeInstall _ r pre body post => .publishedRangeInstall t r pre body post
  | .publishedRangeRemove _ r pre body post => .publishedRangeRemove t r pre body post
  | .forwardingInstall _ r pre body post => .forwardingInstall t r pre body post
  | .forwardingRemove _ r pre body post => .forwardingRemove t r pre body post
  | .sourceRangesInstall _ r pre body post => .sourceRangesInstall t r pre body post
  | .sourceRangesRemove _ r pre body post => .sourceRangesRemove t r pre body post
  | .clusterItem _ r pre body post => .clusterItem t r pre body post
  | .clusterLeaveProceed _ c => .clusterLeaveProceed t c
  | .partitionSetup _ r pre body post => .partitionSetup t r pre body post
  | .partitionTeardown _ r pre body post => .partitionTeardown t r pre body post
  | .partitionRingInstall _ r pre body post => .partitionRingInstall t r pre body post
  | .partitionRingRemove _ r pre body post => .partitionRingRemove t r pre body post
  | .nodeAndPairInstall _ r pre body post => .nodeAndPairInstall t r pre body post
  | .journalReset _ r pre body post => .journalReset t r pre body post
  | .standbyEnter _ r pre body post => .standbyEnter t r pre body post
  | .standbyLeave _ r pre body post => .standbyLeave t r pre body post
  | .deviceAdmit _ r pre body post => .deviceAdmit t r pre body post
  | .witnessSetInstall _ r pre body post => .witnessSetInstall t r pre body post
  | .revocation _ r body => .revocation t r body
  | .publishWitness _ r body => .publishWitness t r body
  | .publishWitnessDeferred _ => .publishWitnessDeferred t
  | .consent _ r body => .consent t r body
  | .replayLockOn _ r body => .replayLockOn t r body
  | .replayLockOff _ r body => .replayLockOff t r body
  | .keyTransfer _ r body => .keyTransfer t r body
  | .pairAdmissionOffer _ r body => .pairAdmissionOffer t r body
  | .pairAdmissionAnswer _ r body => .pairAdmissionAnswer t r body
  | .ownerCertificateFragment _ r body => .ownerCertificateFragment t r body
  | .unsupportedRecordType _ r body => .unsupportedRecordType t r body
  | .hoopMbxDoorbell _ fn value slotBytes => .hoopMbxDoorbell t fn value slotBytes
  | .w1cClear _ fn offset value => .w1cClear t fn offset value
  | .registerWriteDropped _ fn offset value => .registerWriteDropped t fn offset value
  | .unsupportedRequestTlp _ fn addr isRead => .unsupportedRequestTlp t fn addr isRead
  | .doeDiscovery _ fn index => .doeDiscovery t fn index
  | .getVersion _ q => .getVersion t q
  | .getCapabilities _ q version => .getCapabilities t q version
  | .negotiateAlgorithms _ q baseAsym baseHash => .negotiateAlgorithms t q baseAsym baseHash
  | .getDigests _ q => .getDigests t q
  | .getCertificate _ q slot offset length => .getCertificate t q slot offset length
  | .challenge _ q slot nonce measType => .challenge t q slot nonce measType
  | .getMeasurements _ q op signed nonce slot => .getMeasurements t q op signed nonce slot
  | .spdmUnsupportedRequest _ q code => .spdmUnsupportedRequest t q code
  | .mctpControl _ bytes => .mctpControl t bytes
  | .mctpStatus _ => .mctpStatus t
  | .mctpReadRing _ ring start count => .mctpReadRing t ring start count
  | .mctpSubmitRecord _ r body => .mctpSubmitRecord t r body
  | .entdaa _ addr => .entdaa t addr
  | .setdasa _ static dynamic => .setdasa t static dynamic
  | .doorbellStoreDeadline _ part => .doorbellStoreDeadline t part
  | .aerError _ fn err => .aerError t fn err

namespace Laws.WellFormed

/-- A command happens at its moment, and is as well formed at any other. -/
def Statement (i : Instr) : Prop := ∀ t : Nat, (i.atMoment t).moment = t ∧ (i.atMoment t).wellFormed = i.wellFormed

theorem coldPowerOn (t : Nat) : Statement (.coldPowerOn t) := fun _ => ⟨rfl, rfl⟩
theorem perstWarmReset (t : Nat) : Statement (.perstWarmReset t) := fun _ => ⟨rfl, rfl⟩
theorem perstLink1 (t : Nat) : Statement (.perstLink1 t) := fun _ => ⟨rfl, rfl⟩
theorem hoopRestart (t : Nat) : Statement (.hoopRestart t) := fun _ => ⟨rfl, rfl⟩
theorem vin12Loss (t : Nat) : Statement (.vin12Loss t) := fun _ => ⟨rfl, rfl⟩
theorem vaux3Loss (t : Nat) : Statement (.vaux3Loss t) := fun _ => ⟨rfl, rfl⟩
theorem vin12InRange (t : Nat) : Statement (.vin12InRange t) := fun _ => ⟨rfl, rfl⟩
theorem bootStart (t : Nat) (card : Card) (c : StartCond) : Statement (.bootStart t card c) := fun _ => ⟨rfl, rfl⟩
theorem referenceLock (t : Nat) (port : Option Nat) : Statement (.referenceLock t port) := fun _ => ⟨rfl, rfl⟩
theorem deviceReset (t : Nat) (r : RecEnv) (body : Bytes) : Statement (.deviceReset t r body) := fun _ => ⟨rfl, rfl⟩
theorem deviceResetProceed (t : Nat) : Statement (.deviceResetProceed t) := fun _ => ⟨rfl, rfl⟩
theorem islandReset (t : Nat) (isl : Island) : Statement (.islandReset t isl) := fun _ => ⟨rfl, rfl⟩
theorem islandRecoveryDone (t : Nat) (isl : Island) : Statement (.islandRecoveryDone t isl) := fun _ => ⟨rfl, rfl⟩
theorem islandResetOvertime (t : Nat) (isl : Island) : Statement (.islandResetOvertime t isl) := fun _ => ⟨rfl, rfl⟩
theorem flitReplay (t : Nat) (x : Crossing) (again : Bool) : Statement (.flitReplay t x again) := fun _ => ⟨rfl, rfl⟩
theorem sidebandLoss (t : Nat) (d : Die) : Statement (.sidebandLoss t d) := fun _ => ⟨rfl, rfl⟩
theorem lotDrainComplete (t : Nat) (arb : Nat) : Statement (.lotDrainComplete t arb) := fun _ => ⟨rfl, rfl⟩
theorem lotDrainTimeout (t : Nat) (arb : Nat) : Statement (.lotDrainTimeout t arb) := fun _ => ⟨rfl, rfl⟩
theorem quiesceTimer (t : Nat) : Statement (.quiesceTimer t) := fun _ => ⟨rfl, rfl⟩
theorem thermalSample (t : Nat) (temps : List Nat) : Statement (.thermalSample t temps) := fun _ => ⟨rfl, rfl⟩
theorem tripRestart (t : Nat) (cause : ResetCause) : Statement (.tripRestart t cause) := fun _ => ⟨rfl, rfl⟩
theorem powerSample (t : Nat) (milliwatts : Nat) : Statement (.powerSample t milliwatts) := fun _ => ⟨rfl, rfl⟩
theorem clusterStopWindow (t : Nat) (c : Nat) (opening : Bool) : Statement (.clusterStopWindow t c opening) := fun _ => ⟨rfl, rfl⟩
theorem powerReportWindow (t : Nat) (milliwatts : Nat) : Statement (.powerReportWindow t milliwatts) := fun _ => ⟨rfl, rfl⟩
theorem load (t : Nat) (a : Arrival) (f : Frame) (d : Damage) : Statement (.load t a f d) := fun _ => ⟨rfl, rfl⟩
theorem store (t : Nat) (a : Arrival) (f : Frame) (d : Damage) : Statement (.store t a f d) := fun _ => ⟨rfl, rfl⟩
theorem flush (t : Nat) (a : Arrival) (f : Frame) : Statement (.flush t a f) := fun _ => ⟨rfl, rfl⟩
theorem publish (t : Nat) (a : Arrival) (f : Frame) : Statement (.publish t a f) := fun _ => ⟨rfl, rfl⟩
theorem publishFlushDone (t : Nat) (rangeId : BitVec 32) : Statement (.publishFlushDone t rangeId) := fun _ => ⟨rfl, rfl⟩
theorem stagingWriteRelease (t : Nat) (rangeId : BitVec 32) (line : Nat) : Statement (.stagingWriteRelease t rangeId line) := fun _ => ⟨rfl, rfl⟩
theorem atomicFaddInteger (t : Nat) (a : Arrival) (f : Frame) (d : Damage) : Statement (.atomicFaddInteger t a f d) := fun _ => ⟨rfl, rfl⟩
theorem atomicFaddFloat (t : Nat) (a : Arrival) (f : Frame) (d : Damage) : Statement (.atomicFaddFloat t a f d) := fun _ => ⟨rfl, rfl⟩
theorem atomicFminInteger (t : Nat) (a : Arrival) (f : Frame) (d : Damage) : Statement (.atomicFminInteger t a f d) := fun _ => ⟨rfl, rfl⟩
theorem atomicFminFloat (t : Nat) (a : Arrival) (f : Frame) (d : Damage) : Statement (.atomicFminFloat t a f d) := fun _ => ⟨rfl, rfl⟩
theorem atomicFmaxInteger (t : Nat) (a : Arrival) (f : Frame) (d : Damage) : Statement (.atomicFmaxInteger t a f d) := fun _ => ⟨rfl, rfl⟩
theorem atomicFmaxFloat (t : Nat) (a : Arrival) (f : Frame) (d : Damage) : Statement (.atomicFmaxFloat t a f d) := fun _ => ⟨rfl, rfl⟩
theorem atomicCas (t : Nat) (a : Arrival) (f : Frame) (d : Damage) : Statement (.atomicCas t a f d) := fun _ => ⟨rfl, rfl⟩
theorem atomicSwap (t : Nat) (a : Arrival) (f : Frame) (d : Damage) : Statement (.atomicSwap t a f d) := fun _ => ⟨rfl, rfl⟩
theorem reducePut (t : Nat) (a : Arrival) (f : Frame) : Statement (.reducePut t a f) := fun _ => ⟨rfl, rfl⟩
theorem partialFrame (t : Nat) (a : Arrival) (f : Frame) : Statement (.partialFrame t a f) := fun _ => ⟨rfl, rfl⟩
theorem segmentRoundExpiry (t : Nat) (k : CollKey) (seg : Nat) : Statement (.segmentRoundExpiry t k seg) := fun _ => ⟨rfl, rfl⟩
theorem reissueRoundDeadline (t : Nat) (k : CollKey) (seg : Nat) : Statement (.reissueRoundDeadline t k seg) := fun _ => ⟨rfl, rfl⟩
theorem collectiveRebind (t : Nat) (k : CollKey) : Statement (.collectiveRebind t k) := fun _ => ⟨rfl, rfl⟩
theorem mcastStore (t : Nat) (a : Arrival) (f : Frame) : Statement (.mcastStore t a f) := fun _ => ⟨rfl, rfl⟩
theorem gather (t : Nat) (a : Arrival) (f : Frame) : Statement (.gather t a f) := fun _ => ⟨rfl, rfl⟩
theorem scatterAdd (t : Nat) (a : Arrival) (f : Frame) : Statement (.scatterAdd t a f) := fun _ => ⟨rfl, rfl⟩
theorem predicateFilter (t : Nat) (a : Arrival) (f : Frame) : Statement (.predicateFilter t a f) := fun _ => ⟨rfl, rfl⟩
theorem topK (t : Nat) (a : Arrival) (f : Frame) : Statement (.topK t a f) := fun _ => ⟨rfl, rfl⟩
theorem embeddingBag (t : Nat) (a : Arrival) (f : Frame) : Statement (.embeddingBag t a f) := fun _ => ⟨rfl, rfl⟩
theorem smallDenseProjection (t : Nat) (a : Arrival) (f : Frame) : Statement (.smallDenseProjection t a f) := fun _ => ⟨rfl, rfl⟩
theorem treeEnsemble (t : Nat) (a : Arrival) (f : Frame) : Statement (.treeEnsemble t a f) := fun _ => ⟨rfl, rfl⟩
theorem collectiveSetup (t : Nat) (a : Arrival) (f : Frame) : Statement (.collectiveSetup t a f) := fun _ => ⟨rfl, rfl⟩
theorem collectiveRelease (t : Nat) (a : Arrival) (f : Frame) : Statement (.collectiveRelease t a f) := fun _ => ⟨rfl, rfl⟩
theorem collectiveReleaseDone (t : Nat) (k : CollKey) : Statement (.collectiveReleaseDone t k) := fun _ => ⟨rfl, rfl⟩
theorem unsupportedOpcode (t : Nat) (a : Arrival) (f : Frame) : Statement (.unsupportedOpcode t a f) := fun _ => ⟨rfl, rfl⟩
theorem xcheckOffload (t : Nat) (a : Arrival) (f : Frame) : Statement (.xcheckOffload t a f) := fun _ => ⟨rfl, rfl⟩
theorem xcheckTimeout (t : Nat) (req : Nat) : Statement (.xcheckTimeout t req) := fun _ => ⟨rfl, rfl⟩
theorem operatorStart (t : Nat) (c : Nat) : Statement (.operatorStart t c) := fun _ => ⟨rfl, rfl⟩
theorem tileStart (t : Nat) (c : Nat) : Statement (.tileStart t c) := fun _ => ⟨rfl, rfl⟩
theorem tileComplete (t : Nat) (c : Nat) (core : Nat) : Statement (.tileComplete t c core) := fun _ => ⟨rfl, rfl⟩
theorem operatorComplete (t : Nat) (req : Nat) : Statement (.operatorComplete t req) := fun _ => ⟨rfl, rfl⟩
theorem dispatchQueueDeadline (t : Nat) (req : Nat) : Statement (.dispatchQueueDeadline t req) := fun _ => ⟨rfl, rfl⟩
theorem offer (t : Nat) (a : Arrival) (f : Frame) : Statement (.offer t a f) := fun _ => ⟨rfl, rfl⟩
theorem take (t : Nat) (a : Arrival) (f : Frame) : Statement (.take t a f) := fun _ => ⟨rfl, rfl⟩
theorem orphanHoldExpiry (t : Nat) (stateIndex : BitVec 32) : Statement (.orphanHoldExpiry t stateIndex) := fun _ => ⟨rfl, rfl⟩
theorem mirror (t : Nat) (a : Arrival) (f : Frame) : Statement (.mirror t a f) := fun _ => ⟨rfl, rfl⟩
theorem responseAck (t : Nat) (a : Arrival) (f : Frame) : Statement (.responseAck t a f) := fun _ => ⟨rfl, rfl⟩
theorem responseNack (t : Nat) (a : Arrival) (f : Frame) : Statement (.responseNack t a f) := fun _ => ⟨rfl, rfl⟩
theorem frameResendTimer (t : Nat) (node : BitVec 16) (stream : BitVec 8) (seq : BitVec 32) : Statement (.frameResendTimer t node stream seq) := fun _ => ⟨rfl, rfl⟩
theorem frameUnanswered (t : Nat) (node : BitVec 16) (stream : BitVec 8) (seq : BitVec 32) : Statement (.frameUnanswered t node stream seq) := fun _ => ⟨rfl, rfl⟩
theorem requestAgeLimit (t : Nat) (req : Nat) : Statement (.requestAgeLimit t req) := fun _ => ⟨rfl, rfl⟩
theorem landingWriteRefill (t : Nat) (node : BitVec 16) (stream : BitVec 8) (seq : BitVec 32) : Statement (.landingWriteRefill t node stream seq) := fun _ => ⟨rfl, rfl⟩
theorem entrySettle (t : Nat) (node : BitVec 16) (stream : BitVec 8) : Statement (.entrySettle t node stream) := fun _ => ⟨rfl, rfl⟩
theorem nodeRetireComplete (t : Nat) (node : BitVec 16) : Statement (.nodeRetireComplete t node) := fun _ => ⟨rfl, rfl⟩
theorem pendingFrameRelease (t : Nat) (node : BitVec 16) (stream : BitVec 8) (d : Damage) : Statement (.pendingFrameRelease t node stream d) := fun _ => ⟨rfl, rfl⟩
theorem pendingFrameDeadline (t : Nat) (node : BitVec 16) (stream : BitVec 8) (seq : BitVec 32) : Statement (.pendingFrameDeadline t node stream seq) := fun _ => ⟨rfl, rfl⟩
theorem mirrorTimeout (t : Nat) (writer : Nat) (index : Nat) : Statement (.mirrorTimeout t writer index) := fun _ => ⟨rfl, rfl⟩
theorem markInterval (t : Nat) (writer : Nat) : Statement (.markInterval t writer) := fun _ => ⟨rfl, rfl⟩
theorem idleMarkInterval (t : Nat) (writer : Nat) : Statement (.idleMarkInterval t writer) := fun _ => ⟨rfl, rfl⟩
theorem entryRetire (t : Nat) (writer : Nat) (index : Nat) (shadow : Bool) : Statement (.entryRetire t writer index shadow) := fun _ => ⟨rfl, rfl⟩
theorem anchorUpdate (t : Nat) (writer : Nat) : Statement (.anchorUpdate t writer) := fun _ => ⟨rfl, rfl⟩
theorem mapEpochGraceExpiry (t : Nat) : Statement (.mapEpochGraceExpiry t) := fun _ => ⟨rfl, rfl⟩
theorem failoverStreamsOpen (t : Nat) : Statement (.failoverStreamsOpen t) := fun _ => ⟨rfl, rfl⟩
theorem crossbarSlot (t : Nat) : Statement (.crossbarSlot t) := fun _ => ⟨rfl, rfl⟩
theorem urgentPromotion (t : Nat) (inp : Nat) (out : Nat) (tc : Nat) : Statement (.urgentPromotion t inp out tc) := fun _ => ⟨rfl, rfl⟩
theorem calendarWheelTick (t : Nat) : Statement (.calendarWheelTick t) := fun _ => ⟨rfl, rfl⟩
theorem spillOn (t : Nat) : Statement (.spillOn t) := fun _ => ⟨rfl, rfl⟩
theorem spillOff (t : Nat) : Statement (.spillOff t) := fun _ => ⟨rfl, rfl⟩
theorem spillRefill (t : Nat) (inp : Nat) (out : Nat) (tc : Nat) : Statement (.spillRefill t inp out tc) := fun _ => ⟨rfl, rfl⟩
theorem refillReturn (t : Nat) (inp : Nat) (out : Nat) (tc : Nat) (d : Damage) : Statement (.refillReturn t inp out tc d) := fun _ => ⟨rfl, rfl⟩
theorem egressFrameStart (t : Nat) (port : Nat) (sub : Nat) : Statement (.egressFrameStart t port sub) := fun _ => ⟨rfl, rfl⟩
theorem lotteryDraw (t : Nat) (arb : Nat) (arrivals : List ArbItem) : Statement (.lotteryDraw t arb arrivals) := fun _ => ⟨rfl, rfl⟩
theorem stackAccessDone (t : Nat) (line : Nat) : Statement (.stackAccessDone t line) := fun _ => ⟨rfl, rfl⟩
theorem rdS (t : Nat) (c : Nat) (line : Nat) (cid : BitVec 16) : Statement (.rdS t c line cid) := fun _ => ⟨rfl, rfl⟩
theorem rdX (t : Nat) (c : Nat) (line : Nat) (cid : BitVec 16) : Statement (.rdX t c line cid) := fun _ => ⟨rfl, rfl⟩
theorem upg (t : Nat) (c : Nat) (line : Nat) (cid : BitVec 16) : Statement (.upg t c line cid) := fun _ => ⟨rfl, rfl⟩
theorem rdU (t : Nat) (c : Nat) (line : Nat) (cid : BitVec 16) : Statement (.rdU t c line cid) := fun _ => ⟨rfl, rfl⟩
theorem wrU (t : Nat) (c : Nat) (line : Nat) (cid : BitVec 16) (mask : BitVec 128) : Statement (.wrU t c line cid mask) := fun _ => ⟨rfl, rfl⟩
theorem evcC (t : Nat) (c : Nat) (line : Nat) : Statement (.evcC t c line) := fun _ => ⟨rfl, rfl⟩
theorem evcD (t : Nat) (c : Nat) (line : Nat) : Statement (.evcD t c line) := fun _ => ⟨rfl, rfl⟩
theorem lineFlush (t : Nat) (line : Nat) : Statement (.lineFlush t line) := fun _ => ⟨rfl, rfl⟩
theorem srI (t : Nat) (c : Nat) (line : Nat) (withData : Bool) (dirty : Bool) : Statement (.srI t c line withData dirty) := fun _ => ⟨rfl, rfl⟩
theorem srN (t : Nat) (c : Nat) (line : Nat) (withData : Bool) (dirty : Bool) : Statement (.srN t c line withData dirty) := fun _ => ⟨rfl, rfl⟩
theorem lineData (t : Nat) (c : Nat) (line : Nat) (bytes : Bytes) (mask : BitVec 128) : Statement (.lineData t c line bytes mask) := fun _ => ⟨rfl, rfl⟩
theorem cack (t : Nat) (c : Nat) (line : Nat) : Statement (.cack t c line) := fun _ => ⟨rfl, rfl⟩
theorem snpShr (t : Nat) (c : Nat) (line : Nat) : Statement (.snpShr t c line) := fun _ => ⟨rfl, rfl⟩
theorem snpFwd (t : Nat) (c : Nat) (line : Nat) : Statement (.snpFwd t c line) := fun _ => ⟨rfl, rfl⟩
theorem snpI (t : Nat) (c : Nat) (line : Nat) : Statement (.snpI t c line) := fun _ => ⟨rfl, rfl⟩
theorem cmpE (t : Nat) (c : Nat) (line : Nat) (bytes : Bytes) : Statement (.cmpE t c line bytes) := fun _ => ⟨rfl, rfl⟩
theorem cmpS (t : Nat) (c : Nat) (line : Nat) (bytes : Bytes) : Statement (.cmpS t c line bytes) := fun _ => ⟨rfl, rfl⟩
theorem cmpN (t : Nat) (c : Nat) (line : Nat) (bytes : Bytes) : Statement (.cmpN t c line bytes) := fun _ => ⟨rfl, rfl⟩
theorem cmpM (t : Nat) (c : Nat) (line : Nat) (bytes : Option Bytes) : Statement (.cmpM t c line bytes) := fun _ => ⟨rfl, rfl⟩
theorem bufGnt (t : Nat) (c : Nat) (line : Nat) : Statement (.bufGnt t c line) := fun _ => ⟨rfl, rfl⟩
theorem cmpW (t : Nat) (c : Nat) (line : Nat) : Statement (.cmpW t c line) := fun _ => ⟨rfl, rfl⟩
theorem cmpEvc (t : Nat) (c : Nat) (line : Nat) : Statement (.cmpEvc t c line) := fun _ => ⟨rfl, rfl⟩
theorem nak (t : Nat) (c : Nat) (line : Nat) (status : Status) : Statement (.nak t c line status) := fun _ => ⟨rfl, rfl⟩
theorem coreRead (t : Nat) (c : Nat) (core : Nat) (vaddr : Nat) : Statement (.coreRead t c core vaddr) := fun _ => ⟨rfl, rfl⟩
theorem coreWrite (t : Nat) (c : Nat) (core : Nat) (vaddr : Nat) (bytes : Bytes) : Statement (.coreWrite t c core vaddr bytes) := fun _ => ⟨rfl, rfl⟩
theorem victimChosen (t : Nat) (c : Nat) (line : Nat) : Statement (.victimChosen t c line) := fun _ => ⟨rfl, rfl⟩
theorem snoopAnswerTimeout (t : Nat) (c : Nat) (line : Nat) : Statement (.snoopAnswerTimeout t c line) := fun _ => ⟨rfl, rfl⟩
theorem prefetchDoorbell (t : Nat) (a : Arrival) (f : Frame) : Statement (.prefetchDoorbell t a f) := fun _ => ⟨rfl, rfl⟩
theorem prefetchInstanceLanded (t : Nat) (part : Nat) (step : Nat) (entry : Nat) : Statement (.prefetchInstanceLanded t part step entry) := fun _ => ⟨rfl, rfl⟩
theorem oneMsWindow (t : Nat) : Statement (.oneMsWindow t) := fun _ => ⟨rfl, rfl⟩
theorem moverDoorbell (t : Nat) (ch : Nat) (a : Arrival) (f : Frame) : Statement (.moverDoorbell t ch a f) := fun _ => ⟨rfl, rfl⟩
theorem moverRestart (t : Nat) (ch : Nat) (a : Arrival) (f : Frame) : Statement (.moverRestart t ch a f) := fun _ => ⟨rfl, rfl⟩
theorem moverDescriptorStart (t : Nat) (ch : Nat) : Statement (.moverDescriptorStart t ch) := fun _ => ⟨rfl, rfl⟩
theorem moverDescriptorComplete (t : Nat) (ch : Nat) : Statement (.moverDescriptorComplete t ch) := fun _ => ⟨rfl, rfl⟩
theorem moverRetryTimer (t : Nat) (ch : Nat) : Statement (.moverRetryTimer t ch) := fun _ => ⟨rfl, rfl⟩
theorem moverPaceResume (t : Nat) (ch : Nat) : Statement (.moverPaceResume t ch) := fun _ => ⟨rfl, rfl⟩
theorem scrubComplete (t : Nat) (part : Nat) : Statement (.scrubComplete t part) := fun _ => ⟨rfl, rfl⟩
theorem consentExpiry (t : Nat) (part : Nat) : Statement (.consentExpiry t part) := fun _ => ⟨rfl, rfl⟩
theorem keyTransferTimeout (t : Nat) (part : Nat) : Statement (.keyTransferTimeout t part) := fun _ => ⟨rfl, rfl⟩
theorem batchClose (t : Nat) (part : Nat) : Statement (.batchClose t part) := fun _ => ⟨rfl, rfl⟩
theorem blockReceived (t : Nat) (port : Nat) (sub : Nat) (b : Block) (bytes : Bytes) : Statement (.blockReceived t port sub b bytes) := fun _ => ⟨rfl, rfl⟩
theorem blockCheckFail (t : Nat) (port : Nat) (sub : Nat) : Statement (.blockCheckFail t port sub) := fun _ => ⟨rfl, rfl⟩
theorem retryRequest (t : Nat) (port : Nat) (sub : Nat) (acked : BitVec 16) : Statement (.retryRequest t port sub acked) := fun _ => ⟨rfl, rfl⟩
theorem retryLimitRetrain (t : Nat) (port : Nat) (sub : Nat) : Statement (.retryLimitRetrain t port sub) := fun _ => ⟨rfl, rfl⟩
theorem trainBlockReceived (t : Nat) (port : Nat) (sub : Nat) (b : TrainBlock) (receiptMark : Nat) : Statement (.trainBlockReceived t port sub b receiptMark) := fun _ => ⟨rfl, rfl⟩
theorem linkTrainingDone (t : Nat) (port : Nat) (sub : Nat) : Statement (.linkTrainingDone t port sub) := fun _ => ⟨rfl, rfl⟩
theorem laneMarker (t : Nat) (port : Nat) (bytes : Bytes) : Statement (.laneMarker t port bytes) := fun _ => ⟨rfl, rfl⟩
theorem wavelengthHealthWindow (t : Nat) (port : Nat) (readings : List WaveReading) : Statement (.wavelengthHealthWindow t port readings) := fun _ => ⟨rfl, rfl⟩
theorem laserMonitorFault (t : Nat) (port : Nat) (wave : Nat) : Statement (.laserMonitorFault t port wave) := fun _ => ⟨rfl, rfl⟩
theorem spareLocked (t : Nat) (port : Nat) : Statement (.spareLocked t port) := fun _ => ⟨rfl, rfl⟩
theorem linkDownHoldExpiry (t : Nat) (port : Nat) (sub : Nat) : Statement (.linkDownHoldExpiry t port sub) := fun _ => ⟨rfl, rfl⟩
theorem rxLightLoss (t : Nat) (port : Nat) : Statement (.rxLightLoss t port) := fun _ => ⟨rfl, rfl⟩
theorem rxLightReturn (t : Nat) (port : Nat) : Statement (.rxLightReturn t port) := fun _ => ⟨rfl, rfl⟩
theorem resyncStore (t : Nat) (a : Arrival) (f : Frame) : Statement (.resyncStore t a f) := fun _ => ⟨rfl, rfl⟩
theorem resyncCopyDone (t : Nat) : Statement (.resyncCopyDone t) := fun _ => ⟨rfl, rfl⟩
theorem healthScoreTick (t : Nat) : Statement (.healthScoreTick t) := fun _ => ⟨rfl, rfl⟩
theorem expelBudgetRoom (t : Nat) : Statement (.expelBudgetRoom t) := fun _ => ⟨rfl, rfl⟩
theorem expelThresholdLower (t : Nat) (kind : Nat) : Statement (.expelThresholdLower t kind) := fun _ => ⟨rfl, rfl⟩
theorem witnessExpiry (t : Nat) : Statement (.witnessExpiry t) := fun _ => ⟨rfl, rfl⟩
theorem soloHoldTimeout (t : Nat) : Statement (.soloHoldTimeout t) := fun _ => ⟨rfl, rfl⟩
theorem cloveRateAdapt (t : Nat) (sub : Nat) (svc : Nat) (rate : Nat) (cause : Nat) : Statement (.cloveRateAdapt t sub svc rate cause) := fun _ => ⟨rfl, rfl⟩
theorem cloveAdmitAdapt (t : Nat) (part : Nat) (window : Nat) (cause : Nat) : Statement (.cloveAdmitAdapt t part window cause) := fun _ => ⟨rfl, rfl⟩
theorem clovePfDepthAdapt (t : Nat) (part : Nat) (up : Bool) (cause : Nat) : Statement (.clovePfDepthAdapt t part up cause) := fun _ => ⟨rfl, rfl⟩
theorem cloveWeakSymAdapt (t : Nat) (port : Nat) (value : Nat) (cause : Nat) : Statement (.cloveWeakSymAdapt t port value cause) := fun _ => ⟨rfl, rfl⟩
theorem voqSamplePeriod (t : Nat) : Statement (.voqSamplePeriod t) := fun _ => ⟨rfl, rfl⟩
theorem serviceSampleWindow (t : Nat) : Statement (.serviceSampleWindow t) := fun _ => ⟨rfl, rfl⟩
theorem meterClose (t : Nat) (part : Nat) : Statement (.meterClose t part) := fun _ => ⟨rfl, rfl⟩
theorem msixHoldoffExpiry (t : Nat) (fn : Nat) (vec : Nat) : Statement (.msixHoldoffExpiry t fn vec) := fun _ => ⟨rfl, rfl⟩
theorem recordQueueAdvance (t : Nat) : Statement (.recordQueueAdvance t) := fun _ => ⟨rfl, rfl⟩
theorem compositionEpochAdvance (t : Nat) (r : RecEnv) (items : List Item) : Statement (.compositionEpochAdvance t r items) := fun _ => ⟨rfl, rfl⟩
theorem mapEpochAdvance (t : Nat) (r : RecEnv) (items : List Item) : Statement (.mapEpochAdvance t r items) := fun _ => ⟨rfl, rfl⟩
theorem contextInstall (t : Nat) (r : RecEnv) (pre : List Item) (body : Bytes) (post : List Item) : Statement (.contextInstall t r pre body post) := fun _ => ⟨rfl, rfl⟩
theorem contextRemove (t : Nat) (r : RecEnv) (pre : List Item) (body : Bytes) (post : List Item) : Statement (.contextRemove t r pre body post) := fun _ => ⟨rfl, rfl⟩
theorem runInstall (t : Nat) (r : RecEnv) (pre : List Item) (body : Bytes) (post : List Item) : Statement (.runInstall t r pre body post) := fun _ => ⟨rfl, rfl⟩
theorem runRemove (t : Nat) (r : RecEnv) (pre : List Item) (body : Bytes) (post : List Item) : Statement (.runRemove t r pre body post) := fun _ => ⟨rfl, rfl⟩
theorem runUnmapComplete (t : Nat) (part : Nat) (virtBase : Nat) : Statement (.runUnmapComplete t part virtBase) := fun _ => ⟨rfl, rfl⟩
theorem accessEntryInstall (t : Nat) (r : RecEnv) (pre : List Item) (body : Bytes) (post : List Item) : Statement (.accessEntryInstall t r pre body post) := fun _ => ⟨rfl, rfl⟩
theorem accessEntryRemove (t : Nat) (r : RecEnv) (pre : List Item) (body : Bytes) (post : List Item) : Statement (.accessEntryRemove t r pre body post) := fun _ => ⟨rfl, rfl⟩
theorem subscriberInstall (t : Nat) (r : RecEnv) (pre : List Item) (body : Bytes) (post : List Item) : Statement (.subscriberInstall t r pre body post) := fun _ => ⟨rfl, rfl⟩
theorem subscriberRemove (t : Nat) (r : RecEnv) (pre : List Item) (body : Bytes) (post : List Item) : Statement (.subscriberRemove t r pre body post) := fun _ => ⟨rfl, rfl⟩
theorem serviceInstall (t : Nat) (r : RecEnv) (pre : List Item) (body : Bytes) (post : List Item) : Statement (.serviceInstall t r pre body post) := fun _ => ⟨rfl, rfl⟩
theorem serviceRemove (t : Nat) (r : RecEnv) (pre : List Item) (body : Bytes) (post : List Item) : Statement (.serviceRemove t r pre body post) := fun _ => ⟨rfl, rfl⟩
theorem groupInstall (t : Nat) (r : RecEnv) (pre : List Item) (body : Bytes) (post : List Item) : Statement (.groupInstall t r pre body post) := fun _ => ⟨rfl, rfl⟩
theorem groupRemove (t : Nat) (r : RecEnv) (pre : List Item) (body : Bytes) (post : List Item) : Statement (.groupRemove t r pre body post) := fun _ => ⟨rfl, rfl⟩
theorem sumacRangeInstall (t : Nat) (r : RecEnv) (pre : List Item) (body : Bytes) (post : List Item) : Statement (.sumacRangeInstall t r pre body post) := fun _ => ⟨rfl, rfl⟩
theorem sumacRangeRemove (t : Nat) (r : RecEnv) (pre : List Item) (body : Bytes) (post : List Item) : Statement (.sumacRangeRemove t r pre body post) := fun _ => ⟨rfl, rfl⟩
theorem extentInstall (t : Nat) (r : RecEnv) (pre : List Item) (body : Bytes) (post : List Item) : Statement (.extentInstall t r pre body post) := fun _ => ⟨rfl, rfl⟩
theorem extentRemove (t : Nat) (r : RecEnv) (pre : List Item) (body : Bytes) (post : List Item) : Statement (.extentRemove t r pre body post) := fun _ => ⟨rfl, rfl⟩
theorem mirroredRangeInstall (t : Nat) (r : RecEnv) (pre : List Item) (body : Bytes) (post : List Item) : Statement (.mirroredRangeInstall t r pre body post) := fun _ => ⟨rfl, rfl⟩
theorem mirroredRangeRemove (t : Nat) (r : RecEnv) (pre : List Item) (body : Bytes) (post : List Item) : Statement (.mirroredRangeRemove t r pre body post) := fun _ => ⟨rfl, rfl⟩
theorem prefetchScheduleInstall (t : Nat) (r : RecEnv) (pre : List Item) (body : Bytes) (post : List Item) : Statement (.prefetchScheduleInstall t r pre body post) := fun _ => ⟨rfl, rfl⟩
theorem prefetchScheduleRemove (t : Nat) (r : RecEnv) (pre : List Item) (body : Bytes) (post : List Item) : Statement (.prefetchScheduleRemove t r pre body post) := fun _ => ⟨rfl, rfl⟩
theorem channelBindingInstall (t : Nat) (r : RecEnv) (pre : List Item) (body : Bytes) (post : List Item) : Statement (.channelBindingInstall t r pre body post) := fun _ => ⟨rfl, rfl⟩
theorem channelBindingRemove (t : Nat) (r : RecEnv) (pre : List Item) (body : Bytes) (post : List Item) : Statement (.channelBindingRemove t r pre body post) := fun _ => ⟨rfl, rfl⟩
theorem portShareInstall (t : Nat) (r : RecEnv) (pre : List Item) (body : Bytes) (post : List Item) : Statement (.portShareInstall t r pre body post) := fun _ => ⟨rfl, rfl⟩
theorem portShareRemove (t : Nat) (r : RecEnv) (pre : List Item) (body : Bytes) (post : List Item) : Statement (.portShareRemove t r pre body post) := fun _ => ⟨rfl, rfl⟩
theorem publishedRangeInstall (t : Nat) (r : RecEnv) (pre : List Item) (body : Bytes) (post : List Item) : Statement (.publishedRangeInstall t r pre body post) := fun _ => ⟨rfl, rfl⟩
theorem publishedRangeRemove (t : Nat) (r : RecEnv) (pre : List Item) (body : Bytes) (post : List Item) : Statement (.publishedRangeRemove t r pre body post) := fun _ => ⟨rfl, rfl⟩
theorem forwardingInstall (t : Nat) (r : RecEnv) (pre : List Item) (body : Bytes) (post : List Item) : Statement (.forwardingInstall t r pre body post) := fun _ => ⟨rfl, rfl⟩
theorem forwardingRemove (t : Nat) (r : RecEnv) (pre : List Item) (body : Bytes) (post : List Item) : Statement (.forwardingRemove t r pre body post) := fun _ => ⟨rfl, rfl⟩
theorem sourceRangesInstall (t : Nat) (r : RecEnv) (pre : List Item) (body : Bytes) (post : List Item) : Statement (.sourceRangesInstall t r pre body post) := fun _ => ⟨rfl, rfl⟩
theorem sourceRangesRemove (t : Nat) (r : RecEnv) (pre : List Item) (body : Bytes) (post : List Item) : Statement (.sourceRangesRemove t r pre body post) := fun _ => ⟨rfl, rfl⟩
theorem clusterItem (t : Nat) (r : RecEnv) (pre : List Item) (body : Bytes) (post : List Item) : Statement (.clusterItem t r pre body post) := fun _ => ⟨rfl, rfl⟩
theorem clusterLeaveProceed (t : Nat) (c : Nat) : Statement (.clusterLeaveProceed t c) := fun _ => ⟨rfl, rfl⟩
theorem partitionSetup (t : Nat) (r : RecEnv) (pre : List Item) (body : Bytes) (post : List Item) : Statement (.partitionSetup t r pre body post) := fun _ => ⟨rfl, rfl⟩
theorem partitionTeardown (t : Nat) (r : RecEnv) (pre : List Item) (body : Bytes) (post : List Item) : Statement (.partitionTeardown t r pre body post) := fun _ => ⟨rfl, rfl⟩
theorem partitionRingInstall (t : Nat) (r : RecEnv) (pre : List Item) (body : Bytes) (post : List Item) : Statement (.partitionRingInstall t r pre body post) := fun _ => ⟨rfl, rfl⟩
theorem partitionRingRemove (t : Nat) (r : RecEnv) (pre : List Item) (body : Bytes) (post : List Item) : Statement (.partitionRingRemove t r pre body post) := fun _ => ⟨rfl, rfl⟩
theorem nodeAndPairInstall (t : Nat) (r : RecEnv) (pre : List Item) (body : Bytes) (post : List Item) : Statement (.nodeAndPairInstall t r pre body post) := fun _ => ⟨rfl, rfl⟩
theorem journalReset (t : Nat) (r : RecEnv) (pre : List Item) (body : Bytes) (post : List Item) : Statement (.journalReset t r pre body post) := fun _ => ⟨rfl, rfl⟩
theorem standbyEnter (t : Nat) (r : RecEnv) (pre : List Item) (body : Bytes) (post : List Item) : Statement (.standbyEnter t r pre body post) := fun _ => ⟨rfl, rfl⟩
theorem standbyLeave (t : Nat) (r : RecEnv) (pre : List Item) (body : Bytes) (post : List Item) : Statement (.standbyLeave t r pre body post) := fun _ => ⟨rfl, rfl⟩
theorem deviceAdmit (t : Nat) (r : RecEnv) (pre : List Item) (body : Bytes) (post : List Item) : Statement (.deviceAdmit t r pre body post) := fun _ => ⟨rfl, rfl⟩
theorem witnessSetInstall (t : Nat) (r : RecEnv) (pre : List Item) (body : Bytes) (post : List Item) : Statement (.witnessSetInstall t r pre body post) := fun _ => ⟨rfl, rfl⟩
theorem revocation (t : Nat) (r : RecEnv) (body : Bytes) : Statement (.revocation t r body) := fun _ => ⟨rfl, rfl⟩
theorem publishWitness (t : Nat) (r : RecEnv) (body : Bytes) : Statement (.publishWitness t r body) := fun _ => ⟨rfl, rfl⟩
theorem publishWitnessDeferred (t : Nat) : Statement (.publishWitnessDeferred t) := fun _ => ⟨rfl, rfl⟩
theorem consent (t : Nat) (r : RecEnv) (body : Bytes) : Statement (.consent t r body) := fun _ => ⟨rfl, rfl⟩
theorem replayLockOn (t : Nat) (r : RecEnv) (body : Bytes) : Statement (.replayLockOn t r body) := fun _ => ⟨rfl, rfl⟩
theorem replayLockOff (t : Nat) (r : RecEnv) (body : Bytes) : Statement (.replayLockOff t r body) := fun _ => ⟨rfl, rfl⟩
theorem keyTransfer (t : Nat) (r : RecEnv) (body : Bytes) : Statement (.keyTransfer t r body) := fun _ => ⟨rfl, rfl⟩
theorem pairAdmissionOffer (t : Nat) (r : RecEnv) (body : Bytes) : Statement (.pairAdmissionOffer t r body) := fun _ => ⟨rfl, rfl⟩
theorem pairAdmissionAnswer (t : Nat) (r : RecEnv) (body : Bytes) : Statement (.pairAdmissionAnswer t r body) := fun _ => ⟨rfl, rfl⟩
theorem ownerCertificateFragment (t : Nat) (r : RecEnv) (body : Bytes) : Statement (.ownerCertificateFragment t r body) := fun _ => ⟨rfl, rfl⟩
theorem unsupportedRecordType (t : Nat) (r : RecEnv) (body : Bytes) : Statement (.unsupportedRecordType t r body) := fun _ => ⟨rfl, rfl⟩
theorem hoopMbxDoorbell (t : Nat) (fn : Nat) (value : BitVec 64) (slotBytes : Bytes) : Statement (.hoopMbxDoorbell t fn value slotBytes) := fun _ => ⟨rfl, rfl⟩
theorem w1cClear (t : Nat) (fn : Nat) (offset : Nat) (value : BitVec 64) : Statement (.w1cClear t fn offset value) := fun _ => ⟨rfl, rfl⟩
theorem registerWriteDropped (t : Nat) (fn : Nat) (offset : Nat) (value : BitVec 64) : Statement (.registerWriteDropped t fn offset value) := fun _ => ⟨rfl, rfl⟩
theorem unsupportedRequestTlp (t : Nat) (fn : Nat) (addr : Nat) (isRead : Bool) : Statement (.unsupportedRequestTlp t fn addr isRead) := fun _ => ⟨rfl, rfl⟩
theorem doeDiscovery (t : Nat) (fn : Nat) (index : Nat) : Statement (.doeDiscovery t fn index) := fun _ => ⟨rfl, rfl⟩
theorem getVersion (t : Nat) (q : Requester) : Statement (.getVersion t q) := fun _ => ⟨rfl, rfl⟩
theorem getCapabilities (t : Nat) (q : Requester) (version : BitVec 8) : Statement (.getCapabilities t q version) := fun _ => ⟨rfl, rfl⟩
theorem negotiateAlgorithms (t : Nat) (q : Requester) (baseAsym : BitVec 32) (baseHash : BitVec 32) : Statement (.negotiateAlgorithms t q baseAsym baseHash) := fun _ => ⟨rfl, rfl⟩
theorem getDigests (t : Nat) (q : Requester) : Statement (.getDigests t q) := fun _ => ⟨rfl, rfl⟩
theorem getCertificate (t : Nat) (q : Requester) (slot : Nat) (offset : Nat) (length : Nat) : Statement (.getCertificate t q slot offset length) := fun _ => ⟨rfl, rfl⟩
theorem challenge (t : Nat) (q : Requester) (slot : Nat) (nonce : Bytes) (measType : BitVec 8) : Statement (.challenge t q slot nonce measType) := fun _ => ⟨rfl, rfl⟩
theorem getMeasurements (t : Nat) (q : Requester) (op : Nat) (signed : Bool) (nonce : Bytes) (slot : Nat) : Statement (.getMeasurements t q op signed nonce slot) := fun _ => ⟨rfl, rfl⟩
theorem spdmUnsupportedRequest (t : Nat) (q : Requester) (code : BitVec 8) : Statement (.spdmUnsupportedRequest t q code) := fun _ => ⟨rfl, rfl⟩
theorem mctpControl (t : Nat) (bytes : Bytes) : Statement (.mctpControl t bytes) := fun _ => ⟨rfl, rfl⟩
theorem mctpStatus (t : Nat) : Statement (.mctpStatus t) := fun _ => ⟨rfl, rfl⟩
theorem mctpReadRing (t : Nat) (ring : Nat) (start : Nat) (count : Nat) : Statement (.mctpReadRing t ring start count) := fun _ => ⟨rfl, rfl⟩
theorem mctpSubmitRecord (t : Nat) (r : RecEnv) (body : Bytes) : Statement (.mctpSubmitRecord t r body) := fun _ => ⟨rfl, rfl⟩
theorem entdaa (t : Nat) (addr : BitVec 7) : Statement (.entdaa t addr) := fun _ => ⟨rfl, rfl⟩
theorem setdasa (t : Nat) (static : BitVec 7) (dynamic : BitVec 7) : Statement (.setdasa t static dynamic) := fun _ => ⟨rfl, rfl⟩
theorem doorbellStoreDeadline (t : Nat) (part : Nat) : Statement (.doorbellStoreDeadline t part) := fun _ => ⟨rfl, rfl⟩
theorem aerError (t : Nat) (fn : Nat) (err : BitVec 32) : Statement (.aerError t fn err) := fun _ => ⟨rfl, rfl⟩

end Laws.WellFormed

end Sys2Proof
end

