-- ==== Sys2Proof/Laws/Signatures.lean ====
section
/-! SUPPORT. Powers in the field of Ed25519, and the one key whose signatures need no secret: under the neutral point, the neutral
point with scalar 0 signs every message. Tests use it for records whose signature must verify. -/

namespace Sys2Proof.Machine

theorem powModAux_eq (b e n : Nat) (hn : n ≤ 256) (he : e < 2 ^ 256) : powModAux b e n = b ^ (e >>> (256 - n)) % edP := by
  induction n with
  | zero =>
    have : e >>> 256 = 0 := by rw [Nat.shiftRight_eq_div_pow]; exact Nat.div_eq_of_lt he
    simp only [powModAux, Nat.sub_zero, this, Nat.pow_zero]
    exact (Nat.mod_eq_of_lt (by decide)).symm
  | succ n ih =>
    have ih := ih (by omega)
    have h1 : 256 - n = (255 - n) + 1 := by omega
    have h2 : 256 - (n + 1) = 255 - n := by omega
    have hs : e >>> (256 - n) = (e >>> (255 - n)) / 2 := by rw [h1, Nat.shiftRight_succ]
    rw [h2]
    simp only [powModAux, ih, hs]
    generalize e >>> (255 - n) = m
    have hm := Nat.div_add_mod m 2
    split
    · next h =>
      have : m = m / 2 + m / 2 + 1 := by omega
      conv => rhs; rw [this, Nat.pow_succ, Nat.pow_add]
      simp [Nat.mul_mod]
    · next h =>
      have : m = m / 2 + m / 2 := by omega
      conv => rhs; rw [this, Nat.pow_add]
      simp [Nat.mul_mod]

theorem powMod_eq (b e : Nat) (he : e < 2 ^ 256) : powMod b e = b ^ e % edP := by
  have h := powModAux_eq (b % edP) e 256 (Nat.le_refl _) he
  simp only [Nat.sub_self, Nat.shiftRight_zero] at h
  rw [powMod, h, Nat.pow_mod, Nat.mod_mod, ← Nat.pow_mod]

theorem two_pow_order : 2 ^ (edP - 1) % edP = 1 := by
  rw [← powMod_eq 2 (edP - 1) (by decide)]
  decide +kernel

/-- A point that is the neutral one, in some coordinates whose scale is a power of two. -/
def EdPoint.neutral (p : EdPoint) : Prop := p.x = 0 ∧ p.t = 0 ∧ p.y = p.z ∧ ∃ j, p.z = 2 ^ j % edP

theorem edZero_neutral : edZero.neutral := ⟨rfl, rfl, rfl, 0, by decide⟩

theorem fSub_zero_right (a : Nat) (h : a < edP) : fSub a 0 = a := by
  have e : fSub a 0 = (a + edP) % edP := by simp [fSub]
  rw [e, Nat.add_mod_right, Nat.mod_eq_of_lt h]

theorem fSub_self (a : Nat) (h : a < edP) : fSub a a = 0 := by
  unfold fSub
  rw [Nat.mod_eq_of_lt h]
  have : a + edP - a = edP := by omega
  rw [this, Nat.mod_self]

theorem edP_pos : 0 < edP := by decide

theorem edAdd_neutral (p q : EdPoint) (hp : p.neutral) (hq : q.neutral) : (edAdd p q).neutral := by
  obtain ⟨px, py, pz, pt⟩ := p
  obtain ⟨qx, qy, qz, qt⟩ := q
  obtain ⟨h1, h2, h3, j, h4⟩ := hp
  obtain ⟨g1, g2, g3, i, g4⟩ := hq
  simp only at h1 h2 h3 h4 g1 g2 g3 g4
  subst h1 h2 h3 g1 g2 g3
  have lp : py < edP := h4 ▸ Nat.mod_lt _ edP_pos
  have lq : qy < edP := g4 ▸ Nat.mod_lt _ edP_pos
  have key : 2 * py * qy % edP = 2 ^ (j + i + 1) % edP := by
    rw [h4, g4, Nat.mul_assoc, Nat.mul_mod, ← Nat.mul_mod (2 ^ j) (2 ^ i), ← Nat.mul_mod, ← Nat.pow_add, Nat.pow_succ, Nat.mul_comm]
  have hd := Nat.mod_lt (2 * py * qy) edP_pos
  have hb := Nat.mod_lt (py * qy) edP_pos
  have hh : (py * qy % edP + py * qy % edP) % edP = 2 * py * qy % edP := by
    rw [← Nat.add_mod, ← Nat.two_mul, Nat.mul_assoc]
  simp only [EdPoint.neutral, edAdd, fSub_zero_right _ lp, fSub_zero_right _ lq, Nat.add_zero, Nat.mul_zero, Nat.zero_mul, Nat.zero_mod,
    fSub_zero_right _ hd, fSub_self _ hb, hh, true_and]
  exact ⟨by simp only [Nat.mod_mod], 2 * (j + i + 1), by rw [key, Nat.mod_mod, ← Nat.mul_mod, ← Nat.pow_add, Nat.two_mul]⟩

theorem edMulAux_neutral (p : EdPoint) (k n : Nat) (h : p.neutral ∨ k = 0) : (edMulAux p k n).neutral := by
  induction n with
  | zero => exact edZero_neutral
  | succ n ih =>
    simp only [edMulAux]
    split
    · next hk =>
      rcases h with h | h
      · exact edAdd_neutral _ _ (edAdd_neutral _ _ ih ih) h
      · subst h; simp at hk
    · exact edAdd_neutral _ _ ih ih

/-- The neutral point's own encoding. -/
def neutralBytes : Bytes := natLe 32 1

theorem inverse_of_power (m j e k : Nat) (h : e + 1 = k) (hk : 2 ^ k % m = 1) (hm : 1 % m = 1) :
    (2 ^ j % m) * ((2 ^ j % m) ^ e % m) % m = 1 := by
  subst h
  rw [← Nat.pow_mod, ← Nat.mul_mod, ← Nat.pow_succ', ← Nat.pow_mul, Nat.mul_comm, Nat.pow_mul, Nat.pow_mod, hk, Nat.one_pow, hm]

theorem edEncode_neutral (p : EdPoint) (h : p.neutral) : edEncode p = neutralBytes := by
  obtain ⟨hx, -, hy, j, hz⟩ := h
  have one : p.z * fInv p.z % edP = 1 := by
    rw [fInv, powMod_eq _ _ (by decide), hz]
    exact inverse_of_power edP j (edP - 2) (edP - 1) (by decide) two_pow_order (by decide)
  simp only [edEncode, hx, hy, one, Nat.zero_mul, Nat.zero_mod, Nat.add_zero, neutralBytes]

theorem edDecode_neutral : edDecode neutralBytes = some edZero := by decide +kernel

/-- The neutral point, with scalar 0, signs every message under the neutral point as its key. -/
theorem edVerify_neutral (msg : Bytes) : edVerify neutralBytes msg (neutralBytes ++ natLe 32 0) = true := by
  have hl : (neutralBytes ++ natLe 32 0).length = 64 := by decide +kernel
  have hs : leNat ((neutralBytes ++ natLe 32 0).drop 32) = 0 := by decide +kernel
  have ht : (neutralBytes ++ natLe 32 0).take 32 = neutralBytes := by decide +kernel
  have hn : (⟨fSub 0 edZero.x, edZero.y, 1, fSub 0 edZero.t⟩ : EdPoint) = edZero := by decide +kernel
  simp only [edVerify, edMul, hl, hs, ht, edDecode_neutral, hn]
  rw [if_neg (by decide), if_neg (by decide)]
  rw [edEncode_neutral _ (edAdd_neutral _ _ (edMulAux_neutral _ _ _ (Or.inr rfl)) (edMulAux_neutral _ _ _ (Or.inl edZero_neutral)))]
  exact beq_self_eq_true _

end Sys2Proof.Machine
end

