-- ==== Sys2Proof/Tests/Slice0.lean ====
section
/-! SUPPORT. Tests: the spec's worked examples, well-formed and ill-formed commands, and for every statement with hypotheses states and
operands that meet them, clause by clause, at boundary values of their ranges. -/

namespace Sys2Proof.Tests

open Sys2Proof Sys2Proof.Machine

set_option maxRecDepth 100000
set_option Elab.async false

/-! ## States and operands -/

/-- A device that serves: sealed, no fence, at moment 1000. -/
def serving : State :=
  { State.reset with now := 1000, hoop := { State.reset.hoop with phase := .sealed }, hlt := { State.reset.hlt with fence := 0 } }
/-- The same device with another Hoop die state. -/
def hoopWith (f : Hoop → Hoop) : State := serving.modHoop f
/-- A device whose last stop was a trip. -/
def tripped : State := hoopWith (fun h => { h with phase := .tripped, tripWait := some .perst })
/-- A header whose check is good. -/
def sealHdr (h : Header) : Header := { h with check := h.goodCheck }
/-- A frame header of opcode `op` from node 1 to node 0. -/
def hdr (op : BitVec 8) (tc : BitVec 3) (stream : Stream) (off : BitVec 48) (len : BitVec 13) : Header :=
  { version := 1, reserved := 0, opcode := op, tc := tc, flags := 0, stream := stream, dst := 0, src := 1, seq := 0, epoch := 0, cid := 1,
    age := 0, budget := 0, length := len, format := 1, offset := off, check := 0 }
/-- A request of node 1, applied and mirrored, with its entry written at index 0 of writer 0. -/
def req0 : Req :=
  { id := 0, hdr := hdr 0x02 2 0x10 0x1000 4, payload := [1, 2, 3, 4], pcheck := 0, port := 0, sub := 0, arrive := 900, age0 := 0, part := 0,
    entry := none, weight := 256, writer := 0, index := some 0, applied := true, mirrored := true }
/-- A record of a mailbox. -/
def qrec : QRec := { path := .mailbox 0 0, bytes := [], signer := 1, number := 1, recType := 1 }
/-- A card that is not there, and start conditions that hold. -/
def noCard : Card := { present := false, bytes := [] }
def goodStart : StartCond := { pufOk := true, refClock := true, vin12 := true, dieFault := false, failedParts := [] }
def image0 : Loaded := { image := [], settings := {}, slot := 0, rest := [], card := noCard, cond := goodStart }
/-- A frame with its payload check. -/
def frameOf (h : Header) (p : Bytes) : Frame := ⟨h, p, if h.carries then crc32c p else 0⟩
/-- Node 1's context of partition 0, and its access to the first MiB. -/
def ctx1 : Context := { node := 1, cid := 1, part := 0, isLocal := false, windows := [] }
def ent1 : AccessEntry := { node := 1, cid := 1, part := 0, tier := 1, rights := 31, base := 0, length := 2 ^ 20, grant := 1 }
/-- A device with partition 0 ACTIVE and node 1 as its master. -/
def manned : State :=
  (serving.modTabs (fun x => { x with contexts := [ctx1], access := [ent1] })).modPart 0
    (fun p => { p with state := .active, keyPresent := true, keyId := 1, key := some [] })
/-- The frame waits, wholly received, behind a position. -/
def arrived (pos : Nat) (f : Frame) (s : State) : State :=
  s.modWarp (fun w => { w with arrived := [⟨pos, 0, f, 0, 900, 0, none, 900⟩] })
/-- Where a frame came in. -/
def port0 : Arrival := ⟨0, 0, 0⟩
/-- The state and the request once a frame has passed checks 8 to 14. -/
def opened (t : Nat) (a : Arrival) (f : Frame) (s : State) (want : State → Delivered → Want) (waits : State → Delivered → Bool) : State × Req :=
  match (s.at t).receive a f with
  | .here v d => if waits v d then (s, req0) else
    match v.present d (want v d) with
    | .go u id => match u.req id with
      | some r => (u, r)
      | none => (s, req0)
    | _ => (s, req0)
  | _ => (s, req0)
def fLoad (n : BitVec 13) : Frame := frameOf (hdr 0x01 2 0x10 0x1000 n) []
def fStore (n : BitVec 13) (p : Bytes) : Frame := frameOf (hdr 0x02 2 0x10 0x1000 n) p
def fAtomic (op : BitVec 8) (p : Bytes) : Frame := frameOf (hdr op 0 0x60 0x1000 (BitVec.ofNat 13 p.length)) p
def fFlush (p : Bytes) : Frame := frameOf (hdr 0x03 2 0x10 0x1000 8) p
/-- The device with these bytes of the near tier. -/
def holding (a : Nat) (bs : Bytes) (s : State) : State := s.modMem (fun m => { m with near := writeBytes m.near a bs })
/-- A Sumac range of one block at 0x1000, and a block of ones in it. -/
def sumac1 : SumacRange := { base := 0x1000, length := 96, part := 0, profile := 1, fmt := 2, scale := 0x3F800000, id := 1 }
def block1 : Bytes := (encodeBlock 1 0x3F800000 .fp32 (List.replicate 128 0x3F800000)).1
def fSumac : Frame := frameOf { hdr 0x01 2 0x10 0x1000 512 with format := 2 } []
def sumacHeld (bs : Bytes) : State := holding 0x1000 bs (manned.modTabs (fun x => { x with sumac := [sumac1] }))
/-- A published range of two buffers, at version 0. -/
def pub7 : Published := { view := 0x8000, buffers := 2, part := 0, length := 256, area := 0x9000, word := 0xA000, id := 7 }
def publishing (p : Published) : State := manned.modTabs (fun x => { x with published := [p] })
def fPublish (version : Byte) : Frame := frameOf (hdr 0x04 2 0x10 0x8000 16) [0, 0, 0, 0, 0, 0, 0, version, 0, 0, 0, 0, 0, 0, 1, 0]
/-- The entry of the request `req0`. -/
def entry0 : JEntry :=
  { index := 0, src := 1, stream := 0x10, opcode := 0x02, seq := 0, cid := 1, epoch := 0, offset := 0x1000, length := 4, format := 1, flags := 0,
    tc := 2, part := 0, state := .applied, status := .ok, writer := 0, solo := false, pcheck := 0, age := 0, result := 0, aux := 0,
    compEpoch := 0, at_ := 900, done := true, mirrored := true }
/-- The device with open requests, the first of them with its entry, and node 1's stream past its sequence. -/
def openWith (rs : List Req) (s : State) : State :=
  s.modJrn (fun j => { j with
    reqs := rs, nextReq := rs.length, writers := [{ head := 1, ring := [entry0] }, {}],
    streams := [{ src := 1, stream := 0x10, next := 1 }] })
/-- A line of cluster 31 that it has modified. -/
def dirtyLine : L2Line := { cluster := 31, line := 0x1000, state := .m, data := List.replicate 128 7, presence := 0 }
/-- Partition 0 owns cluster 0, and has a local context. -/
def clustered : State :=
  (manned.modCluster 0 (fun c => { c with assigned := true, gated := false })).modTabs (fun x =>
    { x with contexts := x.contexts ++ [{ node := 0, cid := 9, part := 0, isLocal := true, windows := [] }],
             access := x.access ++ [{ ent1 with node := 0, cid := 9 }] })
def fOffload (b : Bytes) : Frame := frameOf (hdr 0x30 4 0x10 0 64) b
/-- A set-up of a collective of two contributors, 64 elements of FP32 and one segment of 16, listed at 0x2000. -/
def setup1 (count : Byte) : Bytes :=
  [0xC0, 1, 1, 1, 2, 1, 1, 0, 5, 0, 0, 0, count, 0, 0, 0] ++ natLe 8 0x4000 ++ natLe 6 256 ++ natLe 2 64 ++ natLe 8 0x2000 ++ List.replicate 24 0
def setupList : Bytes := [1, 0, 1, 0, 1, 0, 0, 0] ++ [2, 0, 1, 0, 1, 0, 0, 0]
def contributors : List Contributor := [⟨1, 1, false, 0⟩, ⟨2, 1, false, 0⟩]
def release1 : Bytes := [0xC1, 1] ++ List.replicate 6 0 ++ [5, 0, 0, 0, 0, 0, 0, 0] ++ natLe 8 0x4000 ++ List.replicate 40 0
def key1 : CollKey := ⟨0, 5⟩
/-- That collective, bound to the first position of cluster 0. -/
def coll1 : Collective := { setupColl (setup1 2) contributors 0 with positions := [64] }
def collective (k : Collective) : State := clustered.modEng (fun e => { e with colls := [k] })
def openSeg : Segment := { index := 0, bits := [1], held := [⟨1, 7, List.replicate 64 0, none⟩], firstAt := 900 }
def fReduce : Frame := frameOf { hdr 0x20 3 0x10 0x4000 64 with format := 2 } (List.replicate 64 0)
/-- The same with its second contributor a stage, whose partial frames land at 0x6000. -/
def staged1 : Collective :=
  { setupColl (setup1 2) [⟨1, 1, false, 0⟩, ⟨1, 1, true, 0⟩] 0 with positions := [64], partialArea := 0x6000 }
def fPartial (round : Byte) (id : Byte) : Frame :=
  frameOf (hdr 0x20 3 0x7C 0x6000 56) ([id, 0, 0, 0, round, 0, 0, 0, 0, 0, 0, 0, 1, 0, 1, 0] ++ List.replicate 40 0)
def group1 (m : Member) : Group := { id := 0xF000, part := 0, base := 0x1000, length := 4096, members := [m] }
def fMcast (off : BitVec 48) : Frame := frameOf { hdr 0x21 3 0x10 off 4 with dst := 0xF000 } [1, 2, 3, 4]
def grouped (m : Member) : State := manned.modTabs (fun x => { x with groups := [group1 m] })
/-- A `TOP_K` of the two greatest of four INT32 elements at 0x3000, returned (flag 1) or written to 0x5000. -/
def topk (ret : Bool) : Bytes :=
  [4, 1, if ret then 1 else 0, 0, 0, 7, 0, 0] ++ natLe 4 4 ++ List.replicate 4 0 ++ natLe 8 0x3000 ++ List.replicate 16 0 ++
    natLe 8 (if ret then 0 else 0x5000) ++ natLe 2 2 ++ [1] ++ List.replicate 13 0
def elems4 : Bytes := [1, 0, 0, 0, 9, 0, 0, 0, 3, 0, 0, 0, 7, 0, 0, 0]
def opReq (ret : Bool) : Req :=
  { req0 with hdr := hdr 0x30 4 0x10 0 64, payload := topk ret, index := none, applied := false, mirrored := false, stage := .queued 0 0 }
def opJob (ret : Bool) : OpJob :=
  { req := 0, cluster := 0, pos := 0, desc := topk ret, arrivedAt := 900,
    exts := [[(0x3000, 16)], [], [], if ret then [] else [(0x5000, 24)]], srcs := [[(0x3000, 16)], [], []] }
/-- The job, running with its elements read and its tiles done. -/
def opDone (ret : Bool) : OpJob :=
  { opJob ret with running := true, valid := true, tilesStarted := 1, tilesDone := 1,
                   plan := [{ opnd := 0, g := 0x3000, n := 16, sent := true, data := some elems4 }] }
def working (r : Req) (j : OpJob) : State := (openWith [r] clustered).modEng (fun e => { e with jobs := [j] })
def tile0 : Tile := ⟨0, 7, 0, 0, 950⟩
/-- A device in a pair with node 3, which its ports reach. -/
def pairWith (role : Nat) (s : State) : State :=
  s.modTabs (fun x => { x with paired := true, partner := 3, role := role, fwd := [⟨1, 8, some (0, 0)⟩] })
/-- A frame held in the pending store until sequence 0 has come. -/
def held1 : HeldFrame := ⟨fStore 4 [1, 2, 3, 4], 0, 0, 900, 0, 0, 0⟩
def waiting (next : Seq) : State := manned.modJrn (fun j => { j with held := [held1], streams := [{ src := 1, stream := 0x10, next := next }] })
def fHand (op : BitVec 8) (b : Bytes) : Frame := frameOf (hdr op 2 0x10 0 16) b
def handle0 (kind : Byte) (gen : Byte) : Bytes := [0, 0, kind, 0, 0, 0, 0, 5, 0, 0, 0, 0, 0, 0, 0, gen]
def handOver0 : HandOver := { kind := 1, index := 5, generation := 7, taker := some 1, ackAt := some 900 }
def handing (x : HandOver) : State := manned.modJrn (fun j => { j with handOvers := [x] })
def fMirror : Frame := frameOf { hdr 0x90 1 0x7E 0 64 with src := 3 } entry0.bytes
/-- A frame of this device that mirrors entry 0. -/
def mirrorOut : OutFrame :=
  { hdr := hdr 0x90 1 0x7E 0 64, payload := entry0.bytes, owner := .mirror 0 0, sentAt := 900, firstAt := 900, toward := 3 }
/-- A response of node 3 to sequence 0 of a stream. -/
def fResp (ack : Bool) (op : BitVec 8) (st : Status) (settled : Bool) (p : Bytes) : Frame :=
  frameOf { hdr (if ack then 0x80 else 0x81) 5 0x60 0 (BitVec.ofNat 13 p.length) with src := 3, budget := completionWord st op settled } p
/-- A frame of this device to node 3. -/
def outTo (op : BitVec 8) (o : Owner) : OutFrame :=
  { hdr := { hdr op 5 0x60 0x1000 4 with dst := 3, src := 0 }, payload := [1, 2, 3, 4], owner := o, sentAt := 900, firstAt := 900, toward := 3 }
def sending (o : OutFrame) : State := (pairWith 1 manned).modJrn (fun j => { j with outs := [o] })
/-- A request that waits for frames. -/
def framesReq : Req := { req0 with index := none, applied := false, mirrored := false, stage := .frames }
def resyncing : State := ((pairWith 2 manned).modHlt (fun h => { h with resync := 1, fence := 1 }))
def fResync (off : BitVec 48) (b : Bytes) : Frame := frameOf { hdr 0x02 5 0x7B off 64 with src := 3 } b
def streamBytes : Bytes := ({ src := 1, stream := 0x10, next := 1 } : StreamRec).bytes ++ List.replicate 48 0
def managed (fence : Nat) : State :=
  (manned.modTabs (fun x => { x with witnesses := some ([], []) })).modHlt (fun h => { h with fence := fence })
/-- A prefetch schedule of partition 0 at step 5, with its step word at 0x1000, and an instance of its step 6. -/
def sched0 : Schedule :=
  { node := 1, cid := 1, part := 0, doorbell := 0x1000, period := 1, start := 0, entries := [], cur := 5, issuedTo := 6 }
def pfEntry0 : PfEntry := { source := 0x4000, length := 64, kind := 2, dest := 0x5000, need := 1, release := 2 }
def inst0 : PfInstance := { step := 6, entry := 0, todo := [] }
def schedHeld (i : PfInstance) : Schedule := { sched0 with entries := [pfEntry0], instances := [i] }
def scheduled (x : Schedule) : State := manned.modTabs (fun y => { y with schedules := [x] })
def fWord (n : Byte) (top : Byte) : Frame := frameOf (hdr 0x02 2 0x10 0x1000 8) [n, 0, 0, 0, 0, 0, 0, top]
/-- Channel 127, bound to partition 0. -/
def bind127 : Binding :=
  { die := 1, ch := 63, part := 0, cid := 9, posterNode := 1, posterCid := 1, ring := 0x20000, log2 := 4, doorbell := 0x1000, completion := 0x30000 }
def bound (c : Channel) : State := (clustered.modTabs (fun y => { y with bindings := [bind127] })).modChan 127 (fun _ => c)
/-- A copy of 64 bytes from 0x2000 to 0x3000. -/
def copyDesc : Bytes :=
  [1, 0, 0, 0, 0, 0, 0, 0] ++ natLe 8 0x2000 ++ natLe 8 0x3000 ++ natLe 4 64 ++ List.replicate 36 0
def mov0 : MovDesc := { index := 0, bytes := copyDesc }
def moverOut : OutFrame := { outTo 1 (.mover 127 false 0 0 64) with resendAt := some 950 }
/-- A queued frame of two cells from E3 to E7, in class 3. -/
def vf0 : VFrame :=
  { tag := 1, src := 3, dst := 7, sub := 0, frame := frameOf (hdr 0x02 3 0x10 0x1000 4) [1, 2, 3, 4], part := 0, subscriber := none, service := 0,
    cells := 2, moved := 0, spilled := 0, enq := 900, headAt := some 900, urgent := false, resid := 0, arrival := none }
def queued (v : VFrame) : State := serving.modWarp (fun w => { w with voq := [v] })
def refillGrant : ArbItem := ⟨20, 1, 1, 0x10, 0⟩
/-- A page run of partition 0 that cores reach, and a device whose cores use it; the line 0x1000 with messages, L2 lines and tags. -/
def run0 : Run := { virtBase := 0, globalBase := 0, size := 1, count := 1, part := 0, rd := true, wr := true }
def coherent (net : List Msg) (l2 : List L2Line) (tags : List (Nat × Nat × Listed)) (holds : List (Nat × HomeHold)) : State :=
  ((clustered.modTabs (fun x => { x with runs := [run0] })).modCluster 31 (fun c => { c with assigned := true, gated := false })).modMem
    (fun m => { m with net := net, l2 := l2, filter := tags, holds := holds })
def lineIn (st : L2State) : L2Line := { dirtyLine with state := st }
/-- The link of port 63, up. -/
def up63 : Link :=
  { port := 63, sub := 0, state := .up, lit := true, agreed := true, rxGood := 0x1FF, txActive := 0xFF, txCredit := List.replicate 8 100, width := 8 }
def linked (l : Link) : State := serving.modHoop id |> fun s => { s with links := [l] }
def block0 : Block :=
  { kind := 1, retry := false, creditClass := 0, seq := 0, acked := 0, credits := 0, firstFrame := 0x1FFF, replayDelay := 0, laneMask := 0x1FF }
def onLine : Frame := ⟨sealHdr (hdr 0x02 2 0x10 0x1000 4), [1, 2, 3, 4], crc32c [1, 2, 3, 4]⟩
def train0 : TrainBlock := { version := 1, split := 1, sub := 0, echo := true, mark := 0, echoedMark := 0, hold := 0 }
def marker0 : Bytes :=
  let b : Bytes := [0xC5, 0x3A, 0x96, 0, 0x80, 0] ++ List.replicate 6 0
  b ++ natBe 2 (crc16 b).toNat ++ [0]
def reading0 : WaveReading := { wave := 7, lockLost := false, cwCorrected := 0, symCorrected := 0, cwUncorrected := 0, rxPower := 0, laserBias := 1000 }
/-- Partition 15 with a change. -/
def part15 (f : Partition → Partition) : State := manned.modPart 15 f
def scrub0 : Scrub := { near := [], far := [], whole := true, started := 900, key := [] }
def extent0 : Extent := { base := 0, length := 64, part := 15, home := 0, mode := 1, dual := false, tray := 0, cid := 0, id := 0 }
def batch0 : Batch := { first := 0, since := 900, leaves := [List.replicate 128 0], flags := 0 }
def service0 : Service :=
  { sub := 4095, svc := 15, shaping := 1, classMap := 0, quantum := 1, rateMin := 10, rateMax := 20, burst := 0, rate := 15, bucket := false }
def lock0 : LockCfg := { base := 0x100000, size := 65536, consumer := 0x200000, body := [] }
/-- A device whose owner's and partner's key is the neutral point, with the PCIe functions and the sideband up and no identity. -/
def ownedBy (s : State) : State :=
  { (s.modTabs (fun x => { x with partnerKey := neutralBytes })).modHoop (fun h => { h with
      pufOk := false, pcieUp := [true, true], i3c := some 0x30 }) with mram := { s.mram with ownerKey := some neutralBytes } }
def owned : State := ownedBy manned
/-- The wrapper of a record that the owner signs, or of one that the partner does. -/
def envAt (path : RecPath) (recType : BitVec 16) (body : Bytes) : RecEnv :=
  { path := path, recType := recType, version := 1, signer := 1, bodyLen := BitVec.ofNat 16 body.length, reserved := 0, number := 5,
    target := List.replicate 32 0, signature := neutralBytes ++ List.replicate 32 0, compEpoch := 0, mapEpoch := 0, compReserved := 0 }
def ownerEnv (recType : BitVec 16) (body : Bytes) : RecEnv := envAt (.mailbox 1 255) recType body
def recOf (r : RecEnv) (body : Bytes) : QRec := Claims.recordAs r.path (recordIn r.path (wrapperBytes r body))
/-- The wrapper of a composition of one item, and its record. -/
def itemEnv (b : Bytes) : RecEnv := { ownerEnv 0x0C01 [] with bodyLen := BitVec.ofNat 16 (24 + b.length) }
def itemRec (kind op : Nat) (b : Bytes) : QRec := recOf (itemEnv b) (compositionBody (itemEnv b) [itemOf kind op b])
/-- A `RECORD` frame of the partner, and a device that hears it. -/
def partnerPath : RecPath := .frame { hdr 0xA0 0 0x7C 0 0 with src := 3 }
def partnerEnv (recType : BitVec 16) (body : Bytes) : RecEnv := { envAt partnerPath recType body with signer := 2 }
def partnered : State := ownedBy ((pairWith 2 manned).modHlt (fun h => { h with fence := 0 }))
def wOffer (s : State) (q : QRec) : State :=
  let s := s.at 1001
  let b := q.body
  let (d, s) := s.draw
  let nonce := Config.randomBytes d 16
  let key := s.deriveKey (slice b 8 32) nonce (slice b 40 16)
  let s := (s.sendRecord .admission 0x0C61 (s.admissionBody 2 nonce (slice b 40 16))).modHoop (fun h => { h with
    transportKey := some key, offerNonce := none })
  s.applied q []
/-- The state whose items a composition record has applied, before what follows them. -/
def wItems (s : State) (q : QRec) : State :=
  let s := s.at 1001
  match State.applyItems (beAt q.body 2 2) 0 (q.body.drop 16) (s.setEpochs (BitVec.ofNat 32 (beAt q.body 4 4)) (BitVec.ofNat 16 (beAt q.body 8 2))) [] with
  | .ok (u, _) => u
  | .error _ => s
/-- A settings section with a power cap of 304 W and a lot seed. -/
def goodSettings : Bytes :=
  natLe 4 0x100 ++ [52, 10, 0, 0] ++ natLe 8 304 ++ (natLe 4 0x110 ++ [0, 32, 0, 0] ++ natLe 8 1)
/-- A card whose directory is good, with one slot that holds no image. -/
def cardOf : Card :=
  let b : Bytes := natLe 4 0x0640DC01 ++ [1, 0, 0, 0] ++ natLe 4 0 ++ natLe 4 28 ++ natLe 4 0 ++ natLe 4 0
  { present := true, bytes := b ++ natLe 4 (crc32c b).toNat }

/-! ## Well-formed commands, and ill-formed ones that are refused: one for each check -/

/-- A frame with a payload, a frame with a byte more than its header says, and a record's wrapper and one without a target. -/
def fOf (op : BitVec 8) (st : Stream) (p : Bytes) : Frame := frameOf (hdr op 0 st 0 (BitVec.ofNat 13 p.length)) p
def spoiled (f : Frame) : Frame := { f with payload := f.payload ++ [0] }
def envOf (recType : BitVec 16) : RecEnv := ownerEnv recType []
def badEnv (recType : BitVec 16) : RecEnv := { envOf recType with target := [] }

theorem test_well_formed_1 : ([
    .referenceLock 0 none, .deviceReset 0 (envOf 0x0C80) [], .islandReset 0 .warpData, .islandRecoveryDone 0 .warpData,
    .islandResetOvertime 0 .warpData, .flitReplay 0 .hoopWarp false, .sidebandLoss 0 .warp, .lotDrainComplete 0 0, .lotDrainTimeout 0 0,
    .thermalSample 0 (List.replicate 20 0), .clusterStopWindow 0 0 false, .load 0 port0 (fOf 0x01 0 []) .none, .store 0 port0 (fOf 0x02 0 []) .none,
    .flush 0 port0 (fOf 0x03 0 []), .publish 0 port0 (fOf 0x04 0 []), .atomicFaddInteger 0 port0 (fOf 0x10 0 []) .none,
    .atomicFaddFloat 0 port0 (fOf 0x11 0 []) .none, .atomicFminInteger 0 port0 (fOf 0x12 0 []) .none, .atomicFminFloat 0 port0 (fOf 0x13 0 []) .none,
    .atomicFmaxInteger 0 port0 (fOf 0x14 0 []) .none, .atomicFmaxFloat 0 port0 (fOf 0x15 0 []) .none, .atomicCas 0 port0 (fOf 0x16 0 []) .none,
    .atomicSwap 0 port0 (fOf 0x17 0 []) .none, .reducePut 0 port0 (fOf 0x20 0 []), .partialFrame 0 port0 (fOf 0x20 0x7C []),
    .mcastStore 0 port0 (fOf 0x21 0 []), .gather 0 port0 (fOf 0x30 0 [0x1]), .scatterAdd 0 port0 (fOf 0x30 0 [0x2]),
    .predicateFilter 0 port0 (fOf 0x30 0 [0x3]), .topK 0 port0 (fOf 0x30 0 [0x4]), .embeddingBag 0 port0 (fOf 0x30 0 [0x5]),
    .smallDenseProjection 0 port0 (fOf 0x30 0 [0x6]), .treeEnsemble 0 port0 (fOf 0x30 0 [0x7]), .collectiveSetup 0 port0 (fOf 0x30 0 [0xC0]),
    .collectiveRelease 0 port0 (fOf 0x30 0 [0xC1]), .unsupportedOpcode 0 port0 (fOf 0x3F 0 []), .xcheckOffload 0 port0 (fOf 0x30 0x7A []),
    .operatorStart 0 0, .tileStart 0 0, .tileComplete 0 0 0, .offer 0 port0 (fOf 0x40 0 []), .take 0 port0 (fOf 0x41 0 []),
    .mirror 0 port0 (fOf 0x90 0 []), .responseAck 0 port0 (fOf 0x80 0 []), .responseNack 0 port0 (fOf 0x81 0 []), .mirrorTimeout 0 0 0,
    .markInterval 0 0, .idleMarkInterval 0 0, .entryRetire 0 0 0 false, .anchorUpdate 0 0, .urgentPromotion 0 0 0 0, .spillRefill 0 0 0 0,
    .refillReturn 0 0 0 0 .none, .egressFrameStart 0 0 0, .lotteryDraw 0 0 [], .rdS 0 0 0 0, .rdX 0 0 0 0, .upg 0 0 0 0, .rdU 0 0 0 0, .wrU 0 0 0 0 0,
    .evcC 0 0 0, .evcD 0 0 0, .srI 0 0 0 false false, .srN 0 0 0 false false, .lineData 0 0 0 (zeros 128) 0, .cack 0 0 0, .snpShr 0 0 0, .snpFwd 0 0 0,
    .snpI 0 0 0, .cmpE 0 0 0 (zeros 128)] : List Instr).all (fun i => i.wellFormed) = true := by decide +kernel

theorem test_well_formed_2 : ([
    .cmpS 0 0 0 (zeros 128), .cmpN 0 0 0 (zeros 128), .cmpM 0 0 0 none, .bufGnt 0 0 0, .cmpW 0 0 0, .cmpEvc 0 0 0, .nak 0 0 0 .denied,
    .coreRead 0 0 0 0, .coreWrite 0 0 0 0 [], .victimChosen 0 0 0, .snoopAnswerTimeout 0 0 0, .prefetchDoorbell 0 port0 (fOf 0x02 0 []),
    .prefetchInstanceLanded 0 0 0 0, .moverDoorbell 0 0 port0 (fOf 0x02 0 []), .moverRestart 0 0 port0 (fOf 0x02 0 (zeros 7 ++ [0x80])),
    .moverDescriptorStart 0 0, .moverDescriptorComplete 0 0, .moverRetryTimer 0 0, .moverPaceResume 0 0, .scrubComplete 0 0, .consentExpiry 0 0,
    .keyTransferTimeout 0 0, .batchClose 0 0, .blockReceived 0 0 0 block0 [], .blockCheckFail 0 0 0, .retryRequest 0 0 0 0, .retryLimitRetrain 0 0 0,
    .trainBlockReceived 0 0 0 train0 0, .linkTrainingDone 0 0 0, .laneMarker 0 0 [], .wavelengthHealthWindow 0 0 [], .laserMonitorFault 0 0 0,
    .spareLocked 0 0, .linkDownHoldExpiry 0 0 0, .rxLightLoss 0 0, .rxLightReturn 0 0, .resyncStore 0 port0 (fOf 0x02 0x7B []),
    .expelThresholdLower 0 1, .cloveRateAdapt 0 0 0 0 0, .cloveAdmitAdapt 0 0 0 0, .clovePfDepthAdapt 0 0 false 0, .cloveWeakSymAdapt 0 0 0 0,
    .meterClose 0 0, .msixHoldoffExpiry 0 0 0, .compositionEpochAdvance 0 (envOf 0x0C01) [], .mapEpochAdvance 0 (envOf 0x0C01) [],
    .contextInstall 0 (envOf 0x0C01) [] [] [], .contextRemove 0 (envOf 0x0C01) [] [] [], .runInstall 0 (envOf 0x0C01) [] [] [],
    .runRemove 0 (envOf 0x0C01) [] [] [], .runUnmapComplete 0 0 0, .accessEntryInstall 0 (envOf 0x0C01) [] [] [],
    .accessEntryRemove 0 (envOf 0x0C01) [] [] [], .subscriberInstall 0 (envOf 0x0C01) [] [] [], .subscriberRemove 0 (envOf 0x0C01) [] [] [],
    .serviceInstall 0 (envOf 0x0C01) [] [] [], .serviceRemove 0 (envOf 0x0C01) [] [] [], .groupInstall 0 (envOf 0x0C01) [] [] [],
    .groupRemove 0 (envOf 0x0C01) [] [] [], .sumacRangeInstall 0 (envOf 0x0C01) [] [] [], .sumacRangeRemove 0 (envOf 0x0C01) [] [] [],
    .extentInstall 0 (envOf 0x0C01) [] [] [], .extentRemove 0 (envOf 0x0C01) [] [] [], .mirroredRangeInstall 0 (envOf 0x0C01) [] [] [],
    .mirroredRangeRemove 0 (envOf 0x0C01) [] [] [], .prefetchScheduleInstall 0 (envOf 0x0C01) [] [] [],
    .prefetchScheduleRemove 0 (envOf 0x0C01) [] [] [], .channelBindingInstall 0 (envOf 0x0C01) [] [] [],
    .channelBindingRemove 0 (envOf 0x0C01) [] [] [], .portShareInstall 0 (envOf 0x0C01) [] [] []] : List Instr).all (fun i => i.wellFormed) = true := by decide +kernel

theorem test_well_formed_3 : ([
    .portShareRemove 0 (envOf 0x0C01) [] [] [], .publishedRangeInstall 0 (envOf 0x0C01) [] [] [], .publishedRangeRemove 0 (envOf 0x0C01) [] [] [],
    .forwardingInstall 0 (envOf 0x0C01) [] [] [], .forwardingRemove 0 (envOf 0x0C01) [] [] [], .sourceRangesInstall 0 (envOf 0x0C01) [] [] [],
    .sourceRangesRemove 0 (envOf 0x0C01) [] [] [], .clusterItem 0 (envOf 0x0C01) [] [] [], .clusterLeaveProceed 0 0,
    .partitionSetup 0 (envOf 0x0C01) [] [0, 1] [], .partitionTeardown 0 (envOf 0x0C01) [] [0, 2] [], .partitionRingInstall 0 (envOf 0x0C01) [] [] [],
    .partitionRingRemove 0 (envOf 0x0C01) [] [] [], .nodeAndPairInstall 0 (envOf 0x0C01) [] [] [],
    .journalReset 0 (envOf 0x0C01) [] [0, 0, 0, 0, 16] [], .standbyEnter 0 (envOf 0x0C01) [] [0, 0, 0, 0, 32] [],
    .standbyLeave 0 (envOf 0x0C01) [] [0, 0, 0, 0, 0] [], .deviceAdmit 0 (envOf 0x0C01) [] [0, 0, 0, 0, 8] [],
    .witnessSetInstall 0 (envOf 0x0C01) [] [] [], .revocation 0 (envOf 0x0C02) [], .publishWitness 0 (envOf 0x0C03) [], .consent 0 (envOf 0x0C51) [],
    .replayLockOn 0 (envOf 0x0C52) [0, 0, 0, 1], .replayLockOff 0 (envOf 0x0C52) [0, 0, 0, 2], .keyTransfer 0 (envOf 0x0C60) [],
    .pairAdmissionOffer 0 (envOf 0x0C61) [0, 0, 1], .pairAdmissionAnswer 0 (envOf 0x0C61) [0, 0, 2], .ownerCertificateFragment 0 (envOf 0x0C70) [],
    .unsupportedRecordType 0 (envOf 0x0C04) [], .hoopMbxDoorbell 0 0 0 [], .w1cClear 0 0 0 0, .registerWriteDropped 0 0 0 0,
    .unsupportedRequestTlp 0 0 0 false, .doeDiscovery 0 0 0, .getVersion 0 .mctp, .getCapabilities 0 .mctp 0, .negotiateAlgorithms 0 .mctp 0 0,
    .getDigests 0 .mctp, .getCertificate 0 .mctp 0 0 0, .challenge 0 .mctp 0 [] 0, .getMeasurements 0 .mctp 0 false [] 0,
    .spdmUnsupportedRequest 0 .mctp 0, .mctpSubmitRecord 0 { envOf 0x0C01 with path := .i3c } [], .doorbellStoreDeadline 0 0, .aerError 0 0 0] : List Instr).all (fun i => i.wellFormed) = true := by decide +kernel

theorem test_ill_formed_1 : ([
    .referenceLock 0 (some 64), .deviceReset 0 (badEnv 0x0C80) [], .deviceReset 0 { envOf 0x0C80 with signature := [] } [],
    .deviceReset 0 { envOf 0x0C80 with path := .doe 2 } [], .deviceReset 0 (envOf 0x0C05) [], .islandReset 0 (.cluster 32), .islandReset 0 (.weft 4),
    .islandReset 0 (.rim 2), .islandReset 0 (.osier 4), .islandRecoveryDone 0 (.cluster 32), .islandRecoveryDone 0 (.weft 4),
    .islandRecoveryDone 0 (.rim 2), .islandRecoveryDone 0 (.osier 4), .islandResetOvertime 0 (.cluster 32), .islandResetOvertime 0 (.weft 4),
    .islandResetOvertime 0 (.rim 2), .islandResetOvertime 0 (.osier 4), .flitReplay 0 (.osierWarp 4) false, .flitReplay 0 (.weftWarp 4) false,
    .flitReplay 0 (.rimWarp 2) false, .flitReplay 0 (.weftRim 4 0) false, .flitReplay 0 (.weftRim 0 2) false, .sidebandLoss 0 (.hoop),
    .sidebandLoss 0 (.weft 4), .sidebandLoss 0 (.rim 2), .sidebandLoss 0 (.osier 4), .lotDrainComplete 0 67, .lotDrainTimeout 0 67,
    .thermalSample 0 (List.replicate 19 0), .clusterStopWindow 0 32 false, .load 0 ⟨64, 0, 0⟩ (fOf 0x01 0 []) .none,
    .load 0 ⟨0, 4, 0⟩ (fOf 0x01 0 []) .none, .load 0 port0 (spoiled (fOf 0x01 0 [])) .none, .load 0 port0 (fOf 0xFF 0 []) .none,
    .store 0 ⟨64, 0, 0⟩ (fOf 0x02 0 []) .none, .store 0 ⟨0, 4, 0⟩ (fOf 0x02 0 []) .none, .store 0 port0 (spoiled (fOf 0x02 0 [])) .none,
    .store 0 port0 (fOf 0xFF 0 []) .none, .flush 0 ⟨64, 0, 0⟩ (fOf 0x03 0 []), .flush 0 ⟨0, 4, 0⟩ (fOf 0x03 0 []),
    .flush 0 port0 (spoiled (fOf 0x03 0 [])), .flush 0 port0 (fOf 0xFF 0 []), .publish 0 ⟨64, 0, 0⟩ (fOf 0x04 0 []),
    .publish 0 ⟨0, 4, 0⟩ (fOf 0x04 0 []), .publish 0 port0 (spoiled (fOf 0x04 0 [])), .publish 0 port0 (fOf 0xFF 0 []),
    .atomicFaddInteger 0 ⟨64, 0, 0⟩ (fOf 0x10 0 []) .none, .atomicFaddInteger 0 ⟨0, 4, 0⟩ (fOf 0x10 0 []) .none,
    .atomicFaddInteger 0 port0 (spoiled (fOf 0x10 0 [])) .none, .atomicFaddInteger 0 port0 (fOf 0xFF 0 []) .none,
    .atomicFaddFloat 0 ⟨64, 0, 0⟩ (fOf 0x11 0 []) .none, .atomicFaddFloat 0 ⟨0, 4, 0⟩ (fOf 0x11 0 []) .none,
    .atomicFaddFloat 0 port0 (spoiled (fOf 0x11 0 [])) .none, .atomicFaddFloat 0 port0 (fOf 0xFF 0 []) .none,
    .atomicFminInteger 0 ⟨64, 0, 0⟩ (fOf 0x12 0 []) .none, .atomicFminInteger 0 ⟨0, 4, 0⟩ (fOf 0x12 0 []) .none,
    .atomicFminInteger 0 port0 (spoiled (fOf 0x12 0 [])) .none, .atomicFminInteger 0 port0 (fOf 0xFF 0 []) .none,
    .atomicFminFloat 0 ⟨64, 0, 0⟩ (fOf 0x13 0 []) .none, .atomicFminFloat 0 ⟨0, 4, 0⟩ (fOf 0x13 0 []) .none,
    .atomicFminFloat 0 port0 (spoiled (fOf 0x13 0 [])) .none, .atomicFminFloat 0 port0 (fOf 0xFF 0 []) .none,
    .atomicFmaxInteger 0 ⟨64, 0, 0⟩ (fOf 0x14 0 []) .none, .atomicFmaxInteger 0 ⟨0, 4, 0⟩ (fOf 0x14 0 []) .none,
    .atomicFmaxInteger 0 port0 (spoiled (fOf 0x14 0 [])) .none, .atomicFmaxInteger 0 port0 (fOf 0xFF 0 []) .none,
    .atomicFmaxFloat 0 ⟨64, 0, 0⟩ (fOf 0x15 0 []) .none, .atomicFmaxFloat 0 ⟨0, 4, 0⟩ (fOf 0x15 0 []) .none,
    .atomicFmaxFloat 0 port0 (spoiled (fOf 0x15 0 [])) .none, .atomicFmaxFloat 0 port0 (fOf 0xFF 0 []) .none,
    .atomicCas 0 ⟨64, 0, 0⟩ (fOf 0x16 0 []) .none, .atomicCas 0 ⟨0, 4, 0⟩ (fOf 0x16 0 []) .none, .atomicCas 0 port0 (spoiled (fOf 0x16 0 [])) .none,
    .atomicCas 0 port0 (fOf 0xFF 0 []) .none, .atomicSwap 0 ⟨64, 0, 0⟩ (fOf 0x17 0 []) .none, .atomicSwap 0 ⟨0, 4, 0⟩ (fOf 0x17 0 []) .none,
    .atomicSwap 0 port0 (spoiled (fOf 0x17 0 [])) .none, .atomicSwap 0 port0 (fOf 0xFF 0 []) .none, .reducePut 0 ⟨64, 0, 0⟩ (fOf 0x20 0 []),
    .reducePut 0 ⟨0, 4, 0⟩ (fOf 0x20 0 []), .reducePut 0 port0 (spoiled (fOf 0x20 0 [])), .reducePut 0 port0 (fOf 0xFF 0 []),
    .partialFrame 0 ⟨64, 0, 0⟩ (fOf 0x20 0x7C []), .partialFrame 0 ⟨0, 4, 0⟩ (fOf 0x20 0x7C []), .partialFrame 0 port0 (spoiled (fOf 0x20 0x7C [])),
    .partialFrame 0 port0 (fOf 0xFF 0x7C []), .partialFrame 0 port0 (fOf 0x20 0x10 []), .mcastStore 0 ⟨64, 0, 0⟩ (fOf 0x21 0 []),
    .mcastStore 0 ⟨0, 4, 0⟩ (fOf 0x21 0 []), .mcastStore 0 port0 (spoiled (fOf 0x21 0 [])), .mcastStore 0 port0 (fOf 0xFF 0 []),
    .gather 0 ⟨64, 0, 0⟩ (fOf 0x30 0 [0x1]), .gather 0 ⟨0, 4, 0⟩ (fOf 0x30 0 [0x1]), .gather 0 port0 (spoiled (fOf 0x30 0 [0x1])),
    .gather 0 port0 (fOf 0x30 0 [9]), .gather 0 port0 (fOf 0x40 0 [0x1]), .scatterAdd 0 ⟨64, 0, 0⟩ (fOf 0x30 0 [0x2]),
    .scatterAdd 0 ⟨0, 4, 0⟩ (fOf 0x30 0 [0x2]), .scatterAdd 0 port0 (spoiled (fOf 0x30 0 [0x2])), .scatterAdd 0 port0 (fOf 0x30 0 [9]),
    .scatterAdd 0 port0 (fOf 0x40 0 [0x2]), .predicateFilter 0 ⟨64, 0, 0⟩ (fOf 0x30 0 [0x3]), .predicateFilter 0 ⟨0, 4, 0⟩ (fOf 0x30 0 [0x3]),
    .predicateFilter 0 port0 (spoiled (fOf 0x30 0 [0x3])), .predicateFilter 0 port0 (fOf 0x30 0 [9]), .predicateFilter 0 port0 (fOf 0x40 0 [0x3]),
    .topK 0 ⟨64, 0, 0⟩ (fOf 0x30 0 [0x4]), .topK 0 ⟨0, 4, 0⟩ (fOf 0x30 0 [0x4]), .topK 0 port0 (spoiled (fOf 0x30 0 [0x4])),
    .topK 0 port0 (fOf 0x30 0 [9])] : List Instr).all (fun i => !i.wellFormed) = true := by decide +kernel

theorem test_ill_formed_2 : ([
    .topK 0 port0 (fOf 0x40 0 [0x4]), .embeddingBag 0 ⟨64, 0, 0⟩ (fOf 0x30 0 [0x5]), .embeddingBag 0 ⟨0, 4, 0⟩ (fOf 0x30 0 [0x5]),
    .embeddingBag 0 port0 (spoiled (fOf 0x30 0 [0x5])), .embeddingBag 0 port0 (fOf 0x30 0 [9]), .embeddingBag 0 port0 (fOf 0x40 0 [0x5]),
    .smallDenseProjection 0 ⟨64, 0, 0⟩ (fOf 0x30 0 [0x6]), .smallDenseProjection 0 ⟨0, 4, 0⟩ (fOf 0x30 0 [0x6]),
    .smallDenseProjection 0 port0 (spoiled (fOf 0x30 0 [0x6])), .smallDenseProjection 0 port0 (fOf 0x30 0 [9]),
    .smallDenseProjection 0 port0 (fOf 0x40 0 [0x6]), .treeEnsemble 0 ⟨64, 0, 0⟩ (fOf 0x30 0 [0x7]), .treeEnsemble 0 ⟨0, 4, 0⟩ (fOf 0x30 0 [0x7]),
    .treeEnsemble 0 port0 (spoiled (fOf 0x30 0 [0x7])), .treeEnsemble 0 port0 (fOf 0x30 0 [9]), .treeEnsemble 0 port0 (fOf 0x40 0 [0x7]),
    .collectiveSetup 0 ⟨64, 0, 0⟩ (fOf 0x30 0 [0xC0]), .collectiveSetup 0 ⟨0, 4, 0⟩ (fOf 0x30 0 [0xC0]),
    .collectiveSetup 0 port0 (spoiled (fOf 0x30 0 [0xC0])), .collectiveSetup 0 port0 (fOf 0x30 0 [9]), .collectiveSetup 0 port0 (fOf 0x40 0 [0xC0]),
    .collectiveRelease 0 ⟨64, 0, 0⟩ (fOf 0x30 0 [0xC1]), .collectiveRelease 0 ⟨0, 4, 0⟩ (fOf 0x30 0 [0xC1]),
    .collectiveRelease 0 port0 (spoiled (fOf 0x30 0 [0xC1])), .collectiveRelease 0 port0 (fOf 0x30 0 [9]),
    .collectiveRelease 0 port0 (fOf 0x40 0 [0xC1]), .unsupportedOpcode 0 ⟨64, 0, 0⟩ (fOf 0x3F 0 []), .unsupportedOpcode 0 ⟨0, 4, 0⟩ (fOf 0x3F 0 []),
    .unsupportedOpcode 0 port0 (spoiled (fOf 0x3F 0 [])), .unsupportedOpcode 0 port0 (fOf 0x40 0 []), .xcheckOffload 0 ⟨64, 0, 0⟩ (fOf 0x30 0x7A []),
    .xcheckOffload 0 ⟨0, 4, 0⟩ (fOf 0x30 0x7A []), .xcheckOffload 0 port0 (spoiled (fOf 0x30 0x7A [])), .xcheckOffload 0 port0 (fOf 0xFF 0x7A []),
    .xcheckOffload 0 port0 (fOf 0x30 0x10 []), .operatorStart 0 32, .tileStart 0 32, .tileComplete 0 32 0, .tileComplete 0 0 8,
    .offer 0 ⟨64, 0, 0⟩ (fOf 0x40 0 []), .offer 0 ⟨0, 4, 0⟩ (fOf 0x40 0 []), .offer 0 port0 (spoiled (fOf 0x40 0 [])), .offer 0 port0 (fOf 0xFF 0 []),
    .take 0 ⟨64, 0, 0⟩ (fOf 0x41 0 []), .take 0 ⟨0, 4, 0⟩ (fOf 0x41 0 []), .take 0 port0 (spoiled (fOf 0x41 0 [])), .take 0 port0 (fOf 0xFF 0 []),
    .mirror 0 ⟨64, 0, 0⟩ (fOf 0x90 0 []), .mirror 0 ⟨0, 4, 0⟩ (fOf 0x90 0 []), .mirror 0 port0 (spoiled (fOf 0x90 0 [])),
    .mirror 0 port0 (fOf 0xFF 0 []), .responseAck 0 ⟨64, 0, 0⟩ (fOf 0x80 0 []), .responseAck 0 ⟨0, 4, 0⟩ (fOf 0x80 0 []),
    .responseAck 0 port0 (spoiled (fOf 0x80 0 [])), .responseAck 0 port0 (fOf 0xFF 0 []), .responseNack 0 ⟨64, 0, 0⟩ (fOf 0x81 0 []),
    .responseNack 0 ⟨0, 4, 0⟩ (fOf 0x81 0 []), .responseNack 0 port0 (spoiled (fOf 0x81 0 [])), .responseNack 0 port0 (fOf 0xFF 0 []),
    .mirrorTimeout 0 2 0, .markInterval 0 2, .idleMarkInterval 0 2, .entryRetire 0 2 0 false, .anchorUpdate 0 2, .urgentPromotion 0 160 0 0,
    .urgentPromotion 0 0 160 0, .urgentPromotion 0 0 0 8, .spillRefill 0 160 0 0, .spillRefill 0 0 160 0, .spillRefill 0 0 0 8,
    .refillReturn 0 160 0 0 .none, .refillReturn 0 0 160 0 .none, .refillReturn 0 0 0 8 .none, .egressFrameStart 0 64 0, .egressFrameStart 0 0 4,
    .lotteryDraw 0 67 [], .lotteryDraw 0 0 [⟨64, 0, 0, 0, 0⟩], .rdS 0 32 0 0, .rdX 0 32 0 0, .upg 0 32 0 0, .rdU 0 32 0 0, .wrU 0 32 0 0 0,
    .evcC 0 32 0, .evcD 0 32 0, .srI 0 32 0 false false, .srN 0 32 0 false false, .lineData 0 32 0 (zeros 128) 0, .lineData 0 0 0 (zeros 127) 0,
    .cack 0 32 0, .snpShr 0 32 0, .snpFwd 0 32 0, .snpI 0 32 0, .cmpE 0 32 0 (zeros 128), .cmpE 0 0 0 (zeros 127), .cmpS 0 32 0 (zeros 128),
    .cmpS 0 0 0 (zeros 127), .cmpN 0 32 0 (zeros 128), .cmpN 0 0 0 (zeros 127), .cmpM 0 32 0 none, .bufGnt 0 32 0, .cmpW 0 32 0, .cmpEvc 0 32 0,
    .nak 0 32 0 .denied, .coreRead 0 32 0 0, .coreRead 0 0 8 0, .coreWrite 0 32 0 0 [], .coreWrite 0 0 8 0 [], .victimChosen 0 32 0,
    .snoopAnswerTimeout 0 32 0, .prefetchDoorbell 0 ⟨64, 0, 0⟩ (fOf 0x02 0 [])] : List Instr).all (fun i => !i.wellFormed) = true := by decide +kernel

theorem test_ill_formed_3 : ([
    .prefetchDoorbell 0 ⟨0, 4, 0⟩ (fOf 0x02 0 []), .prefetchDoorbell 0 port0 (spoiled (fOf 0x02 0 [])), .prefetchDoorbell 0 port0 (fOf 0xFF 0 []),
    .prefetchInstanceLanded 0 16 0 0, .moverDoorbell 0 128 port0 (fOf 0x02 0 []), .moverDoorbell 0 0 ⟨64, 0, 0⟩ (fOf 0x02 0 []),
    .moverDoorbell 0 0 ⟨0, 4, 0⟩ (fOf 0x02 0 []), .moverDoorbell 0 0 port0 (spoiled (fOf 0x02 0 [])), .moverDoorbell 0 0 port0 (fOf 0xFF 0 []),
    .moverRestart 0 128 port0 (fOf 0x02 0 (zeros 7 ++ [0x80])), .moverRestart 0 0 ⟨64, 0, 0⟩ (fOf 0x02 0 (zeros 7 ++ [0x80])),
    .moverRestart 0 0 ⟨0, 4, 0⟩ (fOf 0x02 0 (zeros 7 ++ [0x80])), .moverRestart 0 0 port0 (spoiled (fOf 0x02 0 (zeros 7 ++ [0x80]))),
    .moverRestart 0 0 port0 (fOf 0xFF 0 (zeros 7 ++ [0x80])), .moverRestart 0 0 port0 (fOf 0x02 0 (zeros 8)), .moverDescriptorStart 0 128,
    .moverDescriptorComplete 0 128, .moverRetryTimer 0 128, .moverPaceResume 0 128, .scrubComplete 0 16, .consentExpiry 0 16, .keyTransferTimeout 0 16,
    .batchClose 0 16, .blockReceived 0 64 0 block0 [], .blockReceived 0 0 4 block0 [], .blockReceived 0 0 0 { block0 with kind := 2 } [],
    .blockCheckFail 0 64 0, .blockCheckFail 0 0 4, .retryRequest 0 64 0 0, .retryRequest 0 0 4 0, .retryLimitRetrain 0 64 0, .retryLimitRetrain 0 0 4,
    .trainBlockReceived 0 64 0 train0 0, .trainBlockReceived 0 0 4 train0 0, .linkTrainingDone 0 64 0, .linkTrainingDone 0 0 4, .laneMarker 0 64 [],
    .wavelengthHealthWindow 0 64 [], .wavelengthHealthWindow 0 0 [{ reading0 with wave := 9 }], .laserMonitorFault 0 64 0, .laserMonitorFault 0 0 9,
    .spareLocked 0 64, .linkDownHoldExpiry 0 64 0, .linkDownHoldExpiry 0 0 4, .rxLightLoss 0 64, .rxLightReturn 0 64,
    .resyncStore 0 ⟨64, 0, 0⟩ (fOf 0x02 0x7B []), .resyncStore 0 ⟨0, 4, 0⟩ (fOf 0x02 0x7B []), .resyncStore 0 port0 (spoiled (fOf 0x02 0x7B [])),
    .resyncStore 0 port0 (fOf 0xFF 0x7B []), .resyncStore 0 port0 (fOf 0x02 0x10 []), .expelThresholdLower 0 0, .expelThresholdLower 0 6,
    .cloveRateAdapt 0 4096 0 0 0, .cloveRateAdapt 0 0 16 0 0, .cloveAdmitAdapt 0 16 0 0, .clovePfDepthAdapt 0 16 false 0, .cloveWeakSymAdapt 0 64 0 0,
    .meterClose 0 16, .msixHoldoffExpiry 0 2 0, .msixHoldoffExpiry 0 0 4, .compositionEpochAdvance 0 (badEnv 0x0C01) [],
    .compositionEpochAdvance 0 { envOf 0x0C01 with signature := [] } [], .compositionEpochAdvance 0 { envOf 0x0C01 with path := .doe 2 } [],
    .compositionEpochAdvance 0 (envOf 0x0C05) [], .mapEpochAdvance 0 (badEnv 0x0C01) [], .mapEpochAdvance 0 { envOf 0x0C01 with signature := [] } [],
    .mapEpochAdvance 0 { envOf 0x0C01 with path := .doe 2 } [], .mapEpochAdvance 0 (envOf 0x0C05) [], .contextInstall 0 (envOf 0x0C02) [] [] [],
    .contextInstall 0 (badEnv 0x0C01) [] [] [], .contextInstall 0 (envOf 0x0C01) [] (zeros 3985) [], .contextRemove 0 (envOf 0x0C02) [] [] [],
    .contextRemove 0 (badEnv 0x0C01) [] [] [], .contextRemove 0 (envOf 0x0C01) [] (zeros 3985) [], .runInstall 0 (envOf 0x0C02) [] [] [],
    .runInstall 0 (badEnv 0x0C01) [] [] [], .runInstall 0 (envOf 0x0C01) [] (zeros 3985) [], .runRemove 0 (envOf 0x0C02) [] [] [],
    .runRemove 0 (badEnv 0x0C01) [] [] [], .runRemove 0 (envOf 0x0C01) [] (zeros 3985) [], .runUnmapComplete 0 16 0,
    .accessEntryInstall 0 (envOf 0x0C02) [] [] [], .accessEntryInstall 0 (badEnv 0x0C01) [] [] [],
    .accessEntryInstall 0 (envOf 0x0C01) [] (zeros 3985) [], .accessEntryRemove 0 (envOf 0x0C02) [] [] [],
    .accessEntryRemove 0 (badEnv 0x0C01) [] [] [], .accessEntryRemove 0 (envOf 0x0C01) [] (zeros 3985) [],
    .subscriberInstall 0 (envOf 0x0C02) [] [] [], .subscriberInstall 0 (badEnv 0x0C01) [] [] [],
    .subscriberInstall 0 (envOf 0x0C01) [] (zeros 3985) [], .subscriberRemove 0 (envOf 0x0C02) [] [] [], .subscriberRemove 0 (badEnv 0x0C01) [] [] [],
    .subscriberRemove 0 (envOf 0x0C01) [] (zeros 3985) [], .serviceInstall 0 (envOf 0x0C02) [] [] [], .serviceInstall 0 (badEnv 0x0C01) [] [] [],
    .serviceInstall 0 (envOf 0x0C01) [] (zeros 3985) [], .serviceRemove 0 (envOf 0x0C02) [] [] [], .serviceRemove 0 (badEnv 0x0C01) [] [] [],
    .serviceRemove 0 (envOf 0x0C01) [] (zeros 3985) [], .groupInstall 0 (envOf 0x0C02) [] [] [], .groupInstall 0 (badEnv 0x0C01) [] [] [],
    .groupInstall 0 (envOf 0x0C01) [] (zeros 3985) [], .groupRemove 0 (envOf 0x0C02) [] [] [], .groupRemove 0 (badEnv 0x0C01) [] [] [],
    .groupRemove 0 (envOf 0x0C01) [] (zeros 3985) [], .sumacRangeInstall 0 (envOf 0x0C02) [] [] [], .sumacRangeInstall 0 (badEnv 0x0C01) [] [] [],
    .sumacRangeInstall 0 (envOf 0x0C01) [] (zeros 3985) [], .sumacRangeRemove 0 (envOf 0x0C02) [] [] []] : List Instr).all (fun i => !i.wellFormed) = true := by decide +kernel

theorem test_ill_formed_4 : ([
    .sumacRangeRemove 0 (badEnv 0x0C01) [] [] [], .sumacRangeRemove 0 (envOf 0x0C01) [] (zeros 3985) [], .extentInstall 0 (envOf 0x0C02) [] [] [],
    .extentInstall 0 (badEnv 0x0C01) [] [] [], .extentInstall 0 (envOf 0x0C01) [] (zeros 3985) [], .extentRemove 0 (envOf 0x0C02) [] [] [],
    .extentRemove 0 (badEnv 0x0C01) [] [] [], .extentRemove 0 (envOf 0x0C01) [] (zeros 3985) [], .mirroredRangeInstall 0 (envOf 0x0C02) [] [] [],
    .mirroredRangeInstall 0 (badEnv 0x0C01) [] [] [], .mirroredRangeInstall 0 (envOf 0x0C01) [] (zeros 3985) [],
    .mirroredRangeRemove 0 (envOf 0x0C02) [] [] [], .mirroredRangeRemove 0 (badEnv 0x0C01) [] [] [],
    .mirroredRangeRemove 0 (envOf 0x0C01) [] (zeros 3985) [], .prefetchScheduleInstall 0 (envOf 0x0C02) [] [] [],
    .prefetchScheduleInstall 0 (badEnv 0x0C01) [] [] [], .prefetchScheduleInstall 0 (envOf 0x0C01) [] (zeros 3985) [],
    .prefetchScheduleRemove 0 (envOf 0x0C02) [] [] [], .prefetchScheduleRemove 0 (badEnv 0x0C01) [] [] [],
    .prefetchScheduleRemove 0 (envOf 0x0C01) [] (zeros 3985) [], .channelBindingInstall 0 (envOf 0x0C02) [] [] [],
    .channelBindingInstall 0 (badEnv 0x0C01) [] [] [], .channelBindingInstall 0 (envOf 0x0C01) [] (zeros 3985) [],
    .channelBindingRemove 0 (envOf 0x0C02) [] [] [], .channelBindingRemove 0 (badEnv 0x0C01) [] [] [],
    .channelBindingRemove 0 (envOf 0x0C01) [] (zeros 3985) [], .portShareInstall 0 (envOf 0x0C02) [] [] [],
    .portShareInstall 0 (badEnv 0x0C01) [] [] [], .portShareInstall 0 (envOf 0x0C01) [] (zeros 3985) [], .portShareRemove 0 (envOf 0x0C02) [] [] [],
    .portShareRemove 0 (badEnv 0x0C01) [] [] [], .portShareRemove 0 (envOf 0x0C01) [] (zeros 3985) [],
    .publishedRangeInstall 0 (envOf 0x0C02) [] [] [], .publishedRangeInstall 0 (badEnv 0x0C01) [] [] [],
    .publishedRangeInstall 0 (envOf 0x0C01) [] (zeros 3985) [], .publishedRangeRemove 0 (envOf 0x0C02) [] [] [],
    .publishedRangeRemove 0 (badEnv 0x0C01) [] [] [], .publishedRangeRemove 0 (envOf 0x0C01) [] (zeros 3985) [],
    .forwardingInstall 0 (envOf 0x0C02) [] [] [], .forwardingInstall 0 (badEnv 0x0C01) [] [] [],
    .forwardingInstall 0 (envOf 0x0C01) [] (zeros 3985) [], .forwardingRemove 0 (envOf 0x0C02) [] [] [], .forwardingRemove 0 (badEnv 0x0C01) [] [] [],
    .forwardingRemove 0 (envOf 0x0C01) [] (zeros 3985) [], .sourceRangesInstall 0 (envOf 0x0C02) [] [] [],
    .sourceRangesInstall 0 (badEnv 0x0C01) [] [] [], .sourceRangesInstall 0 (envOf 0x0C01) [] (zeros 3985) [],
    .sourceRangesRemove 0 (envOf 0x0C02) [] [] [], .sourceRangesRemove 0 (badEnv 0x0C01) [] [] [],
    .sourceRangesRemove 0 (envOf 0x0C01) [] (zeros 3985) [], .clusterItem 0 (envOf 0x0C02) [] [] [], .clusterItem 0 (badEnv 0x0C01) [] [] [],
    .clusterItem 0 (envOf 0x0C01) [] (zeros 3985) [], .clusterLeaveProceed 0 32, .partitionSetup 0 (envOf 0x0C02) [] [0, 1] [],
    .partitionSetup 0 (badEnv 0x0C01) [] [0, 1] [], .partitionSetup 0 (envOf 0x0C01) [] (zeros 3985) [], .partitionSetup 0 (envOf 0x0C01) [] [0, 2] [],
    .partitionTeardown 0 (envOf 0x0C02) [] [0, 2] [], .partitionTeardown 0 (badEnv 0x0C01) [] [0, 2] [],
    .partitionTeardown 0 (envOf 0x0C01) [] (zeros 3985) [], .partitionTeardown 0 (envOf 0x0C01) [] [0, 1] [],
    .partitionRingInstall 0 (envOf 0x0C02) [] [] [], .partitionRingInstall 0 (badEnv 0x0C01) [] [] [],
    .partitionRingInstall 0 (envOf 0x0C01) [] (zeros 3985) [], .partitionRingRemove 0 (envOf 0x0C02) [] [] [],
    .partitionRingRemove 0 (badEnv 0x0C01) [] [] [], .partitionRingRemove 0 (envOf 0x0C01) [] (zeros 3985) [],
    .nodeAndPairInstall 0 (envOf 0x0C02) [] [] [], .nodeAndPairInstall 0 (badEnv 0x0C01) [] [] [],
    .nodeAndPairInstall 0 (envOf 0x0C01) [] (zeros 3985) [], .journalReset 0 (envOf 0x0C02) [] [0, 0, 0, 0, 16] [],
    .journalReset 0 (badEnv 0x0C01) [] [0, 0, 0, 0, 16] [], .journalReset 0 (envOf 0x0C01) [] (zeros 3985) [],
    .journalReset 0 (envOf 0x0C01) [] [0, 0, 0, 0, 0] [], .standbyEnter 0 (envOf 0x0C02) [] [0, 0, 0, 0, 32] [],
    .standbyEnter 0 (badEnv 0x0C01) [] [0, 0, 0, 0, 32] [], .standbyEnter 0 (envOf 0x0C01) [] (zeros 3985) [],
    .standbyEnter 0 (envOf 0x0C01) [] [0, 0, 0, 0, 0] [], .standbyLeave 0 (envOf 0x0C02) [] [0, 0, 0, 0, 0] [],
    .standbyLeave 0 (badEnv 0x0C01) [] [0, 0, 0, 0, 0] [], .standbyLeave 0 (envOf 0x0C01) [] (zeros 3985) [],
    .standbyLeave 0 (envOf 0x0C01) [] [0, 0, 0, 0, 32] [], .deviceAdmit 0 (envOf 0x0C02) [] [0, 0, 0, 0, 8] [],
    .deviceAdmit 0 (badEnv 0x0C01) [] [0, 0, 0, 0, 8] [], .deviceAdmit 0 (envOf 0x0C01) [] (zeros 3985) [],
    .deviceAdmit 0 (envOf 0x0C01) [] [0, 0, 0, 0, 0] [], .witnessSetInstall 0 (envOf 0x0C02) [] [] [], .witnessSetInstall 0 (badEnv 0x0C01) [] [] [],
    .witnessSetInstall 0 (envOf 0x0C01) [] (zeros 3985) [], .revocation 0 (badEnv 0x0C02) [], .revocation 0 { envOf 0x0C02 with signature := [] } [],
    .revocation 0 { envOf 0x0C02 with path := .doe 2 } [], .revocation 0 (envOf 0x0C05) [], .publishWitness 0 (badEnv 0x0C03) [],
    .publishWitness 0 { envOf 0x0C03 with signature := [] } [], .publishWitness 0 { envOf 0x0C03 with path := .doe 2 } [],
    .publishWitness 0 (envOf 0x0C05) [], .consent 0 (badEnv 0x0C51) [], .consent 0 { envOf 0x0C51 with signature := [] } [],
    .consent 0 { envOf 0x0C51 with path := .doe 2 } [], .consent 0 (envOf 0x0C05) [], .replayLockOn 0 (badEnv 0x0C52) [0, 0, 0, 1],
    .replayLockOn 0 { envOf 0x0C52 with signature := [] } [0, 0, 0, 1], .replayLockOn 0 { envOf 0x0C52 with path := .doe 2 } [0, 0, 0, 1],
    .replayLockOn 0 (envOf 0x0C05) [0, 0, 0, 1], .replayLockOn 0 (envOf 0x0C52) [0, 0, 0, 2], .replayLockOff 0 (badEnv 0x0C52) [0, 0, 0, 2],
    .replayLockOff 0 { envOf 0x0C52 with signature := [] } [0, 0, 0, 2], .replayLockOff 0 { envOf 0x0C52 with path := .doe 2 } [0, 0, 0, 2]] : List Instr).all (fun i => !i.wellFormed) = true := by decide +kernel

theorem test_ill_formed_5 : ([
    .replayLockOff 0 (envOf 0x0C05) [0, 0, 0, 2], .replayLockOff 0 (envOf 0x0C52) [0, 0, 0, 1], .keyTransfer 0 (badEnv 0x0C60) [],
    .keyTransfer 0 { envOf 0x0C60 with signature := [] } [], .keyTransfer 0 { envOf 0x0C60 with path := .doe 2 } [], .keyTransfer 0 (envOf 0x0C05) [],
    .pairAdmissionOffer 0 (badEnv 0x0C61) [0, 0, 1], .pairAdmissionOffer 0 { envOf 0x0C61 with signature := [] } [0, 0, 1],
    .pairAdmissionOffer 0 { envOf 0x0C61 with path := .doe 2 } [0, 0, 1], .pairAdmissionOffer 0 (envOf 0x0C05) [0, 0, 1],
    .pairAdmissionOffer 0 (envOf 0x0C61) [0, 0, 2], .pairAdmissionAnswer 0 (badEnv 0x0C61) [0, 0, 2],
    .pairAdmissionAnswer 0 { envOf 0x0C61 with signature := [] } [0, 0, 2], .pairAdmissionAnswer 0 { envOf 0x0C61 with path := .doe 2 } [0, 0, 2],
    .pairAdmissionAnswer 0 (envOf 0x0C05) [0, 0, 2], .pairAdmissionAnswer 0 (envOf 0x0C61) [0, 0, 1], .ownerCertificateFragment 0 (badEnv 0x0C70) [],
    .ownerCertificateFragment 0 { envOf 0x0C70 with signature := [] } [], .ownerCertificateFragment 0 { envOf 0x0C70 with path := .doe 2 } [],
    .ownerCertificateFragment 0 (envOf 0x0C05) [], .unsupportedRecordType 0 (badEnv 0x0C04) [],
    .unsupportedRecordType 0 { envOf 0x0C04 with signature := [] } [], .unsupportedRecordType 0 { envOf 0x0C04 with path := .doe 2 } [],
    .unsupportedRecordType 0 (envOf 0x0C51) [], .hoopMbxDoorbell 0 2 0 [], .w1cClear 0 2 0 0, .registerWriteDropped 0 2 0 0,
    .unsupportedRequestTlp 0 2 0 false, .doeDiscovery 0 2 0, .getVersion 0 (.doe 2), .getCapabilities 0 (.doe 2) 0,
    .negotiateAlgorithms 0 (.doe 2) 0 0, .getDigests 0 (.doe 2), .getCertificate 0 (.doe 2) 0 0 0, .challenge 0 (.doe 2) 0 [] 0,
    .getMeasurements 0 (.doe 2) 0 false [] 0, .spdmUnsupportedRequest 0 (.doe 2) 0, .spdmUnsupportedRequest 0 .mctp 0x84,
    .mctpSubmitRecord 0 (badEnv 0x0C01) [], .mctpSubmitRecord 0 { envOf 0x0C01 with signature := [] } [],
    .mctpSubmitRecord 0 { envOf 0x0C01 with path := .doe 2 } [], .mctpSubmitRecord 0 (envOf 0x0C01) [], .doorbellStoreDeadline 0 16, .aerError 0 2 0] : List Instr).all (fun i => !i.wellFormed) = true := by decide +kernel


/-! ## The spec's worked examples, and known answers of its algorithms -/

/-- The `LOAD` of 4,096 bytes of spec/02_arham_frames_addressing.md: its header bytes 0 to 29, and the completion word of its answer. -/
def loadExample : Header :=
  { version := 1, reserved := 0, opcode := 0x01, tc := 4, flags := 0, stream := 3, dst := 0x0400, src := 0x0215, seq := 0x1A2B, epoch := 7,
    cid := 0x31, age := 0, budget := 0, length := 4096, format := 1, offset := 0x005000000000, check := 0 }
theorem test_example_header : loadExample.body = [0x10, 0x01, 0x80, 0x03, 0x04, 0x00, 0x02, 0x15, 0x00, 0x00, 0x1A, 0x2B, 0x00, 0x07, 0x00, 0x31,
    0, 0, 0, 0, 0, 0, 0x80, 0x01, 0x00, 0x50, 0, 0, 0, 0] := by decide +kernel
theorem test_example_completion_word : completionWord .ok 0x01 true = 0x000101 := by decide

/-- The host window of spec/02_arham_frames_addressing.md, and its two pointers. -/
def windowExample : State :=
  serving.modTabs (fun x => { x with
    contexts := [{ node := 0x0215, cid := 0x31, part := 0, isLocal := false,
                   windows := [{ hostBase := 0x7F0000000000, hostLimit := 0x7F003FFFFFFF, globalBase := 0x0402100040000000 }] }] })
theorem test_example_host_window : windowExample.hostWindow 0x0215 0x31 0x7F0000123400 65536 = some 0x0402100040123400 ∧
    windowExample.hostWindow 0x0215 0x31 0x7F0000123400 gib = none := by decide +kernel

/-- The run of spec/04_translation_protection.md: a read in it, and a write that it does not admit. -/
def runExample : Run :=
  { virtBase := 0x020000000000, globalBase := 0x0402100040000000, size := 2, count := 16, part := 3, rd := true, wr := false }
theorem test_example_run : runExample.len = 0x2000000 ∧
    ((serving.modTabs (fun x => { x with runs := [runExample] })).runAt 3 0x020001234560).map
      (fun r => (r.globalBase + (0x020001234560 - r.virtBase), r.admits false, r.admits true)) = some (0x0402100041234560, true, false) := by
  decide +kernel

/-- Near offset 320 GiB (spec/13_memory_tiers.md): stack S2 at 44 GiB, home point 16. -/
theorem test_example_near_map : stackOf (List.replicate 16 1) 0x005000000000 = (2, 44 * gib) ∧ serving.homePoint 0x005000000000 = some 16 := by
  decide +kernel

/-- The lottery of spec/07_lottery_arbitration.md in home point 16: three cycles, and a forced grant. -/
def askers (l : List Nat) : List ArbItem := l.map (fun r => ⟨r, 128 * r, 1, BitVec.ofNat 8 r, 0⟩)
def drawing (lfsr : Nat) (l : List Nat) : State := serving.modArb 16 (fun a => { a with lfsr := lfsr, queue := askers l })
def wins (s : State) : Option Nat × Bool := ((s.winner 16 (s.presented 16)).1.map (·.requester), (s.winner 16 (s.presented 16)).2)
theorem test_example_lottery_draws : wins (drawing 0x80000000 [1, 4, 17]) = (some 1, false) ∧ wins (drawing 0x40000000 [4, 17]) = (some 4, false) ∧
    wins (drawing 0x20000000 [17]) = (some 17, false) ∧ lfsrStep 0x80000000 = 0x40000000 ∧ lfsrStep 0x40000000 = 0x20000000 := by decide +kernel
theorem test_example_lottery_waits : ((drawing 0x80000000 [1, 4, 17]).lottery 16 |>.arb 16).waits = [(4, 1), (17, 1)] := by decide +kernel
theorem test_example_lottery_force :
    wins ((drawing 0x80000000 [1, 4, 17]).modArb 16 (fun a => { a with waits := [(17, 64)] })) = (some 17, true) := by decide +kernel
/-- The upgrade that loses to a store, and the draw that it would have won (spec/14_package_coherence.md). -/
theorem test_example_upgrade_draws : wins (drawing 0xC0000000 [1, 4]) = (some 4, false) ∧ wins (drawing 0x40000000 [1, 4]) = (some 1, false) := by
  decide +kernel

/-- One sum in three modes (spec/09_numerics_profile.md). -/
def bf16s (l : List Nat) : List Machine.Num := l.map Fm.bf16.val
def sumOf (l : List Nat) : Acc := (bf16s l).foldl (fun (a : Acc) x => a.add wes x) {}
theorem test_example_exact_sum : (sumOf [0x4B80, 0x3F80]).value = 2 ^ 173 + 2 ^ 149 ∧ (sumOf [0x3F80, 0xCB80]).value = 2 ^ 149 - 2 ^ 173 ∧
    ((sumOf [0x4B80, 0x3F80]).merge wes (sumOf [0x3F80, 0xCB80])).round wes .bf16 = (0x4000, .none) := by decide +kernel
def foldOf (l : List Nat) : Nat := (Fm.bf16.conv ((bf16s l).foldl (fun a x => a.step false x) ({} : Fold)).v).1
theorem test_example_fixed_order_sums : foldOf [0x4B80, 0x3F80, 0x3F80, 0xCB80] = 0 ∧ foldOf [0x3F80, 0x3F80, 0x4B80, 0xCB80] = 0x4000 ∧
    foldOf [0x4B80, 0xCB80, 0x3F80, 0x3F80] = 0x4000 := by decide +kernel

/-- The Sumac block of spec/12_sumac_compression.md, encoded in S8 (profile 3) and read back. -/
def sumacExample : List Nat :=
  [0x447A, 0x3F80, 0x4000, 0x4040, 0x4080, 0x40A0, 0x40C0, 0x40E0, 0xBF00] ++ List.replicate 11 0 ++ [0x7FC1] ++ List.replicate 107 0
theorem test_example_sumac_block :
    let b := (encodeBlock 3 0x3F800000 .bf16 sumacExample).1
    b.length = 160 ∧ b.take 28 = [0xFF, 0, 0, 0, 0, 0, 0, 0, 0x14, 0xC0, 0x7F, 0, 0x7A, 0x44, 0, 0, 0, 0, 0, 0, 0x03, 0x02, 0, 0, 0x80, 0x3F, 0x03, 0x01] ∧
      b.drop 32 = [0x00, 0x10, 0x20, 0x30, 0x40, 0x50, 0x60, 0x70, 0xF8] ++ zeros 119 ∧
      (b.drop 28).take 4 = natLe 4 (crc32c (b.take 28 ++ b.drop 32)).toNat := by decide +kernel
theorem test_example_sumac_read :
    (decodeBlock .bf16 (encodeBlock 3 0x3F800000 .bf16 sumacExample).1).map (·.1) = sumacExample.set 20 0x7FC0 := by decide +kernel

/-- The descriptor that scores 4,096 claims (spec/11_data_operators.md) passes the checks of its fields. -/
theorem test_example_tree_descriptor : checkDescriptor ([0x07, 0x01, 0x00, 0x8A, 0x02, 0x03, 0x02, 0x00, 0x00, 0x10, 0, 0, 0x40, 0, 0, 0] ++
    natLe 8 0x030000000000 ++ natLe 8 0x030000100000 ++ zeros 8 ++ natLe 8 0x030000200000 ++ [0x20, 0xF0, 0x03, 0, 0, 0, 0x01] ++ zeros 9) = none := by
  decide +kernel

/-- The access entry of spec/19_management_interfaces.md, bytes 72 to 103 of its record. -/
theorem test_example_access_item : (match parseAccess [0x00, 0x04, 0x00, 0x01, 0x73, 0x01, 0, 0, 0, 0, 0, 0x40, 0x00, 0x10, 0, 0,
    0, 0, 0, 0x02, 0, 0, 0, 0, 0, 0, 0, 0, 0x11, 0x0C, 0, 0] (some 1) with
    | .ok e => e == { node := 0x0400, cid := 0x0100, part := 3, tier := 3, rights := 1, base := 0x100040000000, length := 0x2000000, grant := 0xC11 }
    | .error _ => false) = true := by decide +kernel

/-- The check value of CRC-32C over the digits 1 to 9; SHA-512 of "abc" (FIPS 180-4, first and last eight bytes). -/
theorem test_known_crc32c : crc32c [0x31, 0x32, 0x33, 0x34, 0x35, 0x36, 0x37, 0x38, 0x39] = 0xE3069283 := by decide +kernel
theorem test_known_sha512 : (sha512 [0x61, 0x62, 0x63]).take 8 = [0xDD, 0xAF, 0x35, 0xA1, 0x93, 0x61, 0x7A, 0xBA] ∧
    (sha512 [0x61, 0x62, 0x63]).drop 56 = [0x2A, 0x9A, 0xC9, 0x4F, 0xA5, 0x4C, 0xA4, 0x9F] := by decide +kernel
/-- RFC 8032, 7.1, test 1: the public key of its seed. -/
theorem test_known_ed25519_key : (edPublic [0x9D, 0x61, 0xB1, 0x9D, 0xEF, 0xFD, 0x5A, 0x60, 0xBA, 0x84, 0x4A, 0xF4, 0x92, 0xEC, 0x2C, 0xC4,
    0x44, 0x49, 0xC5, 0x69, 0x7B, 0x32, 0x69, 0x19, 0x70, 0x3B, 0xAC, 0x03, 0x1C, 0xAE, 0x7F, 0x60]).take 8 =
    [0xD7, 0x5A, 0x98, 0x01, 0x82, 0xB1, 0x0A, 0xB7] := by decide +kernel

/-! ## The queue -/

theorem test_no_word_spells_a_command : decodeTableWord 64 0x0102030405060708 = none := by decide
theorem test_step_idles : step serving = .next serving := rfl

/-! ## Checks that give the shared notions -/

theorem intact_of (s : State) (h : (memWf s.mem.near && s.parts.length == 16 && s.arbs.length == 67 && s.chans.length == 128 &&
    s.eng.clusters.length == 32 && s.jrn.writers.length == 2 && s.hoop.eventRings.length == 2 && s.hoop.spdm.length == 3 &&
    s.hoop.chains.length == 3 && s.hoop.pcieUp.length == 2 && s.hoop.aer.length == 2 && decide (s.hoop.powerHold ≤ 12) &&
    decide (s.hoop.thermalHold ≤ 12) && decide (s.hlt.fence ≤ 4) && s.mram.high.length == 2) = true) : s.intact := by
  simp only [Bool.and_eq_true, beq_iff_eq, decide_eq_true_eq] at h
  obtain ⟨⟨⟨⟨⟨⟨⟨⟨⟨⟨⟨⟨⟨⟨a, b⟩, c⟩, d⟩, e⟩, f⟩, g⟩, i⟩, j⟩, k⟩, l⟩, m⟩, n⟩, o⟩, p⟩ := h
  constructor <;> first | assumption | exact ⟨g, i, j, k, l, m, n⟩

/-- The open request is fresh. -/
def freshReq (u : State) (r : Req) : Bool :=
  u.req r.id == some r && r.dup == none && r.index == none && !r.refused && !r.applied && !r.leaf && r.waits == 0 &&
    r.pendingWrite == [] && r.stage == .settle && decide (r.writer < 2)

/-- The frame opens its sequence. -/
def opensOk (t : Nat) (a : Arrival) (f : Frame) (s : State) (want : State → Delivered → Want) (waits : State → Delivered → Bool) : Bool :=
  match (s.at t).receive a f with
  | .here v d => !waits v d && (match v.present d (want v d) with
    | .go u id => (match u.req id with
      | some r => r.id == id && freshReq u r
      | none => false)
    | _ => false)
  | _ => false

theorem opens_of {t : Nat} {a : Arrival} {f : Frame} {s : State} {want : State → Delivered → Want} {waits : State → Delivered → Bool}
    (h : opensOk t a f s want waits = true) :
    Claims.opens t a f s want waits (opened t a f s want waits).1 (opened t a f s want waits).2 := by
  unfold opensOk at h
  unfold opened
  split at h
  · next v d e =>
    simp only [Bool.and_eq_true, Bool.not_eq_true'] at h
    obtain ⟨hw, h⟩ := h
    split at h
    · next u id e2 =>
      split at h
      · next r e3 =>
        simp only [Bool.and_eq_true, beq_iff_eq, freshReq, Bool.not_eq_true', decide_eq_true_eq] at h
        obtain ⟨hi, ⟨⟨⟨⟨⟨⟨⟨⟨⟨q1, q2⟩, q3⟩, q4⟩, q5⟩, q6⟩, q7⟩, q8⟩, q9⟩, q10⟩⟩ := h
        simp only [hw]
        exact ⟨v, d, e, hw, hi ▸ e2, q1, q2, q3, q4, q5, q6, q7, q8, q9, q10⟩
      · cases h
    · cases h
  · cases h

theorem ok_of {ε α : Type} [DecidableEq α] {x : Except ε α} {y : α}
    (h : (match x with | .ok z => decide (z = y) | .error _ => false) = true) : x = .ok y := by
  cases x with
  | ok z => simp only [decide_eq_true_eq] at h; rw [h]
  | error e => cases h

/-- The state in which a presentation opens its sequence. -/
def goneTo (c : Chk) (s : State) : State :=
  match c with
  | .go u _ => u
  | _ => s

theorem go_of {c : Chk} {s : State} {id : Nat} (h : (match c with | .go _ i => decide (i = id) | _ => false) = true) :
    c = .go (goneTo c s) id := by
  cases c with
  | go u i => simp only [decide_eq_true_eq] at h; rw [goneTo, h]
  | done s => cases h
  | dup s e b => cases h

theorem cut_of {c : Cut} {f : Frame} (h : (match c with | .frame g r => decide (g = f) && r.isEmpty | _ => false) = true) : c = .frame f [] := by
  cases c with
  | frame g r =>
    simp only [Bool.and_eq_true, decide_eq_true_eq, List.isEmpty_iff] at h
    rw [h.1, h.2]
  | idle => cases h
  | part => cases h
  | bad r => cases h

theorem empty_of {α : Type} {l : List α} {p : α → Prop} (h : l.isEmpty = true) : ∀ x ∈ l, p x := by
  intro x hx
  rw [List.isEmpty_iff.mp h] at hx
  cases hx

theorem notSome_of {α : Type} {o : Option α} (h : o.isNone = true) (x : α) : o ≠ some x := by
  intro e
  rw [e] at h
  cases h

theorem noWords_of {l : List Contribution} {slot : Nat} {q : Nat → Nat → Prop} (h : l.all (fun x => x.words.isNone) = true) :
    ∀ x ∈ l, x.slot = slot → ∀ b m, x.words = some (b, m) → q b m := by
  intro x hx _ b m hw
  have := List.all_eq_true.mp h x hx
  rw [hw] at this
  cases this

/-- What a frame's receipt brings to this node. -/
def received (r : Rx) : State × Delivered :=
  match r with
  | .here v d => (v, d)
  | .done s => (s, ⟨hdr 0 0 0 0 0, [], 0, 0, 0, 0, 0, 0⟩)

theorem here_of {r : Rx} (h : (match r with | .here _ _ => true | _ => false) = true) : r = .here (received r).1 (received r).2 := by
  cases r with
  | here v d => rfl
  | done s => cases h

theorem ringFree_of {u : State} {o n : Nat}
    (h : u.tabs.rings.all (fun r => (o + n ≤ r.base || r.base + 64 * 2 ^ r.log2 ≤ o) && (o + n ≤ r.producerWord || r.producerWord + 8 ≤ o)) = true) :
    Claims.ringFree u o n := by
  intro x h1 h2 ⟨r, hr, hx⟩
  have := List.all_eq_true.mp h r hr
  simp only [Bool.and_eq_true, Bool.or_eq_true, decide_eq_true_eq] at this
  omega

theorem plainNear_of {u : State} {o n : Nat}
    (h : u.tabs.rings.all (fun r => (o + n ≤ r.base || r.base + 64 * 2 ^ r.log2 ≤ o) && (o + n ≤ r.producerWord || r.producerWord + 8 ≤ o)) = true)
    (h2 : inFar o n = false ∧ (∀ l ∈ linesOf o n, u.holders l = []) ∧ u.sumacTouched o n = none ∧ u.sumacAt o = none ∧
      u.viewOf o n = none ∧ u.viewStraddled o n = false ∧ u.stagingHeld o n = false) : Claims.plainNear u o n :=
  ⟨h2.1, ringFree_of h, h2.2⟩

theorem wordStore_of {u : State} {r : Req} {o : Nat}
    (h : o = r.hdr.offset.toNat ∧ r.hdr.length.toNat = 8 ∧ r.payload.length = 8 ∧ r.hdr.flagC = false ∧
      ¬ (0x68 ≤ r.hdr.stream.toNat ∧ r.hdr.stream.toNat < 0x70)) (hp : Claims.plainNear u o 8)
    (h2 : u.writeBarred o 8 = false ∧ u.copiesAt o = none) : Claims.wordStore u r o :=
  ⟨h.1, h.2.1, h.2.2.1, h.2.2.2.1, h.2.2.2.2, hp, h2⟩

theorem reachesNear_of {s : State} {c vaddr : Nat} {write : Bool} {o : Nat}
    (h : ((s.cluster c).assigned && !(s.cluster c).gated && (s.localContext (s.cluster c).part).isSome &&
      (match s.runAt (s.cluster c).part vaddr with
        | some r => r.admits write && s.isOwn (r.globalBase + (vaddr - r.virtBase)) && o == offOf (r.globalBase + (vaddr - r.virtBase)) &&
            s.addressable o && s.viewTouched (lineAt o) 128 == none
        | none => false)) = true) : Claims.reachesNear s c vaddr write o := by
  simp only [Bool.and_eq_true, Bool.not_eq_true'] at h
  obtain ⟨⟨⟨h1, h2⟩, h3⟩, h4⟩ := h
  refine ⟨h1, h2, h3, ?_⟩
  split at h4
  · next r e =>
    simp only [Bool.and_eq_true, beq_iff_eq] at h4
    obtain ⟨⟨⟨⟨a, b⟩, c⟩, d⟩, e2⟩ := h4
    exact ⟨r, e, a, b, c, d, e2⟩
  · cases h4

theorem calmLine_of {s : State} {c l : Nat} (h1 : s.mem.net.all (fun m => match m with | .dataTo x y _ => !(x == c && y == l) | _ => true) = true)
    (h2 : ∀ x ∈ s.mem.stalled, ¬(x.cluster = c ∧ x.line = l)) : Claims.calmLine s c l :=
  ⟨fun b hb => by simpa using List.all_eq_true.mp h1 _ hb, h2⟩

/-- A record that the neutral point signs passes checks 1 to 5 on a path that is no frame's. -/
def comesOk (s : State) (path : RecPath) (b : Bytes) : Bool :=
  let n := b.length - 64
  s.pathServes path && (match path with | .frame _ => decide (s.warp.arrived = []) | _ => true) && wrapperOk b && s.recordMayCome path b &&
    decide ((if beAt b 3 1 = 1 then s.mram.ownerKey.getD [] else s.tabs.partnerKey) = neutralBytes) &&
    decide (b.drop n = neutralBytes ++ natLe 32 0) && s.mram.history.all (fun e => !(e.1 == beAt b 3 1 && e.2.1 == beAt b 8 8)) &&
    decide (nth s.mram.high (beAt b 3 1 - 1) < beAt b 8 8) && decide (s.hoop.queue = []) && decide (s.hoop.witnessWait = []) &&
    decide (s.hoop.running = none) && s.markersGo

theorem signed_of {s : State} {b : Bytes}
    (hk : (if beAt b 3 1 = 1 then s.mram.ownerKey.getD [] else s.tabs.partnerKey) = neutralBytes)
    (hs : b.drop (b.length - 64) = neutralBytes ++ natLe 32 0) : s.recordSigned b = true := by
  simp only [State.recordSigned, hk, hs, edVerify_neutral]
  rfl

theorem comes_of {s : State} {r : RecEnv} {body : Bytes} (h : comesOk s r.path (recordIn r.path (wrapperBytes r body)) = true) :
    Claims.comes s r.path (wrapperBytes r body) (recOf r body) := by
  unfold comesOk at h
  obtain ⟨h, m⟩ := Bool.and_eq_true_iff.mp h
  obtain ⟨h, l⟩ := Bool.and_eq_true_iff.mp h
  obtain ⟨h, k⟩ := Bool.and_eq_true_iff.mp h
  obtain ⟨h, j⟩ := Bool.and_eq_true_iff.mp h
  obtain ⟨h, i⟩ := Bool.and_eq_true_iff.mp h
  obtain ⟨h, g⟩ := Bool.and_eq_true_iff.mp h
  obtain ⟨h, f⟩ := Bool.and_eq_true_iff.mp h
  obtain ⟨h, e⟩ := Bool.and_eq_true_iff.mp h
  obtain ⟨h, d⟩ := Bool.and_eq_true_iff.mp h
  obtain ⟨h, c⟩ := Bool.and_eq_true_iff.mp h
  obtain ⟨a, b⟩ := Bool.and_eq_true_iff.mp h
  refine ⟨rfl, a, ?_, c, d, signed_of (of_decide_eq_true e) (of_decide_eq_true f), ?_, of_decide_eq_true i, of_decide_eq_true j,
    of_decide_eq_true k, of_decide_eq_true l, m⟩
  · intro h e
    rw [e] at b
    exact of_decide_eq_true b
  · intro x hx hb
    have hn := List.all_eq_true.mp g x hx
    obtain ⟨h1, h2⟩ := hb
    have e1 : (x.1 == beAt (recordIn r.path (wrapperBytes r body)) 3 1) = true := beq_iff_eq.mpr h1
    have e2 : (x.2.1 == beAt (recordIn r.path (wrapperBytes r body)) 8 8) = true := beq_iff_eq.mpr h2
    rw [e1, e2] at hn
    cases hn

theorem sole_of {s : State} {r : RecEnv} {kind op : Nat} {b : Bytes}
    (h : pathOk r.path = true ∧ r.recType = 0x0C01 ∧ r.bodyLen.toNat = 24 + b.length ∧ r.compEpoch = s.tabs.compEpoch ∧
      r.mapEpoch = s.tabs.mapEpoch ∧ r.compReserved = 0 ∧ b ≠ [])
    (hc : comesOk s r.path (recordIn r.path (wrapperBytes r (compositionBody r [itemOf kind op b]))) = true) :
    Claims.sole s r kind op b (recOf r (compositionBody r [itemOf kind op b])) := by
  obtain ⟨h1, h2, h3, h4, h5, h6, h7⟩ := h
  exact ⟨h1, h2, h3, h4, h5, h6, h7, comes_of hc⟩

theorem inForce_of {i : Instr} {s : State} {t : Nat} {r : RecEnv} {body : Bytes} (hb : Claims.brings i = some (t, r, body))
    (hw : i.wellFormed = true) (hc : comesOk s r.path (recordIn r.path (wrapperBytes r body)) = true) : Claims.inForce i s t (recOf r body) :=
  ⟨hw, r, body, hb, comes_of hc⟩

theorem eachLog_of {s : State} {q : Option LockCfg} {x : LockCfg} (h : q = some x) (hp : Claims.plainNear s (x.consumer + 8) 8)
    (hq : Claims.quiet s (x.consumer + 8) 8) :
    ∀ l, q = some l → Claims.plainNear s (l.consumer + 8) 8 ∧ Claims.quiet s (l.consumer + 8) 8 := by
  intro l e
  rw [h] at e
  cases e
  exact ⟨hp, hq⟩

theorem error_of {ε α : Type} [DecidableEq ε] {x : Except ε α} {y : ε}
    (h : (match x with | .ok _ => false | .error z => decide (z = y)) = true) : x = .error y := by
  cases x with
  | ok z => cases h
  | error e => simp only [decide_eq_true_eq] at h; rw [h]

/-! ## The hypotheses of every statement can be met

Each theorem gives, for every clause of its statement that has hypotheses, values that meet them all together. -/

theorem test_hypotheses_of_StepRunsTheFrontOrIdles :
    ∃ (s : State), s.pending = [] :=
  ⟨serving, by decide +kernel⟩

theorem test_hypotheses_of_EveryStepKeepsTheStateIntact :
    ∃ (s : State) (t : State), s.intact ∧ step s = .next t :=
  ⟨{ serving with pending := [.quiesceTimer 5] }, serving.at 5, intact_of _ (by decide +kernel), rfl⟩

theorem test_hypotheses_of_WellFormedCommandsNeverStop :
    ∃ (i : Instr), i.wellFormed = true :=
  ⟨.quiesceTimer 5, by decide +kernel⟩

theorem test_hypotheses_of_ResetsStartTheDeviceAgain :
    (∃ (s : State), s.hoop.phase ≠ .tripped) ∧
    (∃ (s : State), s.hoop.phase ≠ .off ∧ s.hoop.phase ≠ .tripped) ∧
    (∃ (s : State), s.hoop.phase ≠ .off ∧ s.hoop.phase ≠ .tripped) ∧
    (∃ (s : State), s.hoop.phase ≠ .off ∧ s.hoop.phase ≠ .tripped) ∧
    (∃ (s : State), s.hoop.spdm.length = 3 ∧ s.hoop.aer.length = 2 ∧ s.hoop.eventRings.length = 2) ∧
    (∃ (s : State) (cause : _), s.hoop.phase = .tripped ∧ s.hoop.tripWait = some cause ∧ coolBy s.hoop.temps 10 = true ∧ cause ≠ .deviceReset) ∧
    (∃ (s : State), coolBy s.hoop.temps 10 = false) ∧
    (∃ (s : State), s.hoop.phase = .tripped) ∧
    (∃ (s : State) (q : _) (fn : _) (slot : _), s.hoop.resetting = true ∧ s.hoop.phase = .recovery ∧ s.hoop.running = some (q, [.reset]) ∧ q.path =
      .mailbox fn slot) ∧
    (∃ (s : State), s.hoop.resetting = true ∧ s.hoop.phase = .sealed ∧ s.tabs.paired = false ∧ s.jrn.reqs = [] ∧ s.jrn.writers.all (Writer.covered ·
      false) = true) ∧
    (∃ (s : State), s.hoop.resetting = true ∧ s.hoop.phase = .sealed ∧ s.jrn.reqs ≠ []) :=
  ⟨⟨State.reset, by decide +kernel⟩,
   ⟨serving, by decide +kernel⟩,
   ⟨serving, by decide +kernel⟩,
   ⟨serving, by decide +kernel⟩,
   ⟨serving, by decide +kernel⟩,
   ⟨tripped, ResetCause.perst, by decide +kernel⟩,
   ⟨hoopWith (fun h => { h with temps := List.replicate 20 200 }), by decide +kernel⟩,
   ⟨tripped, by decide +kernel⟩,
   ⟨hoopWith (fun h => { h with phase := .recovery, resetting := true, running := some (qrec, [.reset]) }), qrec, 0, 0, by decide +kernel⟩,
   ⟨hoopWith (fun h => { h with resetting := true }), by decide +kernel⟩,
   ⟨{ hoopWith (fun h => { h with resetting := true }) with jrn := { reqs := [req0] } }, by decide +kernel⟩⟩

theorem test_hypotheses_of_StartsSealWaitOrRecover :
    (∃ (s : State) (c : StartCond), s.hoop.phase = .waitCard ∧ c.pufOk = false) ∧
    (∃ (s : State) (card : Card) (c : StartCond), s.hoop.phase = .waitCard ∧ c.pufOk = true ∧ directoryOk card = false) ∧
    (∃ (t : Nat) (s : State) (card : Card) (c : StartCond) (k : _) (rest : _) (l : _), l = (((s.at t).modHoop (fun h => { h with slot := k })).trainPcie
      card k).loadSlot card k ∧ s.hoop.phase = .waitCard ∧ c.pufOk = true ∧ directoryOk card = true ∧ slotsOf card.bytes = k :: rest) ∧
    (∃ (s : State) (l : _), s.hoop.phase = .waitVin ∧ s.hoop.loaded = some l ∧ l.cond.refClock = true ∧ l.cond.dieFault = false) ∧
    (∃ (s : State) (l : _) (p : _), p < 64 ∧ s.hoop.phase = .waitReference ∧ s.hoop.loaded = some l ∧ l.settings.osr.portEnable.testBit p = true ∧
      l.cond.vin12 = true ∧ l.cond.dieFault = false) ∧
    (∃ (s : State) (l : _), s.hoop.phase = .waitReference ∧ s.hoop.loaded = some l ∧ l.rest = []) :=
  ⟨⟨hoopWith (fun h => { h with phase := .waitCard }), { goodStart with pufOk := false }, by decide +kernel⟩,
   ⟨hoopWith (fun h => { h with phase := .waitCard }), noCard, goodStart, by decide +kernel⟩,
   ⟨1001, hoopWith (fun h => { h with phase := .waitCard }), cardOf, goodStart, 0, [], ((((hoopWith (fun h => { h with phase := .waitCard })).at
     1001).modHoop (fun h => { h with slot := 0 })).trainPcie cardOf 0).loadSlot cardOf 0, rfl, by decide +kernel⟩,
   ⟨hoopWith (fun h => { h with phase := .waitVin, loaded := some image0 }), image0, by decide +kernel⟩,
   ⟨hoopWith (fun h => { h with phase := .waitReference, loaded := some image0 }), image0, 63, by decide +kernel⟩,
   ⟨hoopWith (fun h => { h with phase := .waitReference, loaded := some image0 }), image0, by decide +kernel⟩⟩

theorem test_hypotheses_of_IslandsResetAndRecoverInTurn :
    (∃ (s : State) (i : _), islandOk i = true ∧ s.live = true ∧ s.hoop.resets ≠ [] ∧ s.hoop.resets.any (fun r => r.island == i) = false) ∧
    (∃ (s : State) (i : _), islandOk i = true ∧ s.hoop.resets.any (fun r => r.island == i) = true) ∧
    (∃ (s : State) (i : _), islandOk i = true ∧ s.live = true ∧ s.hoop.resets = [] ∧ islandArbiters i ≠ [] ∧ s.arbs.length = 67) ∧
    (∃ (s : State) (c : _), s.intact ∧ c < 32 ∧ s.live = true ∧ s.hoop.resets = []) ∧
    (∃ (s : State) (d : _), d < 4 ∧ s.live = true ∧ s.hoop.resets = [] ∧ s.warp.arrived = []) ∧
    (∃ (s : State) (i : _) (since : _) (rest : _), islandOk i = true ∧ s.hoop.resets = ⟨i, since, true⟩ :: rest ∧ (∀ r ∈ rest, r.island ≠ i) ∧
      s.hlt.resync = 0 ∧ s.arbs.length = 67) ∧
    (∃ (s : State) (i : _), islandOk i = true ∧ s.islandDown i = false) ∧
    (∃ (t : Nat) (s : State) (d : _) (since : _), d < 4 ∧ s.hoop.resets = [⟨.osier d, since, true⟩] ∧ since + 3540 * ticksPerUs ≤ max s.now t ∧
      s.partState (100 + d) ≠ .expelled) ∧
    (∃ (t : Nat) (s : State) (i : _), islandOk i = true ∧ (∀ r ∈ s.hoop.resets, r.island = i → r.running = true → max s.now t < r.since + resetLimit i)) ∧
    (∃ (s : State) (x : _) (again : Bool) (n : _), crossingOk x = true ∧ s.live = true ∧ n = (if again then (look x s.hlt.replays).getD 0 else 0) + 1 ∧ n
      < 8) ∧
    (∃ (s : State) (x : _), crossingOk x = true ∧ s.live = true ∧ s.hoop.resets ≠ [] ∧ s.hoop.resets.any (fun r => r.island == crossingIsland x) = false ∧
      7 ≤ (look x s.hlt.replays).getD 0) ∧
    (∃ (s : State) (d : _) (p : _), diePart d = some p ∧ s.hoop.phase = .sealed ∧ s.partState p = .expelled) ∧
    (∃ (s : State) (k : _), k < 4 ∧ s.hoop.phase = .sealed ∧ s.partState (100 + k) ≠ .expelled) :=
  ⟨⟨hoopWith (fun h => { h with resets := [⟨.warpData, 0, true⟩] }), Island.osier 3, by decide +kernel⟩,
   ⟨hoopWith (fun h => { h with resets := [⟨.warpData, 0, true⟩] }), Island.warpData, by decide +kernel⟩,
   ⟨serving, Island.warpSched, by decide +kernel⟩,
   ⟨serving, 31, intact_of _ (by decide +kernel), by decide +kernel⟩,
   ⟨serving, 3, by decide +kernel⟩,
   ⟨hoopWith (fun h => { h with resets := [⟨.warpData, 0, true⟩] }), Island.warpData, 0, ([] : List IslandReset), by decide +kernel⟩,
   ⟨serving, Island.cluster 31, by decide +kernel⟩,
   ⟨10000000, hoopWith (fun h => { h with resets := [⟨.osier 3, 0, true⟩] }), 3, 0, by decide +kernel⟩,
   ⟨5, hoopWith (fun h => { h with resets := [⟨.warpData, 0, true⟩] }), Island.warpData, by decide +kernel⟩,
   ⟨serving.modHlt (fun h => { h with replays := [(.hoopWarp, 6)] }), Crossing.hoopWarp, true, 7, by decide +kernel⟩,
   ⟨(hoopWith (fun h => { h with resets := [⟨.warpData, 0, true⟩] })).modHlt (fun h => { h with replays := [(.osierWarp 3, 7)] }), Crossing.osierWarp 3,
     by decide +kernel⟩,
   ⟨serving.modHlt (fun h => { h with states := [(103, .expelled)] }), Die.osier 3, 103, by decide +kernel⟩,
   ⟨serving, 3, by decide +kernel⟩⟩

theorem test_hypotheses_of_ArbitersDrainAndDraw :
    (∃ (s : State) (arb : _), arb < 67 ∧ (s.arb arb).frozen = true ∧ s.hoop.resets = []) ∧
    (∃ (s : State) (arb : _), arb < 67 ∧ (s.arb arb).frozen = false) ∧
    (∃ (s : State) (arb : _) (r : _) (rest : _) (b : _), arb < 67 ∧ (s.arb arb).frozen = true ∧ s.hoop.resets = r :: rest ∧ b ∈ islandArbiters r.island ∧
      b ≠ arb ∧ (s.arb b).draining = true) ∧
    (∃ (s : State) (i : _) (since : _) (rest : _), s.hoop.resets = ⟨i, since, false⟩ :: rest ∧ (i = .warpData ∨ i = .warpSched) ∧ (∀ r ∈ rest, r.island ≠
      i) ∧ s.arbs.length = 67 ∧ (s.arb 64).frozen = true ∧ s.warp.voq = []) ∧
    (∃ (t : Nat) (s : State) (arb : _), arb < 67 ∧ s.arbs.length = 67 ∧ (s.arb arb).frozen = true ∧ (s.arb arb).draining = true ∧ (s.arb arb).frozenAt + 2
      * ticksPerUs ≤ max s.now t ∧ s.hoop.resets = []) ∧
    (∃ (t : Nat) (s : State) (arb : _), arb < 67 ∧ max s.now t < (s.arb arb).frozenAt + 2 * ticksPerUs) ∧
    (∃ (t : Nat) (s : State) (arb : _) (arrivals : List ArbItem) (w : _) (forced : _), arb < 67 ∧ s.arbs.length = 67 ∧ (s.arb arb).frozen = false ∧ ((s.at
      t).modArb arb (fun a => { a with queue := a.queue ++ arrivals.filter (fun x => x.requester < requesters arb) })).winner arb (((s.at t).modArb arb
      (fun a => { a with queue := a.queue ++ arrivals.filter (fun x => x.requester < requesters arb) })).presented arb) = (some w, forced)) ∧
    (∃ (s : State) (arb : _), arb < 67 ∧ s.arbs.length = 67 ∧ (s.arb arb).frozen = true) :=
  ⟨⟨serving.modArb 66 (fun a => { a with frozen := true, draining := true, granted := [⟨0, 0, 1, 0x10, 0⟩] }), 66, by decide +kernel⟩,
   ⟨serving, 66, by decide +kernel⟩,
   ⟨((hoopWith (fun h => { h with resets := [⟨.rim 1, 0, false⟩] })).modArb 66 (fun a => { a with frozen := true })).modArb 63 (fun a =>
     { a with frozen := true, draining := true }), 66, (⟨.rim 1, 0, false⟩ : IslandReset), ([] : List IslandReset), 63, by decide +kernel⟩,
   ⟨(hoopWith (fun h => { h with resets := [⟨.warpData, 0, false⟩] })).modArb 64 (fun a => { a with frozen := true }), Island.warpData, 0, ([] : List
     IslandReset), by decide +kernel⟩,
   ⟨100000, serving.modArb 66 (fun a => { a with frozen := true, draining := true, granted := [⟨0, 0, 1, 0x10, 0⟩] }), 66, by decide +kernel⟩,
   ⟨5, serving.modArb 66 (fun a => { a with frozen := true, draining := true, granted := [⟨0, 0, 1, 0x10, 0⟩] }), 66, by decide +kernel⟩,
   ⟨5, serving, 66, [(⟨0, 0, 1, 0x10, 0⟩ : ArbItem)], (⟨0, 0, 1, 0x10, 0⟩ : ArbItem), false, by decide +kernel⟩,
   ⟨serving.modArb 66 (fun a => { a with frozen := true, draining := true, granted := [⟨0, 0, 1, 0x10, 0⟩] }), 66, by decide +kernel⟩⟩

theorem test_hypotheses_of_PowerAndHeatHoldTheDevice :
    (∃ (s : State), s.hoop.phase = .sealed) ∧
    (∃ (s : State) (mw : _), s.hoop.phase = .sealed ∧ s.hoop.hold = 0 ∧ s.cfg.hoop.powerCap * 1000 < mw) ∧
    (∃ (s : State) (temps : _), s.hoop.phase = .sealed ∧ (∀ k < 20, nth temps k < (dieLimits k).2)) ∧
    (∃ (s : State), s.hoop.phase ≠ .sealed) ∧
    (∃ (s : State) (temps : _) (k : _), k < 20 ∧ (dieLimits k).2 ≤ nth temps k ∧ s.hoop.phase ≠ .off ∧ s.hoop.phase ≠ .tripped) ∧
    (∃ (t : Nat) (s : State), s.hoop.phase = .sealed ∧ s.hoop.power = .active ∧ s.eng.jobs = [] ∧ s.eng.colls = [] ∧ s.hoop.resetting = false ∧
      s.hoop.standbyDrain = false ∧ s.eng.lastRun + s.cfg.hoop.quiesceMs * ticksPerMs ≤ max s.now t) ∧
    (∃ (t : Nat) (s : State), (s.eng.jobs ≠ [] ∨ s.eng.colls ≠ [] ∨ max s.now t < s.eng.lastRun + s.cfg.hoop.quiesceMs * ticksPerMs)) ∧
    (∃ (c : _), c < 32) ∧
    (∃ (s : State), s.hoop.phase = .sealed) :=
  ⟨⟨serving, by decide +kernel⟩,
   ⟨serving, 600001, by decide +kernel⟩,
   ⟨serving, List.replicate 20 90, by decide +kernel⟩,
   ⟨State.reset, by decide +kernel⟩,
   ⟨serving, List.replicate 20 200, 19, by decide +kernel⟩,
   ⟨1000000000, serving, by decide +kernel⟩,
   ⟨5, serving, by decide +kernel⟩,
   ⟨31, by decide +kernel⟩,
   ⟨serving, by decide +kernel⟩⟩

theorem test_hypotheses_of_PresentationOpensOneSequence :
    ∃ (s : State) (u : State) (d : Delivered) (w : Want) (id : Nat), s.present d w = .go u id :=
  ⟨manned,
    (match manned.present ⟨hdr 0x01 2 0x10 0x1000 4, [], 0, 0, 0, 128, 0, 900⟩ (manned.memWant 0x1000 4 .rd false) with | .go u _ => u | _ => manned),
    (⟨hdr 0x01 2 0x10 0x1000 4, [], 0, 0, 0, 128, 0, 900⟩ : Delivered), (manned.memWant 0x1000 4 .rd false), 0, go_of (s := manned) (by decide +kernel)⟩

theorem test_hypotheses_of_LoadsReturnTheBytesOfTheirRange :
    (∃ (t : Nat) (a : Arrival) (f : Frame) (s : State) (u : State) (r : _), s.intact ∧ Claims.opens t a f s (fun v d => v.memWant d.hdr.offset.toNat
      (v.storedLen d.hdr) .rd false) (fun v d => v.rangeHeld d.hdr.offset.toNat (v.storedLen d.hdr)) u r ∧ Claims.plainNear u r.hdr.offset.toNat
      r.hdr.length.toNat ∧ f.hdr.opcode = 0x01 ∧ 0 < r.hdr.length.toNat ∧ r.hdr.flagC = false) ∧
    (∃ (t : Nat) (a : Arrival) (f : Frame) (s : State) (u : State) (r : _), s.intact ∧ Claims.opens t a f s (fun v d => v.memWant d.hdr.offset.toNat
      (v.storedLen d.hdr) .rd false) (fun v d => v.rangeHeld d.hdr.offset.toNat (v.storedLen d.hdr)) u r ∧ f.hdr.opcode = 0x01 ∧ r.hdr.length.toNat = 0) :=
  ⟨⟨1001, port0, fLoad 4, arrived 128 (fLoad 4) (manned), (opened (1001) (port0) (fLoad 4) (arrived 128 (fLoad 4) (manned)) (fun v d => v.memWant
     d.hdr.offset.toNat (v.storedLen d.hdr) .rd false) (fun v d => v.rangeHeld d.hdr.offset.toNat (v.storedLen d.hdr))).1, (opened (1001) (port0) (fLoad
     4) (arrived 128 (fLoad 4) (manned)) (fun v d => v.memWant d.hdr.offset.toNat (v.storedLen d.hdr) .rd false) (fun v d => v.rangeHeld
     d.hdr.offset.toNat (v.storedLen d.hdr))).2, intact_of _ (by decide +kernel), opens_of (by decide +kernel),
     plainNear_of (by decide +kernel) (by decide +kernel), by decide +kernel⟩,
   ⟨1001, port0, fLoad 0, arrived 128 (fLoad 0) (manned), (opened (1001) (port0) (fLoad 0) (arrived 128 (fLoad 0) (manned)) (fun v d => v.memWant
     d.hdr.offset.toNat (v.storedLen d.hdr) .rd false) (fun v d => v.rangeHeld d.hdr.offset.toNat (v.storedLen d.hdr))).1, (opened (1001) (port0) (fLoad
     0) (arrived 128 (fLoad 0) (manned)) (fun v d => v.memWant d.hdr.offset.toNat (v.storedLen d.hdr) .rd false) (fun v d => v.rangeHeld
     d.hdr.offset.toNat (v.storedLen d.hdr))).2, intact_of _ (by decide +kernel), opens_of (by decide +kernel), by decide +kernel⟩⟩

theorem test_hypotheses_of_SumacLoadsVerifyAndDecode :
    (∃ (t : Nat) (a : Arrival) (f : Frame) (s : State) (u : State) (r : _) (g : _) (o : _) (n : _) (fm : _) (es : _), s.intact ∧ Claims.opens t a f s (fun
      v d => v.memWant d.hdr.offset.toNat (v.storedLen d.hdr) .rd false) (fun v d => v.rangeHeld d.hdr.offset.toNat (v.storedLen d.hdr)) u r ∧
      Claims.ringFree u o n ∧ es = decodeBlocks fm (blockSize g.profile) (u.memRead o n) ∧ f.hdr.opcode = 0x01 ∧ o = r.hdr.offset.toNat ∧ n = u.storedLen
      r.hdr ∧ 0 < r.hdr.length.toNat ∧ u.sumacRuleOk r.hdr = true ∧ u.sumacAt o = some g ∧ inFar o r.hdr.length.toNat = false ∧ (∀ l ∈ linesOf o n,
      u.holders l = []) ∧ u.viewOf o n = none ∧ u.viewStraddled o r.hdr.length.toNat = false ∧ verifyBlocks (blockSize g.profile) (u.memRead o n) = none ∧
      fmOfCode g.fmt = some fm) ∧
    (∃ (t : Nat) (a : Arrival) (f : Frame) (s : State) (u : State) (r : _) (g : _) (o : _) (n : _) (st : _), s.intact ∧ Claims.opens t a f s (fun v d =>
      v.memWant d.hdr.offset.toNat (v.storedLen d.hdr) .rd false) (fun v d => v.rangeHeld d.hdr.offset.toNat (v.storedLen d.hdr)) u r ∧ Claims.ringFree u
      o n ∧ f.hdr.opcode = 0x01 ∧ o = r.hdr.offset.toNat ∧ n = u.storedLen r.hdr ∧ 0 < r.hdr.length.toNat ∧ u.sumacRuleOk r.hdr = true ∧ u.sumacAt o =
      some g ∧ inFar o r.hdr.length.toNat = false ∧ (∀ l ∈ linesOf o n, u.holders l = []) ∧ u.viewOf o n = none ∧ u.viewStraddled o r.hdr.length.toNat =
      false ∧ verifyBlocks (blockSize g.profile) (u.memRead o n) = some st) :=
  ⟨⟨1001, port0, fSumac, arrived 128 (fSumac) (sumacHeld block1), (opened (1001) (port0) (fSumac) (arrived 128 (fSumac) (sumacHeld block1)) (fun v d =>
     v.memWant d.hdr.offset.toNat (v.storedLen d.hdr) .rd false) (fun v d => v.rangeHeld d.hdr.offset.toNat (v.storedLen d.hdr))).1, (opened (1001)
     (port0) (fSumac) (arrived 128 (fSumac) (sumacHeld block1)) (fun v d => v.memWant d.hdr.offset.toNat (v.storedLen d.hdr) .rd false) (fun v d =>
     v.rangeHeld d.hdr.offset.toNat (v.storedLen d.hdr))).2, sumac1, 0x1000, 96, Fm.fp32, decodeBlocks (Fm.fp32) (blockSize (sumac1).profile) (((opened
     (1001) (port0) (fSumac) (arrived 128 (fSumac) (sumacHeld block1)) (fun v d => v.memWant d.hdr.offset.toNat (v.storedLen d.hdr) .rd false) (fun v d =>
     v.rangeHeld d.hdr.offset.toNat (v.storedLen d.hdr))).1).memRead (0x1000) (96)), intact_of _ (by decide +kernel), opens_of (by decide +kernel),
     ringFree_of (by decide +kernel), rfl, by decide +kernel⟩,
   ⟨1001, port0, fSumac, arrived 128 (fSumac) (sumacHeld []), (opened (1001) (port0) (fSumac) (arrived 128 (fSumac) (sumacHeld [])) (fun v d => v.memWant
     d.hdr.offset.toNat (v.storedLen d.hdr) .rd false) (fun v d => v.rangeHeld d.hdr.offset.toNat (v.storedLen d.hdr))).1, (opened (1001) (port0) (fSumac)
     (arrived 128 (fSumac) (sumacHeld [])) (fun v d => v.memWant d.hdr.offset.toNat (v.storedLen d.hdr) .rd false) (fun v d => v.rangeHeld
     d.hdr.offset.toNat (v.storedLen d.hdr))).2, sumac1, 0x1000, 96, Status.checkFail, intact_of _ (by decide +kernel), opens_of (by decide +kernel),
     ringFree_of (by decide +kernel), by decide +kernel⟩⟩

theorem test_hypotheses_of_StoresWriteTheirRangeAlone :
    (∃ (t : Nat) (a : Arrival) (f : Frame) (s : State) (u : State) (r : _) (o : _) (n : _), s.intact ∧ Claims.opens t a f s (fun v d => v.memWant
      d.hdr.offset.toNat (v.storedLen d.hdr) .wr (v.isCopy d.hdr)) (fun v d => v.resyncFrame d.hdr || v.rangeHeld d.hdr.offset.toNat (v.storedLen d.hdr))
      u r ∧ Claims.plainNear u o n ∧ Claims.quiet u o n ∧ f.hdr.opcode = 0x02 ∧ o = r.hdr.offset.toNat ∧ n = r.hdr.length.toNat ∧ 0 < n ∧ r.payload.length
      = n ∧ r.hdr.flagC = false ∧ ¬ (0x68 ≤ r.hdr.stream.toNat ∧ r.hdr.stream.toNat < 0x70) ∧ u.writeBarred o n = false) ∧
    (∃ (t : Nat) (a : Arrival) (f : Frame) (s : State) (u : State) (r : _), s.intact ∧ Claims.opens t a f s (fun v d => v.memWant d.hdr.offset.toNat
      (v.storedLen d.hdr) .wr (v.isCopy d.hdr)) (fun v d => v.resyncFrame d.hdr || v.rangeHeld d.hdr.offset.toNat (v.storedLen d.hdr)) u r ∧ f.hdr.opcode
      = 0x02 ∧ r.hdr.length.toNat = 0) ∧
    (∃ (t : Nat) (a : Arrival) (f : Frame) (s : State) (u : State) (r : _) (o : _) (n : _), s.intact ∧ Claims.opens t a f s (fun v d => v.memWant
      d.hdr.offset.toNat (v.storedLen d.hdr) .wr (v.isCopy d.hdr)) (fun v d => v.resyncFrame d.hdr || v.rangeHeld d.hdr.offset.toNat (v.storedLen d.hdr))
      u r ∧ f.hdr.opcode = 0x02 ∧ o = r.hdr.offset.toNat ∧ n = r.hdr.length.toNat ∧ 0 < n ∧ (∀ x ∈ u.tabs.schedules, overlaps o n x.doorbell 8 = false) ∧
      u.writeBarred o (u.storedLen r.hdr) = true) :=
  ⟨⟨1001, port0, fStore 4 [1, 2, 3, 4], arrived 128 (fStore 4 [1, 2, 3, 4]) (manned), (opened (1001) (port0) (fStore 4 [1, 2, 3, 4]) (arrived 128 (fStore
     4 [1, 2, 3, 4]) (manned)) (fun v d => v.memWant d.hdr.offset.toNat (v.storedLen d.hdr) .wr (v.isCopy d.hdr)) (fun v d => v.resyncFrame d.hdr ||
     v.rangeHeld d.hdr.offset.toNat (v.storedLen d.hdr))).1, (opened (1001) (port0) (fStore 4 [1, 2, 3, 4]) (arrived 128 (fStore 4 [1, 2, 3, 4]) (manned))
     (fun v d => v.memWant d.hdr.offset.toNat (v.storedLen d.hdr) .wr (v.isCopy d.hdr)) (fun v d => v.resyncFrame d.hdr || v.rangeHeld d.hdr.offset.toNat
     (v.storedLen d.hdr))).2, 0x1000, 4, intact_of _ (by decide +kernel), opens_of (by decide +kernel),
     plainNear_of (by decide +kernel) (by decide +kernel), by unfold Claims.quiet; decide +kernel, by decide +kernel⟩,
   ⟨1001, port0, fStore 0 [], arrived 128 (fStore 0 []) (manned), (opened (1001) (port0) (fStore 0 []) (arrived 128 (fStore 0 []) (manned)) (fun v d =>
     v.memWant d.hdr.offset.toNat (v.storedLen d.hdr) .wr (v.isCopy d.hdr)) (fun v d => v.resyncFrame d.hdr || v.rangeHeld d.hdr.offset.toNat (v.storedLen
     d.hdr))).1, (opened (1001) (port0) (fStore 0 []) (arrived 128 (fStore 0 []) (manned)) (fun v d => v.memWant d.hdr.offset.toNat (v.storedLen d.hdr)
     .wr (v.isCopy d.hdr)) (fun v d => v.resyncFrame d.hdr || v.rangeHeld d.hdr.offset.toNat (v.storedLen d.hdr))).2, intact_of _ (by decide +kernel),
     opens_of (by decide +kernel), by decide +kernel⟩,
   ⟨1001, port0, fStore 4 [1, 2, 3, 4], arrived 128 (fStore 4 [1, 2, 3, 4]) (manned.modTabs (fun x =>
     { x with published := [{ pub7 with area := 0x1000 }] })), (opened (1001) (port0) (fStore 4 [1, 2, 3, 4]) (arrived 128 (fStore 4 [1, 2, 3, 4])
     (manned.modTabs (fun x => { x with published := [{ pub7 with area := 0x1000 }] }))) (fun v d => v.memWant d.hdr.offset.toNat (v.storedLen d.hdr) .wr
     (v.isCopy d.hdr)) (fun v d => v.resyncFrame d.hdr || v.rangeHeld d.hdr.offset.toNat (v.storedLen d.hdr))).1, (opened (1001) (port0) (fStore 4 [1, 2,
     3, 4]) (arrived 128 (fStore 4 [1, 2, 3, 4]) (manned.modTabs (fun x => { x with published := [{ pub7 with area := 0x1000 }] }))) (fun v d => v.memWant
     d.hdr.offset.toNat (v.storedLen d.hdr) .wr (v.isCopy d.hdr)) (fun v d => v.resyncFrame d.hdr || v.rangeHeld d.hdr.offset.toNat (v.storedLen
     d.hdr))).2, 0x1000, 4, intact_of _ (by decide +kernel), opens_of (by decide +kernel), by decide +kernel⟩⟩

theorem test_hypotheses_of_AtomicsExchangeFourBytes :
    ∃ (t : Nat) (a : Arrival) (f : Frame) (s : State) (u : State) (r : _) (o : _) (i : _) (p : _) (new : _) (exc : _), Claims.atomicOf t a f = some i ∧
      s.intact ∧ Claims.opens t a f s (fun v d => v.memWant d.hdr.offset.toNat 4 .at_ false) (fun v d => v.rangeHeld d.hdr.offset.toNat 4) u r ∧
      Claims.plainNear u o 4 ∧ Claims.quiet u o 4 ∧ o = r.hdr.offset.toNat ∧ (r.hdr.opcode = 0x11 → u.locked r.part = false) ∧ u.writeBarred o 4 = false ∧
      p = leNat (u.memRead o 4) ∧ (new, exc) = atomicNew r.hdr.opcode.toNat p r.payload :=
  ⟨1001, port0, fAtomic 0x10 [1, 0, 0, 0], arrived 128 (fAtomic 0x10 [1, 0, 0, 0]) (manned), (opened (1001) (port0) (fAtomic 0x10 [1, 0, 0, 0]) (arrived
    128 (fAtomic 0x10 [1, 0, 0, 0]) (manned)) (fun v d => v.memWant d.hdr.offset.toNat 4 .at_ false) (fun v d => v.rangeHeld d.hdr.offset.toNat 4)).1,
    (opened (1001) (port0) (fAtomic 0x10 [1, 0, 0, 0]) (arrived 128 (fAtomic 0x10 [1, 0, 0, 0]) (manned)) (fun v d => v.memWant d.hdr.offset.toNat 4 .at_
    false) (fun v d => v.rangeHeld d.hdr.offset.toNat 4)).2, 0x1000, (Instr.atomicFaddInteger 1001 port0 (fAtomic 0x10 [1, 0, 0, 0]) .none), 0, (atomicNew
    0x10 0 [1, 0, 0, 0]).1, (atomicNew 0x10 0 [1, 0, 0, 0]).2, by unfold Claims.atomicOf; decide +kernel, intact_of _ (by decide +kernel),
    opens_of (by decide +kernel), plainNear_of (by decide +kernel) (by decide +kernel), by unfold Claims.quiet; decide +kernel, by decide +kernel⟩

theorem test_hypotheses_of_FlushesWriteHeldLinesBack :
    (∃ (t : Nat) (a : Arrival) (f : Frame) (s : State) (u : State) (r : _), s.intact ∧ Claims.opens t a f s (fun v d => v.memWant d.hdr.offset.toNat
      (beNat d.payload) .fl false) (fun v d => v.mem.holds.any (fun h => overlaps h.1 128 d.hdr.offset.toNat (beNat d.payload)) || v.rangeHeld
      d.hdr.offset.toNat 0) u r ∧ f.hdr.opcode = 0x03 ∧ r.hdr.offset.toNat + beNat r.payload ≤ 2 ^ 48 ∧ u.heldLines r.hdr.offset.toNat (beNat r.payload) =
      []) ∧
    (∃ (t : Nat) (a : Arrival) (f : Frame) (s : State) (u : State) (r : _) (line : _) (c : _) (l : _), s.intact ∧ Claims.opens t a f s (fun v d =>
      v.memWant d.hdr.offset.toNat (beNat d.payload) .fl false) (fun v d => v.mem.holds.any (fun h => overlaps h.1 128 d.hdr.offset.toNat (beNat
      d.payload)) || v.rangeHeld d.hdr.offset.toNat 0) u r ∧ f.hdr.opcode = 0x03 ∧ r.hdr.offset.toNat + beNat r.payload ≤ 2 ^ 48 ∧ u.heldLines
      r.hdr.offset.toNat (beNat r.payload) = [line] ∧ u.holders line = [(c, .exclusive)] ∧ u.l2Line c line = some l ∧ l.state = .m ∧ l.data.length = 128 ∧
      u.copiesAt line = none) :=
  ⟨⟨1001, port0, fFlush [0, 0, 0, 0, 0, 0, 0, 128], arrived 128 (fFlush [0, 0, 0, 0, 0, 0, 0, 128]) (manned), (opened (1001) (port0) (fFlush [0, 0, 0, 0,
     0, 0, 0, 128]) (arrived 128 (fFlush [0, 0, 0, 0, 0, 0, 0, 128]) (manned)) (fun v d => v.memWant d.hdr.offset.toNat (beNat d.payload) .fl false) (fun
     v d => v.mem.holds.any (fun h => overlaps h.1 128 d.hdr.offset.toNat (beNat d.payload)) || v.rangeHeld d.hdr.offset.toNat 0)).1, (opened (1001)
     (port0) (fFlush [0, 0, 0, 0, 0, 0, 0, 128]) (arrived 128 (fFlush [0, 0, 0, 0, 0, 0, 0, 128]) (manned)) (fun v d => v.memWant d.hdr.offset.toNat
     (beNat d.payload) .fl false) (fun v d => v.mem.holds.any (fun h => overlaps h.1 128 d.hdr.offset.toNat (beNat d.payload)) || v.rangeHeld
     d.hdr.offset.toNat 0)).2, intact_of _ (by decide +kernel), opens_of (by decide +kernel), by decide +kernel⟩,
   ⟨1001, port0, fFlush [0, 0, 0, 0, 0, 0, 0, 128], arrived 128 (fFlush [0, 0, 0, 0, 0, 0, 0, 128]) (manned.modMem (fun m =>
     { m with l2 := [dirtyLine], filter := [(0x1000, 31, .exclusive)] })), (opened (1001) (port0) (fFlush [0, 0, 0, 0, 0, 0, 0, 128]) (arrived 128 (fFlush
     [0, 0, 0, 0, 0, 0, 0, 128]) (manned.modMem (fun m => { m with l2 := [dirtyLine], filter := [(0x1000, 31, .exclusive)] }))) (fun v d => v.memWant
     d.hdr.offset.toNat (beNat d.payload) .fl false) (fun v d => v.mem.holds.any (fun h => overlaps h.1 128 d.hdr.offset.toNat (beNat d.payload)) ||
     v.rangeHeld d.hdr.offset.toNat 0)).1, (opened (1001) (port0) (fFlush [0, 0, 0, 0, 0, 0, 0, 128]) (arrived 128 (fFlush [0, 0, 0, 0, 0, 0, 0, 128])
     (manned.modMem (fun m => { m with l2 := [dirtyLine], filter := [(0x1000, 31, .exclusive)] }))) (fun v d => v.memWant d.hdr.offset.toNat (beNat
     d.payload) .fl false) (fun v d => v.mem.holds.any (fun h => overlaps h.1 128 d.hdr.offset.toNat (beNat d.payload)) || v.rangeHeld d.hdr.offset.toNat
     0)).2, 0x1000, 31, dirtyLine, intact_of _ (by decide +kernel), opens_of (by decide +kernel), by decide +kernel⟩⟩

theorem test_hypotheses_of_PublishMovesItsVersionAfterTheFlush :
    (∃ (t : Nat) (a : Arrival) (f : Frame) (s : State) (u : State) (r : _) (p : _), s.intact ∧ Claims.opens t a f s (fun v d => v.memWant
      d.hdr.offset.toNat (beAt d.payload 8 8) .pb false) (fun v d => v.rangeHeld d.hdr.offset.toNat 0) u r ∧ f.hdr.opcode = 0x04 ∧ u.tabs.published = [p]
      ∧ p.view = r.hdr.offset.toNat ∧ p.length = beAt r.payload 8 8 ∧ 0 < p.length ∧ p.pending = none ∧ beAt r.payload 0 8 = p.current + 1 ∧ u.locked
      r.part = false ∧ u.copiesAt p.area = none) ∧
    (∃ (t : Nat) (a : Arrival) (f : Frame) (s : State) (u : State) (r : _) (p : _), s.intact ∧ Claims.opens t a f s (fun v d => v.memWant
      d.hdr.offset.toNat (beAt d.payload 8 8) .pb false) (fun v d => v.rangeHeld d.hdr.offset.toNat 0) u r ∧ f.hdr.opcode = 0x04 ∧ u.tabs.published = [p]
      ∧ p.view = r.hdr.offset.toNat ∧ p.length = beAt r.payload 8 8 ∧ 0 < p.length ∧ (p.pending.isSome = true ∨ beAt r.payload 0 8 ≠ p.current + 1)) ∧
    (∃ (s : State) (p : _) (r : _) (rid : BitVec 32), s.intact ∧ s.tabs.published = [p] ∧ p.id = rid.toNat ∧ p.pending = some r.id ∧ p.flushed = false ∧
      s.req r.id = some r ∧ r.waits = 0 ∧ r.dup = none ∧ r.leaf = false ∧ r.index ≠ none ∧ s.heldLines (p.area + (p.current + 1) % p.buffers * p.length)
      p.length = [] ∧ (∀ l ∈ linesOf p.word 8, s.holders l = [])) ∧
    (∃ (s : State) (p : _) (r : _) (rid : BitVec 32) (line : _) (o : _), s.intact ∧ Claims.quiet s o r.payload.length ∧ s.tabs.published.find? (fun q =>
      q.id = rid.toNat) = some p ∧ (s.jrn.reqs.filter (fun r => r.stage == .staging (line / 128 * 128) && overlaps r.hdr.offset.toNat (max 1
      r.hdr.length.toNat) p.area (p.buffers * p.length))).map (·.id) = [r.id] ∧ s.req r.id = some r ∧ r.stage = .staging (line / 128 * 128) ∧ isAtomic
      r.hdr.opcode.toNat = false ∧ r.dup = none ∧ r.index ≠ none ∧ r.pendingWrite = [(o, r.payload)] ∧ s.stagingHeld o r.payload.length = false ∧ (∀ l ∈
      linesOf o r.payload.length, s.holders l = []) ∧ ¬ (0x68 ≤ r.hdr.stream.toNat ∧ r.hdr.stream.toNat < 0x70)) :=
  ⟨⟨1001, port0, fPublish 1, arrived 128 (fPublish 1) (publishing pub7), (opened (1001) (port0) (fPublish 1) (arrived 128 (fPublish 1) (publishing pub7))
     (fun v d => v.memWant d.hdr.offset.toNat (beAt d.payload 8 8) .pb false) (fun v d => v.rangeHeld d.hdr.offset.toNat 0)).1, (opened (1001) (port0)
     (fPublish 1) (arrived 128 (fPublish 1) (publishing pub7)) (fun v d => v.memWant d.hdr.offset.toNat (beAt d.payload 8 8) .pb false) (fun v d =>
     v.rangeHeld d.hdr.offset.toNat 0)).2, pub7, intact_of _ (by decide +kernel), opens_of (by decide +kernel), by decide +kernel⟩,
   ⟨1001, port0, fPublish 2, arrived 128 (fPublish 2) (publishing pub7), (opened (1001) (port0) (fPublish 2) (arrived 128 (fPublish 2) (publishing pub7))
     (fun v d => v.memWant d.hdr.offset.toNat (beAt d.payload 8 8) .pb false) (fun v d => v.rangeHeld d.hdr.offset.toNat 0)).1, (opened (1001) (port0)
     (fPublish 2) (arrived 128 (fPublish 2) (publishing pub7)) (fun v d => v.memWant d.hdr.offset.toNat (beAt d.payload 8 8) .pb false) (fun v d =>
     v.rangeHeld d.hdr.offset.toNat 0)).2, pub7, intact_of _ (by decide +kernel), opens_of (by decide +kernel), by decide +kernel⟩,
   ⟨openWith [{ req0 with applied := false, stage := .publish 7 }] (publishing
     { pub7 with pending := some 0, pendingVersion := 1, stagingOpen := false }),
     { pub7 with pending := some 0, pendingVersion := 1, stagingOpen := false }, { req0 with applied := false, stage := .publish 7 }, (7 : BitVec 32),
     intact_of _ (by decide +kernel), by decide +kernel⟩,
   ⟨openWith [{ req0 with hdr := hdr 0x02 2 0x10 0x9100 4, applied := false, stage := .staging 0x9100, pendingWrite := [(0x9100, [1, 2, 3, 4])] }]
     (publishing pub7), pub7,
     { req0 with hdr := hdr 0x02 2 0x10 0x9100 4, applied := false, stage := .staging 0x9100, pendingWrite := [(0x9100, [1, 2, 3, 4])] }, (7 : BitVec 32),
     0x9100, 0x9100, intact_of _ (by decide +kernel), by unfold Claims.quiet; decide +kernel, by decide +kernel⟩⟩

theorem test_hypotheses_of_CollectivesAreBoundAndFreed :
    (∃ (t : Nat) (a : Arrival) (f : Frame) (s : State) (u : State) (r : _) (x : _) (e : _) (cs : _) (k : _), s.intact ∧ Claims.opens t a f s
      Claims.offloadWant Claims.gatedNow u r ∧ u.accessCheck r.hdr.src r.hdr.cid (offOf x.1) x.2 .rd = .ok e ∧ Claims.plainNear u (offOf x.1) x.2 ∧
      offloadIs f 0xC0 = true ∧ (∀ j ∈ u.eng.jobs, j.req ≠ r.id) ∧ dCode r.payload = 0xC0 ∧ setupCheck u.tabs.node r.payload = none ∧ leAt r.payload 12 2
      ≠ 0 ∧ leAt r.payload 24 6 ≠ 0 ∧ (u.locked r.part = true → leAt r.payload 3 1 ≠ 3) ∧ u.resolve r.part r.hdr.src r.hdr.cid (leAt r.payload 14 1) (leAt
      r.payload 32 8) (8 * leAt r.payload 12 2) false = .ok [x] ∧ u.isNear x = true ∧ u.rangeHeld (offOf x.1) x.2 = false ∧ contributorList r.payload
      (u.memRead (offOf x.1) x.2) = some cs ∧ u.coll (setupColl r.payload cs r.part).key = none ∧ ((setupColl r.payload cs r.part).root = true →
      (setupColl r.payload cs r.part).staged = false ∧ u.sumacTouched (setupColl r.payload cs r.part).target (setupColl r.payload cs r.part).length =
      none) ∧ (∀ y ∈ u.eng.colls, y.key.root = (setupColl r.payload cs r.part).key.root → overlaps y.target y.length (setupColl r.payload cs
      r.part).target (setupColl r.payload cs r.part).length = false) ∧ (u.eng.colls.filter (fun y => y.part = r.part)).length < nth u.cfg.unit.collMax
      r.part ∧ leAt r.payload 5 1 ≤ (u.positionsOf r.part).length ∧ u.bindColl (setupColl r.payload cs r.part) = some k) ∧
    (∃ (t : Nat) (a : Arrival) (f : Frame) (s : State) (u : State) (r : _), s.intact ∧ Claims.opens t a f s Claims.offloadWant Claims.gatedNow u r ∧
      offloadIs f 0xC0 = true ∧ setupCheck u.tabs.node r.payload = none ∧ (leAt r.payload 12 2 = 0 ∨ leAt r.payload 24 6 = 0)) ∧
    (∃ (t : Nat) (a : Arrival) (f : Frame) (s : State) (u : State) (r : _) (st : _), s.intact ∧ Claims.opens t a f s Claims.offloadWant Claims.gatedNow u
      r ∧ offloadIs f 0xC0 = true ∧ setupCheck u.tabs.node r.payload = some st) ∧
    (∃ (t : Nat) (a : Arrival) (f : Frame) (s : State) (u : State) (r : _) (key : _), s.intact ∧ Claims.opens t a f s Claims.offloadWant Claims.gatedNow u
      r ∧ offloadIs f 0xC1 = true ∧ leAt r.payload 1 1 = 1 ∧ leAt r.payload 2 6 = 0 ∧ leAt r.payload 12 4 = 0 ∧ leAt r.payload 24 40 = 0 ∧ key =
      ⟨BitVec.ofNat 16 (nodeOf (leAt r.payload 16 8)), BitVec.ofNat 32 (leAt r.payload 8 4)⟩ ∧ u.coll key = none) ∧
    (∃ (t : Nat) (a : Arrival) (f : Frame) (s : State) (u : State) (r : _) (key : _) (k : _), s.intact ∧ Claims.opens t a f s Claims.offloadWant
      Claims.gatedNow u r ∧ offloadIs f 0xC1 = true ∧ leAt r.payload 1 1 = 1 ∧ leAt r.payload 2 6 = 0 ∧ leAt r.payload 12 4 = 0 ∧ leAt r.payload 24 40 = 0
      ∧ key = ⟨BitVec.ofNat 16 (nodeOf (leAt r.payload 16 8)), BitVec.ofNat 32 (leAt r.payload 8 4)⟩ ∧ u.coll key = some k ∧ k.part = r.part ∧ k.target =
      offOf (leAt r.payload 16 8) ∧ k.segs.any Segment.isOpen = false ∧ (∀ q ∈ u.jrn.reqs, q.stage ≠ .release key)) ∧
    (∃ (t : Nat) (a : Arrival) (f : Frame) (s : State) (u : State) (r : _) (key : _) (k : _), s.intact ∧ Claims.opens t a f s Claims.offloadWant
      Claims.gatedNow u r ∧ offloadIs f 0xC1 = true ∧ leAt r.payload 1 1 = 1 ∧ leAt r.payload 2 6 = 0 ∧ leAt r.payload 12 4 = 0 ∧ leAt r.payload 24 40 = 0
      ∧ key = ⟨BitVec.ofNat 16 (nodeOf (leAt r.payload 16 8)), BitVec.ofNat 32 (leAt r.payload 8 4)⟩ ∧ u.coll key = some k ∧ k.part = r.part ∧ k.target =
      offOf (leAt r.payload 16 8) ∧ k.segs.any Segment.isOpen = true) ∧
    (∃ (s : State) (key : _) (k : _) (r : _), s.intact ∧ s.coll key = some k ∧ k.releasing = true ∧ k.segs.any Segment.isOpen = false ∧ s.jrn.reqs.filter
      (fun q => q.stage == .release key) = [r] ∧ s.req r.id = some r ∧ r.dup = none ∧ r.index = none ∧ r.refused = false ∧ r.writer < 2) ∧
    (∃ (s : State) (key : _) (k : _), s.coll key = some k ∧ (k.releasing = false ∨ k.segs.any Segment.isOpen = true)) :=
  ⟨⟨1001, port0, fOffload (setup1 2), arrived 64 (fOffload (setup1 2)) (holding 0x2000 setupList clustered), (opened (1001) (port0) (fOffload (setup1 2))
     (arrived 64 (fOffload (setup1 2)) (holding 0x2000 setupList clustered)) Claims.offloadWant Claims.gatedNow).1, (opened (1001) (port0) (fOffload
     (setup1 2)) (arrived 64 (fOffload (setup1 2)) (holding 0x2000 setupList clustered)) Claims.offloadWant Claims.gatedNow).2, (0x2000, 16), some ent1,
     contributors, coll1, intact_of _ (by decide +kernel), opens_of (by decide +kernel), ok_of (by decide +kernel),
     plainNear_of (by decide +kernel) (by decide +kernel), by decide +kernel⟩,
   ⟨1001, port0, fOffload (setup1 0), arrived 64 (fOffload (setup1 0)) (clustered), (opened (1001) (port0) (fOffload (setup1 0)) (arrived 64 (fOffload
     (setup1 0)) (clustered)) Claims.offloadWant Claims.gatedNow).1, (opened (1001) (port0) (fOffload (setup1 0)) (arrived 64 (fOffload (setup1 0))
     (clustered)) Claims.offloadWant Claims.gatedNow).2, intact_of _ (by decide +kernel), opens_of (by decide +kernel), by decide +kernel⟩,
   ⟨1001, port0, fOffload ((setup1 2).set 5 9), arrived 64 (fOffload ((setup1 2).set 5 9)) (clustered), (opened (1001) (port0) (fOffload ((setup1 2).set 5
     9)) (arrived 64 (fOffload ((setup1 2).set 5 9)) (clustered)) Claims.offloadWant Claims.gatedNow).1, (opened (1001) (port0) (fOffload ((setup1 2).set
     5 9)) (arrived 64 (fOffload ((setup1 2).set 5 9)) (clustered)) Claims.offloadWant Claims.gatedNow).2, Status.format, intact_of _ (by decide +kernel),
     opens_of (by decide +kernel), by decide +kernel⟩,
   ⟨1001, port0, fOffload (release1), arrived 64 (fOffload (release1)) (clustered), (opened (1001) (port0) (fOffload (release1)) (arrived 64 (fOffload
     (release1)) (clustered)) Claims.offloadWant Claims.gatedNow).1, (opened (1001) (port0) (fOffload (release1)) (arrived 64 (fOffload (release1))
     (clustered)) Claims.offloadWant Claims.gatedNow).2, key1, intact_of _ (by decide +kernel), opens_of (by decide +kernel), by decide +kernel⟩,
   ⟨1001, port0, fOffload (release1), arrived 64 (fOffload (release1)) (collective coll1), (opened (1001) (port0) (fOffload (release1)) (arrived 64
     (fOffload (release1)) (collective coll1)) Claims.offloadWant Claims.gatedNow).1, (opened (1001) (port0) (fOffload (release1)) (arrived 64 (fOffload
     (release1)) (collective coll1)) Claims.offloadWant Claims.gatedNow).2, key1, coll1, intact_of _ (by decide +kernel), opens_of (by decide +kernel),
     by decide +kernel⟩,
   ⟨1001, port0, fOffload (release1), arrived 64 (fOffload (release1)) (collective { coll1 with segs := [openSeg] }), (opened (1001) (port0) (fOffload
     (release1)) (arrived 64 (fOffload (release1)) (collective { coll1 with segs := [openSeg] })) Claims.offloadWant Claims.gatedNow).1, (opened (1001)
     (port0) (fOffload (release1)) (arrived 64 (fOffload (release1)) (collective { coll1 with segs := [openSeg] })) Claims.offloadWant Claims.gatedNow).2,
     key1, { coll1 with segs := [openSeg] }, intact_of _ (by decide +kernel), opens_of (by decide +kernel), by decide +kernel⟩,
   ⟨openWith [{ req0 with index := none, applied := false, mirrored := false, stage := .release key1 }] (collective { coll1 with releasing := true }),
     key1, { coll1 with releasing := true }, { req0 with index := none, applied := false, mirrored := false, stage := .release key1 },
     intact_of _ (by decide +kernel), by decide +kernel⟩,
   ⟨collective coll1, key1, coll1, by decide +kernel⟩⟩

theorem test_hypotheses_of_ContributionsCompleteTheirRound :
    (∃ (t : Nat) (a : Arrival) (f : Frame) (s : State) (u : State) (r : _) (k : _) (i : _) (g : _) (slot : _) (c : _), s.intact ∧ Claims.opens t a f s
      Claims.reduceWant Claims.gatedNow u r ∧ f.hdr.opcode = 0x20 ∧ r.hdr.length ≠ 0 ∧ u.absorber r.hdr = some (k, i, false) ∧ u.coll k.key = some k ∧ g =
      k.seg i false ∧ u.locked r.part = false ∧ u.locked k.part = false ∧ k.directSlot r.hdr.src r.hdr.cid = some slot ∧ contributionCheck k i r = none ∧
      (k.root = true → u.sumacTouched r.hdr.offset.toNat r.hdr.length.toNat = none ∧ u.writeBarred r.hdr.offset.toNat (k.segElems i * k.fm.size) = false)
      ∧ g.bits.contains slot = false ∧ g.closing = false ∧ k.full i = false ∧ c = ({ slot := slot, req := r.id, bytes := r.payload } : Contribution) ∧
      g.bits.length + 1 < k.list.length) ∧
    (∃ (t : Nat) (a : Arrival) (f : Frame) (s : State) (u : State) (r : _) (k : _) (i : _) (g : _) (slot : _) (c : _) (els : _) (ovf : _) (o : _) (out :
      _) (exc : _), s.intact ∧ Claims.opens t a f s Claims.reduceWant Claims.gatedNow u r ∧ Claims.plainNear u o out.length ∧ Claims.quiet u o out.length
      ∧ f.hdr.opcode = 0x20 ∧ r.hdr.length ≠ 0 ∧ u.absorber r.hdr = some (k, i, false) ∧ u.coll k.key = some k ∧ g = k.seg i false ∧ u.locked r.part =
      false ∧ u.locked k.part = false ∧ k.directSlot r.hdr.src r.hdr.cid = some slot ∧ contributionCheck k i r = none ∧ (k.root = true → u.sumacTouched
      r.hdr.offset.toNat r.hdr.length.toNat = none ∧ u.writeBarred r.hdr.offset.toNat (k.segElems i * k.fm.size) = false) ∧ g.bits.contains slot = false ∧
      g.closing = false ∧ k.full i = false ∧ c = ({ slot := slot, req := r.id, bytes := r.payload } : Contribution) ∧ k.list.length ≤ g.bits.length + 1 ∧
      k.root = true ∧ g.leaf = false ∧ u.framesOf r.id = [] ∧ (els, ovf) = u.roundResult k { g with held := g.held ++ [c] } ∧ (out, exc) = packed k.fm els
      ∧ o = k.target + i * k.segBytes ∧ u.rangeHeld o out.length = false) :=
  ⟨⟨1001, port0, fReduce, arrived 64 (fReduce) (collective coll1), (opened (1001) (port0) (fReduce) (arrived 64 (fReduce) (collective coll1))
     Claims.reduceWant Claims.gatedNow).1, (opened (1001) (port0) (fReduce) (arrived 64 (fReduce) (collective coll1)) Claims.reduceWant
     Claims.gatedNow).2, coll1, 0, coll1.seg 0 false, 0,
     ({ slot := 0, req := ((opened (1001) (port0) (fReduce) (arrived 64 (fReduce) (collective coll1)) Claims.reduceWant Claims.gatedNow).2).id, bytes := ((opened (1001) (port0) (fReduce) (arrived 64 (fReduce) (collective coll1)) Claims.reduceWant Claims.gatedNow).2).payload }
     : Contribution), intact_of _ (by decide +kernel), opens_of (by decide +kernel), by decide +kernel⟩,
   ⟨1001, port0, fReduce, arrived 64 (fReduce) ((collective
     ({ coll1 with segs := [{ openSeg with held := [⟨1, 0, List.replicate 64 0, none⟩] }] })).modJrn (fun j =>
     { j with reqs := [{ req0 with index := none, applied := false, stage := .round key1 0 }], nextReq := 1 })), (opened (1001) (port0) (fReduce) (arrived
     64 (fReduce) ((collective ({ coll1 with segs := [{ openSeg with held := [⟨1, 0, List.replicate 64 0, none⟩] }] })).modJrn (fun j =>
     { j with reqs := [{ req0 with index := none, applied := false, stage := .round key1 0 }], nextReq := 1 }))) Claims.reduceWant Claims.gatedNow).1,
     (opened (1001) (port0) (fReduce) (arrived 64 (fReduce) ((collective
     ({ coll1 with segs := [{ openSeg with held := [⟨1, 0, List.replicate 64 0, none⟩] }] })).modJrn (fun j =>
     { j with reqs := [{ req0 with index := none, applied := false, stage := .round key1 0 }], nextReq := 1 }))) Claims.reduceWant Claims.gatedNow).2,
     { coll1 with segs := [{ openSeg with held := [⟨1, 0, List.replicate 64 0, none⟩] }] }, 0,
     ({ coll1 with segs := [{ openSeg with held := [⟨1, 0, List.replicate 64 0, none⟩] }] }).seg 0 false, 0,
     ({ slot := 0, req := ((opened (1001) (port0) (fReduce) (arrived 64 (fReduce) ((collective ({ coll1 with segs := [{ openSeg with held := [⟨1, 0, List.replicate 64 0, none⟩] }] })).modJrn (fun j => { j with reqs := [{ req0 with index := none, applied := false, stage := .round key1 0 }], nextReq := 1 }))) Claims.reduceWant Claims.gatedNow).2).id, bytes := ((opened (1001) (port0) (fReduce) (arrived 64 (fReduce) ((collective ({ coll1 with segs := [{ openSeg with held := [⟨1, 0, List.replicate 64 0, none⟩] }] })).modJrn (fun j => { j with reqs := [{ req0 with index := none, applied := false, stage := .round key1 0 }], nextReq := 1 }))) Claims.reduceWant Claims.gatedNow).2).payload }
     : Contribution), (((opened (1001) (port0) (fReduce) (arrived 64 (fReduce) ((collective
     ({ coll1 with segs := [{ openSeg with held := [⟨1, 0, List.replicate 64 0, none⟩] }] })).modJrn (fun j =>
     { j with reqs := [{ req0 with index := none, applied := false, stage := .round key1 0 }], nextReq := 1 }))) Claims.reduceWant
     Claims.gatedNow).1).roundResult ({ coll1 with segs := [{ openSeg with held := [⟨1, 0, List.replicate 64 0, none⟩] }] })
     { (({ coll1 with segs := [{ openSeg with held := [⟨1, 0, List.replicate 64 0, none⟩] }] }).seg 0 false) with held := (({ coll1 with segs := [{ openSeg with held := [⟨1, 0, List.replicate 64 0, none⟩] }] }).seg 0 false).held ++ [(({ slot := 0, req := ((opened (1001) (port0) (fReduce) (arrived 64 (fReduce) ((collective ({ coll1 with segs := [{ openSeg with held := [⟨1, 0, List.replicate 64 0, none⟩] }] })).modJrn (fun j => { j with reqs := [{ req0 with index := none, applied := false, stage := .round key1 0 }], nextReq := 1 }))) Claims.reduceWant Claims.gatedNow).2).id, bytes := ((opened (1001) (port0) (fReduce) (arrived 64 (fReduce) ((collective ({ coll1 with segs := [{ openSeg with held := [⟨1, 0, List.replicate 64 0, none⟩] }] })).modJrn (fun j => { j with reqs := [{ req0 with index := none, applied := false, stage := .round key1 0 }], nextReq := 1 }))) Claims.reduceWant Claims.gatedNow).2).payload } : Contribution))] }).1,
     (((opened (1001) (port0) (fReduce) (arrived 64 (fReduce) ((collective
     ({ coll1 with segs := [{ openSeg with held := [⟨1, 0, List.replicate 64 0, none⟩] }] })).modJrn (fun j =>
     { j with reqs := [{ req0 with index := none, applied := false, stage := .round key1 0 }], nextReq := 1 }))) Claims.reduceWant
     Claims.gatedNow).1).roundResult ({ coll1 with segs := [{ openSeg with held := [⟨1, 0, List.replicate 64 0, none⟩] }] })
     { (({ coll1 with segs := [{ openSeg with held := [⟨1, 0, List.replicate 64 0, none⟩] }] }).seg 0 false) with held := (({ coll1 with segs := [{ openSeg with held := [⟨1, 0, List.replicate 64 0, none⟩] }] }).seg 0 false).held ++ [(({ slot := 0, req := ((opened (1001) (port0) (fReduce) (arrived 64 (fReduce) ((collective ({ coll1 with segs := [{ openSeg with held := [⟨1, 0, List.replicate 64 0, none⟩] }] })).modJrn (fun j => { j with reqs := [{ req0 with index := none, applied := false, stage := .round key1 0 }], nextReq := 1 }))) Claims.reduceWant Claims.gatedNow).2).id, bytes := ((opened (1001) (port0) (fReduce) (arrived 64 (fReduce) ((collective ({ coll1 with segs := [{ openSeg with held := [⟨1, 0, List.replicate 64 0, none⟩] }] })).modJrn (fun j => { j with reqs := [{ req0 with index := none, applied := false, stage := .round key1 0 }], nextReq := 1 }))) Claims.reduceWant Claims.gatedNow).2).payload } : Contribution))] }).2,
     0x4000, (packed ({ coll1 with segs := [{ openSeg with held := [⟨1, 0, List.replicate 64 0, none⟩] }] }).fm ((((opened (1001) (port0) (fReduce)
     (arrived 64 (fReduce) ((collective ({ coll1 with segs := [{ openSeg with held := [⟨1, 0, List.replicate 64 0, none⟩] }] })).modJrn (fun j =>
     { j with reqs := [{ req0 with index := none, applied := false, stage := .round key1 0 }], nextReq := 1 }))) Claims.reduceWant
     Claims.gatedNow).1).roundResult ({ coll1 with segs := [{ openSeg with held := [⟨1, 0, List.replicate 64 0, none⟩] }] })
     { (({ coll1 with segs := [{ openSeg with held := [⟨1, 0, List.replicate 64 0, none⟩] }] }).seg 0 false) with held := (({ coll1 with segs := [{ openSeg with held := [⟨1, 0, List.replicate 64 0, none⟩] }] }).seg 0 false).held ++ [(({ slot := 0, req := ((opened (1001) (port0) (fReduce) (arrived 64 (fReduce) ((collective ({ coll1 with segs := [{ openSeg with held := [⟨1, 0, List.replicate 64 0, none⟩] }] })).modJrn (fun j => { j with reqs := [{ req0 with index := none, applied := false, stage := .round key1 0 }], nextReq := 1 }))) Claims.reduceWant Claims.gatedNow).2).id, bytes := ((opened (1001) (port0) (fReduce) (arrived 64 (fReduce) ((collective ({ coll1 with segs := [{ openSeg with held := [⟨1, 0, List.replicate 64 0, none⟩] }] })).modJrn (fun j => { j with reqs := [{ req0 with index := none, applied := false, stage := .round key1 0 }], nextReq := 1 }))) Claims.reduceWant Claims.gatedNow).2).payload } : Contribution))] }).1)).1,
     (packed ({ coll1 with segs := [{ openSeg with held := [⟨1, 0, List.replicate 64 0, none⟩] }] }).fm ((((opened (1001) (port0) (fReduce) (arrived 64
     (fReduce) ((collective ({ coll1 with segs := [{ openSeg with held := [⟨1, 0, List.replicate 64 0, none⟩] }] })).modJrn (fun j =>
     { j with reqs := [{ req0 with index := none, applied := false, stage := .round key1 0 }], nextReq := 1 }))) Claims.reduceWant
     Claims.gatedNow).1).roundResult ({ coll1 with segs := [{ openSeg with held := [⟨1, 0, List.replicate 64 0, none⟩] }] })
     { (({ coll1 with segs := [{ openSeg with held := [⟨1, 0, List.replicate 64 0, none⟩] }] }).seg 0 false) with held := (({ coll1 with segs := [{ openSeg with held := [⟨1, 0, List.replicate 64 0, none⟩] }] }).seg 0 false).held ++ [(({ slot := 0, req := ((opened (1001) (port0) (fReduce) (arrived 64 (fReduce) ((collective ({ coll1 with segs := [{ openSeg with held := [⟨1, 0, List.replicate 64 0, none⟩] }] })).modJrn (fun j => { j with reqs := [{ req0 with index := none, applied := false, stage := .round key1 0 }], nextReq := 1 }))) Claims.reduceWant Claims.gatedNow).2).id, bytes := ((opened (1001) (port0) (fReduce) (arrived 64 (fReduce) ((collective ({ coll1 with segs := [{ openSeg with held := [⟨1, 0, List.replicate 64 0, none⟩] }] })).modJrn (fun j => { j with reqs := [{ req0 with index := none, applied := false, stage := .round key1 0 }], nextReq := 1 }))) Claims.reduceWant Claims.gatedNow).2).payload } : Contribution))] }).1)).2,
     intact_of _ (by decide +kernel), opens_of (by decide +kernel), plainNear_of (by decide +kernel) (by decide +kernel),
     by unfold Claims.quiet; decide +kernel, by decide +kernel⟩⟩

theorem test_hypotheses_of_PartialFramesJoinTheRootsRound :
    (∃ (t : Nat) (a : Arrival) (f : Frame) (s : State) (u : State) (r : _) (k : _) (i : _) (g : _), s.intact ∧ Claims.opens t a f s Claims.reduceWant
      Claims.gatedNow u r ∧ f.hdr.opcode = 0x20 ∧ f.hdr.stream = 0x7C ∧ r.hdr.length ≠ 0 ∧ u.absorber r.hdr = some (k, i, true) ∧ u.coll k.key = some k ∧
      g = k.seg i false ∧ u.locked r.part = false ∧ u.locked k.part = false ∧ k.root = true ∧ k.isStageMaster r.hdr.src r.hdr.cid = true ∧ u.sumacTouched
      r.hdr.offset.toNat r.hdr.length.toNat = none ∧ partialOf? k r = none) ∧
    (∃ (t : Nat) (a : Arrival) (f : Frame) (s : State) (u : State) (r : _) (k : _) (i : _) (g : _) (slot : _) (first : _) (n : _), s.intact ∧ Claims.opens
      t a f s Claims.reduceWant Claims.gatedNow u r ∧ f.hdr.opcode = 0x20 ∧ f.hdr.stream = 0x7C ∧ r.hdr.length ≠ 0 ∧ u.absorber r.hdr = some (k, i, true)
      ∧ u.coll k.key = some k ∧ g = k.seg i false ∧ u.locked r.part = false ∧ u.locked k.part = false ∧ k.root = true ∧ k.isStageMaster r.hdr.src
      r.hdr.cid = true ∧ u.sumacTouched r.hdr.offset.toNat r.hdr.length.toNat = none ∧ partialOf? k r = some (slot, first, n) ∧ leAt r.payload 4 4 <
      g.round) ∧
    (∃ (t : Nat) (a : Arrival) (f : Frame) (s : State) (u : State) (r : _) (k : _) (i : _) (g : _) (slot : _) (first : _) (n : _), s.intact ∧ Claims.opens
      t a f s Claims.reduceWant Claims.gatedNow u r ∧ f.hdr.opcode = 0x20 ∧ f.hdr.stream = 0x7C ∧ r.hdr.length ≠ 0 ∧ u.absorber r.hdr = some (k, i, true)
      ∧ u.coll k.key = some k ∧ g = k.seg i false ∧ u.locked r.part = false ∧ u.locked k.part = false ∧ k.root = true ∧ k.isStageMaster r.hdr.src
      r.hdr.cid = true ∧ u.sumacTouched r.hdr.offset.toNat r.hdr.length.toNat = none ∧ partialOf? k r = some (slot, first, n) ∧ g.round < leAt r.payload 4
      4) ∧
    (∃ (t : Nat) (a : Arrival) (f : Frame) (s : State) (u : State) (r : _) (k : _) (i : _) (g : _) (slot : _) (first : _) (n : _), s.intact ∧ Claims.opens
      t a f s Claims.reduceWant Claims.gatedNow u r ∧ (∀ x ∈ g.held, x.slot = slot → ∀ b m, x.words = some (b, m) → overlaps b m first n = false) ∧
      f.hdr.opcode = 0x20 ∧ f.hdr.stream = 0x7C ∧ r.hdr.length ≠ 0 ∧ u.absorber r.hdr = some (k, i, true) ∧ u.coll k.key = some k ∧ g = k.seg i false ∧
      u.locked r.part = false ∧ u.locked k.part = false ∧ k.root = true ∧ k.isStageMaster r.hdr.src r.hdr.cid = true ∧ u.sumacTouched r.hdr.offset.toNat
      r.hdr.length.toNat = none ∧ partialOf? k r = some (slot, first, n) ∧ leAt r.payload 4 4 = g.round ∧ k.full i = false ∧ g.closing = false ∧
      g.bits.length + 1 < k.list.length) :=
  ⟨⟨1001, port0, fPartial 0 6, arrived 64 (fPartial 0 6) (collective staged1), (opened (1001) (port0) (fPartial 0 6) (arrived 64 (fPartial 0 6)
     (collective staged1)) Claims.reduceWant Claims.gatedNow).1, (opened (1001) (port0) (fPartial 0 6) (arrived 64 (fPartial 0 6) (collective staged1))
     Claims.reduceWant Claims.gatedNow).2, staged1, 0, staged1.seg 0 false, intact_of _ (by decide +kernel), opens_of (by decide +kernel),
     by decide +kernel⟩,
   ⟨1001, port0, fPartial 0 5, arrived 64 (fPartial 0 5) (collective { staged1 with segs := [{ index := 0, round := 1 }] }), (opened (1001) (port0)
     (fPartial 0 5) (arrived 64 (fPartial 0 5) (collective { staged1 with segs := [{ index := 0, round := 1 }] })) Claims.reduceWant Claims.gatedNow).1,
     (opened (1001) (port0) (fPartial 0 5) (arrived 64 (fPartial 0 5) (collective { staged1 with segs := [{ index := 0, round := 1 }] }))
     Claims.reduceWant Claims.gatedNow).2, { staged1 with segs := [{ index := 0, round := 1 }] }, 0, ({ index := 0, round := 1 } : Segment), 1, 0, 1,
     intact_of _ (by decide +kernel), opens_of (by decide +kernel), by decide +kernel⟩,
   ⟨1001, port0, fPartial 1 5, arrived 64 (fPartial 1 5) (collective staged1), (opened (1001) (port0) (fPartial 1 5) (arrived 64 (fPartial 1 5)
     (collective staged1)) Claims.reduceWant Claims.gatedNow).1, (opened (1001) (port0) (fPartial 1 5) (arrived 64 (fPartial 1 5) (collective staged1))
     Claims.reduceWant Claims.gatedNow).2, staged1, 0, staged1.seg 0 false, 1, 0, 1, intact_of _ (by decide +kernel), opens_of (by decide +kernel),
     by decide +kernel⟩,
   ⟨1001, port0, fPartial 0 5, arrived 64 (fPartial 0 5) (collective staged1), (opened (1001) (port0) (fPartial 0 5) (arrived 64 (fPartial 0 5)
     (collective staged1)) Claims.reduceWant Claims.gatedNow).1, (opened (1001) (port0) (fPartial 0 5) (arrived 64 (fPartial 0 5) (collective staged1))
     Claims.reduceWant Claims.gatedNow).2, staged1, 0, staged1.seg 0 false, 1, 0, 1, intact_of _ (by decide +kernel), opens_of (by decide +kernel),
     noWords_of (by decide +kernel), by decide +kernel⟩⟩

theorem test_hypotheses_of_RoundsExpireAndCollectivesAreRebound :
    (∃ (t : Nat) (s : State) (key : _) (k : _) (i : _) (g : _), s.intact ∧ s.coll key = some k ∧ g = k.seg i false ∧ k.releasing = false ∧ g.closing =
      false ∧ g.held ≠ [] ∧ g.firstAt + s.skewTicks k ≤ max s.now t) ∧
    (∃ (s : State) (key : _) (k : _) (i : _), s.coll key = some k ∧ ((k.seg i false).closing = true ∨ (k.seg i false).held = [])) ∧
    (∃ (t : Nat) (s : State) (key : _) (k : _) (i : _) (g : _) (c : _) (q : _) (e : _) (tail : _), s.coll key = some k ∧ g = k.seg i true ∧ g.closing =
      false ∧ g.held = [c] ∧ s.req c.req = some q ∧ q.dup = some (e, tail) ∧ (s.at t).pastDeadline q = true) ∧
    (∃ (s : State) (key : _) (k : _) (i : _), s.coll key = some k ∧ (k.seg i true).held = []) ∧
    (∃ (s : State) (key : _) (k : _), s.coll key = some k) ∧
    (∃ (t : Nat) (s : State) (key : _) (k : _), s.coll key = some k ∧ (∀ g ∈ k.positions, (s.at t).longReset ((g - 64) / 2) = false)) :=
  ⟨⟨100000000, collective { coll1 with segs := [openSeg] }, key1, { coll1 with segs := [openSeg] }, 0, openSeg, intact_of _ (by decide +kernel),
     by decide +kernel⟩,
   ⟨collective coll1, key1, coll1, 0, by decide +kernel⟩,
   ⟨10000000000, openWith [{ req0 with index := none, applied := false, stage := .round key1 0, dup := some (entry0, true) }] (collective
     { coll1 with segs := [{ openSeg with reissue := true, held := [⟨1, 0, List.replicate 64 0, none⟩] }] }), key1,
     { coll1 with segs := [{ openSeg with reissue := true, held := [⟨1, 0, List.replicate 64 0, none⟩] }] }, 0,
     ({ coll1 with segs := [{ openSeg with reissue := true, held := [⟨1, 0, List.replicate 64 0, none⟩] }] }).seg 0 true, (⟨1, 0, List.replicate 64 0,
     none⟩ : Contribution), { req0 with index := none, applied := false, stage := .round key1 0, dup := some (entry0, true) }, entry0, true,
     by decide +kernel⟩,
   ⟨collective coll1, key1, coll1, 0, by decide +kernel⟩,
   ⟨collective coll1, key1, coll1, by decide +kernel⟩,
   ⟨1001, collective coll1, key1, coll1, by decide +kernel⟩⟩

theorem test_hypotheses_of_MulticastsCopyToTheirMembers :
    (∃ (t : Nat) (a : Arrival) (f : Frame) (s : State) (u : State) (r : _) (g : _) (o : _) (n : _), s.intact ∧ Claims.opens t a f s (fun v d => { die := recordDie d.hdr.stream, writer := recordDie d.hdr.stream, off := d.hdr.offset.toNat, len := d.hdr.length.toNat, right := some .wr, listed := true, entry := (v.mcastLocals d.hdr).findSome? (fun x => match v.accessCheck d.hdr.src d.hdr.cid x.2 d.hdr.length.toNat .wr with | .ok e => e | .error _ => none) }) (fun v d => (v.mcastLocals d.hdr).any (fun x => v.rangeHeld x.2 d.hdr.length.toNat || v.stagingHeld x.2 d.hdr.length.toNat)) u r ∧ f.hdr.opcode = 0x21 ∧ u.groupOf r.hdr = some g ∧ o = r.hdr.offset.toNat ∧ n = r.hdr.length.toNat ∧ 0 < n ∧ u.framesOf r.id = [] ∧ r.failure = none ∧ within o n g.base g.length = false) ∧
    (∃ (t : Nat) (a : Arrival) (f : Frame) (s : State) (u : State) (r : _) (g : _) (o : _) (n : _) (m : _) (x : _) (e : _), s.intact ∧ Claims.opens t a f s (fun v d => { die := recordDie d.hdr.stream, writer := recordDie d.hdr.stream, off := d.hdr.offset.toNat, len := d.hdr.length.toNat, right := some .wr, listed := true, entry := (v.mcastLocals d.hdr).findSome? (fun x => match v.accessCheck d.hdr.src d.hdr.cid x.2 d.hdr.length.toNat .wr with | .ok e => e | .error _ => none) }) (fun v d => (v.mcastLocals d.hdr).any (fun x => v.rangeHeld x.2 d.hdr.length.toNat || v.stagingHeld x.2 d.hdr.length.toNat)) u r ∧ u.accessCheck r.hdr.src r.hdr.cid x n .wr = .ok e ∧ Claims.plainNear u x n ∧ Claims.quiet u x n ∧ f.hdr.opcode = 0x21 ∧ u.groupOf r.hdr = some g ∧ o = r.hdr.offset.toNat ∧ n = r.hdr.length.toNat ∧ 0 < n ∧ u.framesOf r.id = [] ∧ r.failure = none ∧ within o n g.base g.length = true ∧ g.members = [m] ∧ m.isLocal = true ∧ x = o - g.base + m.base ∧ r.payload.length = n ∧ u.writeBarred x n = false) ∧
    (∃ (t : Nat) (a : Arrival) (f : Frame) (s : State) (u : State) (r : _) (g : _) (o : _) (n : _) (m : _), s.intact ∧ Claims.opens t a f s (fun v d => { die := recordDie d.hdr.stream, writer := recordDie d.hdr.stream, off := d.hdr.offset.toNat, len := d.hdr.length.toNat, right := some .wr, listed := true, entry := (v.mcastLocals d.hdr).findSome? (fun x => match v.accessCheck d.hdr.src d.hdr.cid x.2 d.hdr.length.toNat .wr with | .ok e => e | .error _ => none) }) (fun v d => (v.mcastLocals d.hdr).any (fun x => v.rangeHeld x.2 d.hdr.length.toNat || v.stagingHeld x.2 d.hdr.length.toNat)) u r ∧ f.hdr.opcode = 0x21 ∧ u.groupOf r.hdr = some g ∧ o = r.hdr.offset.toNat ∧ n = r.hdr.length.toNat ∧ 0 < n ∧ u.framesOf r.id = [] ∧ r.failure = none ∧ within o n g.base g.length = true ∧ g.members = [m] ∧ m.isLocal = false ∧ u.route m.node ≠ some (r.port, r.sub)) :=
  ⟨⟨1001, port0, fMcast 0x9000, arrived 64 (fMcast 0x9000) (grouped ⟨0, true, 0x1000⟩),
     (opened (1001) (port0) (fMcast 0x9000) (arrived 64 (fMcast 0x9000) (grouped ⟨0, true, 0x1000⟩)) (fun v d => { die := recordDie d.hdr.stream, writer := recordDie d.hdr.stream, off := d.hdr.offset.toNat, len := d.hdr.length.toNat, right := some .wr, listed := true, entry := (v.mcastLocals d.hdr).findSome? (fun x => match v.accessCheck d.hdr.src d.hdr.cid x.2 d.hdr.length.toNat .wr with | .ok e => e | .error _ => none) }) (fun v d => (v.mcastLocals d.hdr).any (fun x => v.rangeHeld x.2 d.hdr.length.toNat || v.stagingHeld x.2 d.hdr.length.toNat))).1,
     (opened (1001) (port0) (fMcast 0x9000) (arrived 64 (fMcast 0x9000) (grouped ⟨0, true, 0x1000⟩)) (fun v d => { die := recordDie d.hdr.stream, writer := recordDie d.hdr.stream, off := d.hdr.offset.toNat, len := d.hdr.length.toNat, right := some .wr, listed := true, entry := (v.mcastLocals d.hdr).findSome? (fun x => match v.accessCheck d.hdr.src d.hdr.cid x.2 d.hdr.length.toNat .wr with | .ok e => e | .error _ => none) }) (fun v d => (v.mcastLocals d.hdr).any (fun x => v.rangeHeld x.2 d.hdr.length.toNat || v.stagingHeld x.2 d.hdr.length.toNat))).2,
     group1 ⟨0, true, 0x1000⟩, 0x9000, 4, intact_of _ (by decide +kernel), opens_of (by decide +kernel), by decide +kernel⟩,
   ⟨1001, port0, fMcast 0x1000, arrived 64 (fMcast 0x1000) (grouped ⟨0, true, 0x1000⟩),
     (opened (1001) (port0) (fMcast 0x1000) (arrived 64 (fMcast 0x1000) (grouped ⟨0, true, 0x1000⟩)) (fun v d => { die := recordDie d.hdr.stream, writer := recordDie d.hdr.stream, off := d.hdr.offset.toNat, len := d.hdr.length.toNat, right := some .wr, listed := true, entry := (v.mcastLocals d.hdr).findSome? (fun x => match v.accessCheck d.hdr.src d.hdr.cid x.2 d.hdr.length.toNat .wr with | .ok e => e | .error _ => none) }) (fun v d => (v.mcastLocals d.hdr).any (fun x => v.rangeHeld x.2 d.hdr.length.toNat || v.stagingHeld x.2 d.hdr.length.toNat))).1,
     (opened (1001) (port0) (fMcast 0x1000) (arrived 64 (fMcast 0x1000) (grouped ⟨0, true, 0x1000⟩)) (fun v d => { die := recordDie d.hdr.stream, writer := recordDie d.hdr.stream, off := d.hdr.offset.toNat, len := d.hdr.length.toNat, right := some .wr, listed := true, entry := (v.mcastLocals d.hdr).findSome? (fun x => match v.accessCheck d.hdr.src d.hdr.cid x.2 d.hdr.length.toNat .wr with | .ok e => e | .error _ => none) }) (fun v d => (v.mcastLocals d.hdr).any (fun x => v.rangeHeld x.2 d.hdr.length.toNat || v.stagingHeld x.2 d.hdr.length.toNat))).2,
     group1 ⟨0, true, 0x1000⟩, 0x1000, 4, (⟨0, true, 0x1000⟩ : Member), 0x1000, some { ent1 with accepted := 1 }, intact_of _ (by decide +kernel),
     opens_of (by decide +kernel), ok_of (by decide +kernel), plainNear_of (by decide +kernel) (by decide +kernel),
     by unfold Claims.quiet; decide +kernel, by decide +kernel⟩,
   ⟨1001, port0, fMcast 0x1000, arrived 64 (fMcast 0x1000) (grouped ⟨3, false, 0x1000⟩),
     (opened (1001) (port0) (fMcast 0x1000) (arrived 64 (fMcast 0x1000) (grouped ⟨3, false, 0x1000⟩)) (fun v d => { die := recordDie d.hdr.stream, writer := recordDie d.hdr.stream, off := d.hdr.offset.toNat, len := d.hdr.length.toNat, right := some .wr, listed := true, entry := (v.mcastLocals d.hdr).findSome? (fun x => match v.accessCheck d.hdr.src d.hdr.cid x.2 d.hdr.length.toNat .wr with | .ok e => e | .error _ => none) }) (fun v d => (v.mcastLocals d.hdr).any (fun x => v.rangeHeld x.2 d.hdr.length.toNat || v.stagingHeld x.2 d.hdr.length.toNat))).1,
     (opened (1001) (port0) (fMcast 0x1000) (arrived 64 (fMcast 0x1000) (grouped ⟨3, false, 0x1000⟩)) (fun v d => { die := recordDie d.hdr.stream, writer := recordDie d.hdr.stream, off := d.hdr.offset.toNat, len := d.hdr.length.toNat, right := some .wr, listed := true, entry := (v.mcastLocals d.hdr).findSome? (fun x => match v.accessCheck d.hdr.src d.hdr.cid x.2 d.hdr.length.toNat .wr with | .ok e => e | .error _ => none) }) (fun v d => (v.mcastLocals d.hdr).any (fun x => v.rangeHeld x.2 d.hdr.length.toNat || v.stagingHeld x.2 d.hdr.length.toNat))).2,
     group1 ⟨3, false, 0x1000⟩, 0x1000, 4, (⟨3, false, 0x1000⟩ : Member), intact_of _ (by decide +kernel), opens_of (by decide +kernel),
     by decide +kernel⟩⟩

theorem test_hypotheses_of_UnassignedCodesAreRefused :
    (∃ (f : Frame) (s : State), classesOf f.hdr.opcode.toNat = [] ∧ s.live = true ∧ s.warp.arrived = [] ∧ s.warpDown = false ∧ f.hdr.check =
      f.hdr.goodCheck ∧ f.hdr.version = 1 ∧ f.hdr.opcode ≠ 0) ∧
    (∃ (t : Nat) (a : Arrival) (f : Frame) (s : State) (u : State) (r : _), s.intact ∧ Claims.opens t a f s Claims.offloadWant Claims.gatedNow u r ∧
      f.hdr.opcode = 0x30 ∧ knownOperator (dCode f.payload) = false) :=
  ⟨⟨⟨sealHdr (hdr 0x3F 2 0x10 0 0), [], 0⟩, manned, by decide +kernel⟩,
   ⟨1001, port0, fOffload ([0x99] ++ List.replicate 63 0), arrived 64 (fOffload ([0x99] ++ List.replicate 63 0)) (clustered), (opened (1001) (port0)
     (fOffload ([0x99] ++ List.replicate 63 0)) (arrived 64 (fOffload ([0x99] ++ List.replicate 63 0)) (clustered)) Claims.offloadWant Claims.gatedNow).1,
     (opened (1001) (port0) (fOffload ([0x99] ++ List.replicate 63 0)) (arrived 64 (fOffload ([0x99] ++ List.replicate 63 0)) (clustered))
     Claims.offloadWant Claims.gatedNow).2, intact_of _ (by decide +kernel), opens_of (by decide +kernel), by decide +kernel⟩⟩

theorem test_hypotheses_of_OperatorsEnterAndStart :
    (∃ (t : Nat) (a : Arrival) (f : Frame) (s : State) (u : State) (r : _) (i : _) (st : _), s.intact ∧ Claims.opens t a f s Claims.offloadWant (fun v d
      => Claims.gatedNow v d || decide (256 ≤ v.queueDepth (v.opPosition d / 2))) u r ∧ i ∈ Claims.operatorOf t a f ∧ (∀ j ∈ u.eng.jobs, j.req ≠ r.id) ∧
      checkDescriptor r.payload = some st) ∧
    (∃ (t : Nat) (a : Arrival) (f : Frame) (s : State) (u : State) (r : _) (i : _) (exts : _), s.intact ∧ Claims.opens t a f s Claims.offloadWant (fun v d
      => Claims.gatedNow v d || decide (256 ≤ v.queueDepth (v.opPosition d / 2))) u r ∧ u.resolveAll r r.payload (u.isCrossCheck r.hdr) = .ok exts ∧ i ∈
      Claims.operatorOf t a f ∧ (∀ j ∈ u.eng.jobs, j.req ≠ r.id) ∧ checkDescriptor r.payload = none ∧ (dEmpty r.payload = false → (u.localContext
      r.part).isSome = true) ∧ exts.any u.touchesSumac = false ∧ (∀ x ∈ (exts.take 3).flatten, ∀ y ∈ exts.getD 3 [], overlaps x.1 x.2 y.1 y.2 = false) ∧
      (∀ c < 32, claimOf r.payload ≤ (u.cluster c).accMib) ∧ u.locked r.part = false) ∧
    (∃ (t : Nat) (s : State) (c : _) (j : _) (r : _), c < 32 ∧ (s.at t).nextOp c = some j ∧ s.job j.req = some j ∧ s.req j.req = some r ∧ r.dup = none ∧
      r.refused = false ∧ (j.exts.take 3).findSome? ((s.at t).nearCheck r false) = none ∧ (∀ x ∈ s.mem.filter, x.2.2 ≠ .exclusive)) ∧
    (∃ (t : Nat) (s : State) (c : _), c < 32 ∧ (s.at t).nextOp c = none) ∧
    (∃ (t : Nat) (s : State) (j : _) (r : _), s.job r.id = some j ∧ s.req r.id = some r ∧ j.running = false ∧ r.dup = none ∧ r.refused = false ∧ (s.at
      t).pastDeadline r = true) ∧
    (∃ (t : Nat) (s : State) (j : _) (r : _), s.job r.id = some j ∧ s.req r.id = some r ∧ (j.running = true ∨ (s.at t).pastDeadline r = false)) ∧
    (∃ (t : Nat) (s : State) (r : _) (c : _) (g : _), s.req r.id = some r ∧ r.stage = .crossCheck c g ∧ r.dup = none ∧ r.refused = false ∧ (s.at
      t).pastDeadline r = true) ∧
    (∃ (t : Nat) (s : State) (r : _), s.req r.id = some r ∧ (s.at t).pastDeadline r = false) :=
  ⟨⟨1001, port0, fOffload ((topk true).set 1 0), arrived 64 (fOffload ((topk true).set 1 0)) (clustered), (opened (1001) (port0) (fOffload ((topk
     true).set 1 0)) (arrived 64 (fOffload ((topk true).set 1 0)) (clustered)) Claims.offloadWant (fun v d => Claims.gatedNow v d || decide (256 ≤
     v.queueDepth (v.opPosition d / 2)))).1, (opened (1001) (port0) (fOffload ((topk true).set 1 0)) (arrived 64 (fOffload ((topk true).set 1 0))
     (clustered)) Claims.offloadWant (fun v d => Claims.gatedNow v d || decide (256 ≤ v.queueDepth (v.opPosition d / 2)))).2, (Instr.topK 1001 port0
     (fOffload ((topk true).set 1 0))), Status.format, intact_of _ (by decide +kernel), opens_of (by decide +kernel), by decide +kernel⟩,
   ⟨1001, port0, fOffload (topk true), arrived 64 (fOffload (topk true)) (clustered), (opened (1001) (port0) (fOffload (topk true)) (arrived 64 (fOffload
     (topk true)) (clustered)) Claims.offloadWant (fun v d => Claims.gatedNow v d || decide (256 ≤ v.queueDepth (v.opPosition d / 2)))).1, (opened (1001)
     (port0) (fOffload (topk true)) (arrived 64 (fOffload (topk true)) (clustered)) Claims.offloadWant (fun v d => Claims.gatedNow v d || decide (256 ≤
     v.queueDepth (v.opPosition d / 2)))).2, (Instr.topK 1001 port0 (fOffload (topk true))), [[(0x3000, 16)], [], [], []],
     intact_of _ (by decide +kernel), opens_of (by decide +kernel), ok_of (by decide +kernel), by decide +kernel⟩,
   ⟨1001, working (opReq true) (opJob true), 0, opJob true, opReq true, by decide +kernel⟩,
   ⟨1001, clustered, 31, by decide +kernel⟩,
   ⟨100000000, working (opReq true) (opJob true), opJob true, opReq true, by decide +kernel⟩,
   ⟨1001, working (opReq true) (opJob true), opJob true, opReq true, by decide +kernel⟩,
   ⟨100000000, working ({ opReq true with stage := .crossCheck 0 0 }) { opDone true with crossCheck := true },
     { opReq true with stage := .crossCheck 0 0 }, 0, 0, by decide +kernel⟩,
   ⟨1001, working (opReq true) (opJob true), opReq true, by decide +kernel⟩⟩

theorem test_hypotheses_of_TilesRunAndOperatorsComplete :
    (∃ (t : Nat) (s : State) (c : _) (j : _) (k : _), c < 32 ∧ (s.eng.jobs.map (·.req)).Nodup ∧ (∀ x ∈ s.eng.jobs, x.cluster = c → x.running = true →
      x.valid = true ∧ ∀ p ∈ x.plan, p.sent = true) ∧ (s.at t).tileNext c = some (j, k)) ∧
    (∃ (s : State) (c : _), c < 32 ∧ s.eng.jobs = []) ∧
    (∃ (s : State) (x : _) (j : _), s.intact ∧ x.cluster < 32 ∧ x.core < 8 ∧ x.cluster ∉ s.eng.stopped ∧ s.eng.tiles.find? (fun y => y.cluster = x.cluster
      ∧ y.core = x.core) = some x ∧ s.job x.req = some j) ∧
    (∃ (s : State) (c : _) (core : _), c < 32 ∧ core < 8 ∧ c ∈ s.eng.stopped) ∧
    (∃ (s : State) (r : _) (j : _) (x : _), s.intact ∧ x = operatorOut j.desc j.inputs ∧ s.req r.id = some r ∧ s.job r.id = some j ∧ r.writer < 2 ∧
      j.running = true ∧ j.valid = true ∧ j.allRead = true ∧ (∀ p ∈ j.plan, p.sent = true) ∧ tilesOf j.desc ≤ j.tilesDone ∧ j.output = none ∧ j.written =
      false ∧ j.tainted = false ∧ j.crossCheck = false ∧ j.outTodo = [] ∧ s.crossChecks j.cluster = false ∧ s.framesOf r.id = [] ∧ r.leaf = false ∧
      r.again = false ∧ r.dup = none ∧ r.index = none ∧ r.refused = false ∧ r.waits = 0 ∧ dRet j.desc = true) ∧
    (∃ (s : State) (r : _) (j : _) (x : _) (y : _), s.intact ∧ x = operatorOut j.desc j.inputs ∧ Claims.plainNear s (offOf y.1) x.bytes.length ∧
      Claims.quiet s (offOf y.1) x.bytes.length ∧ s.req r.id = some r ∧ s.job r.id = some j ∧ r.writer < 2 ∧ j.running = true ∧ j.valid = true ∧ j.allRead
      = true ∧ (∀ p ∈ j.plan, p.sent = true) ∧ tilesOf j.desc ≤ j.tilesDone ∧ j.output = none ∧ j.written = false ∧ j.tainted = false ∧ j.crossCheck =
      false ∧ j.outTodo = [] ∧ s.crossChecks j.cluster = false ∧ s.framesOf r.id = [] ∧ r.leaf = false ∧ r.again = false ∧ r.dup = none ∧ r.index = none ∧
      r.refused = false ∧ r.waits = 0 ∧ dRet j.desc = false ∧ j.exts.getD 3 [] = [y] ∧ s.isNear y = true ∧ 0 < x.bytes.length ∧ x.bytes.length ≤ y.2 ∧
      s.nearCheck r true [y] = none ∧ s.rangeHeld (offOf y.1) x.bytes.length = false) :=
  ⟨⟨1001, working (opReq true) { opDone true with tilesStarted := 0, tilesDone := 0 }, 0, { opDone true with tilesStarted := 0, tilesDone := 0 }, 0,
     by decide +kernel⟩,
   ⟨clustered, 31, by decide +kernel⟩,
   ⟨(working (opReq true) { opDone true with tilesDone := 0 }).modEng (fun e => { e with tiles := [tile0] }), tile0, { opDone true with tilesDone := 0 },
     intact_of _ (by decide +kernel), by decide +kernel⟩,
   ⟨clustered.modEng (fun e => { e with stopped := [31] }), 31, 7, by decide +kernel⟩,
   ⟨working ({ opReq true with stage := .running 0 0 }) (opDone true), { opReq true with stage := .running 0 0 }, opDone true, operatorOut (topk true)
     (opDone true).inputs, intact_of _ (by decide +kernel), rfl, by decide +kernel⟩,
   ⟨working ({ opReq false with stage := .running 0 0 }) (opDone false), { opReq false with stage := .running 0 0 }, opDone false, operatorOut (topk
     false) (opDone false).inputs, (0x5000, 24), intact_of _ (by decide +kernel), rfl, plainNear_of (by decide +kernel) (by decide +kernel),
     by unfold Claims.quiet; decide +kernel, by decide +kernel⟩⟩

theorem test_hypotheses_of_RequestsSettleInOrder :
    (∃ (t : Nat) (s : State) (n : _) (st : _) (r : _) (stat : _), s.jrn.reqs.find? (fun r => r.hdr.src = n ∧ r.hdr.stream = st ∧ r.hdr.seq = (s.stream n
      st).hwm + 1) = some r ∧ r.applied = true ∧ r.mirrored = true ∧ n ∉ s.tabs.retiring ∧ stat = (if r.refused || r.status == .numeric then r.status else
      if (s.at t).pastDeadline r then .deadlineMissed else r.status)) ∧
    (∃ (s : State) (n : _) (st : _), s.jrn.reqs.all (fun r => !(decide (r.hdr.src = n) && decide (r.hdr.stream = st) && decide (r.hdr.seq = (s.stream n
      st).hwm + 1) && r.applied && r.mirrored)) = true) :=
  ⟨⟨1001, openWith [req0] (pairWith 0 manned), (1 : Node), (0x10 : Stream), req0, Status.ok, by decide +kernel⟩,
   ⟨manned, (1 : Node), (0x10 : Stream), by decide +kernel⟩⟩

theorem test_hypotheses_of_WaitingFramesAreServedOrRefused :
    (∃ (s : State) (n : _), n ∈ s.tabs.retiring ∧ s.jrn.reqs.all (fun r => r.hdr.src != n) = true) ∧
    (∃ (s : State) (n : _), (n ∉ s.tabs.retiring ∨ s.jrn.reqs.any (fun r => r.hdr.src == n) = true)) ∧
    (∃ (s : State) (n : _) (st : _) (x : _), s.heldFrame n st (s.stream n st).next = some x) ∧
    (∃ (s : State) (n : _) (st : _), s.heldFrame n st (s.stream n st).next = none) ∧
    (∃ (t : Nat) (s : State) (n : _) (st : _) (q : _) (x : _), s.heldFrame n st q = some x ∧ (s.at t).late x.frame.hdr x.arrive = true) ∧
    (∃ (t : Nat) (s : State) (n : _) (st : _) (q : _) (x : _), s.heldFrame n st q = some x ∧ (s.at t).late x.frame.hdr x.arrive = false) :=
  ⟨⟨manned.modTabs (fun x => { x with retiring := [1] }), (1 : Node), by decide +kernel⟩,
   ⟨manned, (1 : Node), by decide +kernel⟩,
   ⟨waiting 0, (1 : Node), (0x10 : Stream), held1, by decide +kernel⟩,
   ⟨waiting 1, (1 : Node), (0x10 : Stream), by decide +kernel⟩,
   ⟨1000000000, waiting 1, (1 : Node), (0x10 : Stream), (0 : Seq), held1, by decide +kernel⟩,
   ⟨1001, waiting 1, (1 : Node), (0x10 : Stream), (0 : Seq), held1, by decide +kernel⟩⟩

theorem test_hypotheses_of_HandOversMatchTheirHandles :
    (∃ (t : Nat) (a : Arrival) (f : Frame) (s : State) (u : State) (r : _), s.intact ∧ Claims.opens t a f s Claims.handWant (fun _ _ => false) u r ∧
      f.hdr.opcode = 0x40 ∧ handleOk r.payload = true) ∧
    (∃ (t : Nat) (a : Arrival) (f : Frame) (s : State) (u : State) (r : _), s.intact ∧ Claims.opens t a f s Claims.handWant (fun _ _ => false) u r ∧
      f.hdr.opcode = 0x40 ∧ handleOk r.payload = false) ∧
    (∃ (t : Nat) (a : Arrival) (f : Frame) (s : State) (u : State) (r : _) (x : _), s.intact ∧ Claims.opens t a f s Claims.handWant (fun _ _ => false) u r
      ∧ f.hdr.opcode = 0x41 ∧ handleOk r.payload = true ∧ u.jrn.handOvers.find? (fun x => x.taker.isSome && x.index == BitVec.ofNat 32 (beAt r.payload 4
      4) && x.kind == beAt r.payload 2 1) = some x ∧ x.generation = beAt r.payload 8 8 ∧ x.orphan = false ∧ x.taker = some r.hdr.src ∧ beAt r.payload 0 2
      = u.tabs.node.toNat) ∧
    (∃ (t : Nat) (a : Arrival) (f : Frame) (s : State) (u : State) (r : _) (x : _), s.intact ∧ Claims.opens t a f s Claims.handWant (fun _ _ => false) u r
      ∧ f.hdr.opcode = 0x41 ∧ handleOk r.payload = true ∧ u.jrn.handOvers.find? (fun x => x.taker.isSome && x.index == BitVec.ofNat 32 (beAt r.payload 4
      4) && x.kind == beAt r.payload 2 1) = some x ∧ x.generation ≠ beAt r.payload 8 8) ∧
    (∃ (t : Nat) (a : Arrival) (f : Frame) (s : State) (u : State) (r : _) (x : _), s.intact ∧ Claims.opens t a f s Claims.handWant (fun _ _ => false) u r
      ∧ f.hdr.opcode = 0x41 ∧ handleOk r.payload = true ∧ u.jrn.handOvers.find? (fun x => x.taker.isSome && x.index == BitVec.ofNat 32 (beAt r.payload 4
      4) && x.kind == beAt r.payload 2 1) = some x ∧ x.generation = beAt r.payload 8 8 ∧ x.orphan = true) ∧
    (∃ (t : Nat) (s : State) (i : _) (x : _) (k : _), s.jrn.handOvers.find? (fun x => x.taker.isSome && x.index == i && !x.orphan) = some x ∧ x.ackAt =
      some k ∧ k + s.deadlineTicks 2 ≤ max s.now t) ∧
    (∃ (t : Nat) (s : State) (i : _) (x : _) (k : _), s.jrn.handOvers.find? (fun x => x.taker.isSome && x.index == i && !x.orphan) = some x ∧ x.ackAt =
      some k ∧ max s.now t < k + s.deadlineTicks 2) :=
  ⟨⟨1001, port0, fHand 0x40 (handle0 1 7), arrived 128 (fHand 0x40 (handle0 1 7)) (manned), (opened (1001) (port0) (fHand 0x40 (handle0 1 7)) (arrived 128
     (fHand 0x40 (handle0 1 7)) (manned)) Claims.handWant (fun _ _ => false)).1, (opened (1001) (port0) (fHand 0x40 (handle0 1 7)) (arrived 128 (fHand
     0x40 (handle0 1 7)) (manned)) Claims.handWant (fun _ _ => false)).2, intact_of _ (by decide +kernel), opens_of (by decide +kernel),
     by decide +kernel⟩,
   ⟨1001, port0, fHand 0x40 (handle0 4 7), arrived 128 (fHand 0x40 (handle0 4 7)) (manned), (opened (1001) (port0) (fHand 0x40 (handle0 4 7)) (arrived 128
     (fHand 0x40 (handle0 4 7)) (manned)) Claims.handWant (fun _ _ => false)).1, (opened (1001) (port0) (fHand 0x40 (handle0 4 7)) (arrived 128 (fHand
     0x40 (handle0 4 7)) (manned)) Claims.handWant (fun _ _ => false)).2, intact_of _ (by decide +kernel), opens_of (by decide +kernel),
     by decide +kernel⟩,
   ⟨1001, port0, fHand 0x41 (handle0 1 7), arrived 128 (fHand 0x41 (handle0 1 7)) (handing handOver0), (opened (1001) (port0) (fHand 0x41 (handle0 1 7))
     (arrived 128 (fHand 0x41 (handle0 1 7)) (handing handOver0)) Claims.handWant (fun _ _ => false)).1, (opened (1001) (port0) (fHand 0x41 (handle0 1 7))
     (arrived 128 (fHand 0x41 (handle0 1 7)) (handing handOver0)) Claims.handWant (fun _ _ => false)).2, handOver0, intact_of _ (by decide +kernel),
     opens_of (by decide +kernel), by decide +kernel⟩,
   ⟨1001, port0, fHand 0x41 (handle0 1 8), arrived 128 (fHand 0x41 (handle0 1 8)) (handing handOver0), (opened (1001) (port0) (fHand 0x41 (handle0 1 8))
     (arrived 128 (fHand 0x41 (handle0 1 8)) (handing handOver0)) Claims.handWant (fun _ _ => false)).1, (opened (1001) (port0) (fHand 0x41 (handle0 1 8))
     (arrived 128 (fHand 0x41 (handle0 1 8)) (handing handOver0)) Claims.handWant (fun _ _ => false)).2, handOver0, intact_of _ (by decide +kernel),
     opens_of (by decide +kernel), by decide +kernel⟩,
   ⟨1001, port0, fHand 0x41 (handle0 1 7), arrived 128 (fHand 0x41 (handle0 1 7)) (handing { handOver0 with orphan := true }), (opened (1001) (port0)
     (fHand 0x41 (handle0 1 7)) (arrived 128 (fHand 0x41 (handle0 1 7)) (handing { handOver0 with orphan := true })) Claims.handWant (fun _ _ =>
     false)).1, (opened (1001) (port0) (fHand 0x41 (handle0 1 7)) (arrived 128 (fHand 0x41 (handle0 1 7)) (handing { handOver0 with orphan := true }))
     Claims.handWant (fun _ _ => false)).2, { handOver0 with orphan := true }, intact_of _ (by decide +kernel), opens_of (by decide +kernel),
     by decide +kernel⟩,
   ⟨1000000000, handing handOver0, (5 : BitVec 32), handOver0, 900, by decide +kernel⟩,
   ⟨1001, handing handOver0, (5 : BitVec 32), handOver0, 900, by decide +kernel⟩⟩

theorem test_hypotheses_of_MirrorsFollowThePartner :
    (∃ (t : Nat) (a : Arrival) (f : Frame) (s : State) (v : _) (d : _) (e : _), s.intact ∧ (s.at t).receive a f = .here v d ∧ f.hdr.opcode = 0x90 ∧
      v.mirrorFenced = false ∧ d.pcheck = crc32c d.payload ∧ v.epochOk d.hdr = true ∧ v.tabs.paired = true ∧ d.hdr.src = v.tabs.partner ∧ (d.hdr.stream =
      0x7E ∨ d.hdr.stream = 0x7F) ∧ entryCheckOk d.payload = true ∧ JEntry.ofBytes d.payload v.now = some e ∧ (e.opcode = 0x04 → e.state ≠ .applied) ∧ (∀
      x ∈ (v.writer e.writer).shadow, x.index ≠ e.index)) ∧
    (∃ (t : Nat) (a : Arrival) (f : Frame) (s : State) (v : _) (d : _), s.intact ∧ (s.at t).receive a f = .here v d ∧ f.hdr.opcode = 0x90 ∧ v.mirrorFenced
      = true) :=
  ⟨⟨1001, port0, fMirror, arrived 128 (fMirror) (pairWith 2 manned), (received (((arrived 128 (fMirror) (pairWith 2 manned)).at (1001)).receive (port0)
     (fMirror))).1, (received (((arrived 128 (fMirror) (pairWith 2 manned)).at (1001)).receive (port0) (fMirror))).2, { entry0 with at_ := 1001 },
     intact_of _ (by decide +kernel), here_of (by decide +kernel), by decide +kernel⟩,
   ⟨1001, port0, fMirror, arrived 128 (fMirror) ((pairWith 2 manned).modHlt (fun h => { h with fence := 1 })), (received (((arrived 128 (fMirror)
     ((pairWith 2 manned).modHlt (fun h => { h with fence := 1 }))).at (1001)).receive (port0) (fMirror))).1, (received (((arrived 128 (fMirror)
     ((pairWith 2 manned).modHlt (fun h => { h with fence := 1 }))).at (1001)).receive (port0) (fMirror))).2, intact_of _ (by decide +kernel),
     here_of (by decide +kernel), by decide +kernel⟩⟩

theorem test_hypotheses_of_JournalTimersKeepTheJournal :
    (∃ (t : Nat) (s : State) (w : _), s.intact ∧ w < 2 ∧ markDue (s.writer w) = true ∧ (s.writer w).lastMarkAt + 2 * ticksPerUs ≤ max s.now t) ∧
    (∃ (s : State) (w : _), w < 2 ∧ markDue (s.writer w) = false) ∧
    (∃ (t : Nat) (s : State) (w : _), s.intact ∧ w < 2 ∧ s.mirrors = true ∧ (s.writer w).lastMirrorAt + s.cfg.hoop.fenceMs * ticksPerMs / 8 ≤ max s.now t) ∧
    (∃ (s : State) (w : _), s.intact ∧ w < 2) ∧
    (∃ (s : State) (w : _), s.intact ∧ w < 2) ∧
    (∃ (s : State) (g : _), s.tabs.grace = some g) ∧
    (∃ (t : Nat) (s : State) (w : _) (i : _) (o : _), w < 2 ∧ s.jrn.outs.find? (fun o => o.owner == .mirror w i) = some o ∧ o.resendAt = none ∧ o.sentAt +
      s.deadlineTicks o.hdr.tc.toNat ≤ max s.now t ∧ o.attempts < 2) ∧
    (∃ (t : Nat) (s : State) (w : _) (i : _) (o : _), w < 2 ∧ s.jrn.outs.find? (fun o => o.owner == .mirror w i) = some o ∧ o.resendAt = none ∧ o.sentAt +
      s.deadlineTicks o.hdr.tc.toNat ≤ max s.now t ∧ 2 ≤ o.attempts ∧ s.jrn.solo = false ∧ s.hlt.partnerLost = none ∧ s.hlt.fence = 0) ∧
    (∃ (s : State), (∀ o ∈ s.jrn.outs, ∀ l w i, o.owner = .landing l w i → w < 2 ∨ 1 < o.attempts ∨ o.resendAt.isSome = true) ∧ s.jrn.failover = true) ∧
    (∃ (s : State), s.jrn.failover = false) :=
  ⟨⟨1000000, openWith [] manned, 0, intact_of _ (by decide +kernel), by decide +kernel⟩,
   ⟨manned, 1, by decide +kernel⟩,
   ⟨100000000000, pairWith 1 manned, 1, intact_of _ (by decide +kernel), by decide +kernel⟩,
   ⟨openWith [] manned, 1, intact_of _ (by decide +kernel), by decide +kernel⟩,
   ⟨manned, 1, intact_of _ (by decide +kernel), by decide +kernel⟩,
   ⟨manned.modTabs (fun x => { x with grace := some 900 }), 900, by decide +kernel⟩,
   ⟨1000000000, (pairWith 1 manned).modJrn (fun j => { j with outs := [mirrorOut] }), 0, 0, mirrorOut, by decide +kernel⟩,
   ⟨1000000000, (pairWith 1 manned).modJrn (fun j => { j with outs := [{ mirrorOut with attempts := 2 }] }), 0, 0, { mirrorOut with attempts := 2 },
     by decide +kernel⟩,
   ⟨manned.modJrn (fun j => { j with failover := true }), empty_of (by decide +kernel), by decide +kernel⟩,
   ⟨manned, by decide +kernel⟩⟩

theorem test_hypotheses_of_ResponsesReachTheirFrames :
    (∃ (t : Nat) (a : Arrival) (f : Frame) (s : State) (v : _) (d : _), (s.at t).receive a f = .here v d ∧ f.hdr.opcode = 0x80 ∧ v.outFrame d.hdr.src
      d.hdr.stream d.hdr.seq = none) ∧
    (∃ (t : Nat) (a : Arrival) (f : Frame) (s : State) (v : _) (d : _) (o : _), (s.at t).receive a f = .here v d ∧ f.hdr.opcode = 0x80 ∧ v.outFrame
      d.hdr.src d.hdr.stream d.hdr.seq = some o ∧ (d.hdr.carries = true → d.pcheck = crc32c d.payload) ∧ responseSettled d.hdr = true ∧ statusUnknown
      (responseStatus d.hdr) = false ∧ o.owner = .fill) ∧
    (∃ (t : Nat) (a : Arrival) (f : Frame) (s : State) (v : _) (d : _) (o : _) (c : _) (k : _), (s.at t).receive a f = .here v d ∧ f.hdr.opcode = 0x80 ∧
      v.outFrame d.hdr.src d.hdr.stream d.hdr.seq = some o ∧ (d.hdr.carries = true → d.pcheck = crc32c d.payload) ∧ responseSettled d.hdr = true ∧
      statusUnknown (responseStatus d.hdr) = false ∧ o.owner = .core c k ∧ o.hdr.opcode = 1) ∧
    (∃ (t : Nat) (a : Arrival) (f : Frame) (s : State) (v : _) (d : _) (o : _) (x : _) (i : _), (s.at t).receive a f = .here v d ∧ f.hdr.opcode = 0x80 ∧
      v.outFrame d.hdr.src d.hdr.stream d.hdr.seq = some o ∧ (d.hdr.carries = true → d.pcheck = crc32c d.payload) ∧ responseSettled d.hdr = true ∧
      statusUnknown (responseStatus d.hdr) = false ∧ o.owner = .mirror x i ∧ v.eng.colls = [] ∧ v.jrn.draining = false) ∧
    (∃ (t : Nat) (a : Arrival) (f : Frame) (s : State) (v : _) (d : _), (s.at t).receive a f = .here v d ∧ f.hdr.opcode = 0x81 ∧ v.outFrame d.hdr.src
      d.hdr.stream d.hdr.seq = none) ∧
    (∃ (t : Nat) (a : Arrival) (f : Frame) (s : State) (v : _) (d : _) (o : _) (id : _), (s.at t).receive a f = .here v d ∧ f.hdr.opcode = 0x81 ∧
      v.outFrame d.hdr.src d.hdr.stream d.hdr.seq = some o ∧ d.hdr.carries = false ∧ statusUnknown (responseStatus d.hdr) = false ∧ responseSettled d.hdr
      = false ∧ responseStatus d.hdr ≠ .targetLost ∧ (o.owner = .copy id ∨ o.owner = .tray id ∨ o.owner = .operand id)) ∧
    (∃ (t : Nat) (a : Arrival) (f : Frame) (s : State) (v : _) (d : _) (o : _) (r : _), (s.at t).receive a f = .here v d ∧ f.hdr.opcode = 0x81 ∧
      v.outFrame d.hdr.src d.hdr.stream d.hdr.seq = some o ∧ d.hdr.carries = false ∧ statusUnknown (responseStatus d.hdr) = false ∧ responseSettled d.hdr
      = true ∧ o.owner = .copy r.id ∧ v.req r.id = some r ∧ r.stage = .frames ∧ r.dup = none ∧ r.refused = false) :=
  ⟨⟨1001, port0, fResp true 2 .ok true [], arrived 128 (fResp true 2 .ok true []) (manned), (received (((arrived 128 (fResp true 2 .ok true [])
     (manned)).at (1001)).receive (port0) (fResp true 2 .ok true []))).1, (received (((arrived 128 (fResp true 2 .ok true []) (manned)).at (1001)).receive
     (port0) (fResp true 2 .ok true []))).2, here_of (by decide +kernel), by decide +kernel⟩,
   ⟨1001, port0, fResp true 2 .ok true [], arrived 128 (fResp true 2 .ok true []) (sending (outTo 2 .fill)), (received (((arrived 128 (fResp true 2 .ok
     true []) (sending (outTo 2 .fill))).at (1001)).receive (port0) (fResp true 2 .ok true []))).1, (received (((arrived 128 (fResp true 2 .ok true [])
     (sending (outTo 2 .fill))).at (1001)).receive (port0) (fResp true 2 .ok true []))).2, outTo 2 .fill, here_of (by decide +kernel), by decide +kernel⟩,
   ⟨1001, port0, fResp true 1 .ok true [9, 9, 9, 9], arrived 128 (fResp true 1 .ok true [9, 9, 9, 9]) (sending (outTo 1 (.core 31 7))), (received
     (((arrived 128 (fResp true 1 .ok true [9, 9, 9, 9]) (sending (outTo 1 (.core 31 7)))).at (1001)).receive (port0) (fResp true 1 .ok true [9, 9, 9,
     9]))).1, (received (((arrived 128 (fResp true 1 .ok true [9, 9, 9, 9]) (sending (outTo 1 (.core 31 7)))).at (1001)).receive (port0) (fResp true 1 .ok
     true [9, 9, 9, 9]))).2, outTo 1 (.core 31 7), 31, 7, here_of (by decide +kernel), by decide +kernel⟩,
   ⟨1001, port0, fResp true 2 .ok true [], arrived 128 (fResp true 2 .ok true []) ((openWith [{ req0 with mirrored := false }] (sending (outTo 2 (.mirror
     0 0))))), (received (((arrived 128 (fResp true 2 .ok true []) ((openWith [{ req0 with mirrored := false }] (sending (outTo 2 (.mirror 0 0)))))).at
     (1001)).receive (port0) (fResp true 2 .ok true []))).1, (received (((arrived 128 (fResp true 2 .ok true []) ((openWith
     [{ req0 with mirrored := false }] (sending (outTo 2 (.mirror 0 0)))))).at (1001)).receive (port0) (fResp true 2 .ok true []))).2, outTo 2 (.mirror 0
     0), 0, 0, here_of (by decide +kernel), by decide +kernel⟩,
   ⟨1001, port0, fResp false 2 .denied true [], arrived 128 (fResp false 2 .denied true []) (manned), (received (((arrived 128 (fResp false 2 .denied true
     []) (manned)).at (1001)).receive (port0) (fResp false 2 .denied true []))).1, (received (((arrived 128 (fResp false 2 .denied true []) (manned)).at
     (1001)).receive (port0) (fResp false 2 .denied true []))).2, here_of (by decide +kernel), by decide +kernel⟩,
   ⟨1001, port0, fResp false 2 .throttled false [], arrived 128 (fResp false 2 .throttled false []) (sending (outTo 2 (.copy 0))), (received (((arrived
     128 (fResp false 2 .throttled false []) (sending (outTo 2 (.copy 0)))).at (1001)).receive (port0) (fResp false 2 .throttled false []))).1, (received
     (((arrived 128 (fResp false 2 .throttled false []) (sending (outTo 2 (.copy 0)))).at (1001)).receive (port0) (fResp false 2 .throttled false []))).2,
     outTo 2 (.copy 0), 0, here_of (by decide +kernel), by decide +kernel⟩,
   ⟨1001, port0, fResp false 2 .denied true [], arrived 128 (fResp false 2 .denied true []) (openWith [framesReq] (sending (outTo 2 (.copy 0)))),
     (received (((arrived 128 (fResp false 2 .denied true []) (openWith [framesReq] (sending (outTo 2 (.copy 0))))).at (1001)).receive (port0) (fResp
     false 2 .denied true []))).1, (received (((arrived 128 (fResp false 2 .denied true []) (openWith [framesReq] (sending (outTo 2 (.copy 0))))).at
     (1001)).receive (port0) (fResp false 2 .denied true []))).2, outTo 2 (.copy 0), framesReq, here_of (by decide +kernel), by decide +kernel⟩⟩

theorem test_hypotheses_of_FramesAreSentAgainUntilAnswered :
    (∃ (t : Nat) (s : State) (n : _) (st : _) (q : _) (o : _) (k : _), (o.owner = .fill ∨ o.owner = .resync ∨ (∃ id, o.owner = .copy id ∨ o.owner = .tray
      id ∨ o.owner = .operand id)) ∧ s.outFrame n st q = some o ∧ o.resendAt = some k ∧ k ≤ max s.now t) ∧
    (∃ (s : State) (n : _) (st : _) (q : _) (o : _), s.outFrame n st q = some o ∧ o.resendAt = none) ∧
    (∃ (t : Nat) (s : State) (n : _) (st : _) (q : _) (o : _), (o.owner = .fill ∨ o.owner = .resync ∨ (∃ id, o.owner = .copy id ∨ o.owner = .tray id ∨
      o.owner = .operand id)) ∧ s.outFrame n st q = some o ∧ o.resendAt = none ∧ o.sentAt + s.deadlineTicks o.hdr.tc.toNat ≤ max s.now t) ∧
    (∃ (t : Nat) (s : State) (n : _) (st : _) (q : _) (o : _), s.outFrame n st q = some o ∧ max s.now t < o.sentAt + s.deadlineTicks o.hdr.tc.toNat) ∧
    (∃ (t : Nat) (s : State) (r : _), (∀ o ∈ s.framesOf r.id, ∀ k, o.owner ≠ .operand k) ∧ s.req r.id = some r ∧ r.stage = .frames ∧ r.applied = false ∧
      r.refused = false ∧ r.dup = none ∧ s.ageLimit r.hdr.tc.toNat ≤ (s.at t).ageNow r) ∧
    (∃ (t : Nat) (s : State) (r : _), s.req r.id = some r ∧ (s.at t).ageNow r < s.ageLimit r.hdr.tc.toNat) ∧
    (∃ (t : Nat) (s : State) (n : _) (st : _) (q : _) (o : _) (l : _) (w : _) (i : _), s.outFrame n st q = some o ∧ o.owner = .landing l w i ∧ (s.at
      t).landingOld o = true) ∧
    (∃ (t : Nat) (s : State) (n : _) (st : _) (q : _) (o : _) (l : _) (w : _) (i : _), s.outFrame n st q = some o ∧ o.owner = .landing l w i ∧ (s.at
      t).landingOld o = false) :=
  ⟨⟨1001, sending { outTo 2 .fill with resendAt := some 950 }, (3 : Node), (0x60 : Stream), (0 : Seq), { outTo 2 .fill with resendAt := some 950 }, 950,
     .inl rfl, by decide +kernel⟩,
   ⟨sending (outTo 2 .fill), (3 : Node), (0x60 : Stream), (0 : Seq), outTo 2 .fill, by decide +kernel⟩,
   ⟨1000000000, sending (outTo 2 .fill), (3 : Node), (0x60 : Stream), (0 : Seq), outTo 2 .fill, .inl rfl, by decide +kernel⟩,
   ⟨1001, sending (outTo 2 .fill), (3 : Node), (0x60 : Stream), (0 : Seq), outTo 2 .fill, by decide +kernel⟩,
   ⟨1000000000, openWith [framesReq] manned, framesReq, empty_of (by decide +kernel), by decide +kernel⟩,
   ⟨1001, openWith [framesReq] manned, framesReq, by decide +kernel⟩,
   ⟨1000000000, sending (outTo 2 (.landing 0x1000 0 0)), (3 : Node), (0x60 : Stream), (0 : Seq), outTo 2 (.landing 0x1000 0 0), 0x1000, 0, 0,
     by decide +kernel⟩,
   ⟨1001, sending (outTo 2 (.landing 0x1000 0 0)), (3 : Node), (0x60 : Stream), (0 : Seq), outTo 2 (.landing 0x1000 0 0), 0x1000, 0, 0, by decide +kernel⟩⟩

theorem test_hypotheses_of_HealthScoresMoveParts :
    (∃ (s : State), s.hlt.states = [] ∧ s.hlt.suspects = [] ∧ (∀ p < 105, Claims.scoreAfter s p < s.threshold p)) ∧
    (∃ (s : State) (k : _), k < 64 ∧ s.hlt.states = [] ∧ s.hlt.suspects = [] ∧ (∀ p < 105, p ≠ 32 + k → Claims.scoreAfter s p < s.threshold p) ∧
      s.threshold (32 + k) ≤ Claims.scoreAfter s (32 + k) ∧ nth s.hlt.thresholds 1 ≤ nth s.cfg.hoop.expelMax 1) ∧
    (∃ (t : Nat) (s : State) (k : _) (rest : _), k < 64 ∧ s.hlt.suspects = (32 + k) :: rest ∧ s.partState (32 + k) = .suspect ∧ (s.at t).expelRoom = true
      ∧ s.threshold (32 + k) ≤ s.score (32 + k)) ∧
    (∃ (t : Nat) (s : State), (s.hlt.suspects = [] ∨ (s.at t).expelRoom = false)) ∧
    (∃ (t : Nat) (s : State) (k : _), k < 5 ∧ s.hlt.thresholds.length = 5 ∧ s.hlt.lastCandidate.length = 5 ∧ nth s.hlt.lastCandidate k +
      s.cfg.hoop.expelWindowS * 1000 * ticksPerMs ≤ max s.now t) ∧
    (∃ (t : Nat) (s : State) (k : _), k < 5 ∧ max s.now t < nth s.hlt.lastCandidate k + s.cfg.hoop.expelWindowS * 1000 * ticksPerMs) :=
  ⟨⟨manned.modHlt (fun h => { h with inputs := [(104, 5)] }), by decide +kernel⟩,
   ⟨manned.modHlt (fun h => { h with inputs := [(95, 5000)] }), 63, by decide +kernel⟩,
   ⟨1001, manned.modHlt (fun h => { h with suspects := [95], states := [(95, .suspect)], scores := [(95, 2000)] }), 63, ([] : List Nat),
     by decide +kernel⟩,
   ⟨1001, manned, by decide +kernel⟩,
   ⟨100000000000000, manned, 4, by decide +kernel⟩,
   ⟨1001, manned, 4, by decide +kernel⟩⟩

theorem test_hypotheses_of_FencesFollowTheQuorum :
    (∃ (t : Nat) (s : State), s.tabs.witnesses.isSome = true ∧ s.hlt.fence = 0 ∧ (s.at t).hasQuorum = false) ∧
    (∃ (t : Nat) (s : State), s.tabs.witnesses.isSome = true ∧ s.hlt.fence = 2 ∧ (s.at t).hasQuorum = true ∧ s.hlt.fenceEpoch = s.tabs.compEpoch) ∧
    (∃ (t : Nat) (s : State), (s.tabs.witnesses = none ∨ (s.hlt.fence = 0 ∧ (s.at t).hasQuorum = true) ∨ (s.hlt.fence = 2 ∧ (s.at t).hasQuorum = false))) ∧
    (∃ (t : Nat) (s : State) (k : _), s.jrn.soloHold = some k ∧ s.hlt.fence = 0 ∧ k + s.cfg.hoop.fenceMs * ticksPerMs ≤ max s.now t) ∧
    (∃ (t : Nat) (s : State), (∀ k, s.jrn.soloHold = some k → max s.now t < k + s.cfg.hoop.fenceMs * ticksPerMs)) ∧
    (∃ (s : State) (c : _) (part : _) (split : _), s.intact ∧ c < 32 ∧ s.tabs.leaving.find? (fun l => l.1 = c) = some (c, part, split) ∧ s.eng.jobs.all
      (·.cluster != c) = true) ∧
    (∃ (s : State) (c : _), c < 32 ∧ (s.tabs.leaving.find? (fun l => l.1 = c) = none ∨ s.eng.jobs.any (·.cluster == c) = true)) :=
  ⟨⟨1001, openWith [{ req0 with applied := false, index := none }] (managed 0), by decide +kernel⟩,
   ⟨1001, (managed 2).modHlt (fun h => { h with contactA := some 900 }), by decide +kernel⟩,
   ⟨1001, manned, by decide +kernel⟩,
   ⟨100000000000, manned.modJrn (fun j => { j with soloHold := some 900 }), 900, by decide +kernel⟩,
   ⟨1001, manned.modJrn (fun j => { j with soloHold := some 900 }), by decide +kernel⟩,
   ⟨(manned.modCluster 31 (fun c => { c with assigned := true, leaving := true, scratch := [(0, 1)] })).modTabs (fun x =>
     { x with leaving := [(31, none, none)] }), 31, (none : Option Nat), (none : Option Nat), intact_of _ (by decide +kernel), by decide +kernel⟩,
   ⟨manned, 31, by decide +kernel⟩⟩

theorem test_hypotheses_of_ResyncsRebuildTheJournal :
    (∃ (t : Nat) (a : Arrival) (f : Frame) (s : State) (v : _) (d : _) (die : _) (q : _), (s.at t).receive a f = .here v d ∧ f.hdr.opcode = 0x02 ∧
      f.hdr.stream = 0x7B ∧ v.resyncFrame d.hdr = true ∧ d.hdr.stream = 0x7B ∧ d.pcheck = crc32c d.payload ∧ v.epochOk d.hdr = true ∧ d.payload.length =
      64 ∧ v.journalAt d.hdr.offset.toNat = some (die, q) ∧ q < tableBytes) ∧
    (∃ (t : Nat) (a : Arrival) (f : Frame) (s : State) (v : _) (d : _) (die : _) (q : _) (e : _), (s.at t).receive a f = .here v d ∧ f.hdr.opcode = 0x02 ∧
      f.hdr.stream = 0x7B ∧ v.resyncFrame d.hdr = true ∧ d.hdr.stream = 0x7B ∧ d.pcheck = crc32c d.payload ∧ v.epochOk d.hdr = true ∧ d.payload.length =
      64 ∧ v.journalAt d.hdr.offset.toNat = some (die, q) ∧ 2 * tableBytes ≤ q ∧ q < 2 * tableBytes + ringBytes ∧ die < 2 ∧ v.jrn.writers.length = 2 ∧
      entryCheckOk d.payload = true ∧ JEntry.ofBytes d.payload v.now = some e) ∧
    (∃ (s : State), s.intact ∧ s.hlt.resync = 1) ∧
    (∃ (s : State), s.hlt.resync = 2 ∧ s.hlt.resyncTodo = [] ∧ s.jrn.outs.all (fun o => o.owner != .resync) = true) ∧
    (∃ (s : State), s.hlt.resync ≠ 1 ∧ s.hlt.resync ≠ 2) :=
  ⟨⟨1001, port0, fResync 732291923968 streamBytes, arrived 128 (fResync 732291923968 streamBytes) (resyncing), (received (((arrived 128 (fResync
     732291923968 streamBytes) (resyncing)).at (1001)).receive (port0) (fResync 732291923968 streamBytes))).1, (received (((arrived 128 (fResync
     732291923968 streamBytes) (resyncing)).at (1001)).receive (port0) (fResync 732291923968 streamBytes))).2, 0, 0, here_of (by decide +kernel),
     by decide +kernel⟩,
   ⟨1001, port0, fResync 783898640384 entry0.bytes, arrived 128 (fResync 783898640384 entry0.bytes) (resyncing), (received (((arrived 128 (fResync
     783898640384 entry0.bytes) (resyncing)).at (1001)).receive (port0) (fResync 783898640384 entry0.bytes))).1, (received (((arrived 128 (fResync
     783898640384 entry0.bytes) (resyncing)).at (1001)).receive (port0) (fResync 783898640384 entry0.bytes))).2, 1, 2 * tableBytes,
     { entry0 with at_ := 1001 }, here_of (by decide +kernel), by decide +kernel⟩,
   ⟨resyncing, intact_of _ (by decide +kernel), by decide +kernel⟩,
   ⟨(pairWith 1 manned).modHlt (fun h => { h with resync := 2 }), by decide +kernel⟩,
   ⟨manned, by decide +kernel⟩⟩

theorem test_hypotheses_of_DoorbellsMoveSchedulesAndChannels :
    (∃ (t : Nat) (a : Arrival) (f : Frame) (s : State) (u : State) (r : _) (x : _) (o : _) (n : _), s.intact ∧ Claims.opens t a f s Claims.storeWant
      Claims.storeWaits u r ∧ Claims.wordStore u r o ∧ f.hdr.opcode = 0x02 ∧ u.tabs.schedules.find? (fun x => !x.ended && overlaps o 8 x.doorbell 8) =
      some x ∧ x.doorbell = o ∧ u.schedule x.part = some x ∧ u.tabs.bindings.all (fun b => !overlaps o 8 b.doorbell 8) = true ∧ n = leNat r.payload ∧ n ≤
      x.cur) ∧
    (∃ (t : Nat) (a : Arrival) (f : Frame) (s : State) (u : State) (r : _) (x : _) (o : _) (n : _), s.intact ∧ Claims.opens t a f s Claims.storeWant
      Claims.storeWaits u r ∧ Claims.wordStore u r o ∧ f.hdr.opcode = 0x02 ∧ u.tabs.schedules.find? (fun x => !x.ended && overlaps o 8 x.doorbell 8) =
      some x ∧ x.doorbell = o ∧ u.schedule x.part = some x ∧ u.tabs.bindings.all (fun b => !overlaps o 8 b.doorbell 8) = true ∧ n = leNat r.payload ∧
      x.cur < n ∧ u.stepWait x n = .ready ∧ u.mem.filter = []) ∧
    (∃ (t : Nat) (a : Arrival) (f : Frame) (s : State) (u : State) (r : _) (x : _) (o : _) (n : _), s.intact ∧ Claims.opens t a f s Claims.storeWant
      Claims.storeWaits u r ∧ Claims.wordStore u r o ∧ f.hdr.opcode = 0x02 ∧ u.tabs.schedules.find? (fun x => !x.ended && overlaps o 8 x.doorbell 8) =
      some x ∧ x.doorbell = o ∧ u.schedule x.part = some x ∧ u.tabs.bindings.all (fun b => !overlaps o 8 b.doorbell 8) = true ∧ n = leNat r.payload ∧
      x.cur < n ∧ u.stepWait x n = .lost) ∧
    (∃ (t : Nat) (a : Arrival) (f : Frame) (s : State) (u : State) (r : _) (x : _) (o : _) (n : _) (cause : _), s.intact ∧ Claims.opens t a f s
      Claims.storeWant Claims.storeWaits u r ∧ Claims.wordStore u r o ∧ f.hdr.opcode = 0x02 ∧ u.tabs.schedules.find? (fun x => !x.ended && overlaps o 8
      x.doorbell 8) = some x ∧ x.doorbell = o ∧ u.schedule x.part = some x ∧ u.tabs.bindings.all (fun b => !overlaps o 8 b.doorbell 8) = true ∧ n = leNat
      r.payload ∧ x.cur < n ∧ u.stepWait x n = .wait cause) ∧
    (∃ (s : State) (p : _) (step : _) (entry : _) (x : _) (e : _) (i : _), p < 16 ∧ s.schedule p = some x ∧ x.entries[entry]? = some e ∧ x.instances.find?
      (fun i => i.step = step ∧ i.entry = entry) = some i ∧ s.pfArrived e p i = true) ∧
    (∃ (s : State) (p : _), p < 16 ∧ s.schedule p = none) ∧
    (∃ (t : Nat) (s : State) (p : _) (r : _) (n : _), p < 16 ∧ s.jrn.reqs = [r] ∧ r.stage = .doorbell p n ∧ r.dup = none ∧ r.refused = false ∧ (s.at
      t).pastDeadline r = true) ∧
    (∃ (t : Nat) (s : State) (p : _), p < 16 ∧ s.jrn.reqs.all (fun r => (match r.stage with | .doorbell q _ => q != p | _ => true) || !(s.at t).pastDeadline r) = true) ∧
    (∃ (t : Nat) (s : State), s.hoop.window < (s.at t).windowNow) ∧
    (∃ (t : Nat) (s : State), (s.at t).windowNow ≤ s.hoop.window) ∧
    (∃ (t : Nat) (a : Arrival) (f : Frame) (s : State) (u : State) (r : _) (b : _) (ch : _) (o : _) (n : _), s.intact ∧ Claims.opens t a f s
      Claims.storeWant Claims.storeWaits u r ∧ Claims.wordStore u r o ∧ f.hdr.opcode = 0x02 ∧ (∀ x ∈ u.tabs.schedules, overlaps o 8 x.doorbell 8 = false)
      ∧ u.tabs.bindings.filter (fun b => overlaps o 8 b.doorbell 8) = [b] ∧ b.doorbell = o ∧ ch = 64 * b.die + b.ch ∧ ch < 128 ∧ u.bindingOf ch = some b ∧
      n = leNat r.payload) ∧
    (∃ (t : Nat) (a : Arrival) (f : Frame) (s : State) (u : State) (r : _) (b : _) (ch : _) (o : _) (n : _), s.intact ∧ Claims.opens t a f s
      Claims.storeWant Claims.storeWaits u r ∧ Claims.wordStore u r o ∧ f.hdr.opcode = 0x02 ∧ (∀ x ∈ u.tabs.schedules, overlaps o 8 x.doorbell 8 = false)
      ∧ u.tabs.bindings.filter (fun b => overlaps o 8 b.doorbell 8) = [b] ∧ b.doorbell = o ∧ ch = 64 * b.die + b.ch ∧ ch < 128 ∧ u.bindingOf ch = some b ∧
      n = leNat r.payload ∧ (u.chan ch).state = 3 ∧ n.testBit 63 = false) ∧
    (∃ (t : Nat) (a : Arrival) (f : Frame) (s : State) (u : State) (r : _) (b : _) (ch : _) (o : _) (n : _), s.intact ∧ Claims.opens t a f s
      Claims.storeWant Claims.storeWaits u r ∧ Claims.wordStore u r o ∧ f.hdr.opcode = 0x02 ∧ (∀ x ∈ u.tabs.schedules, overlaps o 8 x.doorbell 8 = false)
      ∧ u.tabs.bindings.filter (fun b => overlaps o 8 b.doorbell 8) = [b] ∧ b.doorbell = o ∧ ch = 64 * b.die + b.ch ∧ ch < 128 ∧ u.bindingOf ch = some b ∧
      n = leNat r.payload ∧ (u.chan ch).state = 1 ∧ (u.chan ch).active = none ∧ (u.chan ch).unbinding = false ∧ bits n 32 31 ≠ 0) ∧
    (∃ (t : Nat) (a : Arrival) (f : Frame) (s : State) (u : State) (r : _) (b : _) (ch : _) (o : _) (n : _), s.intact ∧ Claims.opens t a f s
      Claims.storeWant Claims.storeWaits u r ∧ Claims.wordStore u r o ∧ f.hdr.opcode = 0x02 ∧ (∀ x ∈ u.tabs.schedules, overlaps o 8 x.doorbell 8 = false)
      ∧ u.tabs.bindings.filter (fun b => overlaps o 8 b.doorbell 8) = [b] ∧ b.doorbell = o ∧ ch = 64 * b.die + b.ch ∧ ch < 128 ∧ u.bindingOf ch = some b ∧
      n = leNat r.payload ∧ (leNat f.payload).testBit 63 = true ∧ (u.chan ch).state = 3 ∧ n.testBit 63 = true ∧ bits n 32 31 = 0 ∧ n % 2 ^ 32 = (u.chan
      ch).consumer ∧ (u.chan ch).active = none ∧ (u.chan ch).shadow = none) :=
  ⟨⟨1001, port0, fWord 5 0, arrived 128 (fWord 5 0) (scheduled sched0), (opened (1001) (port0) (fWord 5 0) (arrived 128 (fWord 5 0) (scheduled sched0))
     Claims.storeWant Claims.storeWaits).1, (opened (1001) (port0) (fWord 5 0) (arrived 128 (fWord 5 0) (scheduled sched0)) Claims.storeWant
     Claims.storeWaits).2, sched0, 0x1000, 5, intact_of _ (by decide +kernel), opens_of (by decide +kernel),
     wordStore_of (by decide +kernel) (plainNear_of (by decide +kernel) (by decide +kernel)) (by decide +kernel), by decide +kernel⟩,
   ⟨1001, port0, fWord 6 0, arrived 128 (fWord 6 0) (scheduled sched0), (opened (1001) (port0) (fWord 6 0) (arrived 128 (fWord 6 0) (scheduled sched0))
     Claims.storeWant Claims.storeWaits).1, (opened (1001) (port0) (fWord 6 0) (arrived 128 (fWord 6 0) (scheduled sched0)) Claims.storeWant
     Claims.storeWaits).2, sched0, 0x1000, 6, intact_of _ (by decide +kernel), opens_of (by decide +kernel),
     wordStore_of (by decide +kernel) (plainNear_of (by decide +kernel) (by decide +kernel)) (by decide +kernel), by decide +kernel⟩,
   ⟨1001, port0, fWord 6 0, arrived 128 (fWord 6 0) (scheduled (schedHeld { inst0 with lost := true })), (opened (1001) (port0) (fWord 6 0) (arrived 128
     (fWord 6 0) (scheduled (schedHeld { inst0 with lost := true }))) Claims.storeWant Claims.storeWaits).1, (opened (1001) (port0) (fWord 6 0) (arrived
     128 (fWord 6 0) (scheduled (schedHeld { inst0 with lost := true }))) Claims.storeWant Claims.storeWaits).2, schedHeld { inst0 with lost := true },
     0x1000, 6, intact_of _ (by decide +kernel), opens_of (by decide +kernel),
     wordStore_of (by decide +kernel) (plainNear_of (by decide +kernel) (by decide +kernel)) (by decide +kernel), by decide +kernel⟩,
   ⟨1001, port0, fWord 6 0, arrived 128 (fWord 6 0) (scheduled (schedHeld inst0)), (opened (1001) (port0) (fWord 6 0) (arrived 128 (fWord 6 0) (scheduled
     (schedHeld inst0))) Claims.storeWant Claims.storeWaits).1, (opened (1001) (port0) (fWord 6 0) (arrived 128 (fWord 6 0) (scheduled (schedHeld inst0)))
     Claims.storeWant Claims.storeWaits).2, schedHeld inst0, 0x1000, 6, 1, intact_of _ (by decide +kernel), opens_of (by decide +kernel),
     wordStore_of (by decide +kernel) (plainNear_of (by decide +kernel) (by decide +kernel)) (by decide +kernel), by decide +kernel⟩,
   ⟨scheduled (schedHeld inst0), 0, 6, 0, schedHeld inst0, pfEntry0, inst0, by decide +kernel⟩,
   ⟨manned, 15, by decide +kernel⟩,
   ⟨1000000000, openWith [{ framesReq with stage := .doorbell 0 6 }] (scheduled (schedHeld inst0)), 0, { framesReq with stage := .doorbell 0 6 }, 6,
     by decide +kernel⟩,
   ⟨1001, manned, 15, by decide +kernel⟩,
   ⟨100000000, manned, by decide +kernel⟩,
   ⟨1001, manned, by decide +kernel⟩,
   ⟨1001, port0, fWord 0 0, arrived 128 (fWord 0 0) (bound { state := 1 }), (opened (1001) (port0) (fWord 0 0) (arrived 128 (fWord 0 0) (bound
     { state := 1 })) Claims.storeWant Claims.storeWaits).1, (opened (1001) (port0) (fWord 0 0) (arrived 128 (fWord 0 0) (bound { state := 1 }))
     Claims.storeWant Claims.storeWaits).2, bind127, 127, 0x1000, 0, intact_of _ (by decide +kernel), opens_of (by decide +kernel),
     wordStore_of (by decide +kernel) (plainNear_of (by decide +kernel) (by decide +kernel)) (by decide +kernel), by decide +kernel⟩,
   ⟨1001, port0, fWord 5 0, arrived 128 (fWord 5 0) (bound { state := 3 }), (opened (1001) (port0) (fWord 5 0) (arrived 128 (fWord 5 0) (bound
     { state := 3 })) Claims.storeWant Claims.storeWaits).1, (opened (1001) (port0) (fWord 5 0) (arrived 128 (fWord 5 0) (bound { state := 3 }))
     Claims.storeWant Claims.storeWaits).2, bind127, 127, 0x1000, 5, intact_of _ (by decide +kernel), opens_of (by decide +kernel),
     wordStore_of (by decide +kernel) (plainNear_of (by decide +kernel) (by decide +kernel)) (by decide +kernel), by decide +kernel⟩,
   ⟨1001, port0, fWord 5 1, arrived 128 (fWord 5 1) (bound { state := 1 }), (opened (1001) (port0) (fWord 5 1) (arrived 128 (fWord 5 1) (bound
     { state := 1 })) Claims.storeWant Claims.storeWaits).1, (opened (1001) (port0) (fWord 5 1) (arrived 128 (fWord 5 1) (bound { state := 1 }))
     Claims.storeWant Claims.storeWaits).2, bind127, 127, 0x1000, 5 + 2 ^ 56, intact_of _ (by decide +kernel), opens_of (by decide +kernel),
     wordStore_of (by decide +kernel) (plainNear_of (by decide +kernel) (by decide +kernel)) (by decide +kernel), by decide +kernel⟩,
   ⟨1001, port0, fWord 5 128, arrived 128 (fWord 5 128) (bound { state := 3, consumer := 5 }), (opened (1001) (port0) (fWord 5 128) (arrived 128 (fWord 5
     128) (bound { state := 3, consumer := 5 })) Claims.storeWant Claims.storeWaits).1, (opened (1001) (port0) (fWord 5 128) (arrived 128 (fWord 5 128)
     (bound { state := 3, consumer := 5 })) Claims.storeWant Claims.storeWaits).2, bind127, 127, 0x1000, 5 + 2 ^ 63, intact_of _ (by decide +kernel),
     opens_of (by decide +kernel), wordStore_of (by decide +kernel) (plainNear_of (by decide +kernel) (by decide +kernel)) (by decide +kernel),
     by decide +kernel⟩⟩

theorem test_hypotheses_of_MoversCopyTheirBytes :
    ∃ (s : State) (ch : _) (b : _) (m : _) (d : _) (n : _) (so : _) (do_ : _), s.intact ∧ d = MDesc.of m.bytes ∧ Claims.plainNear s so n ∧
      Claims.plainNear s do_ n ∧ ch < 128 ∧ s.bindingOf ch = some b ∧ (s.chan ch).state = 1 ∧ (s.chan ch).active = none ∧ (s.chan ch).shadow = some m ∧
      (s.chan ch).unbinding = false ∧ (s.chan ch).producer = (m.index + 1) % 2 ^ 32 ∧ m.bad = none ∧ d.cls = 1 ∧ d.flags = 0 ∧ d.sform = 0 ∧ d.dform = 0 ∧
      n = d.sLine ∧ 0 < n ∧ s.isOwn d.src = true ∧ s.isOwn d.dst = true ∧ so = offOf d.src ∧ do_ = offOf d.dst ∧ d.src % 4096 + n ≤ 4096 ∧ d.dst % 4096 +
      n ≤ 4096 ∧ s.moverCheck b false so n = none ∧ s.moverCheck b true do_ n = none ∧ s.copiesAt do_ = none ∧ s.rangeHeld so n = false ∧ s.rangeHeld do_
      n = false ∧ s.moverFrozen ch = false ∧ s.hlt.fence = 0 ∧ 0 < s.cfg.unit.paceHigh :=
  ⟨bound { state := 1, producer := 1, shadow := some mov0 }, 127, bind127, mov0, MDesc.of copyDesc, 64, 0x2000, 0x3000, intact_of _ (by decide +kernel),
    rfl, plainNear_of (by decide +kernel) (by decide +kernel), plainNear_of (by decide +kernel) (by decide +kernel), by decide +kernel⟩

theorem test_hypotheses_of_MoverChannelsRecordAndRetry :
    (∃ (s : State) (ch : _) (b : _) (m : _) (st : _) (cause : _), s.intact ∧ ch < 128 ∧ s.bindingOf ch = some b ∧ (s.chan ch).state = 1 ∧ (s.chan
      ch).active = none ∧ (s.chan ch).shadow = some m ∧ (s.chan ch).unbinding = false ∧ m.bad = some (st, cause)) ∧
    (∃ (s : State) (ch : _), ch < 128 ∧ (s.chan ch).shadow = none) ∧
    (∃ (s : State) (ch : _) (b : _) (m : _) (d : _) (area : _), s.intact ∧ d = MDesc.of m.bytes ∧ Claims.plainNear s area 32 ∧ ch < 128 ∧ s.bindingOf ch =
      some b ∧ (s.chan ch).state = 2 ∧ (s.chan ch).active = some m ∧ m.bad = none ∧ (s.chan ch).staged = [] ∧ d.total ≤ (s.chan ch).wrote ∧ d.total ≤
      (s.chan ch).readTo ∧ s.chanOuts ch = [] ∧ (s.chan ch).unbinding = false ∧ (s.chan ch).shadow = none ∧ (s.chan ch).producer = (m.index + 1) % 2 ^ 32
      ∧ area = b.completion + 32 * (m.index % 2 ^ b.log2) ∧ s.moverCheck b true area 32 = none ∧ s.copiesAt area = none) ∧
    (∃ (s : State) (ch : _), ch < 128 ∧ (s.chan ch).active = none) ∧
    (∃ (t : Nat) (s : State) (ch : _) (o : _) (k : _), ch < 128 ∧ s.chanOuts ch = [o] ∧ o.resendAt = some k ∧ k ≤ max s.now t) ∧
    (∃ (s : State) (ch : _), ch < 128 ∧ (s.chan ch).active = none ∧ s.chanOuts ch = []) ∧
    (∃ (s : State) (ch : _), s.intact ∧ ch < 128 ∧ (s.chan ch).paused = true ∧ (s.chan ch).fill < s.cfg.unit.paceLow * 2048) ∧
    (∃ (s : State) (ch : _), ch < 128 ∧ s.cfg.unit.paceLow * 2048 ≤ (s.chan ch).fill) :=
  ⟨⟨bound { state := 1, producer := 1, shadow := some { mov0 with bad := some (.format, 1) } }, 127, bind127, { mov0 with bad := some (.format, 1) },
     Status.format, 1, intact_of _ (by decide +kernel), by decide +kernel⟩,
   ⟨manned, 127, by decide +kernel⟩,
   ⟨bound { state := 2, producer := 1, active := some mov0, wrote := 64, readTo := 64, issued := true }, 127, bind127, mov0, MDesc.of copyDesc, 0x30000,
     intact_of _ (by decide +kernel), rfl, plainNear_of (by decide +kernel) (by decide +kernel), by decide +kernel⟩,
   ⟨manned, 127, by decide +kernel⟩,
   ⟨1001, (bound { state := 2, producer := 1, active := some mov0, readTo := 64, issued := true }).modJrn (fun j => { j with outs := [moverOut] }), 127,
     moverOut, 950, by decide +kernel⟩,
   ⟨manned, 127, by decide +kernel⟩,
   ⟨bound { state := 2, producer := 1, active := some mov0, paused := true, readTo := 64 }, 127, intact_of _ (by decide +kernel), by decide +kernel⟩,
   ⟨bound { state := 2, fill := 32768 }, 127, by decide +kernel⟩⟩

theorem test_hypotheses_of_CrossbarSlotsMatchOneToOne :
    (∃ (s : State), s.live = true ∧ s.warpDown = false) ∧
    (∃ (t : Nat) (s : State) (v : _), s.live = true ∧ s.warpDown = false ∧ s.warp.matched = [(v.src, v.dst, v.tc)] ∧ s.warp.voq = [v] ∧ 0 < v.onChip ∧
      v.cells ≤ v.moved + 1 ∧ (64 ≤ v.dst → (s.at t).tooOld v.frame.hdr ((s.at t).residence v + fixedResidence) = false) ∧ s.posDown v.dst = false) ∧
    (∃ (s : State), s.live = false) :=
  ⟨⟨queued vf0, by decide +kernel⟩,
   ⟨1001, (queued { vf0 with moved := 1 }).modWarp (fun w => { w with matched := [(3, 7, 3)] }), { vf0 with moved := 1 }, by decide +kernel⟩,
   ⟨State.reset, by decide +kernel⟩⟩

theorem test_hypotheses_of_QueuesPromoteAndSpill :
    (∃ (t : Nat) (s : State) (i : _) (j : _) (tc : _) (v : _) (h : _), i < 160 ∧ j < 160 ∧ 3 ≤ tc ∧ tc < 8 ∧ (s.voq i j tc).head? = some v ∧ v.headAt =
      some h ∧ 128 * s.cfg.xbar.urgent < 100 * (max s.now t - h)) ∧
    (∃ (s : State) (i : _) (j : _) (tc : _), i < 160 ∧ j < 160 ∧ tc < 8 ∧ (tc < 3 ∨ s.voq i j tc = [])) ∧
    (∃ (s : State), s.warp.spillOn = false ∧ s.cfg.xbar.spillOn * 14336 ≤ s.poolCells) ∧
    (∃ (s : State), (s.warp.spillOn = true ∨ s.poolCells < s.cfg.xbar.spillOn * 14336)) ∧
    (∃ (s : State), s.warp.spillOn = true ∧ s.poolCells < s.cfg.xbar.spillOff * 14336) ∧
    (∃ (s : State), (s.warp.spillOn = false ∨ s.cfg.xbar.spillOff * 14336 ≤ s.poolCells)) ∧
    (∃ (s : State) (i : _) (j : _) (tc : _) (v : _), i < 160 ∧ j < 160 ∧ tc < 8 ∧ s.arbs.length = 67 ∧ (s.voq i j tc).find? (fun v => 0 < v.spilled) =
      some v ∧ 2 * voqCells (s.voq i j tc) < s.cfg.xbar.spillHead ∧ v.refilling = false) ∧
    (∃ (t : Nat) (s : State) (i : _) (j : _) (tc : _) (v : _), i < 160 ∧ j < 160 ∧ tc < 8 ∧ s.voq i j tc = [v] ∧ v.refilling = true ∧ (s.arb
      64).granted.any (fun x => x.requester = 20 + i / 8 ∧ x.line = v.tag) = true ∧ (s.at t).tooOld v.frame.hdr ((s.at t).residence v) = false) ∧
    (∃ (s : State) (i : _) (j : _) (tc : _) (v : _), i < 160 ∧ j < 160 ∧ tc < 8 ∧ s.voq i j tc = [v] ∧ v.refilling = true ∧ (s.arb 64).granted.any (fun x
      => x.requester = 20 + i / 8 ∧ x.line = v.tag) = true) :=
  ⟨⟨1000000, queued vf0, 3, 7, 3, vf0, 900, by decide +kernel⟩,
   ⟨queued vf0, 159, 159, 7, by decide +kernel⟩,
   ⟨queued { vf0 with cells := 1000000 }, by decide +kernel⟩,
   ⟨serving, by decide +kernel⟩,
   ⟨serving.modWarp (fun w => { w with spillOn := true, spillOpen := true }), by decide +kernel⟩,
   ⟨serving, by decide +kernel⟩,
   ⟨queued { vf0 with spilled := 1 }, 3, 7, 3, { vf0 with spilled := 1 }, by decide +kernel⟩,
   ⟨1001, (queued { vf0 with spilled := 1, refilling := true }).modArb 64 (fun a => { a with granted := [refillGrant] }), 3, 7, 3,
     { vf0 with spilled := 1, refilling := true }, by decide +kernel⟩,
   ⟨(queued { vf0 with spilled := 1, refilling := true }).modArb 64 (fun a => { a with granted := [refillGrant] }), 3, 7, 3,
     { vf0 with spilled := 1, refilling := true }, by decide +kernel⟩⟩

theorem test_hypotheses_of_HomesGrantRequests :
    (∃ (s : State) (c : _) (l : _) (cid : _), c < 32 ∧ lineAt l = l ∧ s.homeOpen l = true ∧ .rdS c l cid ∈ s.mem.net ∧ s.lineCheck cid l false = none) ∧
    (∃ (s : State) (c : _) (l : _) (cid : _) (st : _), c < 32 ∧ lineAt l = l ∧ s.homeOpen l = true ∧ .rdS c l cid ∈ s.mem.net ∧ s.lineCheck cid l false =
      some st) ∧
    (∃ (s : State) (c : _) (l : _) (cid : _), c < 32 ∧ lineAt l = l ∧ s.homeOpen l = true ∧ .rdX c l cid ∈ s.mem.net ∧ s.lineCheck cid l true = none) ∧
    (∃ (s : State) (c : _) (l : _) (cid : _), Claims.alone s c l ∧ c < 32 ∧ lineAt l = l ∧ s.homeOpen l = true ∧ .upg c l cid ∈ s.mem.net ∧ s.lineCheck
      cid l true = none ∧ s.holders l ≠ [] ∧ s.l2State c l = .smA) ∧
    (∃ (s : State) (c : _) (l : _) (cid : _), c < 32 ∧ lineAt l = l ∧ s.servedLine l = some l ∧ s.homeOpen l = true ∧ .rdU c l cid ∈ s.mem.net ∧
      s.lineCheck cid l false = none ∧ s.addressable l = true) ∧
    (∃ (s : State) (c : _) (l : _) (cid : _) (mask : _), c < 32 ∧ lineAt l = l ∧ s.stagingHeld l 128 = false ∧ s.homeOpen l = true ∧ .wrU c l cid mask ∈
      s.mem.net ∧ s.lineCheck cid l true = none ∧ s.holders l = []) ∧
    (∃ (s : State) (c : _) (l : _), c < 32 ∧ lineAt l = l ∧ s.homeOpen l = true ∧ .evcC c l ∈ s.mem.net) ∧
    (∃ (s : State) (c : _) (l : _), c < 32 ∧ lineAt l = l ∧ s.homeOpen l = true ∧ .evcD c l ∈ s.mem.net) ∧
    (∃ (s : State) (l : _), lineAt l = l ∧ s.homeOpen l = true ∧ s.others 32 l = []) ∧
    (∃ (s : State) (l : _), lineAt l = l ∧ s.homeOpen l = true ∧ s.others 32 l ≠ []) ∧
    (∃ (s : State) (l : _), lineAt l = l ∧ s.homeOpen l = false) :=
  ⟨⟨coherent [.rdS 31 0x1000 9] [] [] [], 31, 0x1000, (9 : Cid), by decide +kernel⟩,
   ⟨coherent [.rdS 31 0x1000 8] [] [] [], 31, 0x1000, (8 : Cid), Status.denied, by decide +kernel⟩,
   ⟨coherent [.rdX 31 0x1000 9] [] [(0x1000, 5, .shared)] [], 31, 0x1000, (9 : Cid), by decide +kernel⟩,
   ⟨coherent [.upg 31 0x1000 9] [lineIn .smA] [(0x1000, 31, .shared)] [], 31, 0x1000, (9 : Cid), by unfold Claims.alone; decide +kernel,
     by decide +kernel⟩,
   ⟨coherent [.rdU 31 0x1000 9] [] [] [], 31, 0x1000, (9 : Cid), by decide +kernel⟩,
   ⟨coherent [.wrU 31 0x1000 9 1] [] [] [], 31, 0x1000, (9 : Cid), (1 : BitVec 128), by decide +kernel⟩,
   ⟨coherent [.evcC 31 0x1000] [lineIn .xiA] [(0x1000, 31, .shared)] [], 31, 0x1000, by decide +kernel⟩,
   ⟨coherent [.evcD 31 0x1000] [lineIn .miA] [(0x1000, 31, .exclusive)] [], 31, 0x1000, by decide +kernel⟩,
   ⟨coherent [] [] [] [], 0x1000, by decide +kernel⟩,
   ⟨coherent [] [dirtyLine] [(0x1000, 31, .exclusive)] [], 0x1000, by decide +kernel⟩,
   ⟨coherent [] [] [] [(0x1000, .cmp 31)], 0x1000, by decide +kernel⟩⟩

theorem test_hypotheses_of_HomesFinishTransactions :
    (∃ (s : State) (c : _) (l : _) (d : _) (r : _) (since : _), c < 32 ∧ lineAt l = l ∧ s.holdOf l = some (.snp (.rdX d) [c] [] [] none false r since)) ∧
    (∃ (s : State) (c : _) (l : _) (d : _) (r : _) (since : _), c < 32 ∧ lineAt l = l ∧ s.holdOf l = some (.snp (.rdS d) [c] [] [] none false r since)) ∧
    (∃ (s : State) (c : _) (l : _) (d : _) (bytes : Bytes) (since : _), s.intact ∧ c < 32 ∧ lineAt l = l ∧ bytes.length = 128 ∧ s.copiesAt l = none ∧ s.holdOf l = some (.snp (.rdS d) [] [c] [] none true true since) ∧ s.mem.net.all (fun m => match m with | .dataHome e k _ _ => !(e == c && k == l) | _ => true) = true) ∧
    (∃ (s : State) (c : _) (l : _), c < 32 ∧ lineAt l = l ∧ s.holdOf l = some (.cmp c)) ∧
    (∃ (s : State) (l : _) (c : _), lineAt l = l ∧ s.addressable l = true ∧ s.holdOf l = some (.memWait (.rdS c) none false) ∧ s.l2State c l = .isD ∧
      s.holders l = []) ∧
    (∃ (s : State) (l : _) (c : _), lineAt l = l ∧ s.addressable l = true ∧ s.holdOf l = some (.memWait (.rdX c) none false) ∧ s.l2State c l = .imD ∧
      s.holders l = []) ∧
    (∃ (s : State) (l : _) (c : _) (m : _), lineAt l = l ∧ s.addressable l = true ∧ s.holdOf l = some (.memWait (.wrU c m) none false) ∧ s.copiesOut l =
      false) :=
  ⟨⟨coherent [] [] [(0x1000, 31, .exclusive)] [(0x1000, .snp (.rdX 5) [31] [] [] none false false 900)], 31, 0x1000, 5, false, 900, by decide +kernel⟩,
   ⟨coherent [] [] [(0x1000, 31, .exclusive)] [(0x1000, .snp (.rdS 5) [31] [] [] none false false 900)], 31, 0x1000, 5, false, 900, by decide +kernel⟩,
   ⟨coherent [] [] [(0x1000, 31, .exclusive)] [(0x1000, .snp (.rdS 5) [] [31] [] none true true 900)], 31, 0x1000, 5, List.replicate 128 3, 900,
     intact_of _ (by decide +kernel), by decide +kernel⟩,
   ⟨coherent [] [] [] [(0x1000, .cmp 31)], 31, 0x1000, by decide +kernel⟩,
   ⟨coherent [] [lineIn .isD] [] [(0x1000, .memWait (.rdS 31) none false)], 0x1000, 31, by decide +kernel⟩,
   ⟨coherent [] [lineIn .imD] [] [(0x1000, .memWait (.rdX 31) none false)], 0x1000, 31, by decide +kernel⟩,
   ⟨coherent [] [] [] [(0x1000, .memWait (.wrU 31 1) none false)], 0x1000, 31, 1, by decide +kernel⟩⟩

theorem test_hypotheses_of_ClustersFollowTheStateTable :
    (∃ (s : State) (c : _) (l : _) (k : _) (x : _) (st : _) (n : _) (d : _), c < 32 ∧ lineAt l = l ∧ s.l2Line c l = some x ∧ snoopReact x.state k = some
      (st, n, d)) ∧
    (∃ (t : Nat) (s : State) (c : _) (l : _) (bytes : Bytes) (i : _) (st : _), Claims.calmLine s c l ∧ c < 32 ∧ lineAt l = l ∧ s.l2State c l = .isD ∧
      bytes.length = 128 ∧ (i, st) ∈ [(Instr.cmpE t c l bytes, L2State.e), (.cmpS t c l bytes, .s), (.cmpN t c l bytes, .n)]) ∧
    (∃ (s : State) (c : _) (l : _) (bytes : Bytes), Claims.calmLine s c l ∧ c < 32 ∧ lineAt l = l ∧ s.l2State c l = .imD ∧ bytes.length = 128) ∧
    (∃ (s : State) (c : _) (l : _) (y : _), Claims.calmLine s c l ∧ c < 32 ∧ lineAt l = l ∧ s.l2Line c l = some y ∧ y.state = .smA) ∧
    (∃ (s : State) (c : _) (l : _) (x : _), c < 32 ∧ lineAt l = l ∧ s.l2Line c l = some x ∧ x.state = .miA) ∧
    (∃ (c : _) (l : _), c < 32 ∧ lineAt l = l) ∧
    (∃ (s : State) (c : _) (l : _), c < 32 ∧ lineAt l = l ∧ s.l2State c l = .xiA ∧ (∀ x ∈ s.mem.stalled, ¬(x.cluster = c ∧ x.line = l))) ∧
    (∃ (s : State) (c : _) (l : _), c < 32 ∧ lineAt l = l ∧ (s.l2State c l = .isD ∨ s.l2State c l = .imD ∨ s.l2State c l = .smA)) ∧
    (∃ (s : State) (c : _) (l : _), c < 32 ∧ lineAt l = l ∧ s.l2State c l = .m) ∧
    (∃ (s : State) (c : _) (l : _), c < 32 ∧ lineAt l = l ∧ (s.l2State c l = .e ∨ s.l2State c l = .s ∨ s.l2State c l = .n)) ∧
    (∃ (s : State) (c : _) (l : _), c < 32 ∧ lineAt l = l ∧ (s.l2State c l = .i ∨ s.l2State c l = .isD ∨ s.l2State c l = .imD ∨ s.l2State c l = .smA ∨
      s.l2State c l = .miA ∨ s.l2State c l = .xiA)) :=
  ⟨⟨coherent [.snpShr 31 0x1000] [dirtyLine] [] [], 31, 0x1000, Snoop.shr, dirtyLine, L2State.n, true, true, by decide +kernel⟩,
   ⟨1001, coherent [] [lineIn .isD] [] [], 31, 0x1000, List.replicate 128 3, (Instr.cmpE 1001 31 0x1000 (List.replicate 128 3)), L2State.e,
     calmLine_of (by decide +kernel) (by decide +kernel), by decide +kernel⟩,
   ⟨coherent [] [lineIn .imD] [] [], 31, 0x1000, List.replicate 128 3, calmLine_of (by decide +kernel) (by decide +kernel), by decide +kernel⟩,
   ⟨coherent [] [lineIn .smA] [] [], 31, 0x1000, lineIn .smA, calmLine_of (by decide +kernel) (by decide +kernel), by decide +kernel⟩,
   ⟨coherent [] [lineIn .miA] [] [], 31, 0x1000, lineIn .miA, by decide +kernel⟩,
   ⟨31, 0x1000, by decide +kernel⟩,
   ⟨coherent [] [lineIn .xiA] [] [], 31, 0x1000, by decide +kernel⟩,
   ⟨coherent [] [lineIn .imD] [] [], 31, 0x1000, by decide +kernel⟩,
   ⟨coherent [] [dirtyLine] [] [], 31, 0x1000, by decide +kernel⟩,
   ⟨coherent [] [lineIn .e] [] [], 31, 0x1000, by decide +kernel⟩,
   ⟨coherent [] [] [] [], 31, 0x1000, by decide +kernel⟩⟩

theorem test_hypotheses_of_CoreAccessesHitOrAsk :
    (∃ (s : State) (c : _) (core : _) (vaddr : _) (o : _) (x : _), Claims.reachesNear s c vaddr false o ∧ c < 32 ∧ core < 8 ∧ s.l2Line c (lineAt o) = some
      x ∧ (x.state = .m ∨ x.state = .e ∨ x.state = .s ∨ x.state = .n)) ∧
    (∃ (s : State) (c : _) (core : _) (vaddr : _) (o : _), Claims.reachesNear s c vaddr false o ∧ c < 32 ∧ core < 8 ∧ s.l2Line c (lineAt o) = none) ∧
    (∃ (s : State) (c : _) (core : _) (vaddr : _) (o : _) (bytes : Bytes) (x : _), Claims.reachesNear s c vaddr true o ∧ c < 32 ∧ core < 8 ∧ bytes ≠ [] ∧
      vaddr % 128 + bytes.length ≤ 128 ∧ s.l2Line c (lineAt o) = some x ∧ (x.state = .m ∨ x.state = .e)) ∧
    (∃ (s : State) (c : _) (core : _) (vaddr : _) (o : _) (bytes : Bytes), Claims.reachesNear s c vaddr true o ∧ c < 32 ∧ core < 8 ∧ bytes ≠ [] ∧ vaddr %
      128 + bytes.length ≤ 128 ∧ s.l2Line c (lineAt o) = none) ∧
    (∃ (s : State) (c : _) (core : _) (vaddr : _) (o : _) (bytes : Bytes) (x : _), Claims.reachesNear s c vaddr true o ∧ c < 32 ∧ core < 8 ∧ bytes ≠ [] ∧
      vaddr % 128 + bytes.length ≤ 128 ∧ s.l2Line c (lineAt o) = some x ∧ (x.state = .s ∨ x.state = .n)) ∧
    (∃ (s : State) (c : _) (core : _), c < 32 ∧ core < 8 ∧ (s.cluster c).assigned = false) ∧
    (∃ (t : Nat) (s : State) (c : _) (l : _) (txn : _) (waiting : _) (datas : _) (got : _) (data : _) (d : _) (sr : _) (since : _), c < 32 ∧ lineAt l = l
      ∧ s.holdOf l = some (.snp txn waiting datas got data d sr since) ∧ (waiting.contains c = true ∨ datas.contains c = true) ∧ since + 2 * ticksPerUs ≤
      max s.now t) ∧
    (∃ (t : Nat) (s : State) (c : _) (l : _) (txn : _) (waiting : _) (datas : _) (got : _) (data : _) (d : _) (sr : _) (since : _), c < 32 ∧ lineAt l = l
      ∧ s.holdOf l = some (.snp txn waiting datas got data d sr since) ∧ (waiting.contains c = true ∨ datas.contains c = true) ∧ max s.now t < since + 2 *
      ticksPerUs) :=
  ⟨⟨coherent [] [dirtyLine] [] [], 31, 7, 0x1000, 0x1000, dirtyLine, reachesNear_of (by decide +kernel), by decide +kernel⟩,
   ⟨coherent [] [] [] [], 31, 7, 0x1000, 0x1000, reachesNear_of (by decide +kernel), by decide +kernel⟩,
   ⟨coherent [] [dirtyLine] [] [], 31, 7, 0x1000, 0x1000, [1, 2], dirtyLine, reachesNear_of (by decide +kernel), by decide +kernel⟩,
   ⟨coherent [] [] [] [], 31, 7, 0x1000, 0x1000, [1, 2], reachesNear_of (by decide +kernel), by decide +kernel⟩,
   ⟨coherent [] [lineIn .s] [] [], 31, 7, 0x1000, 0x1000, [1, 2], lineIn .s, reachesNear_of (by decide +kernel), by decide +kernel⟩,
   ⟨clustered, 31, 7, by decide +kernel⟩,
   ⟨1000000, coherent [] [dirtyLine] [(0x1000, 31, .exclusive)] [(0x1000, .snp (.rdX 5) [31] [] [] none false false 900)], 31, 0x1000, HomeTxn.rdX 5,
     [31], ([] : List Nat), ([] : List Nat), (none : Option Bytes), false, false, 900, by decide +kernel⟩,
   ⟨1001, coherent [] [dirtyLine] [(0x1000, 31, .exclusive)] [(0x1000, .snp (.rdX 5) [31] [] [] none false false 900)], 31, 0x1000, HomeTxn.rdX 5, [31],
     ([] : List Nat), ([] : List Nat), (none : Option Bytes), false, false, 900, by decide +kernel⟩⟩

theorem test_hypotheses_of_LinksCarryBlocksInSequence :
    (∃ (s : State) (p : _) (b : _) (l : _) (k : Block), p < 64 ∧ b < 4 ∧ s.link p b = some l ∧ l.isUp = true ∧ k.kind = 1 ∧ k.seq.toNat = l.rxSeq ∧
      k.retry = false ∧ l.partialIn = [] ∧ k.firstFrame = 0x1FFF ∧ k.laneMask = 0x1FF) ∧
    (∃ (s : State) (p : _) (b : _) (l : _) (k : Block) (bytes : Bytes) (f : _), cutFrame ((bytes.take 4096).drop k.firstFrame.toNat) = .frame f [] ∧ p <
      64 ∧ b < 4 ∧ s.link p b = some l ∧ l.isUp = true ∧ k.kind = 1 ∧ k.seq.toNat = l.rxSeq ∧ k.retry = false ∧ l.partialIn = [] ∧ k.firstFrame ≠ 0x1FFF ∧
      k.laneMask = 0x1FF) ∧
    (∃ (s : State) (p : _) (b : _) (l : _) (k : Block), p < 64 ∧ b < 4 ∧ s.link p b = some l ∧ l.isUp = true ∧ k.kind = 1 ∧ k.seq.toNat ≠ l.rxSeq) ∧
    (∃ (s : State) (p : _) (b : _) (l : _), p < 64 ∧ b < 4 ∧ s.link p b = some l ∧ l.isUp = true) ∧
    (∃ (s : State) (p : _) (b : _) (l : _) (acked : _) (kept : _), p < 64 ∧ b < 4 ∧ s.link p b = some l ∧ l.isUp = true ∧ kept = l.replay.filter (fun x =>
      decide (2 ^ 15 ≤ (acked - BitVec.ofNat 16 x.seq).toNat))) ∧
    (∃ (s : State) (p : _) (b : _) (l : _), p < 64 ∧ b < 4 ∧ s.link p b = some l ∧ l.isUp = true ∧ (∃ x ∈ l.replay, s.cfg.osr.retryLimit ≤ x.replays)) ∧
    (∃ (s : State) (p : _) (b : _) (l : _) (k : Block), p < 64 ∧ b < 4 ∧ s.link p b = some l ∧ l.isUp = false ∧ k.kind ≠ 2) ∧
    (∃ (t : Nat) (s : State) (p : _) (b : _) (l : _) (a : _) (n : _), p < 64 ∧ b < 4 ∧ s.link p b = some l ∧ l.isUp = true ∧ (look (p, b)
      s.warp.busy).getD 0 ≤ max s.now t ∧ (∀ x ∈ s.ready p b, (s.at t).tooOld x.frame.hdr (max s.now t - x.stamp + x.resid + fixedResidence) = false) ∧
      (s.ready p b).find? (fun x => decide (cellsOf x.frame ≤ l.credit x.frame.hdr.tc.toNat)) = some a ∧ n = cdiv a.frame.size 4096 ∧ l.replay.length + n
      ≤ s.replayRoom p) ∧
    (∃ (t : Nat) (s : State) (p : _) (b : _) (l : _) (a : _) (n : _), p < 64 ∧ b < 4 ∧ s.link p b = some l ∧ l.isUp = true ∧ (look (p, b)
      s.warp.busy).getD 0 ≤ max s.now t ∧ (∀ x ∈ s.ready p b, (s.at t).tooOld x.frame.hdr (max s.now t - x.stamp + x.resid + fixedResidence) = false) ∧
      (s.ready p b).find? (fun x => decide (cellsOf x.frame ≤ l.credit x.frame.hdr.tc.toNat)) = some a ∧ n = cdiv a.frame.size 4096 ∧ s.replayRoom p <
      l.replay.length + n) ∧
    (∃ (t : Nat) (s : State) (p : _) (b : _) (l : _) (e : _), p < 64 ∧ b < 4 ∧ s.link p b = some l ∧ (l.isUp = false ∨ (look (p, b) s.warp.busy = some e ∧
      max s.now t < e))) :=
  ⟨⟨linked up63, 63, 0, up63, block0, by decide +kernel⟩,
   ⟨linked up63, 63, 0, up63, { block0 with firstFrame := 0 }, onLine.bytes, onLine, cut_of (by decide +kernel), by decide +kernel⟩,
   ⟨linked up63, 63, 0, up63, { block0 with seq := 1 }, by decide +kernel⟩,
   ⟨linked up63, 63, 0, up63, by decide +kernel⟩,
   ⟨linked { up63 with replay := [⟨0, 900, 8, 1⟩], txSeq := 1 }, 63, 0, { up63 with replay := [⟨0, 900, 8, 1⟩], txSeq := 1 }, (1 : BitVec 16), ([] : List
     TxBlock), by decide +kernel⟩,
   ⟨linked { up63 with replay := [⟨0, 900, 8, 1⟩], txSeq := 1 }, 63, 0, { up63 with replay := [⟨0, 900, 8, 1⟩], txSeq := 1 }, by decide +kernel⟩,
   ⟨linked { up63 with state := .down }, 63, 0, { up63 with state := .down }, block0, by decide +kernel⟩,
   ⟨1001, (linked up63).modWarp (fun w => { w with arrived := [⟨63, 0, onLine, 0, 900, 0, none, 900⟩] }), 63, 0, up63, (⟨63, 0, onLine, 0, 900, 0, none,
     900⟩ : AFrame), 1, by decide +kernel⟩,
   ⟨1001, (linked { up63 with replay := List.replicate 127 ⟨0, 900, 0, 1⟩ }).modWarp (fun w =>
     { w with arrived := [⟨63, 0, onLine, 0, 900, 0, none, 900⟩] }), 63, 0, { up63 with replay := List.replicate 127 ⟨0, 900, 0, 1⟩ }, (⟨63, 0, onLine, 0,
     900, 0, none, 900⟩ : AFrame), 1, by decide +kernel⟩,
   ⟨1001, linked { up63 with state := .down }, 63, 0, { up63 with state := .down }, 0, by decide +kernel⟩⟩

theorem test_hypotheses_of_LinksTrainAndReplaceWavelengths :
    (∃ (s : State) (p : _) (b : _) (l : _) (k : TrainBlock), p < 64 ∧ b < 4 ∧ s.link p b = some l ∧ (l.state = .training ∨ l.state = .retrain) ∧ k.version
      = 1 ∧ k.split.toNat = s.split p ∧ k.sub.toNat = b) ∧
    (∃ (s : State) (p : _) (b : _) (l : _) (k : TrainBlock), p < 64 ∧ b < 4 ∧ s.link p b = some l ∧ (l.state = .training ∨ l.state = .retrain) ∧ k.version
      = 1 ∧ (k.split.toNat ≠ s.split p ∨ k.sub.toNat ≠ b) ∧ look (0x1205, [p, b]) s.hoop.limits = none) ∧
    (∃ (s : State) (p : _) (b : _) (l : _), p < 64 ∧ b < 4 ∧ s.link p b = some l ∧ l.lit = true ∧ l.agreed = true ∧ l.delays.length = 16) ∧
    (∃ (s : State) (p : _) (b : _) (l : _), p < 64 ∧ b < 4 ∧ s.link p b = some l ∧ (l.lit = false ∨ l.agreed = false ∨ l.delays.length ≠ 16)) ∧
    (∃ (s : State) (p : _) (b : _) (l : _) (bytes : Bytes) (wave : _) (lane : _) (width : _) (plan : _), p < 64 ∧ s.link p b = some l ∧ bytes.length = 15 ∧ beAt bytes 0 3 = 0xC53A96 ∧ (crc16 (bytes.take 12)).toNat = beAt bytes 12 2 ∧ leAt bytes 3 1 = wave + 16 * plan ∧ leAt bytes 4 1 = lane + 16 * width ∧ leAt bytes 5 1 % 4 = (match s.split p with | 1 => 0 | 2 => 1 | _ => 2) ∧ leAt bytes 5 1 / 4 % 4 = b ∧ wave ≤ 8 ∧ lane ≤ 7 ∧ 1 ≤ width ∧ width ≤ 8) ∧
    (∃ (p : _) (bytes : Bytes), p < 64 ∧ (bytes.length ≠ 15 ∨ beAt bytes 0 3 ≠ 0xC53A96 ∨ (crc16 (bytes.take 12)).toNat ≠ beAt bytes 12 2)) ∧
    (∃ (s : State) (p : _) (b : _) (l : _), p < 64 ∧ (s.links.map (fun l => (l.port, l.sub))).Nodup ∧ s.link p b = some l ∧ l.lit = true) ∧
    (∃ (s : State) (p : _) (b : _) (l : _), p < 64 ∧ (s.links.map (fun l => (l.port, l.sub))).Nodup ∧ s.link p b = some l ∧ l.lit = false ∧ s.live = true
      ∧ s.mayLight p = true) ∧
    (∃ (s : State) (p : _), p < 64 ∧ s.mayLight p = false) ∧
    (∃ (t : Nat) (s : State) (p : _) (b : _) (l : _) (d : _), p < 64 ∧ b < 4 ∧ s.link p b = some l ∧ l.isUp = false ∧ l.holdExpired = false ∧ l.downSince
      = some d ∧ d + s.cfg.osr.downHoldUs * ticksPerUs ≤ max s.now t) ∧
    (∃ (t : Nat) (s : State) (p : _) (b : _) (l : _) (d : _), p < 64 ∧ b < 4 ∧ s.link p b = some l ∧ l.isUp = false ∧ l.holdExpired = false ∧ l.downSince
      = some d ∧ max s.now t < d + s.cfg.osr.downHoldUs * ticksPerUs) ∧
    (∃ (s : State) (p : _) (l : _) (r : WaveReading), p < 64 ∧ r.wave < 9 ∧ s.link p (s.waveSub p r.wave) = some l ∧ r.lockLost = false ∧ r.cwUncorrected
      < 4 ∧ r.symCorrected ≤ s.weakSym p ∧ r.laserBias ≤ 10 * s.cfg.osr.laserEol) ∧
    (∃ (s : State) (p : _) (b : _) (l : _) (r : WaveReading), p < 64 ∧ r.wave < 9 ∧ b = s.waveSub p r.wave ∧ s.link p b = some l ∧ (r.lockLost || decide
      (64 ≤ r.cwUncorrected) || decide (s.weakSym p < r.symCorrected) || decide (4 ≤ r.cwUncorrected)) = true ∧ l.rxGood.testBit r.wave = true ∧ l.rxGood
      &&& (0x1FF - 2 ^ r.wave) ≠ 0 ∧ r.laserBias ≤ 10 * s.cfg.osr.laserEol) ∧
    (∃ (s : State) (p : _) (b : _) (l : _) (r : WaveReading), p < 64 ∧ r.wave < 9 ∧ b = s.waveSub p r.wave ∧ s.link p b = some l ∧ r.lockLost = false ∧
      r.cwUncorrected < 4 ∧ r.symCorrected ≤ s.weakSym p ∧ 10 * s.cfg.osr.laserEol < r.laserBias ∧ l.txActive.testBit r.wave = true ∧ r.wave ∉ l.weak ∧
      r.wave ∉ l.failed) ∧
    (∃ (s : State) (p : _) (b : _) (l : _) (wave : _) (left : _), p < 64 ∧ wave < 9 ∧ b = s.waveSub p wave ∧ s.link p b = some l ∧ wave ∉ l.failed ∧ left
      = l.txActive &&& (0x1FF - 2 ^ wave)) ∧
    (∃ (s : State) (p : _) (b : _) (l : _) (wave : _), p < 64 ∧ wave < 9 ∧ b = s.waveSub p wave ∧ s.link p b = some l ∧ wave ∈ l.failed) ∧
    (∃ (s : State) (p : _) (b : _) (l : _) (wave : _), p < 64 ∧ b = s.waveSub p 8 ∧ s.link p b = some l ∧ l.spareLit = true ∧ l.spareInUse = false ∧
      (l.weak ++ l.failed.filter (· ≠ 8)).head? = some wave) :=
  ⟨⟨linked { up63 with state := .training, agreed := false }, 63, 0, { up63 with state := .training, agreed := false }, train0, by decide +kernel⟩,
   ⟨linked { up63 with state := .training, agreed := false }, 63, 0, { up63 with state := .training, agreed := false }, { train0 with split := 2 },
     by decide +kernel⟩,
   ⟨linked { up63 with state := .training, delays := List.replicate 16 64 }, 63, 0, { up63 with state := .training, delays := List.replicate 16 64 },
     by decide +kernel⟩,
   ⟨linked { up63 with state := .training, agreed := false }, 63, 0, { up63 with state := .training, agreed := false }, by decide +kernel⟩,
   ⟨linked up63, 63, 0, up63, marker0, 0, 0, 8, 0, by decide +kernel⟩,
   ⟨63, [], by decide +kernel⟩,
   ⟨linked up63, 63, 0, up63, by decide +kernel⟩,
   ⟨linked { up63 with state := .dark, lit := false }, 63, 0, { up63 with state := .dark, lit := false }, by decide +kernel⟩,
   ⟨serving.modHlt (fun h => { h with states := [(95, .expelled)] }), 63, by decide +kernel⟩,
   ⟨1000000, linked { up63 with state := .down, downSince := some 900 }, 63, 0, { up63 with state := .down, downSince := some 900 }, 900,
     by decide +kernel⟩,
   ⟨1001, linked { up63 with state := .down, downSince := some 900 }, 63, 0, { up63 with state := .down, downSince := some 900 }, 900, by decide +kernel⟩,
   ⟨linked up63, 63, up63, reading0, by decide +kernel⟩,
   ⟨linked up63, 63, 0, up63, { reading0 with lockLost := true }, by decide +kernel⟩,
   ⟨linked up63, 63, 0, up63, { reading0 with laserBias := 1501 }, by decide +kernel⟩,
   ⟨linked up63, 63, 0, up63, 7, 0x7F, by decide +kernel⟩,
   ⟨linked { up63 with failed := [7] }, 63, 0, { up63 with failed := [7] }, 7, by decide +kernel⟩,
   ⟨linked { up63 with weak := [7], spareLit := true }, 63, 0, { up63 with weak := [7], spareLit := true }, 7, by decide +kernel⟩⟩

theorem test_hypotheses_of_PartitionTimersEndWhatIsDue :
    (∃ (t : Nat) (s : State) (p : _) (c : _), p < 16 ∧ (s.part p).consent = some c ∧ c.until_ ≤ max s.now t) ∧
    (∃ (t : Nat) (s : State) (p : _) (c : _), p < 16 ∧ (s.part p).consent = some c ∧ max s.now t < c.until_) ∧
    (∃ (s : State) (p : _), p < 16 ∧ (s.part p).consent = none) ∧
    (∃ (s : State) (p : _) (x : _), p < 16 ∧ (s.part p).scrub = some x ∧ (∀ y ∈ x.far, y.1.base + y.1.length ≤ y.2) ∧ s.jrn.outs.all (fun o => o.owner !=
      .scrub p) = true) ∧
    (∃ (s : State) (p : _) (x : _), p < 16 ∧ (s.part p).scrub = some x ∧ ((∃ y ∈ x.far, y.2 < y.1.base + y.1.length) ∨ (∃ o ∈ s.jrn.outs, o.owner = .scrub
      p))) ∧
    (∃ (t : Nat) (s : State) (p : _) (b : _), s.intact ∧ (∀ l, (s.part p).log = some l → Claims.plainNear s (l.consumer + 8) 8 ∧ Claims.quiet s
      (l.consumer + 8) 8) ∧ p < 16 ∧ (s.part p).batch = some b ∧ b.leaves ≠ [] ∧ b.since + s.cfg.hoop.batchMs * ticksPerMs ≤ max s.now t) ∧
    (∃ (t : Nat) (s : State) (p : _) (b : _), p < 16 ∧ (s.part p).batch = some b ∧ max s.now t < b.since + s.cfg.hoop.batchMs * ticksPerMs) ∧
    (∃ (t : Nat) (s : State) (p : _) (ms : _), p < 16 ∧ (s.part p).state = .active ∧ ms = (max s.now t - s.hoop.startedAt) / ticksPerUs / 1000 ∧ nth
      (s.part p).meter 0 + 1000 * s.cfg.hoop.meterS ≤ ms) ∧
    (∃ (t : Nat) (s : State) (p : _) (ms : _), p < 16 ∧ (s.part p).state = .active ∧ ms = (max s.now t - s.hoop.startedAt) / ticksPerUs / 1000 ∧ ms < nth
      (s.part p).meter 0 + 1000 * s.cfg.hoop.meterS) ∧
    (∃ (t : Nat) (s : State) (p : _) (q : _) (i : _) (k : _), p < 16 ∧ (s.part p).keyTransfer = some k ∧ s.hoop.running = some (q, [.key p i, .apply]) ∧ k
      + s.deadlineTicks 0 ≤ max s.now t) ∧
    (∃ (t : Nat) (s : State) (p : _) (q : _) (i : _) (k : _), p < 16 ∧ (s.part p).keyTransfer = some k ∧ s.hoop.running = some (q, [.key p i, .apply]) ∧
      max s.now t < k + s.deadlineTicks 0) ∧
    (∃ (s : State) (p : _), p < 16 ∧ (s.part p).keyTransfer = none) :=
  ⟨⟨1001, part15 (fun p => { p with consent := some ⟨1, 950, []⟩ }), 15, (⟨1, 950, []⟩ : Consent), by decide +kernel⟩,
   ⟨1001, part15 (fun p => { p with consent := some ⟨1, 9999, []⟩ }), 15, (⟨1, 9999, []⟩ : Consent), by decide +kernel⟩,
   ⟨manned, 15, by decide +kernel⟩,
   ⟨part15 (fun p => { p with state := .scrubbing, scrub := some scrub0 }), 15, scrub0, by decide +kernel⟩,
   ⟨part15 (fun p => { p with state := .scrubbing, scrub := some { scrub0 with far := [(extent0, 0)] } }), 15, { scrub0 with far := [(extent0, 0)] },
     by decide +kernel⟩,
   ⟨100000000, part15 (fun p => { p with batch := some batch0, lock := some lock0 }), 15, batch0, intact_of _ (by decide +kernel),
     eachLog_of (x := lock0) rfl (plainNear_of (by decide +kernel) (by decide +kernel)) (by unfold Claims.quiet; decide +kernel), by decide +kernel⟩,
   ⟨1001, part15 (fun p => { p with batch := some batch0 }), 15, batch0, by decide +kernel⟩,
   ⟨10000000000000, part15 (fun p => { p with state := .active }), 15, (max (part15 (fun p => { p with state := .active })).now (10000000000000) - (part15
     (fun p => { p with state := .active })).hoop.startedAt) / ticksPerUs / 1000, by decide +kernel⟩,
   ⟨1001, part15 (fun p => { p with state := .active }), 15, (max (part15 (fun p => { p with state := .active })).now (1001) - (part15 (fun p =>
     { p with state := .active })).hoop.startedAt) / ticksPerUs / 1000, by decide +kernel⟩,
   ⟨1000000000, (part15 (fun p => { p with keyTransfer := some 900 })).modHoop (fun h => { h with running := some (qrec, [.key 15 0, .apply]) }), 15,
     qrec, 0, 900, by decide +kernel⟩,
   ⟨1001, (part15 (fun p => { p with keyTransfer := some 900 })).modHoop (fun h => { h with running := some (qrec, [.key 15 0, .apply]) }), 15, qrec, 0,
     900, by decide +kernel⟩,
   ⟨manned, 15, by decide +kernel⟩⟩

theorem test_hypotheses_of_SamplesAndAdaptationsKeepTheirPace :
    (∃ (s : State), s.live = true) ∧
    (∃ (s : State), s.live = true) ∧
    (∃ (s : State), s.live = false) ∧
    (∃ (t : Nat) (s : State) (sub : _) (svc : _) (rate : _) (x : _), sub < 4096 ∧ svc < 16 ∧ s.live = true ∧ s.service sub svc = some x ∧ x.shaping ≠ 0 ∧
      x.leaving = false ∧ x.rateMin ≤ rate ∧ rate ≤ x.rateMax ∧ rate ≠ x.rate ∧ (x.lastAdapt = 0 ∨ x.lastAdapt + s.cfg.shp.adaptIntervalMs * ticksPerMs ≤
      max s.now t)) ∧
    (∃ (t : Nat) (s : State) (sub : _) (svc : _) (rate : _) (x : _), sub < 4096 ∧ svc < 16 ∧ s.service sub svc = some x ∧ (rate < x.rateMin ∨ x.rateMax <
      rate ∨ x.shaping = 0 ∨ (x.lastAdapt ≠ 0 ∧ max s.now t < x.lastAdapt + s.cfg.shp.adaptIntervalMs * ticksPerMs))) ∧
    (∃ (s : State) (p : _) (window : _), p < 16 ∧ s.parts.length = 16 ∧ s.live = true ∧ nth s.cfg.shp.admitMin p * 1048576 ≤ window ∧ window ≤ nth
      s.cfg.shp.admitMax p * 1048576 ∧ window ≠ (s.part p).window) ∧
    (∃ (s : State) (p : _) (window : _), p < 16 ∧ (window < nth s.cfg.shp.admitMin p * 1048576 ∨ nth s.cfg.shp.admitMax p * 1048576 < window)) ∧
    (∃ (t : Nat) (s : State) (p : _) (x : _), p < 16 ∧ s.parts.length = 16 ∧ s.schedule p = some x ∧ (∀ k, x.lastAdapt = some k → k + ticksPerMs ≤ max
      s.now t) ∧ x.hungry = true ∧ (s.part p).pfDepth < s.cfg.rim.pfDepthMax) ∧
    (∃ (s : State) (p : _) (x : _), p < 16 ∧ s.schedule p = some x ∧ (x.hungry = false ∨ s.cfg.rim.pfDepthMax ≤ (s.part p).pfDepth) ∧ s.cfg.rim.pfDepthMax
      ≥ (s.part p).pfDepth) ∧
    (∃ (s : State) (p : _) (x : _), p < 16 ∧ s.schedule p = some x ∧ (x.quietSteps < 256 ∨ (s.part p).pfDepth = s.cfg.rim.pfDepthMin)) ∧
    (∃ (s : State) (port : _) (value : _), port < 64 ∧ s.live = true ∧ s.cfg.osr.weakMin ≤ value ∧ value ≤ s.cfg.osr.weakMax ∧ value ≠ s.weakSym port) ∧
    (∃ (s : State) (port : _) (value : _), port < 64 ∧ (value < s.cfg.osr.weakMin ∨ s.cfg.osr.weakMax < value)) ∧
    (∃ (t : Nat) (s : State) (fn : _) (vec : _) (last : _), fn < 2 ∧ vec < 4 ∧ look (fn, vec) s.hoop.msix = some (last, true) ∧ last + s.cfg.hoop.irqUs *
      ticksPerUs ≤ max s.now t) ∧
    (∃ (t : Nat) (s : State) (fn : _) (vec : _) (last : _), fn < 2 ∧ vec < 4 ∧ look (fn, vec) s.hoop.msix = some (last, true) ∧ max s.now t < last +
      s.cfg.hoop.irqUs * ticksPerUs) :=
  ⟨⟨serving, by decide +kernel⟩,
   ⟨serving, by decide +kernel⟩,
   ⟨State.reset, by decide +kernel⟩,
   ⟨1001, serving.modTabs (fun x => { x with services := [service0] }), 4095, 15, 20, service0, by decide +kernel⟩,
   ⟨1001, serving.modTabs (fun x => { x with services := [service0] }), 4095, 15, 21, service0, by decide +kernel⟩,
   ⟨serving, 15, 67108864, by decide +kernel⟩,
   ⟨serving, 15, 67108863, by decide +kernel⟩,
   ⟨1001, scheduled { sched0 with hungry := true, issuedTo := 100 }, 0, { sched0 with hungry := true, issuedTo := 100 }, by decide +kernel⟩,
   ⟨scheduled sched0, 0, sched0, by decide +kernel⟩,
   ⟨scheduled sched0, 0, sched0, by decide +kernel⟩,
   ⟨serving, 63, 1000000, by decide +kernel⟩,
   ⟨serving, 63, 999999, by decide +kernel⟩,
   ⟨100000000, hoopWith (fun h => { h with msix := [((1, 3), 900, true)] }), 1, 3, 900, by decide +kernel⟩,
   ⟨1001, hoopWith (fun h => { h with msix := [((1, 3), 900, true)] }), 1, 3, 900, by decide +kernel⟩⟩

theorem test_hypotheses_of_RegisterWritesClearOrAreDropped :
    (∃ (t : Nat) (s : State) (fn : _) (o : _) (v : _) (i : _), Claims.reaches s fn o ∧ s.intact ∧ i ∈ [Instr.w1cClear t fn o v, .registerWriteDropped t fn
      o v] ∧ o = 0x40) ∧
    (∃ (t : Nat) (s : State) (fn : _) (o : _) (v : _) (i : _), Claims.reaches s fn o ∧ s.intact ∧ i ∈ [Instr.w1cClear t fn o v, .registerWriteDropped t fn
      o v] ∧ o = 0x100000) ∧
    (∃ (t : Nat) (s : State) (fn : _) (o : _) (v : _) (i : _) (p : _) (b : _) (l : _), Claims.reaches s fn o ∧ s.intact ∧ i ∈ [Instr.w1cClear t fn o v,
      .registerWriteDropped t fn o v] ∧ o = 0x200000 + 32 * p + 8 * b ∧ p < 64 ∧ b < 4 ∧ s.link p b = some l) ∧
    (∃ (t : Nat) (s : State) (fn : _) (o : _) (v : _) (i : _), Claims.reaches s fn o ∧ s.intact ∧ i ∈ [Instr.w1cClear t fn o v, .registerWriteDropped t fn
      o v] ∧ o = 0x400100) ∧
    (∃ (t : Nat) (s : State) (fn : _) (o : _) (v : _) (i : _) (c : _), Claims.reaches s fn o ∧ s.intact ∧ i ∈ [Instr.w1cClear t fn o v,
      .registerWriteDropped t fn o v] ∧ o = 0x800000 + 8 * c ∧ c < 32) ∧
    (∃ (t : Nat) (s : State) (fn : _) (o : _) (v : _) (i : _) (a : _), Claims.reaches s fn o ∧ s.intact ∧ i ∈ [Instr.w1cClear t fn o v,
      .registerWriteDropped t fn o v] ∧ o = (if a = 64 then 0x400080 else if a < 64 then 0xC01000 + 8 * a else 0xE00400 + 8 * (a - 65)) ∧ a < 67) ∧
    (∃ (t : Nat) (s : State) (fn : _) (o : _) (v : _) (i : _) (ch : _), Claims.reaches s fn o ∧ s.intact ∧ i ∈ [Instr.w1cClear t fn o v,
      .registerWriteDropped t fn o v] ∧ o = 0xE00000 + 8 * ch ∧ ch < 128) ∧
    (∃ (t : Nat) (s : State) (fn : _) (o : _) (v : _) (i : _) (p : _), Claims.reaches s fn o ∧ s.intact ∧ i ∈ [Instr.w1cClear t fn o v,
      .registerWriteDropped t fn o v] ∧ o = 0x1000000 + 8 * p ∧ p < 16) ∧
    (∃ (t : Nat) (s : State) (fn : _) (o : _) (v : _) (i : _), Claims.reaches s fn o ∧ s.intact ∧ i ∈ [Instr.w1cClear t fn o v, .registerWriteDropped t fn
      o v] ∧ o = 0x1200000) ∧
    (∃ (t : Nat) (s : State) (fn : _) (o : _) (v : _) (i : _) (w : _), Claims.reaches s fn o ∧ s.intact ∧ i ∈ [Instr.w1cClear t fn o v,
      .registerWriteDropped t fn o v] ∧ o = 0x1400018 + 64 * w ∧ w < 2) ∧
    (∃ (t : Nat) (s : State) (fn : _) (o : _) (v : _) (i : _), Claims.reaches s fn o ∧ s.intact ∧ i ∈ [Instr.w1cClear t fn o v, .registerWriteDropped t fn
      o v] ∧ o = 0x1400100) ∧
    (∃ (t : Nat) (fn : _) (o : _) (v : _) (i : _), i ∈ [Instr.w1cClear t fn o v, .registerWriteDropped t fn o v] ∧ fn < 2) ∧
    (∃ (t : Nat) (s : State) (fn : _) (err : _) (addr : _) (rd : _) (i : _), s.intact ∧ fn < 2 ∧ (i, err) ∈ [(Instr.aerError t fn err, err),
      (.unsupportedRequestTlp t fn addr rd, 0x100000)] ∧ s.fnUp fn = true) ∧
    (∃ (t : Nat) (s : State) (fn : _) (err : _) (addr : _) (rd : _) (i : _), s.intact ∧ fn < 2 ∧ (i, err) ∈ [(Instr.aerError t fn err, err),
      (.unsupportedRequestTlp t fn addr rd, 0x100000)] ∧ s.fnUp fn = false) :=
  ⟨⟨1001, owned.modHoop (fun h => { h with holdEvent := true, fallback := true }), 1, 64, (BitVec.allOnes 64), (.w1cClear 1001 1 64 (BitVec.allOnes 64)),
     by unfold Claims.reaches; decide +kernel, intact_of _ (by decide +kernel), by decide +kernel⟩,
   ⟨1001, owned.modHoop (fun h => { h with holdEvent := true, fallback := true }), 1, 1048576, (BitVec.allOnes 64), (.w1cClear 1001 1 1048576
     (BitVec.allOnes 64)), by unfold Claims.reaches; decide +kernel, intact_of _ (by decide +kernel), by decide +kernel⟩,
   ⟨1001, (linked { up63 with laneEvent := true, downEvent := true }).modHoop (fun h => { h with pcieUp := [true, true] }), 1, 2099168, (BitVec.allOnes
     64), (.w1cClear 1001 1 2099168 (BitVec.allOnes 64)), 63, 0, { up63 with laneEvent := true, downEvent := true },
     by unfold Claims.reaches; decide +kernel, intact_of _ (by decide +kernel), by decide +kernel⟩,
   ⟨1001, owned.modWarp (fun x => { x with spillFull := true }), 1, 4194560, (BitVec.allOnes 64), (.w1cClear 1001 1 4194560 (BitVec.allOnes 64)),
     by unfold Claims.reaches; decide +kernel, intact_of _ (by decide +kernel), by decide +kernel⟩,
   ⟨1001, owned.modCluster 31 (fun x => { x with fault := true }), 1, 8388856, (BitVec.allOnes 64), (.w1cClear 1001 1 8388856 (BitVec.allOnes 64)), 31,
     by unfold Claims.reaches; decide +kernel, intact_of _ (by decide +kernel), by decide +kernel⟩,
   ⟨1001, owned.modArb 66 (fun x => { x with timeout := true }), 1, 14681096, (BitVec.allOnes 64), (.w1cClear 1001 1 14681096 (BitVec.allOnes 64)), 66,
     by unfold Claims.reaches; decide +kernel, intact_of _ (by decide +kernel), by decide +kernel⟩,
   ⟨1001, owned.modChan 127 (fun x => { x with halted := true }), 1, 14681080, (BitVec.allOnes 64), (.w1cClear 1001 1 14681080 (BitVec.allOnes 64)), 127,
     by unfold Claims.reaches; decide +kernel, intact_of _ (by decide +kernel), by decide +kernel⟩,
   ⟨1001, owned.modPart 15 (fun x => { x with scrubDone := true }), 1, 16777336, (BitVec.allOnes 64), (.w1cClear 1001 1 16777336 (BitVec.allOnes 64)), 15,
     by unfold Claims.reaches; decide +kernel, intact_of _ (by decide +kernel), by decide +kernel⟩,
   ⟨1001, owned.modHlt (fun x => { x with fenceEvent := true }), 1, 18874368, (BitVec.allOnes 64), (.w1cClear 1001 1 18874368 (BitVec.allOnes 64)),
     by unfold Claims.reaches; decide +kernel, intact_of _ (by decide +kernel), by decide +kernel⟩,
   ⟨1001, owned.modWriter 1 (fun x => { x with ringHigh := true }), 1, 20971608, (BitVec.allOnes 64), (.w1cClear 1001 1 20971608 (BitVec.allOnes 64)), 1,
     by unfold Claims.reaches; decide +kernel, intact_of _ (by decide +kernel), by decide +kernel⟩,
   ⟨1001, owned, 1, 20971776, (BitVec.allOnes 64), (.w1cClear 1001 1 20971776 (BitVec.allOnes 64)), by unfold Claims.reaches; decide +kernel,
     intact_of _ (by decide +kernel), by decide +kernel⟩,
   ⟨1001, 1, 65, (BitVec.allOnes 64), (.w1cClear 1001 1 65 (BitVec.allOnes 64)), by decide +kernel⟩,
   ⟨1001, owned, 1, 0x4000, 0, false, (.aerError 1001 1 0x4000), intact_of _ (by decide +kernel), by decide +kernel⟩,
   ⟨1001, manned, 1, 0x4000, 0, false, (.aerError 1001 1 0x4000), intact_of _ (by decide +kernel), by decide +kernel⟩⟩

theorem test_hypotheses_of_SpdmRequestsAreAnsweredInOrder :
    (∃ (s : State) (q : _) (r : _), s.intact ∧ requesterOk q = true ∧ s.servesSpdm q = true ∧ r = [0x10, 0x04, 0, 0, 0, 1, 0, 0x13]) ∧
    (∃ (s : State) (q : _) (x : _), s.intact ∧ requesterOk q = true ∧ s.servesSpdm q = true ∧ x = s.spdm q ∧ x.version = false) ∧
    (∃ (s : State) (q : _) (v : _) (x : _), s.intact ∧ requesterOk q = true ∧ s.servesSpdm q = true ∧ x = s.spdm q ∧ x.version = true ∧ v ≠ 0x13) ∧
    (∃ (s : State) (q : _) (v : _) (x : _), s.intact ∧ requesterOk q = true ∧ s.servesSpdm q = true ∧ x = s.spdm q ∧ x.version = true ∧ v = 0x13) ∧
    (∃ (s : State) (q : _) (x : _), s.intact ∧ requesterOk q = true ∧ s.servesSpdm q = true ∧ x = s.spdm q ∧ x.caps = false) ∧
    (∃ (s : State) (q : _) (asym : BitVec 32) (hash : BitVec 32) (x : _), s.intact ∧ requesterOk q = true ∧ s.servesSpdm q = true ∧ x = s.spdm q ∧ x.caps
      = true ∧ asym.getLsbD 10 = false ∧ hash.getLsbD 2 = false) ∧
    (∃ (s : State) (q : _) (asym : BitVec 32) (hash : BitVec 32) (x : _), s.intact ∧ requesterOk q = true ∧ s.servesSpdm q = true ∧ x = s.spdm q ∧ x.caps
      = true ∧ asym.getLsbD 10 = true ∧ hash.getLsbD 2 = true) ∧
    (∃ (t : Nat) (s : State) (q : _) (x : _) (slot : _) (off : _) (len : _) (nonce : _) (kind : _) (op : _) (signed : _) (i : _), s.intact ∧ requesterOk q
      = true ∧ s.servesSpdm q = true ∧ x = s.spdm q ∧ x.algs = false ∧ i ∈ [Instr.getDigests t q, .getCertificate t q slot off len, .challenge t q slot
      nonce kind, .getMeasurements t q op signed nonce slot]) ∧
    (∃ (s : State) (q : _) (x : _), s.intact ∧ requesterOk q = true ∧ s.servesSpdm q = true ∧ x = s.spdm q ∧ x.algs = true) ∧
    (∃ (s : State) (q : _) (x : _) (slot : _) (off : _) (c : _), s.intact ∧ requesterOk q = true ∧ s.servesSpdm q = true ∧ x = s.spdm q ∧ x.algs = true ∧
      s.chainOf slot = some c ∧ off < c.length) ∧
    (∃ (s : State) (q : _) (x : _) (slot : _) (off : _), s.intact ∧ requesterOk q = true ∧ s.servesSpdm q = true ∧ x = s.spdm q ∧ x.algs = true ∧
      (s.chainOf slot = none ∨ (∃ c, s.chainOf slot = some c ∧ c.length ≤ off))) ∧
    (∃ (s : State) (q : _) (x : _) (slot : _) (nonce : _) (c : _) (m : _), s.intact ∧ m = Config.spdmRequest 0x83 ([BitVec.ofNat 8 slot, 0] ++ padTo 32
      nonce) ∧ requesterOk q = true ∧ s.servesSpdm q = true ∧ x = s.spdm q ∧ x.algs = true ∧ s.chainOf slot = some c) ∧
    (∃ (s : State) (q : _) (x : _) (slot : _) (op : _) (l : _) (c : _), s.intact ∧ requesterOk q = true ∧ s.servesSpdm q = true ∧ x = s.spdm q ∧ x.algs =
      true ∧ l = (if op = 0 then [] else if op = 0xFF then s.blocks else [op]) ∧ (op = 0 ∨ op = 0xFF ∨ op ∈ s.blocks) ∧ s.chainOf slot = some c) ∧
    (∃ (s : State) (q : _) (x : _) (op : _) (l : _), s.intact ∧ requesterOk q = true ∧ s.servesSpdm q = true ∧ x = s.spdm q ∧ x.algs = true ∧ l = (if op =
      0 then [] else if op = 0xFF then s.blocks else [op]) ∧ (op = 0 ∨ op = 0xFF ∨ op ∈ s.blocks)) ∧
    (∃ (s : State) (q : _) (x : _) (code : BitVec 8), s.intact ∧ requesterOk q = true ∧ s.servesSpdm q = true ∧ x = s.spdm q ∧ spdmCodes.contains
      code.toNat = false) ∧
    (∃ (t : Nat) (s : State) (q : _) (v : _) (a : _) (b : _) (slot : _) (off : _) (len : _) (nonce : _) (kind : _) (op : _) (signed : _) (i : _),
      requesterOk q = true ∧ s.servesSpdm q = false ∧ i ∈ [Instr.getVersion t q, .getCapabilities t q v, .negotiateAlgorithms t q a b, .getDigests t q,
      .getCertificate t q slot off len, .challenge t q slot nonce kind, .getMeasurements t q op signed nonce slot]) :=
  ⟨⟨owned, .mctp, [0x10, 0x04, 0, 0, 0, 1, 0, 0x13], intact_of _ (by decide +kernel), by decide +kernel⟩,
   ⟨owned, .mctp, {}, intact_of _ (by decide +kernel), by decide +kernel⟩,
   ⟨owned.modHoop (fun h => { h with spdm := h.spdm.set 2 ({ version := true } : Spdm) }), .mctp, 0x12, ({ version := true } : Spdm),
     intact_of _ (by decide +kernel), by decide +kernel⟩,
   ⟨owned.modHoop (fun h => { h with spdm := h.spdm.set 2 ({ version := true } : Spdm) }), .mctp, 0x13, ({ version := true } : Spdm),
     intact_of _ (by decide +kernel), by decide +kernel⟩,
   ⟨owned.modHoop (fun h => { h with spdm := h.spdm.set 2 ({ version := true } : Spdm) }), .mctp, ({ version := true } : Spdm),
     intact_of _ (by decide +kernel), by decide +kernel⟩,
   ⟨owned.modHoop (fun h => { h with spdm := h.spdm.set 2 ({ caps := true, version := true } : Spdm) }), .mctp, 0, 0, ({ caps := true, version := true } :
     Spdm), intact_of _ (by decide +kernel), by decide +kernel⟩,
   ⟨owned.modHoop (fun h => { h with spdm := h.spdm.set 2 ({ caps := true, version := true } : Spdm) }), .mctp, 0x400, 4,
     ({ caps := true, version := true } : Spdm), intact_of _ (by decide +kernel), by decide +kernel⟩,
   ⟨1001, owned.modHoop (fun h => { h with spdm := h.spdm.set 2 ({ caps := true, version := true } : Spdm) }), .mctp, ({ caps := true, version := true } :
     Spdm), 0, 0, 8, [], 0, 1, false, (.getDigests 1001 .mctp), intact_of _ (by decide +kernel), by decide +kernel⟩,
   ⟨owned.modHoop (fun h => { h with spdm := h.spdm.set 2 ({ algs := true, caps := true, version := true } : Spdm) }), .mctp,
     ({ algs := true, caps := true, version := true } : Spdm), intact_of _ (by decide +kernel), by decide +kernel⟩,
   ⟨{ (owned.modHoop (fun h => { h with spdm := h.spdm.set 2 ({ algs := true, caps := true, version := true } : Spdm) })) with mram := { owned.mram with slot1 := [1, 2, 3] } },
     .mctp, ({ algs := true, caps := true, version := true } : Spdm), 1, 1, (natLe 2 71 ++ zeros 2 ++ sha512 [1, 2, 3] ++ [1, 2, 3]),
     intact_of _ (by decide +kernel), by decide +kernel⟩,
   ⟨{ (owned.modHoop (fun h => { h with spdm := h.spdm.set 2 ({ algs := true, caps := true, version := true } : Spdm) })) with mram := { owned.mram with slot1 := [1, 2, 3] } },
     .mctp, ({ algs := true, caps := true, version := true } : Spdm), 1, 71, intact_of _ (by decide +kernel), by decide +kernel⟩,
   ⟨{ (owned.modHoop (fun h => { h with spdm := h.spdm.set 2 ({ algs := true, caps := true, version := true } : Spdm) })) with mram := { owned.mram with slot1 := [1, 2, 3] } },
     .mctp, ({ algs := true, caps := true, version := true } : Spdm), 1, [9], (natLe 2 71 ++ zeros 2 ++ sha512 [1, 2, 3] ++ [1, 2, 3]), Config.spdmRequest
     0x83 ([1, 0] ++ padTo 32 [9]), intact_of _ (by decide +kernel), rfl, by decide +kernel⟩,
   ⟨{ (owned.modHoop (fun h => { h with spdm := h.spdm.set 2 ({ algs := true, caps := true, version := true } : Spdm) })) with mram := { owned.mram with slot1 := [1, 2, 3] } },
     .mctp, ({ algs := true, caps := true, version := true } : Spdm), 1, 0xFF,
     ({ (owned.modHoop (fun h => { h with spdm := h.spdm.set 2 ({ algs := true, caps := true, version := true } : Spdm) })) with mram := { owned.mram with slot1 := [1, 2, 3] } }).blocks,
     (natLe 2 71 ++ zeros 2 ++ sha512 [1, 2, 3] ++ [1, 2, 3]), intact_of _ (by decide +kernel), by decide +kernel⟩,
   ⟨{ (owned.modHoop (fun h => { h with spdm := h.spdm.set 2 ({ algs := true, caps := true, version := true } : Spdm) })) with mram := { owned.mram with slot1 := [1, 2, 3] } },
     .mctp, ({ algs := true, caps := true, version := true } : Spdm), 0, [], intact_of _ (by decide +kernel), by decide +kernel⟩,
   ⟨owned, .mctp, {}, 0x42, intact_of _ (by decide +kernel), by decide +kernel⟩,
   ⟨1001, manned, .mctp, 0x13, 0, 0, 0, 0, 8, [], 0, 1, false, (.getDigests 1001 .mctp), by decide +kernel⟩⟩

theorem test_hypotheses_of_ManagementCommandsAreAnswered :
    (∃ (s : State) (fn : _) (index : _) (r : _), fn < 2 ∧ s.managed = true ∧ s.fnUp fn = true ∧ (index, r) ∈ [(0, ([0x01, 0, 0, 1] : Bytes)), (1, [0x01,
      0, 1, 2]), (2, [0x4C, 0x1F, 1, 0])]) ∧
    (∃ (s : State) (fn : _), fn < 2 ∧ (s.managed = false ∨ s.fnUp fn = false)) ∧
    (∃ (s : State), s.mctpUp = true) ∧
    (∃ (s : State), s.mctpUp = true) ∧
    (∃ (s : State) (ring : _) (count : _), s.mctpUp = true ∧ s.hoop.phase = .sealed ∧ ring ≤ 1 ∧ 1 ≤ count ∧ count ≤ 16) ∧
    (∃ (t : Nat) (s : State) (bytes : Bytes) (ring : _) (start : _) (count : _) (i : _), i ∈ [Instr.mctpControl t bytes, .mctpStatus t, .mctpReadRing t
      ring start count] ∧ s.mctpUp = false) ∧
    (∃ (s : State), s.hoop.phase ≠ .sealed) ∧
    (∃ (s : State), s.hoop.phase ≠ .off) :=
  ⟨⟨owned, 1, 2, [0x4C, 0x1F, 1, 0], by decide +kernel⟩,
   ⟨manned, 1, by decide +kernel⟩,
   ⟨owned, by decide +kernel⟩,
   ⟨owned, by decide +kernel⟩,
   ⟨owned, 1, 16, by decide +kernel⟩,
   ⟨1001, manned, [], 0, 0, 1, (.mctpStatus 1001), by decide +kernel⟩,
   ⟨tripped, by decide +kernel⟩,
   ⟨owned, by decide +kernel⟩⟩

theorem test_hypotheses_of_RecordsAreJudgedBeforeTheirBodies :
    (∃ (i : Instr) (s : State) (t : Nat) (r : _) (body : _) (b : Bytes) (n : _), Claims.brings i = some (t, r, body) ∧ (∀ h, r.path ≠ .frame h) ∧
      i.wellFormed = true ∧ b = recordIn r.path (wrapperBytes r body) ∧ n = beAt b 8 8 ∧ s.pathServes r.path = true ∧ 64 ≤ s.queueFill) ∧
    (∃ (i : Instr) (s : State) (t : Nat) (r : _) (body : _) (b : Bytes) (n : _), Claims.brings i = some (t, r, body) ∧ (∀ h, r.path ≠ .frame h) ∧
      i.wellFormed = true ∧ b = recordIn r.path (wrapperBytes r body) ∧ n = beAt b 8 8 ∧ s.pathServes r.path = true ∧ s.queueFill < 64 ∧ wrapperOk b =
      false) ∧
    (∃ (i : Instr) (s : State) (t : Nat) (r : _) (body : _) (b : Bytes) (n : _), Claims.brings i = some (t, r, body) ∧ (∀ h, r.path ≠ .frame h) ∧
      i.wellFormed = true ∧ b = recordIn r.path (wrapperBytes r body) ∧ n = beAt b 8 8 ∧ s.pathServes r.path = true ∧ s.queueFill < 64 ∧ wrapperOk b =
      true ∧ signerOf (beAt b 0 2) = none) ∧
    (∃ (i : Instr) (s : State) (t : Nat) (r : _) (body : _) (b : Bytes) (n : _), Claims.brings i = some (t, r, body) ∧ (∀ h, r.path ≠ .frame h) ∧
      i.wellFormed = true ∧ b = recordIn r.path (wrapperBytes r body) ∧ n = beAt b 8 8 ∧ s.pathServes r.path = true ∧ s.queueFill < 64 ∧ wrapperOk b =
      true ∧ (signerOf (beAt b 0 2)).isSome = true ∧ s.recordMayCome r.path b = false) ∧
    (∃ (i : Instr) (s : State) (t : Nat) (r : _) (body : _) (b : Bytes) (n : _), Claims.brings i = some (t, r, body) ∧ (∀ h, r.path ≠ .frame h) ∧
      i.wellFormed = true ∧ b = recordIn r.path (wrapperBytes r body) ∧ n = beAt b 8 8 ∧ s.pathServes r.path = true ∧ s.queueFill < 64 ∧ wrapperOk b =
      true ∧ s.recordMayCome r.path b = true ∧ s.recordSigned b = false) ∧
    (∃ (i : Instr) (s : State) (t : Nat) (r : _) (body : _) (b : Bytes) (n : _) (st : _), Claims.brings i = some (t, r, body) ∧ (∀ h, r.path ≠ .frame h) ∧
      i.wellFormed = true ∧ b = recordIn r.path (wrapperBytes r body) ∧ n = beAt b 8 8 ∧ s.pathServes r.path = true ∧ s.queueFill < 64 ∧ wrapperOk b =
      true ∧ s.recordMayCome r.path b = true ∧ s.recordSigned b = true ∧ s.repeated b = some st) ∧
    (∃ (i : Instr) (s : State) (t : Nat) (r : _) (body : _) (b : Bytes) (n : _), Claims.brings i = some (t, r, body) ∧ (∀ h, r.path ≠ .frame h) ∧
      i.wellFormed = true ∧ b = recordIn r.path (wrapperBytes r body) ∧ n = beAt b 8 8 ∧ s.pathServes r.path = true ∧ s.queueFill < 64 ∧ wrapperOk b =
      true ∧ s.recordMayCome r.path b = true ∧ s.recordSigned b = true ∧ s.repeated b = none ∧ n ≤ nth s.mram.high (beAt b 3 1 - 1)) ∧
    (∃ (i : Instr) (s : State) (t : Nat) (r : _) (body : _) (q : _), Claims.brings i = some (t, r, body) ∧ Claims.comes s r.path (wrapperBytes r body) q ∧
      i.wellFormed = true) ∧
    (∃ (i : Instr) (s : State) (t : Nat) (r : _) (body : _), Claims.brings i = some (t, r, body) ∧ i.wellFormed = true ∧ s.pathServes r.path = false) ∧
    (∃ (s : State) (q : _) (rest : _), s.hoop.standbyDrain = false ∧ s.hoop.queue = q :: rest ∧ s.hoop.running = none ∧ s.markersGo = true) ∧
    (∃ (s : State), (∀ q, s.hoop.running ≠ some (q, [.apply])) ∧ s.hoop.standbyDrain = false ∧ (s.hoop.running.isSome = true ∨ s.hoop.queue = [])) ∧
    (∃ (s : State) (fn : _) (v : BitVec 64), fn < 2 ∧ s.fnUp fn = true ∧ s.hoop.phase = .sealed ∧ v.toNat < 256 ∧ s.slotPending fn v.toNat = false) ∧
    (∃ (s : State) (fn : _) (v : BitVec 64), fn < 2 ∧ (s.fnUp fn = false ∨ s.hoop.phase ≠ .sealed ∨ 256 ≤ v.toNat ∨ s.slotPending fn v.toNat = true)) :=
  ⟨⟨(.deviceReset 1001 (ownerEnv 0x0C80 (natBe 2 0x0C80 ++ [1, 0, 0, 0, 0, 0] : Bytes)) (natBe 2 0x0C80 ++ [1, 0, 0, 0, 0, 0] : Bytes)), owned.modHoop
     (fun h => { h with queue := List.replicate 64 qrec }), 1001, ownerEnv 0x0C80 (natBe 2 0x0C80 ++ [1, 0, 0, 0, 0, 0] : Bytes), (natBe 2 0x0C80 ++ [1,
     0, 0, 0, 0, 0] : Bytes), recordIn (ownerEnv 0x0C80 (natBe 2 0x0C80 ++ [1, 0, 0, 0, 0, 0] : Bytes)).path (wrapperBytes (ownerEnv 0x0C80 (natBe 2
     0x0C80 ++ [1, 0, 0, 0, 0, 0] : Bytes)) (natBe 2 0x0C80 ++ [1, 0, 0, 0, 0, 0] : Bytes)), 5, rfl, nofun, by decide +kernel⟩,
   ⟨(.deviceReset 1001 ({ ownerEnv 0x0C80 (natBe 2 0x0C80 ++ [1, 0, 0, 0, 0, 0] : Bytes) with reserved := 1 }) (natBe 2 0x0C80 ++ [1, 0, 0, 0, 0, 0] :
     Bytes)), owned.modHoop (fun h => { h with queue := List.replicate 63 qrec }), 1001,
     { ownerEnv 0x0C80 (natBe 2 0x0C80 ++ [1, 0, 0, 0, 0, 0] : Bytes) with reserved := 1 }, (natBe 2 0x0C80 ++ [1, 0, 0, 0, 0, 0] : Bytes), recordIn
     ({ ownerEnv 0x0C80 (natBe 2 0x0C80 ++ [1, 0, 0, 0, 0, 0] : Bytes) with reserved := 1 }).path (wrapperBytes
     ({ ownerEnv 0x0C80 (natBe 2 0x0C80 ++ [1, 0, 0, 0, 0, 0] : Bytes) with reserved := 1 }) (natBe 2 0x0C80 ++ [1, 0, 0, 0, 0, 0] : Bytes)), 5, rfl,
     nofun, by decide +kernel⟩,
   ⟨(.unsupportedRecordType 1001 (ownerEnv 0x0C04 (natBe 2 0x0C04 ++ [1, 0, 0, 0, 0, 0] : Bytes)) (natBe 2 0x0C04 ++ [1, 0, 0, 0, 0, 0] : Bytes)), owned,
     1001, ownerEnv 0x0C04 (natBe 2 0x0C04 ++ [1, 0, 0, 0, 0, 0] : Bytes), (natBe 2 0x0C04 ++ [1, 0, 0, 0, 0, 0] : Bytes), recordIn (ownerEnv 0x0C04
     (natBe 2 0x0C04 ++ [1, 0, 0, 0, 0, 0] : Bytes)).path (wrapperBytes (ownerEnv 0x0C04 (natBe 2 0x0C04 ++ [1, 0, 0, 0, 0, 0] : Bytes)) (natBe 2 0x0C04
     ++ [1, 0, 0, 0, 0, 0] : Bytes)), 5, rfl, nofun, by decide +kernel⟩,
   ⟨(.deviceReset 1001 ({ ownerEnv 0x0C80 (natBe 2 0x0C80 ++ [1, 0, 0, 0, 0, 0] : Bytes) with target := List.replicate 32 1 }) (natBe 2 0x0C80 ++ [1, 0,
     0, 0, 0, 0] : Bytes)), owned, 1001, { ownerEnv 0x0C80 (natBe 2 0x0C80 ++ [1, 0, 0, 0, 0, 0] : Bytes) with target := List.replicate 32 1 }, (natBe 2
     0x0C80 ++ [1, 0, 0, 0, 0, 0] : Bytes), recordIn
     ({ ownerEnv 0x0C80 (natBe 2 0x0C80 ++ [1, 0, 0, 0, 0, 0] : Bytes) with target := List.replicate 32 1 }).path (wrapperBytes
     ({ ownerEnv 0x0C80 (natBe 2 0x0C80 ++ [1, 0, 0, 0, 0, 0] : Bytes) with target := List.replicate 32 1 }) (natBe 2 0x0C80 ++ [1, 0, 0, 0, 0, 0] :
     Bytes)), 5, rfl, nofun, by decide +kernel⟩,
   ⟨(.deviceReset 1001 ({ ownerEnv 0x0C80 (natBe 2 0x0C80 ++ [1, 0, 0, 0, 0, 0] : Bytes) with signature := List.replicate 64 0 }) (natBe 2 0x0C80 ++ [1,
     0, 0, 0, 0, 0] : Bytes)), owned, 1001, { ownerEnv 0x0C80 (natBe 2 0x0C80 ++ [1, 0, 0, 0, 0, 0] : Bytes) with signature := List.replicate 64 0 },
     (natBe 2 0x0C80 ++ [1, 0, 0, 0, 0, 0] : Bytes), recordIn
     ({ ownerEnv 0x0C80 (natBe 2 0x0C80 ++ [1, 0, 0, 0, 0, 0] : Bytes) with signature := List.replicate 64 0 }).path (wrapperBytes
     ({ ownerEnv 0x0C80 (natBe 2 0x0C80 ++ [1, 0, 0, 0, 0, 0] : Bytes) with signature := List.replicate 64 0 }) (natBe 2 0x0C80 ++ [1, 0, 0, 0, 0, 0] :
     Bytes)), 5, rfl, nofun, by decide +kernel⟩,
   ⟨(.deviceReset 1001 (ownerEnv 0x0C80 (natBe 2 0x0C80 ++ [1, 0, 0, 0, 0, 0] : Bytes)) (natBe 2 0x0C80 ++ [1, 0, 0, 0, 0, 0] : Bytes)),
     { owned with mram := { owned.mram with history := [(1, 5, sha512 (recOf (ownerEnv 0x0C80 (natBe 2 0x0C80 ++ [1, 0, 0, 0, 0, 0] : Bytes)) (natBe 2 0x0C80 ++ [1, 0, 0, 0, 0, 0] : Bytes)).bytes, .ok)] } },
     1001, ownerEnv 0x0C80 (natBe 2 0x0C80 ++ [1, 0, 0, 0, 0, 0] : Bytes), (natBe 2 0x0C80 ++ [1, 0, 0, 0, 0, 0] : Bytes), recordIn (ownerEnv 0x0C80
     (natBe 2 0x0C80 ++ [1, 0, 0, 0, 0, 0] : Bytes)).path (wrapperBytes (ownerEnv 0x0C80 (natBe 2 0x0C80 ++ [1, 0, 0, 0, 0, 0] : Bytes)) (natBe 2 0x0C80
     ++ [1, 0, 0, 0, 0, 0] : Bytes)), 5, .ok, rfl, nofun, by decide +kernel⟩,
   ⟨(.deviceReset 1001 (ownerEnv 0x0C80 (natBe 2 0x0C80 ++ [1, 0, 0, 0, 0, 0] : Bytes)) (natBe 2 0x0C80 ++ [1, 0, 0, 0, 0, 0] : Bytes)),
     { owned with mram := { owned.mram with high := [5, 0] } }, 1001, ownerEnv 0x0C80 (natBe 2 0x0C80 ++ [1, 0, 0, 0, 0, 0] : Bytes), (natBe 2 0x0C80 ++
     [1, 0, 0, 0, 0, 0] : Bytes), recordIn (ownerEnv 0x0C80 (natBe 2 0x0C80 ++ [1, 0, 0, 0, 0, 0] : Bytes)).path (wrapperBytes (ownerEnv 0x0C80 (natBe 2
     0x0C80 ++ [1, 0, 0, 0, 0, 0] : Bytes)) (natBe 2 0x0C80 ++ [1, 0, 0, 0, 0, 0] : Bytes)), 5, rfl, nofun, by decide +kernel⟩,
   ⟨(.deviceReset 1001 (ownerEnv 0x0C80 (natBe 2 0x0C80 ++ [1, 0, 0, 0, 0, 0] : Bytes)) (natBe 2 0x0C80 ++ [1, 0, 0, 0, 0, 0] : Bytes)), owned, 1001,
     ownerEnv 0x0C80 (natBe 2 0x0C80 ++ [1, 0, 0, 0, 0, 0] : Bytes), (natBe 2 0x0C80 ++ [1, 0, 0, 0, 0, 0] : Bytes), recOf (ownerEnv 0x0C80 (natBe 2
     0x0C80 ++ [1, 0, 0, 0, 0, 0] : Bytes)) (natBe 2 0x0C80 ++ [1, 0, 0, 0, 0, 0] : Bytes), rfl, comes_of (by decide +kernel), by decide +kernel⟩,
   ⟨(.deviceReset 1001 (ownerEnv 0x0C80 (natBe 2 0x0C80 ++ [1, 0, 0, 0, 0, 0] : Bytes)) (natBe 2 0x0C80 ++ [1, 0, 0, 0, 0, 0] : Bytes)), manned, 1001,
     ownerEnv 0x0C80 (natBe 2 0x0C80 ++ [1, 0, 0, 0, 0, 0] : Bytes), (natBe 2 0x0C80 ++ [1, 0, 0, 0, 0, 0] : Bytes), rfl, by decide +kernel⟩,
   ⟨owned.modHoop (fun h => { h with queue := [qrec] }), qrec, [], by decide +kernel⟩,
   ⟨owned, fun q => notSome_of (by decide +kernel) _, by decide +kernel⟩,
   ⟨owned, 1, 0xFF, by decide +kernel⟩,
   ⟨owned, 1, 0x100, by decide +kernel⟩⟩

theorem test_hypotheses_of_OwnerRecordsTakeEffect :
    (∃ (t : Nat) (s : State) (i : _) (q : _) (r0 : _) (b0 : _), Claims.inForce i s t q ∧ i = Instr.revocation t r0 b0 ∧ q.recType = 0x0C02 ∧ s.mem.filter
      = [] ∧ BitVec.ofNat 32 (beAt q.body 4 4) = s.tabs.compEpoch ∧ beAt q.body 2 2 ≤ 256 ∧ q.body.length = 8 + 8 * beAt q.body 2 2) ∧
    (∃ (t : Nat) (s : State) (i : _) (q : _) (r0 : _) (b0 : _), Claims.inForce i s t q ∧ i = Instr.revocation t r0 b0 ∧ q.recType = 0x0C02 ∧ s.mem.filter
      = [] ∧ 8 ≤ q.body.length ∧ beAt q.body 2 2 ≤ 256 ∧ BitVec.ofNat 32 (beAt q.body 4 4) ≠ s.tabs.compEpoch) ∧
    (∃ (t : Nat) (s : State) (i : _) (q : _) (r0 : _) (b0 : _), Claims.inForce i s t q ∧ i = Instr.publishWitness t r0 b0 ∧ q.recType = 0x0C03 ∧
      witnessForm q.body = true ∧ s.witnessSigned q = false) ∧
    (∃ (t : Nat) (s : State) (i : _) (q : _) (r0 : _) (b0 : _), Claims.inForce i s t q ∧ i = Instr.publishWitness t r0 b0 ∧ q.recType = 0x0C03 ∧
      witnessForm q.body = true ∧ s.witnessSigned q = true ∧ BitVec.ofNat 32 (beAt q.body 4 4) = s.tabs.compEpoch ∧ s.jrn.soloHold = none ∧ s.hlt.fence =
      1) ∧
    (∃ (t : Nat) (s : State) (i : _) (q : _) (r0 : _) (b0 : _), Claims.inForce i s t q ∧ i = Instr.publishWitness t r0 b0 ∧ q.recType = 0x0C03 ∧
      witnessForm q.body = true ∧ s.witnessSigned q = true ∧ s.tabs.compEpoch.toNat < beAt q.body 4 4 ∧ (s.hlt.fence = 0 ∨ s.hlt.fence = 2)) ∧
    (∃ (s : State) (q : _), s.hoop.witnessWait = [q] ∧ q.recType = 0x0C03 ∧ (∀ e ∈ s.mram.history, ¬(e.1 = q.signer ∧ e.2.1 = q.number)) ∧ witnessForm
      q.body = true ∧ s.witnessSigned q = true ∧ BitVec.ofNat 32 (beAt q.body 4 4) = s.tabs.compEpoch ∧ s.jrn.soloHold = none ∧ s.hlt.fence = 1) ∧
    (∃ (s : State), s.hoop.witnessWait = []) ∧
    (∃ (t : Nat) (s : State) (i : _) (q : _) (r0 : _) (b0 : _) (p : Nat), Claims.inForce i s t q ∧ i = Instr.consent t r0 b0 ∧ q.recType = 0x0C51 ∧ p =
      beAt q.body 2 1 ∧ s.consentRefused q.body = none ∧ p < s.parts.length) ∧
    (∃ (t : Nat) (s : State) (i : _) (q : _) (r0 : _) (b0 : _) (p : Nat) (st : _), Claims.inForce i s t q ∧ i = Instr.consent t r0 b0 ∧ q.recType = 0x0C51
      ∧ p = beAt q.body 2 1 ∧ s.consentRefused q.body = some st) ∧
    (∃ (t : Nat) (s : State) (i : _) (q : _) (r0 : _) (b0 : _) (p : Nat), Claims.inForce i s t q ∧ i = Instr.replayLockOn t r0 b0 ∧ q.recType = 0x0C52 ∧
      beAt q.body 3 1 = 1 ∧ p = beAt q.body 2 1 ∧ s.lockRefused q.body = none ∧ p < s.parts.length ∧ s.locked p = false) ∧
    (∃ (t : Nat) (s : State) (i : _) (q : _) (r0 : _) (b0 : _) (p : Nat), Claims.inForce i s t q ∧ i = Instr.replayLockOff t r0 b0 ∧ q.recType = 0x0C52 ∧
      p = beAt q.body 2 1 ∧ s.lockRefused q.body = none ∧ s.locked p = true ∧ (s.part p).batch = none) ∧
    (∃ (t : Nat) (s : State) (i : _) (q : _) (r0 : _) (b0 : _) (n : _), Claims.inForce i s t q ∧ i = Instr.ownerCertificateFragment t r0 b0 ∧ q.recType =
      0x0C70 ∧ n = beAt q.body 4 4 ∧ 12 ≤ q.body.length ∧ isZero q.body 2 2 = true ∧ n ≠ 0 ∧ n ≤ 16384 ∧ beAt q.body 8 4 + (q.body.length - 12) ≤ n ∧
      s.hoop.certParts = none ∧ assembled n [(beAt q.body 8 4, q.body.drop 12)] = none) ∧
    (∃ (t : Nat) (s : State) (i : _) (q : _) (r0 : _) (b0 : _) (n : _) (chain : _), Claims.inForce i s t q ∧ i = Instr.ownerCertificateFragment t r0 b0 ∧
      q.recType = 0x0C70 ∧ n = beAt q.body 4 4 ∧ 12 ≤ q.body.length ∧ isZero q.body 2 2 = true ∧ n ≠ 0 ∧ n ≤ 16384 ∧ beAt q.body 8 4 + (q.body.length -
      12) ≤ n ∧ s.hoop.certParts = none ∧ assembled n [(beAt q.body 8 4, q.body.drop 12)] = some chain) ∧
    (∃ (t : Nat) (s : State) (i : _) (q : _) (r0 : _) (b0 : _), Claims.inForce i s t q ∧ i = Instr.deviceReset t r0 b0 ∧ q.recType = 0x0C80 ∧
      q.body.length = 8 ∧ isZero q.body 3 1 = true ∧ beAt q.body 2 1 = 1 ∧ BitVec.ofNat 32 (beAt q.body 4 4) = s.tabs.compEpoch) ∧
    (∃ (t : Nat) (s : State) (i : _) (q : _) (r0 : _) (b0 : _), Claims.inForce i s t q ∧ i = Instr.deviceReset t r0 b0 ∧ q.recType = 0x0C80 ∧
      q.body.length = 8 ∧ isZero q.body 3 1 = true ∧ 1 < beAt q.body 2 1) :=
  ⟨⟨1001, owned, (.revocation 1001 (ownerEnv 0xC02 (natBe 2 0x0C02 ++ natBe 2 1 ++ natBe 4 0 ++ natBe 2 1 ++ natBe 2 1 ++ natBe 4 1 : Bytes)) (natBe 2
     0x0C02 ++ natBe 2 1 ++ natBe 4 0 ++ natBe 2 1 ++ natBe 2 1 ++ natBe 4 1 : Bytes)), recOf (ownerEnv 0xC02 (natBe 2 0x0C02 ++ natBe 2 1 ++ natBe 4 0 ++
     natBe 2 1 ++ natBe 2 1 ++ natBe 4 1 : Bytes)) (natBe 2 0x0C02 ++ natBe 2 1 ++ natBe 4 0 ++ natBe 2 1 ++ natBe 2 1 ++ natBe 4 1 : Bytes), ownerEnv
     0xC02 (natBe 2 0x0C02 ++ natBe 2 1 ++ natBe 4 0 ++ natBe 2 1 ++ natBe 2 1 ++ natBe 4 1 : Bytes), (natBe 2 0x0C02 ++ natBe 2 1 ++ natBe 4 0 ++ natBe 2
     1 ++ natBe 2 1 ++ natBe 4 1 : Bytes), inForce_of rfl (by decide +kernel) (by decide +kernel), by decide +kernel⟩,
   ⟨1001, owned, (.revocation 1001 (ownerEnv 0xC02 (natBe 2 0x0C02 ++ natBe 2 0 ++ natBe 4 1 : Bytes)) (natBe 2 0x0C02 ++ natBe 2 0 ++ natBe 4 1 :
     Bytes)), recOf (ownerEnv 0xC02 (natBe 2 0x0C02 ++ natBe 2 0 ++ natBe 4 1 : Bytes)) (natBe 2 0x0C02 ++ natBe 2 0 ++ natBe 4 1 : Bytes), ownerEnv 0xC02
     (natBe 2 0x0C02 ++ natBe 2 0 ++ natBe 4 1 : Bytes), (natBe 2 0x0C02 ++ natBe 2 0 ++ natBe 4 1 : Bytes),
     inForce_of rfl (by decide +kernel) (by decide +kernel), by decide +kernel⟩,
   ⟨1001, owned, (.publishWitness 1001 (ownerEnv 0xC03 (natBe 2 0x0C03 ++ [2, 0] ++ natBe 4 0 ++ zeros 8 ++ neutralBytes ++ zeros 32 : Bytes)) (natBe 2
     0x0C03 ++ [2, 0] ++ natBe 4 0 ++ zeros 8 ++ neutralBytes ++ zeros 32 : Bytes)), recOf (ownerEnv 0xC03 (natBe 2 0x0C03 ++ [2, 0] ++ natBe 4 0 ++ zeros
     8 ++ neutralBytes ++ zeros 32 : Bytes)) (natBe 2 0x0C03 ++ [2, 0] ++ natBe 4 0 ++ zeros 8 ++ neutralBytes ++ zeros 32 : Bytes), ownerEnv 0xC03 (natBe
     2 0x0C03 ++ [2, 0] ++ natBe 4 0 ++ zeros 8 ++ neutralBytes ++ zeros 32 : Bytes), (natBe 2 0x0C03 ++ [2, 0] ++ natBe 4 0 ++ zeros 8 ++ neutralBytes ++
     zeros 32 : Bytes), inForce_of rfl (by decide +kernel) (by decide +kernel), by decide +kernel⟩,
   ⟨1001, ({ owned with tabs := { owned.tabs with witnesses := some (List.replicate 32 9, neutralBytes) } }).modHlt (fun h => { h with fence := 1 }),
     (.publishWitness 1001 (ownerEnv 0xC03 (natBe 2 0x0C03 ++ [2, 0] ++ natBe 4 0 ++ zeros 8 ++ neutralBytes ++ zeros 32 : Bytes)) (natBe 2 0x0C03 ++ [2,
     0] ++ natBe 4 0 ++ zeros 8 ++ neutralBytes ++ zeros 32 : Bytes)), recOf (ownerEnv 0xC03 (natBe 2 0x0C03 ++ [2, 0] ++ natBe 4 0 ++ zeros 8 ++
     neutralBytes ++ zeros 32 : Bytes)) (natBe 2 0x0C03 ++ [2, 0] ++ natBe 4 0 ++ zeros 8 ++ neutralBytes ++ zeros 32 : Bytes), ownerEnv 0xC03 (natBe 2
     0x0C03 ++ [2, 0] ++ natBe 4 0 ++ zeros 8 ++ neutralBytes ++ zeros 32 : Bytes), (natBe 2 0x0C03 ++ [2, 0] ++ natBe 4 0 ++ zeros 8 ++ neutralBytes ++
     zeros 32 : Bytes), inForce_of rfl (by decide +kernel) (by decide +kernel), by decide +kernel⟩,
   ⟨1001, ({ owned with tabs := { owned.tabs with witnesses := some (List.replicate 32 9, neutralBytes) } }).modHlt (fun h => { h with fence := 0 }),
     (.publishWitness 1001 (ownerEnv 0xC03 (natBe 2 0x0C03 ++ [2, 0] ++ natBe 4 1 ++ zeros 8 ++ neutralBytes ++ zeros 32 : Bytes)) (natBe 2 0x0C03 ++ [2,
     0] ++ natBe 4 1 ++ zeros 8 ++ neutralBytes ++ zeros 32 : Bytes)), recOf (ownerEnv 0xC03 (natBe 2 0x0C03 ++ [2, 0] ++ natBe 4 1 ++ zeros 8 ++
     neutralBytes ++ zeros 32 : Bytes)) (natBe 2 0x0C03 ++ [2, 0] ++ natBe 4 1 ++ zeros 8 ++ neutralBytes ++ zeros 32 : Bytes), ownerEnv 0xC03 (natBe 2
     0x0C03 ++ [2, 0] ++ natBe 4 1 ++ zeros 8 ++ neutralBytes ++ zeros 32 : Bytes), (natBe 2 0x0C03 ++ [2, 0] ++ natBe 4 1 ++ zeros 8 ++ neutralBytes ++
     zeros 32 : Bytes), inForce_of rfl (by decide +kernel) (by decide +kernel), by decide +kernel⟩,
   ⟨(({ owned with tabs := { owned.tabs with witnesses := some (List.replicate 32 9, neutralBytes) } }).modHlt (fun h => { h with fence := 1 })).modHoop
     (fun h =>
     { h with witnessWait := [recOf (ownerEnv 0x0C03 (natBe 2 0x0C03 ++ [2, 0] ++ natBe 4 0 ++ zeros 8 ++ neutralBytes ++ zeros 32 : Bytes)) (natBe 2 0x0C03 ++ [2, 0] ++ natBe 4 0 ++ zeros 8 ++ neutralBytes ++ zeros 32 : Bytes)] }),
     recOf (ownerEnv 0x0C03 (natBe 2 0x0C03 ++ [2, 0] ++ natBe 4 0 ++ zeros 8 ++ neutralBytes ++ zeros 32 : Bytes)) (natBe 2 0x0C03 ++ [2, 0] ++ natBe 4 0
     ++ zeros 8 ++ neutralBytes ++ zeros 32 : Bytes), by decide +kernel⟩,
   ⟨owned, by decide +kernel⟩,
   ⟨1001, owned.modPart 15 (fun p => { p with state := .active, tenantKey := neutralBytes }), (.consent 1001 (ownerEnv 0xC51 (natBe 2 0x0C51 ++ [15, 7] ++
     natBe 2 0 ++ zeros 2 ++ natBe 4 0 ++ natBe 4 1 ++ List.replicate 16 3 ++ neutralBytes ++ zeros 32 : Bytes)) (natBe 2 0x0C51 ++ [15, 7] ++ natBe 2 0
     ++ zeros 2 ++ natBe 4 0 ++ natBe 4 1 ++ List.replicate 16 3 ++ neutralBytes ++ zeros 32 : Bytes)), recOf (ownerEnv 0xC51 (natBe 2 0x0C51 ++ [15, 7]
     ++ natBe 2 0 ++ zeros 2 ++ natBe 4 0 ++ natBe 4 1 ++ List.replicate 16 3 ++ neutralBytes ++ zeros 32 : Bytes)) (natBe 2 0x0C51 ++ [15, 7] ++ natBe 2
     0 ++ zeros 2 ++ natBe 4 0 ++ natBe 4 1 ++ List.replicate 16 3 ++ neutralBytes ++ zeros 32 : Bytes), ownerEnv 0xC51 (natBe 2 0x0C51 ++ [15, 7] ++
     natBe 2 0 ++ zeros 2 ++ natBe 4 0 ++ natBe 4 1 ++ List.replicate 16 3 ++ neutralBytes ++ zeros 32 : Bytes), (natBe 2 0x0C51 ++ [15, 7] ++ natBe 2 0
     ++ zeros 2 ++ natBe 4 0 ++ natBe 4 1 ++ List.replicate 16 3 ++ neutralBytes ++ zeros 32 : Bytes), 15,
     inForce_of rfl (by decide +kernel) (by decide +kernel), by decide +kernel⟩,
   ⟨1001, owned.modPart 15 (fun p => { p with state := .active, tenantKey := neutralBytes }), (.consent 1001 (ownerEnv 0xC51 (natBe 2 0x0C51 ++ [15, 7] ++
     natBe 2 0 ++ zeros 2 ++ natBe 4 1 ++ natBe 4 1 ++ List.replicate 16 3 ++ neutralBytes ++ zeros 32 : Bytes)) (natBe 2 0x0C51 ++ [15, 7] ++ natBe 2 0
     ++ zeros 2 ++ natBe 4 1 ++ natBe 4 1 ++ List.replicate 16 3 ++ neutralBytes ++ zeros 32 : Bytes)), recOf (ownerEnv 0xC51 (natBe 2 0x0C51 ++ [15, 7]
     ++ natBe 2 0 ++ zeros 2 ++ natBe 4 1 ++ natBe 4 1 ++ List.replicate 16 3 ++ neutralBytes ++ zeros 32 : Bytes)) (natBe 2 0x0C51 ++ [15, 7] ++ natBe 2
     0 ++ zeros 2 ++ natBe 4 1 ++ natBe 4 1 ++ List.replicate 16 3 ++ neutralBytes ++ zeros 32 : Bytes), ownerEnv 0xC51 (natBe 2 0x0C51 ++ [15, 7] ++
     natBe 2 0 ++ zeros 2 ++ natBe 4 1 ++ natBe 4 1 ++ List.replicate 16 3 ++ neutralBytes ++ zeros 32 : Bytes), (natBe 2 0x0C51 ++ [15, 7] ++ natBe 2 0
     ++ zeros 2 ++ natBe 4 1 ++ natBe 4 1 ++ List.replicate 16 3 ++ neutralBytes ++ zeros 32 : Bytes), 15, .staleEpoch,
     inForce_of rfl (by decide +kernel) (by decide +kernel), by decide +kernel⟩,
   ⟨1001, owned, (.replayLockOn 1001 (ownerEnv 0xC52 (natBe 2 0x0C52 ++ [15, 1] ++ zeros 4 ++ natBe 4 0 ++ natBe 6 0x2000 ++ zeros 2 ++ natBe 4 256 ++
     natBe 6 0x1000 ++ zeros 2 : Bytes)) (natBe 2 0x0C52 ++ [15, 1] ++ zeros 4 ++ natBe 4 0 ++ natBe 6 0x2000 ++ zeros 2 ++ natBe 4 256 ++ natBe 6 0x1000
     ++ zeros 2 : Bytes)), recOf (ownerEnv 0xC52 (natBe 2 0x0C52 ++ [15, 1] ++ zeros 4 ++ natBe 4 0 ++ natBe 6 0x2000 ++ zeros 2 ++ natBe 4 256 ++ natBe 6
     0x1000 ++ zeros 2 : Bytes)) (natBe 2 0x0C52 ++ [15, 1] ++ zeros 4 ++ natBe 4 0 ++ natBe 6 0x2000 ++ zeros 2 ++ natBe 4 256 ++ natBe 6 0x1000 ++ zeros
     2 : Bytes), ownerEnv 0xC52 (natBe 2 0x0C52 ++ [15, 1] ++ zeros 4 ++ natBe 4 0 ++ natBe 6 0x2000 ++ zeros 2 ++ natBe 4 256 ++ natBe 6 0x1000 ++ zeros
     2 : Bytes), (natBe 2 0x0C52 ++ [15, 1] ++ zeros 4 ++ natBe 4 0 ++ natBe 6 0x2000 ++ zeros 2 ++ natBe 4 256 ++ natBe 6 0x1000 ++ zeros 2 : Bytes), 15,
     inForce_of rfl (by decide +kernel) (by decide +kernel), by decide +kernel⟩,
   ⟨1001, owned.modPart 15 (fun p =>
     { p with lock := some (lockOf (natBe 2 0x0C52 ++ [15, 1] ++ zeros 4 ++ natBe 4 0 ++ natBe 6 0x2000 ++ zeros 2 ++ natBe 4 256 ++ natBe 6 0x1000 ++ zeros 2 : Bytes)) }),
     (.replayLockOff 1001 (ownerEnv 0xC52 (natBe 2 0x0C52 ++ [15, 2] ++ zeros 4 ++ natBe 4 0 ++ natBe 6 0 ++ zeros 2 ++ natBe 4 0 ++ natBe 6 0 ++ zeros 2
     : Bytes)) (natBe 2 0x0C52 ++ [15, 2] ++ zeros 4 ++ natBe 4 0 ++ natBe 6 0 ++ zeros 2 ++ natBe 4 0 ++ natBe 6 0 ++ zeros 2 : Bytes)), recOf (ownerEnv
     0xC52 (natBe 2 0x0C52 ++ [15, 2] ++ zeros 4 ++ natBe 4 0 ++ natBe 6 0 ++ zeros 2 ++ natBe 4 0 ++ natBe 6 0 ++ zeros 2 : Bytes)) (natBe 2 0x0C52 ++
     [15, 2] ++ zeros 4 ++ natBe 4 0 ++ natBe 6 0 ++ zeros 2 ++ natBe 4 0 ++ natBe 6 0 ++ zeros 2 : Bytes), ownerEnv 0xC52 (natBe 2 0x0C52 ++ [15, 2] ++
     zeros 4 ++ natBe 4 0 ++ natBe 6 0 ++ zeros 2 ++ natBe 4 0 ++ natBe 6 0 ++ zeros 2 : Bytes), (natBe 2 0x0C52 ++ [15, 2] ++ zeros 4 ++ natBe 4 0 ++
     natBe 6 0 ++ zeros 2 ++ natBe 4 0 ++ natBe 6 0 ++ zeros 2 : Bytes), 15, inForce_of rfl (by decide +kernel) (by decide +kernel), by decide +kernel⟩,
   ⟨1001, owned, (.ownerCertificateFragment 1001 (ownerEnv 0xC70 (natBe 2 0x0C70 ++ zeros 2 ++ natBe 4 16384 ++ natBe 4 1 ++ [7, 7] : Bytes)) (natBe 2
     0x0C70 ++ zeros 2 ++ natBe 4 16384 ++ natBe 4 1 ++ [7, 7] : Bytes)), recOf (ownerEnv 0xC70 (natBe 2 0x0C70 ++ zeros 2 ++ natBe 4 16384 ++ natBe 4 1
     ++ [7, 7] : Bytes)) (natBe 2 0x0C70 ++ zeros 2 ++ natBe 4 16384 ++ natBe 4 1 ++ [7, 7] : Bytes), ownerEnv 0xC70 (natBe 2 0x0C70 ++ zeros 2 ++ natBe 4
     16384 ++ natBe 4 1 ++ [7, 7] : Bytes), (natBe 2 0x0C70 ++ zeros 2 ++ natBe 4 16384 ++ natBe 4 1 ++ [7, 7] : Bytes), 16384,
     inForce_of rfl (by decide +kernel) (by decide +kernel), by decide +kernel⟩,
   ⟨1001, owned, (.ownerCertificateFragment 1001 (ownerEnv 0xC70 (natBe 2 0x0C70 ++ zeros 2 ++ natBe 4 2 ++ natBe 4 0 ++ [7, 7] : Bytes)) (natBe 2 0x0C70
     ++ zeros 2 ++ natBe 4 2 ++ natBe 4 0 ++ [7, 7] : Bytes)), recOf (ownerEnv 0xC70 (natBe 2 0x0C70 ++ zeros 2 ++ natBe 4 2 ++ natBe 4 0 ++ [7, 7] :
     Bytes)) (natBe 2 0x0C70 ++ zeros 2 ++ natBe 4 2 ++ natBe 4 0 ++ [7, 7] : Bytes), ownerEnv 0xC70 (natBe 2 0x0C70 ++ zeros 2 ++ natBe 4 2 ++ natBe 4 0
     ++ [7, 7] : Bytes), (natBe 2 0x0C70 ++ zeros 2 ++ natBe 4 2 ++ natBe 4 0 ++ [7, 7] : Bytes), 2, [7, 7],
     inForce_of rfl (by decide +kernel) (by decide +kernel), by decide +kernel⟩,
   ⟨1001, owned, (.deviceReset 1001 (ownerEnv 0xC80 (natBe 2 0x0C80 ++ [1, 0, 0, 0, 0, 0] : Bytes)) (natBe 2 0x0C80 ++ [1, 0, 0, 0, 0, 0] : Bytes)), recOf
     (ownerEnv 0xC80 (natBe 2 0x0C80 ++ [1, 0, 0, 0, 0, 0] : Bytes)) (natBe 2 0x0C80 ++ [1, 0, 0, 0, 0, 0] : Bytes), ownerEnv 0xC80 (natBe 2 0x0C80 ++ [1,
     0, 0, 0, 0, 0] : Bytes), (natBe 2 0x0C80 ++ [1, 0, 0, 0, 0, 0] : Bytes), inForce_of rfl (by decide +kernel) (by decide +kernel), by decide +kernel⟩,
   ⟨1001, owned, (.deviceReset 1001 (ownerEnv 0xC80 (natBe 2 0x0C80 ++ [2, 0, 0, 0, 0, 0] : Bytes)) (natBe 2 0x0C80 ++ [2, 0, 0, 0, 0, 0] : Bytes)), recOf
     (ownerEnv 0xC80 (natBe 2 0x0C80 ++ [2, 0, 0, 0, 0, 0] : Bytes)) (natBe 2 0x0C80 ++ [2, 0, 0, 0, 0, 0] : Bytes), ownerEnv 0xC80 (natBe 2 0x0C80 ++ [2,
     0, 0, 0, 0, 0] : Bytes), (natBe 2 0x0C80 ++ [2, 0, 0, 0, 0, 0] : Bytes), inForce_of rfl (by decide +kernel) (by decide +kernel), by decide +kernel⟩⟩

theorem test_hypotheses_of_PartnerRecordsTakeEffect :
    (∃ (t : Nat) (s : State) (i : _) (q : _) (r0 : _) (b0 : _) (p : _) (k : _), Claims.inForce i s t q ∧ i = Instr.keyTransfer t r0 b0 ∧ q.recType =
      0x0C60 ∧ p = beAt q.body 2 1 ∧ q.body.length = 84 ∧ p < s.parts.length ∧ p < 16 ∧ isZero q.body 3 1 = true ∧ BitVec.ofNat 32 (beAt q.body 8 4) =
      s.tabs.compEpoch ∧ ((s.part p).state = .active ∨ (s.part p).state = .free) ∧ s.hoop.transportKey = some k) ∧
    (∃ (t : Nat) (s : State) (i : _) (q : _) (r0 : _) (b0 : _), Claims.inForce i s t q ∧ i = Instr.pairAdmissionOffer t r0 b0 ∧ q.recType = 0x0C61 ∧ beAt
      q.body 2 1 = 1 ∧ s.admissionRefused q.body = none ∧ (∀ p < 16, (s.part p).keyPresent = false)) ∧
    (∃ (t : Nat) (s : State) (i : _) (q : _) (r0 : _) (b0 : _) (own : _), Claims.inForce i s t q ∧ i = Instr.pairAdmissionAnswer t r0 b0 ∧ q.recType =
      0x0C61 ∧ beAt q.body 2 1 = 2 ∧ s.admissionRefused q.body = none ∧ s.hoop.offerNonce = some own) ∧
    (∃ (t : Nat) (s : State) (i : _) (q : _) (r0 : _) (b0 : _) (st : _), Claims.inForce i s t q ∧ (i = Instr.pairAdmissionOffer t r0 b0 ∨ i =
      Instr.pairAdmissionAnswer t r0 b0) ∧ q.recType = 0x0C61 ∧ s.admissionRefused q.body = some st) :=
  ⟨⟨1001, partnered.modHoop (fun h => { h with transportKey := some (List.replicate 32 5 : Bytes) }), (.keyTransfer 1001 (partnerEnv 0xC60 (natBe 2 0x0C60
     ++ [15, 0] ++ natBe 4 9 ++ natBe 4 0 ++ zeros 72 : Bytes)) (natBe 2 0x0C60 ++ [15, 0] ++ natBe 4 9 ++ natBe 4 0 ++ zeros 72 : Bytes)), recOf
     (partnerEnv 0xC60 (natBe 2 0x0C60 ++ [15, 0] ++ natBe 4 9 ++ natBe 4 0 ++ zeros 72 : Bytes)) (natBe 2 0x0C60 ++ [15, 0] ++ natBe 4 9 ++ natBe 4 0 ++
     zeros 72 : Bytes), partnerEnv 0xC60 (natBe 2 0x0C60 ++ [15, 0] ++ natBe 4 9 ++ natBe 4 0 ++ zeros 72 : Bytes), (natBe 2 0x0C60 ++ [15, 0] ++ natBe 4
     9 ++ natBe 4 0 ++ zeros 72 : Bytes), 15, (List.replicate 32 5 : Bytes), inForce_of rfl (by decide +kernel) (by decide +kernel), by decide +kernel⟩,
   ⟨1001, partnered.modPart 0 (fun p => { p with keyPresent := false, key := none }), (.pairAdmissionOffer 1001 (partnerEnv 0xC61 (natBe 2 0x0C61 ++ [1,
     0] ++ natBe 4 0 ++ List.replicate 32 8 ++ List.replicate 16 2 ++ zeros 16 ++ zeros 8 : Bytes)) (natBe 2 0x0C61 ++ [1, 0] ++ natBe 4 0 ++
     List.replicate 32 8 ++ List.replicate 16 2 ++ zeros 16 ++ zeros 8 : Bytes)), recOf (partnerEnv 0xC61 (natBe 2 0x0C61 ++ [1, 0] ++ natBe 4 0 ++
     List.replicate 32 8 ++ List.replicate 16 2 ++ zeros 16 ++ zeros 8 : Bytes)) (natBe 2 0x0C61 ++ [1, 0] ++ natBe 4 0 ++ List.replicate 32 8 ++
     List.replicate 16 2 ++ zeros 16 ++ zeros 8 : Bytes), partnerEnv 0xC61 (natBe 2 0x0C61 ++ [1, 0] ++ natBe 4 0 ++ List.replicate 32 8 ++ List.replicate
     16 2 ++ zeros 16 ++ zeros 8 : Bytes), (natBe 2 0x0C61 ++ [1, 0] ++ natBe 4 0 ++ List.replicate 32 8 ++ List.replicate 16 2 ++ zeros 16 ++ zeros 8 :
     Bytes), inForce_of rfl (by decide +kernel) (by decide +kernel), by decide +kernel⟩,
   ⟨1001, partnered.modHoop (fun h => { h with offerNonce := some (List.replicate 16 4) }), (.pairAdmissionAnswer 1001 (partnerEnv 0xC61 (natBe 2 0x0C61
     ++ [2, 0] ++ natBe 4 0 ++ List.replicate 32 8 ++ List.replicate 16 2 ++ List.replicate 16 4 ++ zeros 8 : Bytes)) (natBe 2 0x0C61 ++ [2, 0] ++ natBe 4
     0 ++ List.replicate 32 8 ++ List.replicate 16 2 ++ List.replicate 16 4 ++ zeros 8 : Bytes)), recOf (partnerEnv 0xC61 (natBe 2 0x0C61 ++ [2, 0] ++
     natBe 4 0 ++ List.replicate 32 8 ++ List.replicate 16 2 ++ List.replicate 16 4 ++ zeros 8 : Bytes)) (natBe 2 0x0C61 ++ [2, 0] ++ natBe 4 0 ++
     List.replicate 32 8 ++ List.replicate 16 2 ++ List.replicate 16 4 ++ zeros 8 : Bytes), partnerEnv 0xC61 (natBe 2 0x0C61 ++ [2, 0] ++ natBe 4 0 ++
     List.replicate 32 8 ++ List.replicate 16 2 ++ List.replicate 16 4 ++ zeros 8 : Bytes), (natBe 2 0x0C61 ++ [2, 0] ++ natBe 4 0 ++ List.replicate 32 8
     ++ List.replicate 16 2 ++ List.replicate 16 4 ++ zeros 8 : Bytes), List.replicate 16 4, inForce_of rfl (by decide +kernel) (by decide +kernel),
     by decide +kernel⟩,
   ⟨1001, partnered.modHoop (fun h => { h with offerNonce := some (List.replicate 16 4) }), (.pairAdmissionAnswer 1001 (partnerEnv 0xC61 (natBe 2 0x0C61
     ++ [2, 0] ++ natBe 4 1 ++ List.replicate 32 8 ++ List.replicate 16 2 ++ List.replicate 16 4 ++ zeros 8 : Bytes)) (natBe 2 0x0C61 ++ [2, 0] ++ natBe 4
     1 ++ List.replicate 32 8 ++ List.replicate 16 2 ++ List.replicate 16 4 ++ zeros 8 : Bytes)), recOf (partnerEnv 0xC61 (natBe 2 0x0C61 ++ [2, 0] ++
     natBe 4 1 ++ List.replicate 32 8 ++ List.replicate 16 2 ++ List.replicate 16 4 ++ zeros 8 : Bytes)) (natBe 2 0x0C61 ++ [2, 0] ++ natBe 4 1 ++
     List.replicate 32 8 ++ List.replicate 16 2 ++ List.replicate 16 4 ++ zeros 8 : Bytes), partnerEnv 0xC61 (natBe 2 0x0C61 ++ [2, 0] ++ natBe 4 1 ++
     List.replicate 32 8 ++ List.replicate 16 2 ++ List.replicate 16 4 ++ zeros 8 : Bytes), (natBe 2 0x0C61 ++ [2, 0] ++ natBe 4 1 ++ List.replicate 32 8
     ++ List.replicate 16 2 ++ List.replicate 16 4 ++ zeros 8 : Bytes), .denied, inForce_of rfl (by decide +kernel) (by decide +kernel),
     by decide +kernel⟩⟩

theorem test_hypotheses_of_CompositionsAreAllOrNothing :
    (∃ (i : _) (s : State) (t : Nat) (q : _) (st : _) (k : _), Claims.inForce i s t q ∧ State.applyItems (beAt q.body 2 2) 0 (q.body.drop 16) ((s.at
      t).setEpochs (BitVec.ofNat 32 (beAt q.body 4 4)) (BitVec.ofNat 16 (beAt q.body 8 2))) [] = .error (st, k) ∧ q.recType = 0x0C01 ∧ 16 ≤ q.body.length
      ∧ beAt q.body 2 2 ≤ 255 ∧ s.epochsOk (BitVec.ofNat 32 (beAt q.body 4 4)) (BitVec.ofNat 16 (beAt q.body 8 2)) = true ∧ isZero q.body 10 6 = true) ∧
    (∃ (i : _) (s : State) (t : Nat) (q : _), Claims.inForce i s t q ∧ q.recType = 0x0C01 ∧ 16 ≤ q.body.length ∧ beAt q.body 2 2 ≤ 255 ∧ s.takesEpoch =
      false ∧ BitVec.ofNat 32 (beAt q.body 4 4) ≠ s.tabs.compEpoch ∧ BitVec.ofNat 32 (beAt q.body 4 4) ≠ s.tabs.compEpoch + 1) ∧
    (∃ (i : _) (s : State) (t : Nat) (q : _), Claims.inForce i s t q ∧ q.recType = 0x0C01 ∧ 16 ≤ q.body.length ∧ beAt q.body 2 2 ≤ 255 ∧ s.takesEpoch =
      false ∧ BitVec.ofNat 16 (beAt q.body 8 2) ≠ s.tabs.mapEpoch ∧ BitVec.ofNat 16 (beAt q.body 8 2) ≠ s.tabs.mapEpoch + 1) ∧
    (∃ (i : _) (t : Nat) (s : State) (r : _) (q : _), Claims.comes s r.path (wrapperBytes r (compositionBody r [])) q ∧ i ∈ [Instr.compositionEpochAdvance
      t r [], .mapEpochAdvance t r []] ∧ pathOk r.path = true ∧ r.recType = 0x0C01 ∧ r.bodyLen = 16 ∧ r.compReserved = 0 ∧ (r.compEpoch = s.tabs.compEpoch
      ∨ r.compEpoch = s.tabs.compEpoch + 1) ∧ (r.mapEpoch = s.tabs.mapEpoch ∨ r.mapEpoch = s.tabs.mapEpoch + 1)) :=
  ⟨⟨(.compositionEpochAdvance 1001
     ({ ownerEnv 0x0C01 [] with bodyLen := BitVec.ofNat 16 (compositionBody (itemEnv []) [itemOf 4 1 (natLe 2 (15 * 4096 + 4095) ++ natLe 2 1 ++ natLe 2 1 ++ natLe 2 1024 : Bytes), itemOf 0x14 2 [1]]).length })
     [itemOf 4 1 (natLe 2 (15 * 4096 + 4095) ++ natLe 2 1 ++ natLe 2 1 ++ natLe 2 1024 : Bytes), itemOf 0x14 2 [1]]), owned, 1001, recOf
     ({ ownerEnv 0x0C01 [] with bodyLen := BitVec.ofNat 16 (compositionBody (itemEnv []) [itemOf 4 1 (natLe 2 (15 * 4096 + 4095) ++ natLe 2 1 ++ natLe 2 1 ++ natLe 2 1024 : Bytes), itemOf 0x14 2 [1]]).length })
     (compositionBody
     ({ ownerEnv 0x0C01 [] with bodyLen := BitVec.ofNat 16 (compositionBody (itemEnv []) [itemOf 4 1 (natLe 2 (15 * 4096 + 4095) ++ natLe 2 1 ++ natLe 2 1 ++ natLe 2 1024 : Bytes), itemOf 0x14 2 [1]]).length })
     [itemOf 4 1 (natLe 2 (15 * 4096 + 4095) ++ natLe 2 1 ++ natLe 2 1 ++ natLe 2 1024 : Bytes), itemOf 0x14 2 [1]]), .format, 1,
     inForce_of rfl (by decide +kernel) (by decide +kernel), error_of (by decide +kernel), by decide +kernel⟩,
   ⟨(.compositionEpochAdvance 1001 ({ ownerEnv 0x0C01 [] with bodyLen := BitVec.ofNat 16 (compositionBody (itemEnv []) []).length, compEpoch := 2 }) []),
     owned.modHlt (fun h => { h with fence := 0 }), 1001, recOf
     ({ ownerEnv 0x0C01 [] with bodyLen := BitVec.ofNat 16 (compositionBody (itemEnv []) []).length, compEpoch := 2 }) (compositionBody
     ({ ownerEnv 0x0C01 [] with bodyLen := BitVec.ofNat 16 (compositionBody (itemEnv []) []).length, compEpoch := 2 }) []),
     inForce_of rfl (by decide +kernel) (by decide +kernel), by decide +kernel⟩,
   ⟨(.compositionEpochAdvance 1001 ({ ownerEnv 0x0C01 [] with bodyLen := BitVec.ofNat 16 (compositionBody (itemEnv []) []).length, mapEpoch := 2 }) []),
     owned.modHlt (fun h => { h with fence := 0 }), 1001, recOf
     ({ ownerEnv 0x0C01 [] with bodyLen := BitVec.ofNat 16 (compositionBody (itemEnv []) []).length, mapEpoch := 2 }) (compositionBody
     ({ ownerEnv 0x0C01 [] with bodyLen := BitVec.ofNat 16 (compositionBody (itemEnv []) []).length, mapEpoch := 2 }) []),
     inForce_of rfl (by decide +kernel) (by decide +kernel), by decide +kernel⟩,
   ⟨(.compositionEpochAdvance 1001 ({ itemEnv [] with bodyLen := 16, compEpoch := 1, mapEpoch := 1 }) []), 1001, owned,
     { itemEnv [] with bodyLen := 16, compEpoch := 1, mapEpoch := 1 }, recOf ({ itemEnv [] with bodyLen := 16, compEpoch := 1, mapEpoch := 1 })
     (compositionBody ({ itemEnv [] with bodyLen := 16, compEpoch := 1, mapEpoch := 1 }) []), comes_of (by decide +kernel), by decide +kernel⟩⟩

theorem test_hypotheses_of_InstalledItemsTakeTheirPlace :
    (∃ (s : State) (r : _) (b : _) (q : _) (x : _), Claims.sole s r 0x01 1 b q ∧ parseContext b = .ok x ∧ s.checkContext x = none) ∧
    (∃ (s : State) (r : _) (b : _) (q : _) (x : _), Claims.sole s r 0x02 1 b q ∧ parseRun b = .ok x ∧ s.checkRun x = none) ∧
    (∃ (s : State) (r : _) (b : _) (q : _) (x : _), Claims.sole s r 0x03 1 b q ∧ parseAccess b (some 1) = .ok x ∧ s.checkAccess x = none) ∧
    (∃ (s : State) (r : _) (b : _) (q : _) (x : _), Claims.sole s r 0x04 1 b q ∧ parseSubscriber b = .ok x ∧ s.checkSubscriber x = none) ∧
    (∃ (s : State) (r : _) (b : _) (q : _) (x : _), Claims.sole s r 0x05 1 b q ∧ parseService b = .ok x ∧ s.checkService x = none) ∧
    (∃ (s : State) (r : _) (b : _) (q : _) (x : _), Claims.sole s r 0x06 1 b q ∧ parseGroup b = .ok x ∧ s.checkGroup x = none) ∧
    (∃ (s : State) (r : _) (b : _) (q : _) (x : _), Claims.sole s r 0x07 1 b q ∧ parseSumac b = .ok x ∧ s.checkSumac x = none) ∧
    (∃ (s : State) (r : _) (b : _) (q : _) (x : _), Claims.sole s r 0x08 1 b q ∧ parseExtent b = .ok x ∧ s.checkExtent x = none) ∧
    (∃ (s : State) (r : _) (b : _) (q : _) (x : _), Claims.sole s r 0x09 1 b q ∧ parseMirrored b = .ok x ∧ s.checkMirrored x = none) ∧
    (∃ (s : State) (r : _) (b : _) (q : _) (x : _), Claims.sole s r 0x0A 1 b q ∧ parseSchedule b = .ok x ∧ s.checkSchedule x = none) ∧
    (∃ (s : State) (r : _) (b : _) (q : _) (x : _), s.intact ∧ Claims.sole s r 0x0B 1 b q ∧ parseBinding b = .ok x ∧ s.checkBinding x = none) ∧
    (∃ (s : State) (r : _) (b : _) (q : _) (x : _), Claims.sole s r 0x0C 1 b q ∧ parseShare b = .ok x ∧ s.checkShare x = none) ∧
    (∃ (s : State) (r : _) (b : _) (q : _) (x : _), s.intact ∧ Claims.plainNear s x.word 8 ∧ Claims.sole s r 0x0D 1 b q ∧ parsePublished b = .ok x ∧
      s.checkPublished x = none) ∧
    (∃ (s : State) (r : _) (b : _) (q : _) (x : _), Claims.sole s r 0x0E 1 b q ∧ parseForwarding b = .ok x) ∧
    (∃ (s : State) (r : _) (b : _) (q : _) (x : _), Claims.sole s r 0x0F 1 b q ∧ parseSources b = .ok x) ∧
    (∃ (s : State) (r : _) (b : _) (q : _) (x : _), Claims.sole s r 0x12 1 b q ∧ parseRing b = .ok x ∧ s.checkRing x = none) :=
  ⟨⟨owned, itemEnv (natLe 2 7 ++ natLe 2 2 ++ [15 + 16, 1, 0, 0] ++ natLe 6 4096 ++ natLe 6 8191 ++ natLe 8 281474976710656 : Bytes), (natLe 2 7 ++ natLe
     2 2 ++ [15 + 16, 1, 0, 0] ++ natLe 6 4096 ++ natLe 6 8191 ++ natLe 8 281474976710656 : Bytes), itemRec 0x1 1 (natLe 2 7 ++ natLe 2 2 ++ [15 + 16, 1,
     0, 0] ++ natLe 6 4096 ++ natLe 6 8191 ++ natLe 8 281474976710656 : Bytes),
     (match parseContext (natLe 2 7 ++ natLe 2 2 ++ [15 + 16, 1, 0, 0] ++ natLe 6 4096 ++ natLe 6 8191 ++ natLe 8 281474976710656 : Bytes) with | .ok x => x | .error _ => ctx1),
     sole_of (by decide +kernel) (by decide +kernel), ok_of (by decide +kernel), by decide +kernel⟩,
   ⟨owned, itemEnv (natLe 16 (1 + 2 ^ 36 * 2 + 2 ^ 84 + 2 ^ 86 * 64 + 2 ^ 93 * 15 + 2 ^ 97) : Bytes), (natLe 16 (1 + 2 ^ 36 * 2 + 2 ^ 84 + 2 ^ 86 * 64 + 2
     ^ 93 * 15 + 2 ^ 97) : Bytes), itemRec 0x2 1 (natLe 16 (1 + 2 ^ 36 * 2 + 2 ^ 84 + 2 ^ 86 * 64 + 2 ^ 93 * 15 + 2 ^ 97) : Bytes),
     (match parseRun (natLe 16 (1 + 2 ^ 36 * 2 + 2 ^ 84 + 2 ^ 86 * 64 + 2 ^ 93 * 15 + 2 ^ 97) : Bytes) with | .ok x => x | .error _ => run0),
     sole_of (by decide +kernel) (by decide +kernel), ok_of (by decide +kernel), by decide +kernel⟩,
   ⟨owned, itemEnv (natLe 2 1 ++ natLe 2 1 ++ [15 + 16 + 64, 31, 0, 0] ++ natLe 6 0x200000 ++ natLe 2 0 ++ natLe 6 64 ++ natLe 2 0 ++ natLe 4 0 ++ natLe 4
     9 : Bytes), (natLe 2 1 ++ natLe 2 1 ++ [15 + 16 + 64, 31, 0, 0] ++ natLe 6 0x200000 ++ natLe 2 0 ++ natLe 6 64 ++ natLe 2 0 ++ natLe 4 0 ++ natLe 4 9
     : Bytes), itemRec 0x3 1 (natLe 2 1 ++ natLe 2 1 ++ [15 + 16 + 64, 31, 0, 0] ++ natLe 6 0x200000 ++ natLe 2 0 ++ natLe 6 64 ++ natLe 2 0 ++ natLe 4 0
     ++ natLe 4 9 : Bytes),
     (match (fun b => parseAccess b (some 1)) (natLe 2 1 ++ natLe 2 1 ++ [15 + 16 + 64, 31, 0, 0] ++ natLe 6 0x200000 ++ natLe 2 0 ++ natLe 6 64 ++ natLe 2 0 ++ natLe 4 0 ++ natLe 4 9 : Bytes) with | .ok x => x | .error _ => ent1),
     sole_of (by decide +kernel) (by decide +kernel), ok_of (by decide +kernel), by decide +kernel⟩,
   ⟨owned, itemEnv (natLe 2 (15 * 4096 + 4095) ++ natLe 2 1 ++ natLe 2 1 ++ natLe 2 1024 : Bytes), (natLe 2 (15 * 4096 + 4095) ++ natLe 2 1 ++ natLe 2 1
     ++ natLe 2 1024 : Bytes), itemRec 0x4 1 (natLe 2 (15 * 4096 + 4095) ++ natLe 2 1 ++ natLe 2 1 ++ natLe 2 1024 : Bytes),
     (match parseSubscriber (natLe 2 (15 * 4096 + 4095) ++ natLe 2 1 ++ natLe 2 1 ++ natLe 2 1024 : Bytes) with | .ok x => x | .error _ => { num := 0, part := 0, node := 0, cid := 0, quantum := 0 }),
     sole_of (by decide +kernel) (by decide +kernel), ok_of (by decide +kernel), by decide +kernel⟩,
   ⟨owned, itemEnv (natLe 2 (15 * 4096 + 4095) ++ [1, 4] ++ natLe 2 1 ++ natLe 3 1 ++ natLe 3 320000 ++ natLe 2 1 ++ natLe 2 0 : Bytes), (natLe 2 (15 *
     4096 + 4095) ++ [1, 4] ++ natLe 2 1 ++ natLe 3 1 ++ natLe 3 320000 ++ natLe 2 1 ++ natLe 2 0 : Bytes), itemRec 0x5 1 (natLe 2 (15 * 4096 + 4095) ++
     [1, 4] ++ natLe 2 1 ++ natLe 3 1 ++ natLe 3 320000 ++ natLe 2 1 ++ natLe 2 0 : Bytes),
     (match parseService (natLe 2 (15 * 4096 + 4095) ++ [1, 4] ++ natLe 2 1 ++ natLe 3 1 ++ natLe 3 320000 ++ natLe 2 1 ++ natLe 2 0 : Bytes) with | .ok x => x | .error _ => service0),
     sole_of (by decide +kernel) (by decide +kernel), ok_of (by decide +kernel), by decide +kernel⟩,
   ⟨owned, itemEnv (natLe 2 (15 * 4096 + 4095) ++ [2, 0] ++ natLe 6 4096 ++ natLe 6 64 ++ [1, 0, 2, 0] ++ natLe 6 0 ++ natLe 6 0 ++ [0, 0, 1, 0] ++ natLe
     6 8192 ++ natLe 6 0 : Bytes), (natLe 2 (15 * 4096 + 4095) ++ [2, 0] ++ natLe 6 4096 ++ natLe 6 64 ++ [1, 0, 2, 0] ++ natLe 6 0 ++ natLe 6 0 ++ [0, 0,
     1, 0] ++ natLe 6 8192 ++ natLe 6 0 : Bytes), itemRec 0x6 1 (natLe 2 (15 * 4096 + 4095) ++ [2, 0] ++ natLe 6 4096 ++ natLe 6 64 ++ [1, 0, 2, 0] ++
     natLe 6 0 ++ natLe 6 0 ++ [0, 0, 1, 0] ++ natLe 6 8192 ++ natLe 6 0 : Bytes),
     (match parseGroup (natLe 2 (15 * 4096 + 4095) ++ [2, 0] ++ natLe 6 4096 ++ natLe 6 64 ++ [1, 0, 2, 0] ++ natLe 6 0 ++ natLe 6 0 ++ [0, 0, 1, 0] ++ natLe 6 8192 ++ natLe 6 0 : Bytes) with | .ok x => x | .error _ => { id := 0, part := 0, base := 0, length := 0, members := [] }),
     sole_of (by decide +kernel) (by decide +kernel), ok_of (by decide +kernel), by decide +kernel⟩,
   ⟨owned, itemEnv (natLe 6 4096 ++ natLe 2 0 ++ natLe 6 384 ++ [15, 1, 6, 0, 0, 0] ++ natLe 4 0x3F800000 ++ natLe 4 1 ++ natLe 4 0 : Bytes), (natLe 6
     4096 ++ natLe 2 0 ++ natLe 6 384 ++ [15, 1, 6, 0, 0, 0] ++ natLe 4 0x3F800000 ++ natLe 4 1 ++ natLe 4 0 : Bytes), itemRec 0x7 1 (natLe 6 4096 ++
     natLe 2 0 ++ natLe 6 384 ++ [15, 1, 6, 0, 0, 0] ++ natLe 4 0x3F800000 ++ natLe 4 1 ++ natLe 4 0 : Bytes),
     (match parseSumac (natLe 6 4096 ++ natLe 2 0 ++ natLe 6 384 ++ [15, 1, 6, 0, 0, 0] ++ natLe 4 0x3F800000 ++ natLe 4 1 ++ natLe 4 0 : Bytes) with | .ok x => x | .error _ => sumac1),
     sole_of (by decide +kernel) (by decide +kernel), ok_of (by decide +kernel), by decide +kernel⟩,
   ⟨owned, itemEnv (natLe 6 (farLo + 0x1000) ++ natLe 2 0 ++ natLe 6 4096 ++ [15 + 32, 0] ++ natLe 8 (2 ^ 48) ++ natLe 2 0 ++ natLe 2 0 ++ natLe 4 3 :
     Bytes), (natLe 6 (farLo + 0x1000) ++ natLe 2 0 ++ natLe 6 4096 ++ [15 + 32, 0] ++ natLe 8 (2 ^ 48) ++ natLe 2 0 ++ natLe 2 0 ++ natLe 4 3 : Bytes),
     itemRec 0x8 1 (natLe 6 (farLo + 0x1000) ++ natLe 2 0 ++ natLe 6 4096 ++ [15 + 32, 0] ++ natLe 8 (2 ^ 48) ++ natLe 2 0 ++ natLe 2 0 ++ natLe 4 3 :
     Bytes),
     (match parseExtent (natLe 6 (farLo + 0x1000) ++ natLe 2 0 ++ natLe 6 4096 ++ [15 + 32, 0] ++ natLe 8 (2 ^ 48) ++ natLe 2 0 ++ natLe 2 0 ++ natLe 4 3 : Bytes) with | .ok x => x | .error _ => extent0),
     sole_of (by decide +kernel) (by decide +kernel), ok_of (by decide +kernel), by decide +kernel⟩,
   ⟨owned, itemEnv (natLe 6 0x200000 ++ natLe 2 0 ++ natLe 6 4096 ++ [15 + 16, 0] ++ natLe 6 0 ++ natLe 2 0 ++ natLe 2 0 ++ natLe 2 0 ++ natLe 4 3 :
     Bytes), (natLe 6 0x200000 ++ natLe 2 0 ++ natLe 6 4096 ++ [15 + 16, 0] ++ natLe 6 0 ++ natLe 2 0 ++ natLe 2 0 ++ natLe 2 0 ++ natLe 4 3 : Bytes),
     itemRec 0x9 1 (natLe 6 0x200000 ++ natLe 2 0 ++ natLe 6 4096 ++ [15 + 16, 0] ++ natLe 6 0 ++ natLe 2 0 ++ natLe 2 0 ++ natLe 2 0 ++ natLe 4 3 :
     Bytes),
     (match parseMirrored (natLe 6 0x200000 ++ natLe 2 0 ++ natLe 6 4096 ++ [15 + 16, 0] ++ natLe 6 0 ++ natLe 2 0 ++ natLe 2 0 ++ natLe 2 0 ++ natLe 4 3 : Bytes) with | .ok x => x | .error _ => { base := 0, length := 0, part := 0, role := 0, partnerBase := 0, cid := 0, id := 0 }),
     sole_of (by decide +kernel) (by decide +kernel), ok_of (by decide +kernel), by decide +kernel⟩,
   ⟨owned, itemEnv (natLe 2 1 ++ natLe 2 1 ++ [15, 0, 0, 0] ++ natLe 6 4096 ++ natLe 2 0 ++ natLe 4 1 ++ natLe 4 0 ++ natLe 4 1 ++ natLe 4 0 ++ natLe 6
     (farLo + 0x1000) ++ natLe 2 0 ++ natLe 6 4096 ++ [2, 0] ++ natLe 6 16384 ++ natLe 2 0 ++ natLe 4 0 ++ natLe 4 0 : Bytes), (natLe 2 1 ++ natLe 2 1 ++
     [15, 0, 0, 0] ++ natLe 6 4096 ++ natLe 2 0 ++ natLe 4 1 ++ natLe 4 0 ++ natLe 4 1 ++ natLe 4 0 ++ natLe 6 (farLo + 0x1000) ++ natLe 2 0 ++ natLe 6
     4096 ++ [2, 0] ++ natLe 6 16384 ++ natLe 2 0 ++ natLe 4 0 ++ natLe 4 0 : Bytes), itemRec 0xA 1 (natLe 2 1 ++ natLe 2 1 ++ [15, 0, 0, 0] ++ natLe 6
     4096 ++ natLe 2 0 ++ natLe 4 1 ++ natLe 4 0 ++ natLe 4 1 ++ natLe 4 0 ++ natLe 6 (farLo + 0x1000) ++ natLe 2 0 ++ natLe 6 4096 ++ [2, 0] ++ natLe 6
     16384 ++ natLe 2 0 ++ natLe 4 0 ++ natLe 4 0 : Bytes),
     (match parseSchedule (natLe 2 1 ++ natLe 2 1 ++ [15, 0, 0, 0] ++ natLe 6 4096 ++ natLe 2 0 ++ natLe 4 1 ++ natLe 4 0 ++ natLe 4 1 ++ natLe 4 0 ++ natLe 6 (farLo + 0x1000) ++ natLe 2 0 ++ natLe 6 4096 ++ [2, 0] ++ natLe 6 16384 ++ natLe 2 0 ++ natLe 4 0 ++ natLe 4 0 : Bytes) with | .ok x => x | .error _ => sched0),
     sole_of (by decide +kernel) (by decide +kernel), ok_of (by decide +kernel), by decide +kernel⟩,
   ⟨owned.modTabs (fun y =>
     { y with contexts := y.contexts ++ [{ node := 0, cid := 9, part := 15, isLocal := true, windows := [] }], access := y.access ++ [{ ent1 with node := 0, cid := 9, part := 15 }] }),
     itemEnv ([127, 15] ++ natLe 2 9 ++ natLe 2 1 ++ natLe 2 1 ++ natLe 6 8192 ++ [12, 0] ++ natLe 6 4096 ++ natLe 2 0 ++ natLe 6 0x100000 ++ natLe 2 0 :
     Bytes), ([127, 15] ++ natLe 2 9 ++ natLe 2 1 ++ natLe 2 1 ++ natLe 6 8192 ++ [12, 0] ++ natLe 6 4096 ++ natLe 2 0 ++ natLe 6 0x100000 ++ natLe 2 0 :
     Bytes), itemRec 0xB 1 ([127, 15] ++ natLe 2 9 ++ natLe 2 1 ++ natLe 2 1 ++ natLe 6 8192 ++ [12, 0] ++ natLe 6 4096 ++ natLe 2 0 ++ natLe 6 0x100000
     ++ natLe 2 0 : Bytes),
     (match parseBinding ([127, 15] ++ natLe 2 9 ++ natLe 2 1 ++ natLe 2 1 ++ natLe 6 8192 ++ [12, 0] ++ natLe 6 4096 ++ natLe 2 0 ++ natLe 6 0x100000 ++ natLe 2 0 : Bytes) with | .ok x => x | .error _ => bind127),
     intact_of _ (by decide +kernel), sole_of (by decide +kernel) (by decide +kernel), ok_of (by decide +kernel), by decide +kernel⟩,
   ⟨owned, itemEnv ([255, 15, 1, 0, 0, 0, 0, 0] : Bytes), ([255, 15, 1, 0, 0, 0, 0, 0] : Bytes), itemRec 0xC 1 ([255, 15, 1, 0, 0, 0, 0, 0] : Bytes),
     (match parseShare ([255, 15, 1, 0, 0, 0, 0, 0] : Bytes) with | .ok x => x | .error _ => { port := 0, sub := 0, part := 0, ded := false }),
     sole_of (by decide +kernel) (by decide +kernel), ok_of (by decide +kernel), by decide +kernel⟩,
   ⟨owned, itemEnv (natLe 6 32768 ++ [4, 15] ++ natLe 6 4096 ++ natLe 2 0 ++ natLe 6 0x10000 ++ natLe 2 0 ++ natLe 6 4096 ++ natLe 2 0 ++ natLe 4 7 ++
     natLe 4 0 : Bytes), (natLe 6 32768 ++ [4, 15] ++ natLe 6 4096 ++ natLe 2 0 ++ natLe 6 0x10000 ++ natLe 2 0 ++ natLe 6 4096 ++ natLe 2 0 ++ natLe 4 7
     ++ natLe 4 0 : Bytes), itemRec 0xD 1 (natLe 6 32768 ++ [4, 15] ++ natLe 6 4096 ++ natLe 2 0 ++ natLe 6 0x10000 ++ natLe 2 0 ++ natLe 6 4096 ++ natLe
     2 0 ++ natLe 4 7 ++ natLe 4 0 : Bytes),
     (match parsePublished (natLe 6 32768 ++ [4, 15] ++ natLe 6 4096 ++ natLe 2 0 ++ natLe 6 0x10000 ++ natLe 2 0 ++ natLe 6 4096 ++ natLe 2 0 ++ natLe 4 7 ++ natLe 4 0 : Bytes) with | .ok x => x | .error _ => pub7),
     intact_of _ (by decide +kernel), plainNear_of (by decide +kernel) (by decide +kernel), sole_of (by decide +kernel) (by decide +kernel),
     ok_of (by decide +kernel), by decide +kernel⟩,
   ⟨owned, itemEnv (natLe 2 1 ++ natLe 2 65535 ++ [255, 0, 0, 0] : Bytes), (natLe 2 1 ++ natLe 2 65535 ++ [255, 0, 0, 0] : Bytes), itemRec 0xE 1 (natLe 2
     1 ++ natLe 2 65535 ++ [255, 0, 0, 0] : Bytes),
     (match parseForwarding (natLe 2 1 ++ natLe 2 65535 ++ [255, 0, 0, 0] : Bytes) with | .ok x => x | .error _ => { first := 0, count := 0, dest := none }),
     sole_of (by decide +kernel) (by decide +kernel), ok_of (by decide +kernel)⟩,
   ⟨owned, itemEnv ([255, 1, 0, 0, 0, 0, 0, 0] ++ natLe 2 0 ++ natLe 2 65535 : Bytes), ([255, 1, 0, 0, 0, 0, 0, 0] ++ natLe 2 0 ++ natLe 2 65535 : Bytes),
     itemRec 0xF 1 ([255, 1, 0, 0, 0, 0, 0, 0] ++ natLe 2 0 ++ natLe 2 65535 : Bytes),
     (match parseSources ([255, 1, 0, 0, 0, 0, 0, 0] ++ natLe 2 0 ++ natLe 2 65535 : Bytes) with | .ok x => x | .error _ => { port := 0, sub := 0, ranges := [] }),
     sole_of (by decide +kernel) (by decide +kernel), ok_of (by decide +kernel)⟩,
   ⟨owned.modTabs (fun y =>
     { y with contexts := y.contexts ++ [{ node := 0, cid := 9, part := 15, isLocal := true, windows := [] }], access := y.access ++ [{ ent1 with node := 0, cid := 9, part := 15 }] }),
     itemEnv ([15, 10, 0, 0, 0, 0, 0, 0] ++ natLe 6 4096 ++ natLe 2 0 ++ natLe 6 0x40000 ++ natLe 2 0 : Bytes), ([15, 10, 0, 0, 0, 0, 0, 0] ++ natLe 6
     4096 ++ natLe 2 0 ++ natLe 6 0x40000 ++ natLe 2 0 : Bytes), itemRec 0x12 1 ([15, 10, 0, 0, 0, 0, 0, 0] ++ natLe 6 4096 ++ natLe 2 0 ++ natLe 6
     0x40000 ++ natLe 2 0 : Bytes),
     (match parseRing ([15, 10, 0, 0, 0, 0, 0, 0] ++ natLe 6 4096 ++ natLe 2 0 ++ natLe 6 0x40000 ++ natLe 2 0 : Bytes) with | .ok x => x | .error _ => { part := 0, log2 := 0, base := 0, producerWord := 0 }),
     sole_of (by decide +kernel) (by decide +kernel), ok_of (by decide +kernel), by decide +kernel⟩⟩

theorem test_hypotheses_of_RemovedItemsLeaveTheirTables :
    (∃ (s : State) (r : _) (b : _) (q : _) (x : _), Claims.sole s r 0x01 2 b q ∧ parseContext b = .ok x ∧ s.mem.filter = [] ∧ x ∈ s.tabs.contexts) ∧
    (∃ (s : State) (r : _) (b : _) (q : _) (x : _), Claims.sole s r 0x02 2 b q ∧ parseRun b = .ok x ∧ x ∈ s.tabs.runs) ∧
    (∃ (s : State) (p : _) (v : _) (x : _), s.tabs.runs.find? (fun (y : Run) => y.removing && y.part = p && y.virtBase = v) = some x ∧ (∀ o ∈ s.jrn.outs,
      s.partOfOut o ≠ p)) ∧
    (∃ (s : State) (p : _) (v : _), (∀ y : Run, y ∈ s.tabs.runs → y.part = p → y.virtBase = v → y.removing = false)) ∧
    (∃ (s : State) (r : _) (b : _) (q : _) (x : _) (e : _), Claims.sole s r 0x03 2 b q ∧ parseAccess b none = .ok x ∧ s.mem.filter = [] ∧ s.findAccess x =
      some e) ∧
    (∃ (s : State) (r : _) (b : _) (q : _) (x : _), Claims.sole s r 0x04 2 b q ∧ parseSubscriber b = .ok x ∧ x ∈ s.tabs.subs ∧ x.num < 16) ∧
    (∃ (s : State) (r : _) (b : _) (q : _) (x : _), Claims.sole s r 0x04 2 b q ∧ parseSubscriber b = .ok x ∧ x ∈ s.tabs.subs ∧ 16 ≤ x.num ∧ s.warp.voq =
      []) ∧
    (∃ (s : State) (r : _) (b : _) (q : _) (x : _) (y : _), Claims.sole s r 0x05 2 b q ∧ parseService b = .ok x ∧ s.findService x = some y ∧ s.warp.voq =
      []) ∧
    (∃ (s : State) (r : _) (b : _) (q : _) (x : _) (y : _), Claims.sole s r 0x05 2 b q ∧ parseService b = .ok x ∧ s.findService x = some y ∧ (∃ v ∈
      s.warp.voq, v.subscriber = some x.sub ∧ v.service = x.svc)) ∧
    (∃ (s : State) (r : _) (b : _) (q : _) (x : _), Claims.sole s r 0x06 2 b q ∧ parseGroup b = .ok x ∧ x ∈ s.tabs.groups) ∧
    (∃ (s : State) (r : _) (b : _) (q : _) (x : _), Claims.sole s r 0x07 2 b q ∧ parseSumac b = .ok x ∧ x ∈ s.tabs.sumac) ∧
    (∃ (s : State) (r : _) (b : _) (q : _) (x : _), Claims.sole s r 0x08 2 b q ∧ parseExtent b = .ok x ∧ x ∈ s.tabs.extents) ∧
    (∃ (s : State) (r : _) (b : _) (q : _) (x : _), Claims.sole s r 0x09 2 b q ∧ parseMirrored b = .ok x ∧ x ∈ s.tabs.mirrored ∧ (∀ e ∈ s.tabs.access,
      e.tier = 2 → overlaps e.base e.length x.base x.length = false)) ∧
    (∃ (s : State) (r : _) (b : _) (q : _) (x : _) (y : _), Claims.sole s r 0x0A 2 b q ∧ parseSchedule b = .ok x ∧ s.findSchedule x = some y) ∧
    (∃ (s : State) (r : _) (b : _) (q : _) (x : _), s.intact ∧ Claims.sole s r 0x0B 2 b q ∧ parseBinding b = .ok x ∧ x ∈ s.tabs.bindings ∧ (s.chan
      x.chan).unbinding = false) ∧
    (∃ (s : State) (r : _) (b : _) (q : _) (x : _), Claims.sole s r 0x0C 2 b q ∧ parseShare b = .ok x ∧ x ∈ s.tabs.shares) ∧
    (∃ (s : State) (r : _) (b : _) (q : _) (x : _) (e : _), Claims.sole s r 0x0D 2 b q ∧ parsePublished b = .ok x ∧ (∀ y ∈ s.jrn.reqs, match (y : Req).stage with | .viewWait k _ => k ≠ x.id | .publish k => k ≠ x.id | _ => True) ∧ s.findPublished x = some e) ∧
    (∃ (s : State) (r : _) (b : _) (q : _) (x : _), Claims.sole s r 0x0E 2 b q ∧ parseForwarding b = .ok x ∧ x ∈ s.tabs.fwd) ∧
    (∃ (s : State) (r : _) (b : _) (q : _) (x : _), Claims.sole s r 0x0F 2 b q ∧ parseSources b = .ok x ∧ x ∈ s.tabs.sources) ∧
    (∃ (s : State) (r : _) (b : _) (q : _) (x : _), Claims.sole s r 0x12 2 b q ∧ parseRing b = .ok x ∧ x ∈ s.tabs.rings) :=
  ⟨⟨owned, itemEnv (natLe 2 1 ++ natLe 2 1 ++ [0, 0, 0, 0] : Bytes), (natLe 2 1 ++ natLe 2 1 ++ [0, 0, 0, 0] : Bytes), itemRec 0x1 2 (natLe 2 1 ++ natLe 2
     1 ++ [0, 0, 0, 0] : Bytes), (match parseContext (natLe 2 1 ++ natLe 2 1 ++ [0, 0, 0, 0] : Bytes) with | .ok x => x | .error _ => ctx1),
     sole_of (by decide +kernel) (by decide +kernel), ok_of (by decide +kernel), by decide +kernel⟩,
   ⟨(owned.modTabs (fun y => { y with runs := y.runs ++ [(match parseRun (natLe 16 (1 + 2 ^ 36 * 2 + 2 ^ 84 + 2 ^ 86 * 64 + 2 ^ 93 * 15 + 2 ^ 97) : Bytes) with | .ok x => x | .error _ => run0)] })),
     itemEnv (natLe 16 (1 + 2 ^ 36 * 2 + 2 ^ 84 + 2 ^ 86 * 64 + 2 ^ 93 * 15 + 2 ^ 97) : Bytes), (natLe 16 (1 + 2 ^ 36 * 2 + 2 ^ 84 + 2 ^ 86 * 64 + 2 ^ 93
     * 15 + 2 ^ 97) : Bytes), itemRec 0x2 2 (natLe 16 (1 + 2 ^ 36 * 2 + 2 ^ 84 + 2 ^ 86 * 64 + 2 ^ 93 * 15 + 2 ^ 97) : Bytes),
     (match parseRun (natLe 16 (1 + 2 ^ 36 * 2 + 2 ^ 84 + 2 ^ 86 * 64 + 2 ^ 93 * 15 + 2 ^ 97) : Bytes) with | .ok x => x | .error _ => run0),
     sole_of (by decide +kernel) (by decide +kernel), ok_of (by decide +kernel), by decide +kernel⟩,
   ⟨owned.modTabs (fun y => { y with runs := [{ run0 with part := 15, virtBase := 65536, removing := true }] }), 15, 65536,
     { run0 with part := 15, virtBase := 65536, removing := true }, by decide +kernel⟩,
   ⟨owned, 15, 65536, by decide +kernel⟩,
   ⟨owned, itemEnv (natLe 2 1 ++ natLe 2 1 ++ [0x10, 31, 0, 0] ++ natLe 6 0 ++ natLe 2 0 ++ natLe 6 1048576 ++ natLe 2 0 ++ natLe 4 0 ++ natLe 4 1 :
     Bytes), (natLe 2 1 ++ natLe 2 1 ++ [0x10, 31, 0, 0] ++ natLe 6 0 ++ natLe 2 0 ++ natLe 6 1048576 ++ natLe 2 0 ++ natLe 4 0 ++ natLe 4 1 : Bytes),
     itemRec 0x3 2 (natLe 2 1 ++ natLe 2 1 ++ [0x10, 31, 0, 0] ++ natLe 6 0 ++ natLe 2 0 ++ natLe 6 1048576 ++ natLe 2 0 ++ natLe 4 0 ++ natLe 4 1 :
     Bytes),
     (match (fun b => parseAccess b none) (natLe 2 1 ++ natLe 2 1 ++ [0x10, 31, 0, 0] ++ natLe 6 0 ++ natLe 2 0 ++ natLe 6 1048576 ++ natLe 2 0 ++ natLe 4 0 ++ natLe 4 1 : Bytes) with | .ok x => x | .error _ => ent1),
     ent1, sole_of (by decide +kernel) (by decide +kernel), ok_of (by decide +kernel), by decide +kernel⟩,
   ⟨(owned.modTabs (fun y => { y with subs := y.subs ++ [(match parseSubscriber (natLe 2 (15 * 4096 + 15) ++ natLe 2 1 ++ natLe 2 1 ++ natLe 2 1024 : Bytes) with | .ok x => x | .error _ => { num := 0, part := 0, node := 0, cid := 0, quantum := 0 })] })),
     itemEnv (natLe 2 (15 * 4096 + 15) ++ natLe 2 1 ++ natLe 2 1 ++ natLe 2 1024 : Bytes), (natLe 2 (15 * 4096 + 15) ++ natLe 2 1 ++ natLe 2 1 ++ natLe 2
     1024 : Bytes), itemRec 0x4 2 (natLe 2 (15 * 4096 + 15) ++ natLe 2 1 ++ natLe 2 1 ++ natLe 2 1024 : Bytes),
     (match parseSubscriber (natLe 2 (15 * 4096 + 15) ++ natLe 2 1 ++ natLe 2 1 ++ natLe 2 1024 : Bytes) with | .ok x => x | .error _ => { num := 0, part := 0, node := 0, cid := 0, quantum := 0 }),
     sole_of (by decide +kernel) (by decide +kernel), ok_of (by decide +kernel), by decide +kernel⟩,
   ⟨(owned.modTabs (fun y => { y with subs := y.subs ++ [(match parseSubscriber (natLe 2 (15 * 4096 + 4095) ++ natLe 2 1 ++ natLe 2 1 ++ natLe 2 1024 : Bytes) with | .ok x => x | .error _ => { num := 0, part := 0, node := 0, cid := 0, quantum := 0 })] })),
     itemEnv (natLe 2 (15 * 4096 + 4095) ++ natLe 2 1 ++ natLe 2 1 ++ natLe 2 1024 : Bytes), (natLe 2 (15 * 4096 + 4095) ++ natLe 2 1 ++ natLe 2 1 ++
     natLe 2 1024 : Bytes), itemRec 0x4 2 (natLe 2 (15 * 4096 + 4095) ++ natLe 2 1 ++ natLe 2 1 ++ natLe 2 1024 : Bytes),
     (match parseSubscriber (natLe 2 (15 * 4096 + 4095) ++ natLe 2 1 ++ natLe 2 1 ++ natLe 2 1024 : Bytes) with | .ok x => x | .error _ => { num := 0, part := 0, node := 0, cid := 0, quantum := 0 }),
     sole_of (by decide +kernel) (by decide +kernel), ok_of (by decide +kernel), by decide +kernel⟩,
   ⟨(owned.modTabs (fun y => { y with services := y.services ++ [(match parseService (natLe 2 (15 * 4096 + 4095) ++ [1, 4] ++ natLe 2 1 ++ natLe 3 1 ++ natLe 3 320000 ++ natLe 2 1 ++ natLe 2 0 : Bytes) with | .ok x => x | .error _ => service0)] })),
     itemEnv (natLe 2 (15 * 4096 + 4095) ++ [1, 4] ++ natLe 2 1 ++ natLe 3 1 ++ natLe 3 320000 ++ natLe 2 1 ++ natLe 2 0 : Bytes), (natLe 2 (15 * 4096 +
     4095) ++ [1, 4] ++ natLe 2 1 ++ natLe 3 1 ++ natLe 3 320000 ++ natLe 2 1 ++ natLe 2 0 : Bytes), itemRec 0x5 2 (natLe 2 (15 * 4096 + 4095) ++ [1, 4]
     ++ natLe 2 1 ++ natLe 3 1 ++ natLe 3 320000 ++ natLe 2 1 ++ natLe 2 0 : Bytes),
     (match parseService (natLe 2 (15 * 4096 + 4095) ++ [1, 4] ++ natLe 2 1 ++ natLe 3 1 ++ natLe 3 320000 ++ natLe 2 1 ++ natLe 2 0 : Bytes) with | .ok x => x | .error _ => service0),
     (match parseService (natLe 2 (15 * 4096 + 4095) ++ [1, 4] ++ natLe 2 1 ++ natLe 3 1 ++ natLe 3 320000 ++ natLe 2 1 ++ natLe 2 0 : Bytes) with | .ok x => x | .error _ => service0),
     sole_of (by decide +kernel) (by decide +kernel), ok_of (by decide +kernel), by decide +kernel⟩,
   ⟨((owned.modTabs (fun y => { y with services := y.services ++ [(match parseService (natLe 2 (15 * 4096 + 4095) ++ [1, 4] ++ natLe 2 1 ++ natLe 3 1 ++ natLe 3 320000 ++ natLe 2 1 ++ natLe 2 0 : Bytes) with | .ok x => x | .error _ => service0)] }))).modWarp
     (fun y => { y with voq := [{ vf0 with subscriber := some 4095, service := 15 }] }), itemEnv (natLe 2 (15 * 4096 + 4095) ++ [1, 4] ++ natLe 2 1 ++
     natLe 3 1 ++ natLe 3 320000 ++ natLe 2 1 ++ natLe 2 0 : Bytes), (natLe 2 (15 * 4096 + 4095) ++ [1, 4] ++ natLe 2 1 ++ natLe 3 1 ++ natLe 3 320000 ++
     natLe 2 1 ++ natLe 2 0 : Bytes), itemRec 0x5 2 (natLe 2 (15 * 4096 + 4095) ++ [1, 4] ++ natLe 2 1 ++ natLe 3 1 ++ natLe 3 320000 ++ natLe 2 1 ++
     natLe 2 0 : Bytes),
     (match parseService (natLe 2 (15 * 4096 + 4095) ++ [1, 4] ++ natLe 2 1 ++ natLe 3 1 ++ natLe 3 320000 ++ natLe 2 1 ++ natLe 2 0 : Bytes) with | .ok x => x | .error _ => service0),
     (match parseService (natLe 2 (15 * 4096 + 4095) ++ [1, 4] ++ natLe 2 1 ++ natLe 3 1 ++ natLe 3 320000 ++ natLe 2 1 ++ natLe 2 0 : Bytes) with | .ok x => x | .error _ => service0),
     sole_of (by decide +kernel) (by decide +kernel), ok_of (by decide +kernel), by decide +kernel⟩,
   ⟨(owned.modTabs (fun y => { y with groups := y.groups ++ [(match parseGroup (natLe 2 (15 * 4096 + 4095) ++ [2, 0] ++ natLe 6 4096 ++ natLe 6 64 ++ [1, 0, 2, 0] ++ natLe 6 0 ++ natLe 6 0 ++ [0, 0, 1, 0] ++ natLe 6 8192 ++ natLe 6 0 : Bytes) with | .ok x => x | .error _ => { id := 0, part := 0, base := 0, length := 0, members := [] })] })),
     itemEnv (natLe 2 (15 * 4096 + 4095) ++ [2, 0] ++ natLe 6 4096 ++ natLe 6 64 ++ [1, 0, 2, 0] ++ natLe 6 0 ++ natLe 6 0 ++ [0, 0, 1, 0] ++ natLe 6 8192
     ++ natLe 6 0 : Bytes), (natLe 2 (15 * 4096 + 4095) ++ [2, 0] ++ natLe 6 4096 ++ natLe 6 64 ++ [1, 0, 2, 0] ++ natLe 6 0 ++ natLe 6 0 ++ [0, 0, 1, 0]
     ++ natLe 6 8192 ++ natLe 6 0 : Bytes), itemRec 0x6 2 (natLe 2 (15 * 4096 + 4095) ++ [2, 0] ++ natLe 6 4096 ++ natLe 6 64 ++ [1, 0, 2, 0] ++ natLe 6 0
     ++ natLe 6 0 ++ [0, 0, 1, 0] ++ natLe 6 8192 ++ natLe 6 0 : Bytes),
     (match parseGroup (natLe 2 (15 * 4096 + 4095) ++ [2, 0] ++ natLe 6 4096 ++ natLe 6 64 ++ [1, 0, 2, 0] ++ natLe 6 0 ++ natLe 6 0 ++ [0, 0, 1, 0] ++ natLe 6 8192 ++ natLe 6 0 : Bytes) with | .ok x => x | .error _ => { id := 0, part := 0, base := 0, length := 0, members := [] }),
     sole_of (by decide +kernel) (by decide +kernel), ok_of (by decide +kernel), by decide +kernel⟩,
   ⟨(owned.modTabs (fun y => { y with sumac := y.sumac ++ [(match parseSumac (natLe 6 4096 ++ natLe 2 0 ++ natLe 6 384 ++ [15, 1, 6, 0, 0, 0] ++ natLe 4 0x3F800000 ++ natLe 4 1 ++ natLe 4 0 : Bytes) with | .ok x => x | .error _ => sumac1)] })),
     itemEnv (natLe 6 4096 ++ natLe 2 0 ++ natLe 6 384 ++ [15, 1, 6, 0, 0, 0] ++ natLe 4 0x3F800000 ++ natLe 4 1 ++ natLe 4 0 : Bytes), (natLe 6 4096 ++
     natLe 2 0 ++ natLe 6 384 ++ [15, 1, 6, 0, 0, 0] ++ natLe 4 0x3F800000 ++ natLe 4 1 ++ natLe 4 0 : Bytes), itemRec 0x7 2 (natLe 6 4096 ++ natLe 2 0 ++
     natLe 6 384 ++ [15, 1, 6, 0, 0, 0] ++ natLe 4 0x3F800000 ++ natLe 4 1 ++ natLe 4 0 : Bytes),
     (match parseSumac (natLe 6 4096 ++ natLe 2 0 ++ natLe 6 384 ++ [15, 1, 6, 0, 0, 0] ++ natLe 4 0x3F800000 ++ natLe 4 1 ++ natLe 4 0 : Bytes) with | .ok x => x | .error _ => sumac1),
     sole_of (by decide +kernel) (by decide +kernel), ok_of (by decide +kernel), by decide +kernel⟩,
   ⟨(owned.modTabs (fun y => { y with extents := y.extents ++ [(match parseExtent (natLe 6 (farLo + 0x1000) ++ natLe 2 0 ++ natLe 6 4096 ++ [15 + 32, 0] ++ natLe 8 (2 ^ 48) ++ natLe 2 0 ++ natLe 2 0 ++ natLe 4 3 : Bytes) with | .ok x => x | .error _ => extent0)] })),
     itemEnv (natLe 6 (farLo + 0x1000) ++ natLe 2 0 ++ natLe 6 4096 ++ [15 + 32, 0] ++ natLe 8 (2 ^ 48) ++ natLe 2 0 ++ natLe 2 0 ++ natLe 4 3 : Bytes),
     (natLe 6 (farLo + 0x1000) ++ natLe 2 0 ++ natLe 6 4096 ++ [15 + 32, 0] ++ natLe 8 (2 ^ 48) ++ natLe 2 0 ++ natLe 2 0 ++ natLe 4 3 : Bytes), itemRec
     0x8 2 (natLe 6 (farLo + 0x1000) ++ natLe 2 0 ++ natLe 6 4096 ++ [15 + 32, 0] ++ natLe 8 (2 ^ 48) ++ natLe 2 0 ++ natLe 2 0 ++ natLe 4 3 : Bytes),
     (match parseExtent (natLe 6 (farLo + 0x1000) ++ natLe 2 0 ++ natLe 6 4096 ++ [15 + 32, 0] ++ natLe 8 (2 ^ 48) ++ natLe 2 0 ++ natLe 2 0 ++ natLe 4 3 : Bytes) with | .ok x => x | .error _ => extent0),
     sole_of (by decide +kernel) (by decide +kernel), ok_of (by decide +kernel), by decide +kernel⟩,
   ⟨(owned.modTabs (fun y => { y with mirrored := y.mirrored ++ [(match parseMirrored (natLe 6 0x200000 ++ natLe 2 0 ++ natLe 6 4096 ++ [15 + 16, 0] ++ natLe 6 0 ++ natLe 2 0 ++ natLe 2 0 ++ natLe 2 0 ++ natLe 4 3 : Bytes) with | .ok x => x | .error _ => { base := 0, length := 0, part := 0, role := 0, partnerBase := 0, cid := 0, id := 0 })] })),
     itemEnv (natLe 6 0x200000 ++ natLe 2 0 ++ natLe 6 4096 ++ [15 + 16, 0] ++ natLe 6 0 ++ natLe 2 0 ++ natLe 2 0 ++ natLe 2 0 ++ natLe 4 3 : Bytes),
     (natLe 6 0x200000 ++ natLe 2 0 ++ natLe 6 4096 ++ [15 + 16, 0] ++ natLe 6 0 ++ natLe 2 0 ++ natLe 2 0 ++ natLe 2 0 ++ natLe 4 3 : Bytes), itemRec 0x9
     2 (natLe 6 0x200000 ++ natLe 2 0 ++ natLe 6 4096 ++ [15 + 16, 0] ++ natLe 6 0 ++ natLe 2 0 ++ natLe 2 0 ++ natLe 2 0 ++ natLe 4 3 : Bytes),
     (match parseMirrored (natLe 6 0x200000 ++ natLe 2 0 ++ natLe 6 4096 ++ [15 + 16, 0] ++ natLe 6 0 ++ natLe 2 0 ++ natLe 2 0 ++ natLe 2 0 ++ natLe 4 3 : Bytes) with | .ok x => x | .error _ => { base := 0, length := 0, part := 0, role := 0, partnerBase := 0, cid := 0, id := 0 }),
     sole_of (by decide +kernel) (by decide +kernel), ok_of (by decide +kernel), by decide +kernel⟩,
   ⟨(owned.modTabs (fun y => { y with schedules := y.schedules ++ [(match parseSchedule (natLe 2 1 ++ natLe 2 1 ++ [15, 0, 0, 0] ++ natLe 6 4096 ++ natLe 2 0 ++ natLe 4 1 ++ natLe 4 0 ++ natLe 4 1 ++ natLe 4 0 ++ natLe 6 (farLo + 0x1000) ++ natLe 2 0 ++ natLe 6 4096 ++ [2, 0] ++ natLe 6 16384 ++ natLe 2 0 ++ natLe 4 0 ++ natLe 4 0 : Bytes) with | .ok x => x | .error _ => sched0)] })),
     itemEnv (natLe 2 1 ++ natLe 2 1 ++ [15, 0, 0, 0] ++ natLe 6 4096 ++ natLe 2 0 ++ natLe 4 1 ++ natLe 4 0 ++ natLe 4 1 ++ natLe 4 0 ++ natLe 6 (farLo +
     0x1000) ++ natLe 2 0 ++ natLe 6 4096 ++ [2, 0] ++ natLe 6 16384 ++ natLe 2 0 ++ natLe 4 0 ++ natLe 4 0 : Bytes), (natLe 2 1 ++ natLe 2 1 ++ [15, 0,
     0, 0] ++ natLe 6 4096 ++ natLe 2 0 ++ natLe 4 1 ++ natLe 4 0 ++ natLe 4 1 ++ natLe 4 0 ++ natLe 6 (farLo + 0x1000) ++ natLe 2 0 ++ natLe 6 4096 ++
     [2, 0] ++ natLe 6 16384 ++ natLe 2 0 ++ natLe 4 0 ++ natLe 4 0 : Bytes), itemRec 0xA 2 (natLe 2 1 ++ natLe 2 1 ++ [15, 0, 0, 0] ++ natLe 6 4096 ++
     natLe 2 0 ++ natLe 4 1 ++ natLe 4 0 ++ natLe 4 1 ++ natLe 4 0 ++ natLe 6 (farLo + 0x1000) ++ natLe 2 0 ++ natLe 6 4096 ++ [2, 0] ++ natLe 6 16384 ++
     natLe 2 0 ++ natLe 4 0 ++ natLe 4 0 : Bytes),
     (match parseSchedule (natLe 2 1 ++ natLe 2 1 ++ [15, 0, 0, 0] ++ natLe 6 4096 ++ natLe 2 0 ++ natLe 4 1 ++ natLe 4 0 ++ natLe 4 1 ++ natLe 4 0 ++ natLe 6 (farLo + 0x1000) ++ natLe 2 0 ++ natLe 6 4096 ++ [2, 0] ++ natLe 6 16384 ++ natLe 2 0 ++ natLe 4 0 ++ natLe 4 0 : Bytes) with | .ok x => x | .error _ => sched0),
     (match parseSchedule (natLe 2 1 ++ natLe 2 1 ++ [15, 0, 0, 0] ++ natLe 6 4096 ++ natLe 2 0 ++ natLe 4 1 ++ natLe 4 0 ++ natLe 4 1 ++ natLe 4 0 ++ natLe 6 (farLo + 0x1000) ++ natLe 2 0 ++ natLe 6 4096 ++ [2, 0] ++ natLe 6 16384 ++ natLe 2 0 ++ natLe 4 0 ++ natLe 4 0 : Bytes) with | .ok x => x | .error _ => sched0),
     sole_of (by decide +kernel) (by decide +kernel), ok_of (by decide +kernel), by decide +kernel⟩,
   ⟨(owned.modTabs (fun y => { y with bindings := y.bindings ++ [(match parseBinding ([127, 15] ++ natLe 2 9 ++ natLe 2 1 ++ natLe 2 1 ++ natLe 6 8192 ++ [12, 0] ++ natLe 6 4096 ++ natLe 2 0 ++ natLe 6 0x100000 ++ natLe 2 0 : Bytes) with | .ok x => x | .error _ => bind127)] })),
     itemEnv ([127, 15] ++ natLe 2 9 ++ natLe 2 1 ++ natLe 2 1 ++ natLe 6 8192 ++ [12, 0] ++ natLe 6 4096 ++ natLe 2 0 ++ natLe 6 0x100000 ++ natLe 2 0 :
     Bytes), ([127, 15] ++ natLe 2 9 ++ natLe 2 1 ++ natLe 2 1 ++ natLe 6 8192 ++ [12, 0] ++ natLe 6 4096 ++ natLe 2 0 ++ natLe 6 0x100000 ++ natLe 2 0 :
     Bytes), itemRec 0xB 2 ([127, 15] ++ natLe 2 9 ++ natLe 2 1 ++ natLe 2 1 ++ natLe 6 8192 ++ [12, 0] ++ natLe 6 4096 ++ natLe 2 0 ++ natLe 6 0x100000
     ++ natLe 2 0 : Bytes),
     (match parseBinding ([127, 15] ++ natLe 2 9 ++ natLe 2 1 ++ natLe 2 1 ++ natLe 6 8192 ++ [12, 0] ++ natLe 6 4096 ++ natLe 2 0 ++ natLe 6 0x100000 ++ natLe 2 0 : Bytes) with | .ok x => x | .error _ => bind127),
     intact_of _ (by decide +kernel), sole_of (by decide +kernel) (by decide +kernel), ok_of (by decide +kernel), by decide +kernel⟩,
   ⟨(owned.modTabs (fun y => { y with shares := y.shares ++ [(match parseShare ([255, 15, 1, 0, 0, 0, 0, 0] : Bytes) with | .ok x => x | .error _ => { port := 0, sub := 0, part := 0, ded := false })] })),
     itemEnv ([255, 15, 1, 0, 0, 0, 0, 0] : Bytes), ([255, 15, 1, 0, 0, 0, 0, 0] : Bytes), itemRec 0xC 2 ([255, 15, 1, 0, 0, 0, 0, 0] : Bytes),
     (match parseShare ([255, 15, 1, 0, 0, 0, 0, 0] : Bytes) with | .ok x => x | .error _ => { port := 0, sub := 0, part := 0, ded := false }),
     sole_of (by decide +kernel) (by decide +kernel), ok_of (by decide +kernel), by decide +kernel⟩,
   ⟨(owned.modTabs (fun y => { y with published := y.published ++ [(match parsePublished (natLe 6 32768 ++ [4, 15] ++ natLe 6 4096 ++ natLe 2 0 ++ natLe 6 0x10000 ++ natLe 2 0 ++ natLe 6 4096 ++ natLe 2 0 ++ natLe 4 7 ++ natLe 4 0 : Bytes) with | .ok x => x | .error _ => pub7)] })),
     itemEnv (natLe 6 32768 ++ [4, 15] ++ natLe 6 4096 ++ natLe 2 0 ++ natLe 6 0x10000 ++ natLe 2 0 ++ natLe 6 4096 ++ natLe 2 0 ++ natLe 4 7 ++ natLe 4 0
     : Bytes), (natLe 6 32768 ++ [4, 15] ++ natLe 6 4096 ++ natLe 2 0 ++ natLe 6 0x10000 ++ natLe 2 0 ++ natLe 6 4096 ++ natLe 2 0 ++ natLe 4 7 ++ natLe 4
     0 : Bytes), itemRec 0xD 2 (natLe 6 32768 ++ [4, 15] ++ natLe 6 4096 ++ natLe 2 0 ++ natLe 6 0x10000 ++ natLe 2 0 ++ natLe 6 4096 ++ natLe 2 0 ++
     natLe 4 7 ++ natLe 4 0 : Bytes),
     (match parsePublished (natLe 6 32768 ++ [4, 15] ++ natLe 6 4096 ++ natLe 2 0 ++ natLe 6 0x10000 ++ natLe 2 0 ++ natLe 6 4096 ++ natLe 2 0 ++ natLe 4 7 ++ natLe 4 0 : Bytes) with | .ok x => x | .error _ => pub7),
     (match parsePublished (natLe 6 32768 ++ [4, 15] ++ natLe 6 4096 ++ natLe 2 0 ++ natLe 6 0x10000 ++ natLe 2 0 ++ natLe 6 4096 ++ natLe 2 0 ++ natLe 4 7 ++ natLe 4 0 : Bytes) with | .ok x => x | .error _ => pub7),
     sole_of (by decide +kernel) (by decide +kernel), ok_of (by decide +kernel), empty_of (by decide +kernel), by decide +kernel⟩,
   ⟨(owned.modTabs (fun y => { y with fwd := y.fwd ++ [(match parseForwarding (natLe 2 1 ++ natLe 2 65535 ++ [255, 0, 0, 0] : Bytes) with | .ok x => x | .error _ => { first := 0, count := 0, dest := none })] })),
     itemEnv (natLe 2 1 ++ natLe 2 65535 ++ [255, 0, 0, 0] : Bytes), (natLe 2 1 ++ natLe 2 65535 ++ [255, 0, 0, 0] : Bytes), itemRec 0xE 2 (natLe 2 1 ++
     natLe 2 65535 ++ [255, 0, 0, 0] : Bytes),
     (match parseForwarding (natLe 2 1 ++ natLe 2 65535 ++ [255, 0, 0, 0] : Bytes) with | .ok x => x | .error _ => { first := 0, count := 0, dest := none }),
     sole_of (by decide +kernel) (by decide +kernel), ok_of (by decide +kernel), by decide +kernel⟩,
   ⟨(owned.modTabs (fun y => { y with sources := y.sources ++ [(match parseSources ([255, 1, 0, 0, 0, 0, 0, 0] ++ natLe 2 0 ++ natLe 2 65535 : Bytes) with | .ok x => x | .error _ => { port := 0, sub := 0, ranges := [] })] })),
     itemEnv ([255, 1, 0, 0, 0, 0, 0, 0] ++ natLe 2 0 ++ natLe 2 65535 : Bytes), ([255, 1, 0, 0, 0, 0, 0, 0] ++ natLe 2 0 ++ natLe 2 65535 : Bytes),
     itemRec 0xF 2 ([255, 1, 0, 0, 0, 0, 0, 0] ++ natLe 2 0 ++ natLe 2 65535 : Bytes),
     (match parseSources ([255, 1, 0, 0, 0, 0, 0, 0] ++ natLe 2 0 ++ natLe 2 65535 : Bytes) with | .ok x => x | .error _ => { port := 0, sub := 0, ranges := [] }),
     sole_of (by decide +kernel) (by decide +kernel), ok_of (by decide +kernel), by decide +kernel⟩,
   ⟨(owned.modTabs (fun y => { y with rings := y.rings ++ [(match parseRing ([15, 10, 0, 0, 0, 0, 0, 0] ++ natLe 6 4096 ++ natLe 2 0 ++ natLe 6 0x40000 ++ natLe 2 0 : Bytes) with | .ok x => x | .error _ => { part := 0, log2 := 0, base := 0, producerWord := 0 })] })),
     itemEnv ([15, 10, 0, 0, 0, 0, 0, 0] ++ natLe 6 4096 ++ natLe 2 0 ++ natLe 6 0x40000 ++ natLe 2 0 : Bytes), ([15, 10, 0, 0, 0, 0, 0, 0] ++ natLe 6
     4096 ++ natLe 2 0 ++ natLe 6 0x40000 ++ natLe 2 0 : Bytes), itemRec 0x12 2 ([15, 10, 0, 0, 0, 0, 0, 0] ++ natLe 6 4096 ++ natLe 2 0 ++ natLe 6
     0x40000 ++ natLe 2 0 : Bytes),
     (match parseRing ([15, 10, 0, 0, 0, 0, 0, 0] ++ natLe 6 4096 ++ natLe 2 0 ++ natLe 6 0x40000 ++ natLe 2 0 : Bytes) with | .ok x => x | .error _ => { part := 0, log2 := 0, base := 0, producerWord := 0 }),
     sole_of (by decide +kernel) (by decide +kernel), ok_of (by decide +kernel), by decide +kernel⟩⟩

theorem test_hypotheses_of_DeviceItemsTakeEffect :
    (∃ (s : State) (r : _) (b : _) (q : _) (c : _) (v : _) (m : _) (acc : _), s.intact ∧ Claims.sole s r 0x10 1 b q ∧ b = [c, v, m, 0, 0, 0, 0, 0] ∧
      c.toNat < 32 ∧ ((1 ≤ m.toNat ∧ m.toNat ≤ 14) ∨ m = 0xFF) ∧ acc = (if m = 0xFF then (s.cluster c.toNat).accMib else m.toNat) ∧ s.partState c.toNat ≠
      .expelled ∧ v.toNat < 16 ∧ s.heldSpare c.toNat = false ∧ (s.cluster c.toNat).assigned = false) ∧
    (∃ (s : State) (r : _) (b : _) (q : _) (c : _) (v : _) (m : _) (acc : _), s.intact ∧ Claims.sole s r 0x10 1 b q ∧ b = [c, v, m, 0, 0, 0, 0, 0] ∧
      c.toNat < 32 ∧ ((1 ≤ m.toNat ∧ m.toNat ≤ 14) ∨ m = 0xFF) ∧ acc = (if m = 0xFF then (s.cluster c.toNat).accMib else m.toNat) ∧ s.partState c.toNat ≠
      .expelled ∧ v.toNat < 16 ∧ s.heldSpare c.toNat = false ∧ (s.cluster c.toNat).assigned = true ∧ (s.cluster c.toNat).part ≠ v.toNat ∧ s.bound c.toNat
      = false ∧ (∃ j ∈ s.eng.jobs, j.cluster = c.toNat)) ∧
    (∃ (s : State) (r : _) (b : _) (q : _) (c : _) (v : _) (m : _) (acc : _), s.intact ∧ Claims.sole s r 0x10 1 b q ∧ b = [c, v, m, 0, 0, 0, 0, 0] ∧
      c.toNat < 32 ∧ ((1 ≤ m.toNat ∧ m.toNat ≤ 14) ∨ m = 0xFF) ∧ acc = (if m = 0xFF then (s.cluster c.toNat).accMib else m.toNat) ∧ s.partState c.toNat ≠
      .expelled ∧ v.toNat < 16 ∧ s.heldSpare c.toNat = false ∧ (s.cluster c.toNat).assigned = true ∧ (s.cluster c.toNat).part ≠ v.toNat ∧ s.bound c.toNat
      = false ∧ (∀ j ∈ s.eng.jobs, j.cluster ≠ c.toNat)) ∧
    (∃ (s : State) (r : _) (b : _) (q : _) (p : Byte) (role : _) (tenant : _), s.intact ∧ Claims.sole s r 0x11 1 b q ∧ b = [p, 1, role, 0, 0, 0, 0, 0] ++
      tenant ∧ tenant.length = 32 ∧ p.toNat < 16 ∧ role.toNat < 2 ∧ (s.part p.toNat).state = .free ∧ (s.part p.toNat).awaiting = false ∧ (s.part
      p.toNat).keyPresent = false ∧ s.tabs.paired = false) ∧
    (∃ (s : State) (r : _) (b : _) (q : _) (p : Byte) (role : _) (tenant : _), s.intact ∧ Claims.sole s r 0x11 1 b q ∧ b = [p, 1, role, 0, 0, 0, 0, 0] ++
      tenant ∧ tenant.length = 32 ∧ p.toNat < 16 ∧ role.toNat < 2 ∧ (s.part p.toNat).state = .free ∧ (s.part p.toNat).awaiting = false ∧ (s.part
      p.toNat).keyPresent = false ∧ s.tabs.paired = true ∧ s.hlt.admitted = true ∧ s.jrn.solo = false) ∧
    (∃ (s : State) (r : _) (b : _) (q : _) (p : Byte) (role : _) (tenant : _), s.intact ∧ Claims.sole s r 0x11 1 b q ∧ b = [p, 1, role, 0, 0, 0, 0, 0] ++
      tenant ∧ tenant.length = 32 ∧ p.toNat < 16 ∧ role.toNat < 2 ∧ (s.part p.toNat).state = .active) ∧
    (∃ (s : State) (r : _) (b : _) (q : _) (p : Byte) (role : _) (tenant : _), s.intact ∧ Claims.sole s r 0x11 1 b q ∧ b = [p, 1, role, 0, 0, 0, 0, 0] ++
      tenant ∧ tenant.length = 32 ∧ p.toNat < 16 ∧ role.toNat < 2 ∧ ((s.part p.toNat).state = .teardown ∨ (s.part p.toNat).state = .scrubbing)) ∧
    (∃ (s : State) (r : _) (b : _) (q : _) (p : Byte) (role : _), s.intact ∧ Claims.sole s r 0x11 1 b q ∧ b = [p, 2, role, 0, 0, 0, 0, 0] ++ zeros 32 ∧
      p.toNat < 16 ∧ role.toNat < 2 ∧ (s.part p.toNat).state = .active) ∧
    (∃ (s : State) (r : _) (b : _) (q : _) (p : Byte) (role : _), s.intact ∧ Claims.sole s r 0x11 1 b q ∧ b = [p, 2, role, 0, 0, 0, 0, 0] ++ zeros 32 ∧
      p.toNat < 16 ∧ role.toNat < 2 ∧ (s.part p.toNat).state = .active ∧ s.jrn.reqs = []) ∧
    (∃ (s : State) (r : _) (b : _) (q : _) (p : Byte) (role : _), s.intact ∧ Claims.sole s r 0x11 1 b q ∧ b = [p, 2, role, 0, 0, 0, 0, 0] ++ zeros 32 ∧
      p.toNat < 16 ∧ role.toNat < 2 ∧ (s.part p.toNat).state = .free ∧ (s.part p.toNat).awaiting = false) ∧
    (∃ (i : _) (t : Nat) (s : State) (r : _) (b : _) (q : _) (x : _), s.intact ∧ Claims.sole s r 0x13 1 b q ∧ parseNode b = .ok x ∧ s.checkNode x = none ∧
      (i = Instr.nodeAndPairInstall t r [] b [] ∨ (i = .journalReset t r [] b [] ∧ x.reset = true) ∨ (i = .deviceAdmit t r [] b [] ∧ x.admits = true) ∨ (i
      = .standbyEnter t r [] b [] ∧ x.standby = true) ∨ (i = .standbyLeave t r [] b [] ∧ x.standby = false))) ∧
    (∃ (s : State) (r : _) (b : _) (q : _) (x : _), Claims.sole s r 0x14 1 b q ∧ parseWitness b = .ok x) :=
  ⟨⟨owned, itemEnv [31, 15, 14, 0, 0, 0, 0, 0], [31, 15, 14, 0, 0, 0, 0, 0], itemRec 0x10 1 [31, 15, 14, 0, 0, 0, 0, 0], (31 : Byte), (15 : Byte), (14 :
     Byte), 14, intact_of _ (by decide +kernel), sole_of (by decide +kernel) (by decide +kernel), by decide +kernel⟩,
   ⟨(owned.modCluster 31 (fun x => { x with assigned := true, part := 0 })).modEng (fun x => { x with jobs := [{ opJob true with cluster := 31 }] }),
     itemEnv [31, 15, 14, 0, 0, 0, 0, 0], [31, 15, 14, 0, 0, 0, 0, 0], itemRec 0x10 1 [31, 15, 14, 0, 0, 0, 0, 0], (31 : Byte), (15 : Byte), (14 : Byte),
     14, intact_of _ (by decide +kernel), sole_of (by decide +kernel) (by decide +kernel), by decide +kernel⟩,
   ⟨owned.modCluster 31 (fun x => { x with assigned := true, part := 0 }), itemEnv [31, 15, 255, 0, 0, 0, 0, 0], [31, 15, 255, 0, 0, 0, 0, 0], itemRec
     0x10 1 [31, 15, 255, 0, 0, 0, 0, 0], (31 : Byte), (15 : Byte), (0xFF : Byte), (owned.modCluster 31 (fun x => { x with assigned := true, part := 0 })
     |>.cluster 31).accMib, intact_of _ (by decide +kernel), sole_of (by decide +kernel) (by decide +kernel), by decide +kernel⟩,
   ⟨owned, itemEnv ([15, 1, 1, 0, 0, 0, 0, 0] ++ (List.replicate 32 9 : Bytes) : Bytes), ([15, 1, 1, 0, 0, 0, 0, 0] ++ (List.replicate 32 9 : Bytes) :
     Bytes), itemRec 0x11 1 ([15, 1, 1, 0, 0, 0, 0, 0] ++ (List.replicate 32 9 : Bytes) : Bytes), (15 : Byte), (1 : Byte), (List.replicate 32 9 : Bytes),
     intact_of _ (by decide +kernel), sole_of (by decide +kernel) (by decide +kernel), by decide +kernel⟩,
   ⟨partnered.modHlt (fun h => { h with admitted := true }), itemEnv ([15, 1, 1, 0, 0, 0, 0, 0] ++ (List.replicate 32 9 : Bytes) : Bytes), ([15, 1, 1, 0,
     0, 0, 0, 0] ++ (List.replicate 32 9 : Bytes) : Bytes), itemRec 0x11 1 ([15, 1, 1, 0, 0, 0, 0, 0] ++ (List.replicate 32 9 : Bytes) : Bytes), (15 :
     Byte), (1 : Byte), (List.replicate 32 9 : Bytes), intact_of _ (by decide +kernel), sole_of (by decide +kernel) (by decide +kernel),
     by decide +kernel⟩,
   ⟨owned.modPart 15 (fun p => { p with state := .active, keyPresent := true, key := some [] }), itemEnv ([15, 1, 0, 0, 0, 0, 0, 0] ++ (List.replicate 32
     9 : Bytes) : Bytes), ([15, 1, 0, 0, 0, 0, 0, 0] ++ (List.replicate 32 9 : Bytes) : Bytes), itemRec 0x11 1 ([15, 1, 0, 0, 0, 0, 0, 0] ++
     (List.replicate 32 9 : Bytes) : Bytes), (15 : Byte), (0 : Byte), (List.replicate 32 9 : Bytes), intact_of _ (by decide +kernel),
     sole_of (by decide +kernel) (by decide +kernel), by decide +kernel⟩,
   ⟨owned.modPart 15 (fun p => { p with state := .scrubbing, keyPresent := true, key := some [] }), itemEnv ([15, 1, 0, 0, 0, 0, 0, 0] ++ (List.replicate
     32 9 : Bytes) : Bytes), ([15, 1, 0, 0, 0, 0, 0, 0] ++ (List.replicate 32 9 : Bytes) : Bytes), itemRec 0x11 1 ([15, 1, 0, 0, 0, 0, 0, 0] ++
     (List.replicate 32 9 : Bytes) : Bytes), (15 : Byte), (0 : Byte), (List.replicate 32 9 : Bytes), intact_of _ (by decide +kernel),
     sole_of (by decide +kernel) (by decide +kernel), by decide +kernel⟩,
   ⟨(owned.modPart 15 (fun p => { p with state := .active, keyPresent := true, key := some [] })).modJrn (fun j =>
     { j with reqs := [{ req0 with part := 15 }] }), itemEnv ([15, 2, 0, 0, 0, 0, 0, 0] ++ zeros 32 : Bytes), ([15, 2, 0, 0, 0, 0, 0, 0] ++ zeros 32 :
     Bytes), itemRec 0x11 1 ([15, 2, 0, 0, 0, 0, 0, 0] ++ zeros 32 : Bytes), (15 : Byte), (0 : Byte), intact_of _ (by decide +kernel),
     sole_of (by decide +kernel) (by decide +kernel), by decide +kernel⟩,
   ⟨owned.modPart 15 (fun p => { p with state := .active, keyPresent := true, key := some [] }), itemEnv ([15, 2, 0, 0, 0, 0, 0, 0] ++ zeros 32 : Bytes),
     ([15, 2, 0, 0, 0, 0, 0, 0] ++ zeros 32 : Bytes), itemRec 0x11 1 ([15, 2, 0, 0, 0, 0, 0, 0] ++ zeros 32 : Bytes), (15 : Byte), (0 : Byte),
     intact_of _ (by decide +kernel), sole_of (by decide +kernel) (by decide +kernel), by decide +kernel⟩,
   ⟨owned, itemEnv ([15, 2, 0, 0, 0, 0, 0, 0] ++ zeros 32 : Bytes), ([15, 2, 0, 0, 0, 0, 0, 0] ++ zeros 32 : Bytes), itemRec 0x11 1 ([15, 2, 0, 0, 0, 0,
     0, 0] ++ zeros 32 : Bytes), (15 : Byte), (0 : Byte), intact_of _ (by decide +kernel), sole_of (by decide +kernel) (by decide +kernel),
     by decide +kernel⟩,
   ⟨(.nodeAndPairInstall 1001 (itemEnv (natLe 2 7 ++ natLe 2 3 ++ [1 + 2, 1, 0, 0] ++ neutralBytes ++ natLe 2 9 : Bytes)) [] (natLe 2 7 ++ natLe 2 3 ++ [1
     + 2, 1, 0, 0] ++ neutralBytes ++ natLe 2 9 : Bytes) []), 1001, (owned.modHlt (fun h => { h with fence := 1 })), itemEnv (natLe 2 7 ++ natLe 2 3 ++ [1
     + 2, 1, 0, 0] ++ neutralBytes ++ natLe 2 9 : Bytes), (natLe 2 7 ++ natLe 2 3 ++ [1 + 2, 1, 0, 0] ++ neutralBytes ++ natLe 2 9 : Bytes), itemRec 0x13
     1 (natLe 2 7 ++ natLe 2 3 ++ [1 + 2, 1, 0, 0] ++ neutralBytes ++ natLe 2 9 : Bytes),
     (match parseNode (natLe 2 7 ++ natLe 2 3 ++ [1 + 2, 1, 0, 0] ++ neutralBytes ++ natLe 2 9 : Bytes) with | .ok x => x | .error _ => { own := 0, partner := 0, paired := false, role := 0, admits := false, reset := false, standby := false, key := [], retired := [] }),
     intact_of _ (by decide +kernel), sole_of (by decide +kernel) (by decide +kernel), ok_of (by decide +kernel), by decide +kernel⟩,
   ⟨owned.modTabs (fun x => { x with witnesses := some ([], []) }), itemEnv (List.replicate 32 1 ++ List.replicate 32 2 ++ zeros 8 : Bytes),
     (List.replicate 32 1 ++ List.replicate 32 2 ++ zeros 8 : Bytes), itemRec 0x14 1 (List.replicate 32 1 ++ List.replicate 32 2 ++ zeros 8 : Bytes),
     (match parseWitness (List.replicate 32 1 ++ List.replicate 32 2 ++ zeros 8 : Bytes) with | .ok x => x | .error _ => ([], [])),
     sole_of (by decide +kernel) (by decide +kernel), ok_of (by decide +kernel)⟩⟩

theorem test_hypotheses_of_EntryStatesAndEmptyRequests :
    (∃ (b : Bytes), 7 ≤ bits (leAt b 29 1) 4 4) ∧
    (∃ (b : Bytes) (now : _) (e : _), JEntry.ofBytes b now = some e) ∧
    (∃ (s : State) (n : _) (c : _), (s.context n c).isSome = true) ∧
    (∃ (s : State) (n : _) (c : _), (s.context n c).isSome = false) :=
  ⟨⟨List.replicate 64 0xFF, by decide +kernel⟩,
   ⟨entry0.bytes, 900, entry0, by decide +kernel⟩,
   ⟨manned, 1, 1, by decide +kernel⟩,
   ⟨manned, 1, 2, by decide +kernel⟩⟩

theorem test_hypotheses_of_PowerSettingsLieInTheirRanges :
    (∃ (b : _) (c : _), parseSettings b = some c) ∧
    (∃ (card : _) (k : _) (b : _), slotBytes card k = some b ∧ parseSettings ((sectionOf b 0x10).getD []) = none) ∧
    (∃ (s : State) (card : _) (k : _) (b : _), slotBytes card k = some b ∧ (leAt b 12 4 < s.mram.vendorCounter ∨ leAt b 20 4 < s.mram.ownerCounter)) :=
  ⟨⟨goodSettings, (match parseSettings goodSettings with | some c => c | none => {}), by decide +kernel⟩,
   ⟨cardOf, 0, (slotBytes cardOf 0).getD [], by decide +kernel⟩,
   ⟨{ owned with mram := { owned.mram with vendorCounter := 29 } }, cardOf, 0, (slotBytes cardOf 0).getD [], by decide +kernel⟩⟩

end Sys2Proof.Tests
end

/-! Settles O31. What sending a frame and refusing a request leave of the journal and the engines, and how a response finds the frame it answers
(R51 to R53, R99, R658). -/

namespace Sys2Proof.Machine

/-! ## Sending a frame: the requests and the engines stay as they are -/

@[simp] theorem freeCells_jrn (s : State) (a : Option (Nat × Nat)) (f : Frame) : (s.freeCells a f).jrn = s.jrn := by
  unfold State.freeCells; split <;> rfl
@[simp] theorem freeCells_eng (s : State) (a : Option (Nat × Nat)) (f : Frame) : (s.freeCells a f).eng = s.eng := by
  unfold State.freeCells; split <;> rfl

@[simp] theorem agedDiscard_jrn (s : State) (pos : Nat) (h : Header) (p point : Nat) : (s.agedDiscard pos h p point).jrn = s.jrn := by
  simp only [State.agedDiscard, State.eventLimited_jrn, State.modPart_jrn]
@[simp] theorem agedDiscard_eng (s : State) (pos : Nat) (h : Header) (p point : Nat) : (s.agedDiscard pos h p point).eng = s.eng := by
  simp only [State.agedDiscard, State.eventLimited_eng, State.modPart_eng]

@[simp] theorem spillIsFull_jrn (s : State) : s.spillIsFull.jrn = s.jrn := by
  simp only [State.spillIsFull, State.eventLimited_jrn, State.modWarp_jrn]
@[simp] theorem spillIsFull_eng (s : State) : s.spillIsFull.eng = s.eng := by
  simp only [State.spillIsFull, State.eventLimited_eng, State.modWarp_eng]

@[simp] theorem enqueue_jrn (s : State) (src dst sub : Nat) (f : Frame) (p resid : Nat) (a : Option (Nat × Nat)) :
    (s.enqueue src dst sub f p resid a).jrn = s.jrn := by
  simp only [State.enqueue, apply_ite State.jrn, agedDiscard_jrn, spillIsFull_jrn, freeCells_jrn, State.modWarp_jrn, State.modPart_jrn,
    State.modArb_jrn, ite_self]
@[simp] theorem enqueue_eng (s : State) (src dst sub : Nat) (f : Frame) (p resid : Nat) (a : Option (Nat × Nat)) :
    (s.enqueue src dst sub f p resid a).eng = s.eng := by
  simp only [State.enqueue, apply_ite State.eng, agedDiscard_eng, spillIsFull_eng, freeCells_eng, State.modWarp_eng, State.modPart_eng,
    State.modArb_eng, ite_self]

/-- A frame of this device enters a VOQ, or its route is lost, a request then being answered by the parser (R60). -/
theorem emitTo_cases (s : State) (pos : Nat) (n : Node) (f : Frame) (p resid : Nat) :
    (∃ dst sub, s.emitTo pos n f p resid = s.enqueue pos dst sub f p resid none) ∨
    ∃ g, s.emitTo pos n f p resid = (s.routeLost pos f.hdr p).modWarp g := by
  unfold State.emitTo
  split
  · exact .inl ⟨_, _, rfl⟩
  · split
    · exact .inl ⟨_, _, rfl⟩
    · refine .inr ?_
      dsimp only
      split
      · exact ⟨id, rfl⟩
      · exact ⟨_, rfl⟩

@[simp] theorem emitTo_jrn (s : State) (pos : Nat) (n : Node) (f : Frame) (p resid : Nat) : (s.emitTo pos n f p resid).jrn = s.jrn := by
  obtain ⟨dst, sub, h⟩ | ⟨g, h⟩ := emitTo_cases s pos n f p resid <;> simp [h, State.routeLost]
@[simp] theorem emitTo_eng (s : State) (pos : Nat) (n : Node) (f : Frame) (p resid : Nat) : (s.emitTo pos n f p resid).eng = s.eng := by
  obtain ⟨dst, sub, h⟩ | ⟨g, h⟩ := emitTo_cases s pos n f p resid <;> simp [h, State.routeLost]

@[simp] theorem originate_reqs (s : State) (w : Owner) (h : Header) (b : Bytes) (p resid : Nat) :
    (s.originate w h b p resid).jrn.reqs = s.jrn.reqs := by simp [State.originate, State.originateTo]
@[simp] theorem originate_eng (s : State) (w : Owner) (h : Header) (b : Bytes) (p resid : Nat) :
    (s.originate w h b p resid).eng = s.eng := by simp [State.originate, State.originateTo]

@[simp] theorem fillSeq_reqs (s : State) (o : OutFrame) (fresh : Bool) : (s.fillSeq o fresh).jrn.reqs = s.jrn.reqs := by
  simp [State.fillSeq, State.dropOut]
@[simp] theorem fillSeq_eng (s : State) (o : OutFrame) (fresh : Bool) : (s.fillSeq o fresh).eng = s.eng := by
  simp [State.fillSeq, State.dropOut]

@[simp] theorem writeEntry_reqs (s : State) (e : JEntry) : (s.writeEntry e).2.jrn.reqs = s.jrn.reqs := by
  simp only [State.writeEntry, State.sendMirror]; split <;> simp
@[simp] theorem writeEntry_eng (s : State) (e : JEntry) : (s.writeEntry e).2.eng = s.eng := by
  simp only [State.writeEntry, State.sendMirror]; split <;> simp

@[simp] theorem mcastFail_jrn (s : State) (h : Header) (p : Nat) (st : Status) : (s.mcastFail h p st).jrn = s.jrn := by
  unfold State.mcastFail; split <;> simp
@[simp] theorem mcastFail_eng (s : State) (h : Header) (p : Nat) (st : Status) : (s.mcastFail h p st).eng = s.eng := by
  unfold State.mcastFail; split <;> simp

/-! ## Looking a request up -/

theorem req_eq_of_reqs {s u : State} (h : u.jrn.reqs = s.jrn.reqs) (id : Nat) : u.req id = s.req id := by simp [State.req, h]

theorem id_of_req {s : State} {id : Nat} {r : Req} (h : s.req id = some r) : r.id = id := by
  simpa using List.find?_some h

/-- A change that keeps the number of a request is what the number then names. -/
theorem req_modReq_same {s : State} {id : Nat} {r : Req} {f : Req → Req} (h : s.req id = some r) (hid : ∀ x, x.id = id → (f x).id = id) :
    (s.modReq id f).req id = some (f r) := by
  have hp : (fun x : Req => decide (x.id = id)) ∘ (fun x => if decide (x.id = id) = true then f x else x) = fun x => decide (x.id = id) := by
    funext x
    by_cases hx : x.id = id <;> simp [hx, hid]
  simp only [State.req, State.modReq_jrn, mapIf, List.find?_map, hp]
  rw [show s.jrn.reqs.find? (fun x => decide (x.id = id)) = some r from h]
  simp [id_of_req h]

/-! ## A refusal -/

/-- The refusal of an open request (R84): after steps that leave the requests and the engines alone, it stands REFUSED under the index of its entry. -/
theorem refuse_open {s : State} {id : Nat} {r : Req} (st : Status) (hr : s.req id = some r) (hd : r.dup = none) (hf : r.refused = false) :
    ∃ (u : State) (i : Nat), u.jrn.reqs = s.jrn.reqs ∧ u.eng = s.eng ∧
      s.refuse id st = u.modReq id (fun _ =>
        { r with applied := true, refused := true, status := st, stage := .settle, result := 0, weight := 0, leaf := false, pendingWrite := [],
                 index := some i, state := .refused, mirrored := !u.mirrors, ackData := [], ackFormat := 1 }) := by
  unfold State.refuse
  simp only [hr, hd, hf, Bool.false_eq_true, if_false]
  refine ⟨_, _, ?_, ?_, rfl⟩
  · rw [writeEntry_reqs]
    cases r.leaf <;> cases r.index <;> simp [State.modEntry]
  · rw [writeEntry_eng]
    cases r.leaf <;> cases r.index <;> simp [State.modEntry]

theorem refuse_refusedAs {s : State} {r : Req} (st : Status) (hr : s.req r.id = some r) (hd : r.dup = none) (hf : r.refused = false) :
    Claims.refusedAs r st (s.refuse r.id st) := by
  obtain ⟨u, i, hu, -, h⟩ := refuse_open st hr hd hf
  rw [h]
  exact ⟨_, req_modReq_same ((req_eq_of_reqs hu r.id).trans hr) (fun _ _ => rfl), rfl, rfl, rfl, rfl, rfl⟩

theorem refuse_eng {s : State} {r : Req} (st : Status) (hr : s.req r.id = some r) (hd : r.dup = none) (hf : r.refused = false) :
    (s.refuse r.id st).eng = s.eng := by
  obtain ⟨u, i, -, hu, h⟩ := refuse_open st hr hd hf
  rw [h, State.modReq_eng, hu]

/-- Where `endRequest` refuses, the request's frames are filled, its operator and its publish forgotten, and every request is still as it was. -/
theorem endRequest_reqs_before (s : State) (id : Nat) :
    (((s.each (s.framesOf id) (fun s o => s.fillSeq o false)).dropJob id).dropPublish id).jrn.reqs = s.jrn.reqs :=
  State.each_keeps (fun s => s.jrn.reqs) _ _ (fun s o => fillSeq_reqs s o false) s

theorem endRequest_colls_before (s : State) (id : Nat) :
    (((s.each (s.framesOf id) (fun s o => s.fillSeq o false)).dropJob id).dropPublish id).eng.colls = s.eng.colls :=
  State.each_keeps (fun s => s.eng.colls) _ _ (fun s o => by simp) s

/-- A request whose end is a refusal stands REFUSED, and no collective moves (R658). -/
theorem endRequest_refusedAs {s : State} {r : Req} (st : Status) (hr : s.req r.id = some r) (hd : r.dup = none) (hf : r.refused = false) :
    Claims.refusedAs r st (s.endRequest r.id st) ∧ (s.endRequest r.id st).eng.colls = s.eng.colls := by
  have hr' := (req_eq_of_reqs (endRequest_reqs_before s r.id) r.id).trans hr
  refine ⟨refuse_refusedAs st hr' hd hf, ?_⟩
  rw [State.endRequest, refuse_eng st hr' hd hf]
  exact endRequest_colls_before s r.id

/-! ## A response at the frame it answers -/

/-- A frame that the parser takes has its arrival header: an age of its own, and the header it was sent with (R57).
Each of the six checks before it (header, form, ingress, route, group, age) answers no frame. -/
theorem parse_hdr {s v : State} {a : Arrival} {f g : Frame} {p : Nat} (h : s.parse a f = (v, some (g, p))) : g.hdr = s.arrivalHeader a f.hdr := by
  unfold State.parse at h
  dsimp only at h
  iterate 6
    split at h
    · cases h
  cases h
  rfl

/-- Receiving a frame leaves its opcode as it was sent. -/
theorem receive_opcode {s v : State} {a : Arrival} {f : Frame} {d : Delivered} (h : s.receive a f = .here v d) : d.hdr.opcode = f.hdr.opcode := by
  unfold State.receive at h
  split at h
  · cases h
  split at h
  next x hx =>
    have hsame : sameFrame x.frame.hdr f.hdr = true := by
      have := List.find?_some hx
      simp only [Bool.and_eq_true] at this
      exact this.2
    have hop : x.frame.hdr.opcode = f.hdr.opcode := by
      simp only [sameFrame, Bool.and_eq_true, beq_iff_eq] at hsame
      obtain ⟨⟨⟨⟨⟨_, hop⟩, _⟩, _⟩, _⟩, _⟩ := hsame
      exact hop
    dsimp only at h
    split at h
    · cases h
    split at h
    · cases h
    cases h
    exact hop
  next =>
    split at h
    · cases h
    split at h
    · cases h
    next u g p hp =>
      dsimp only at h
      generalize (if u.takesIn g.hdr = true then u.freeCells (some (a.port, a.sub)) g else u) = w at h
      split at h
      · split at h <;> cases h
      split at h
      · cases h
      split at h
      · cases h
      cases h
      rw [parse_hdr hp]
      rfl

theorem exec_responseAck {t : Nat} {a : Arrival} {f : Frame} {s v : State} {d : Delivered} (ho : f.hdr.opcode = 0x80)
    (h : (s.at t).receive a f = .here v d) : exec (.responseAck t a f) s = .next (v.onResponse d).recordGo := by
  change execResponseAck t a f s = _
  simp [execResponseAck, ho, State.frame, h]

theorem exec_responseNack {t : Nat} {a : Arrival} {f : Frame} {s v : State} {d : Delivered} (ho : f.hdr.opcode = 0x81)
    (h : (s.at t).receive a f = .here v d) : exec (.responseNack t a f) s = .next (v.onResponse d).recordGo := by
  change execResponseNack t a f s = _
  simp [execResponseNack, ho, State.frame, h]

section
variable {v : State} {d : Delivered} {o : OutFrame}

theorem onResponse_unmatched (h : v.outFrame d.hdr.src d.hdr.stream d.hdr.seq = none) : v.onResponse d = v.count .unmatched := by
  simp [State.onResponse, h]

theorem onResponse_ack (h : v.outFrame d.hdr.src d.hdr.stream d.hdr.seq = some o) (hc : d.hdr.carries = true → d.pcheck = crc32c d.payload)
    (hs : responseSettled d.hdr = true) (hu : statusUnknown (responseStatus d.hdr) = false) (ho : d.hdr.opcode = 0x80) :
    v.onResponse d = (v.onAck o (responseStatus d.hdr) d.payload).stir := by
  unfold State.onResponse
  simpa [h, hs, hu, ho] using fun c n => absurd (hc c) n

theorem onResponse_nack (h : v.outFrame d.hdr.src d.hdr.stream d.hdr.seq = some o) (hc : d.hdr.carries = true → d.pcheck = crc32c d.payload)
    (hu : statusUnknown (responseStatus d.hdr) = false) (ho : d.hdr.opcode = 0x81) :
    v.onResponse d = (v.onNack o (responseStatus d.hdr) (responseSettled d.hdr)).stir := by
  unfold State.onResponse
  simpa [h, hu, ho] using fun c n => absurd (hc c) n

end

/-! ## What an acknowledgement and a refusal do -/

theorem look_put_same {α β : Type} [DecidableEq α] (k : α) (x : β) (l : List (α × β)) : look k (put k x l) = some x := by
  induction l with
  | nil => simp [look, put]
  | cons p ps ih =>
    by_cases hp : p.1 = k
    · simp [look, put, hp]
    · simpa [look, put, hp] using ih

theorem mem_outs_of_outFrame {s : State} {n : Node} {st : Stream} {q : Seq} {o : OutFrame} (h : s.outFrame n st q = some o) : o ∈ s.jrn.outs :=
  List.mem_of_find?_eq_some h

theorem mem_mapIf {α : Type} {p : α → Bool} {f : α → α} {l : List α} {x : α} (hx : x ∈ l) (hp : p x = true) : f x ∈ mapIf p f l :=
  List.mem_map.mpr ⟨x, hx, by simp [hp]⟩

theorem writer_lt_of_mem_ring {s : State} {w : Nat} {e : JEntry} (h : e ∈ (s.writer w).ring) : w < s.jrn.writers.length := by
  refine Nat.lt_of_not_le fun hw => ?_
  rw [State.writer, List.getD_eq_getElem?_getD, List.getElem?_eq_none hw] at h
  cases h

theorem mem_ring_modEntry {s : State} {w i : Nat} {f : JEntry → JEntry} {e : JEntry} (he : e ∈ (s.writer w).ring) (hi : e.index = i) :
    f e ∈ ((s.modEntry w i f).writer w).ring := by
  rw [State.modEntry, State.modWriter_writer, if_pos ⟨rfl, writer_lt_of_mem_ring he⟩]
  exact mem_mapIf he (by simpa using hi)

/-- A frame that waits to be sent again keeps its place. -/
theorem mem_again_outs {s : State} {o : OutFrame} (h : o ∈ s.jrn.outs) : { o with resendAt := some (s.now + ticksPerUs) } ∈ (s.again o).jrn.outs :=
  List.mem_map.mpr ⟨o, h, by simp⟩

theorem roundsGo_of_no_colls {s : State} (h : s.eng.colls = []) : s.roundsGo = s := by simp [State.roundsGo, h, State.each]

theorem drained_of_not_draining {s : State} (h : s.jrn.draining = false) : s.drained = s := by simp [State.drained, h]

/-- The partner's acknowledgement of a `MIRROR` (R99), where no collective and no drain goes on with it. -/
theorem mirrorAck_spec {s : State} {o : OutFrame} {x i : Nat} (hc : s.eng.colls = []) (hd : s.jrn.draining = false) :
    (s.mirrorAck o x i).jrn.outs = s.jrn.outs.erase o ∧
    (∀ e ∈ (s.writer x).ring, e.index = i → { e with mirrored := true, at_ := s.now } ∈ ((s.mirrorAck o x i).writer x).ring) ∧
    (∀ r ∈ s.jrn.reqs, r.writer = x → r.index = some i → { r with mirrored := true } ∈ (s.mirrorAck o x i).jrn.reqs) ∧
    (s.mirrorAck o x i).hlt.contactP = some s.now ∧ (s.mirrorAck o x i).hlt.partnerLost = none ∧ (s.mirrorAck o x i).mem = s.mem := by
  unfold State.mirrorAck
  dsimp only
  rw [drained_of_not_draining (by simpa [State.dropOut, State.contactPartner, State.modEntry] using hd),
    roundsGo_of_no_colls (by simpa [State.dropOut, State.contactPartner, State.modEntry] using hc)]
  refine ⟨rfl, fun e he hi => ?_, fun r hr hw hi => mem_mapIf hr (by simp [hw, hi]), rfl, rfl, rfl⟩
  exact mem_ring_modEntry (s := (s.dropOut o).contactPartner) (f := fun e => { e with mirrored := true, at_ := s.now }) he hi

/-- Refused for good, the frame of a copy takes its request with it (R658). -/
theorem onNack_copy_settled {s : State} {o : OutFrame} {r : Req} {st : Status} (ho : o.owner = .copy r.id) (hr : s.req r.id = some r)
    (hg : r.stage = .frames) (hd : r.dup = none) (hf : r.refused = false) :
    Claims.refusedAs r st (s.onNack o st true) ∧ (s.onNack o st true).eng.colls = s.eng.colls := by
  have hr' : (s.dropOut o).req r.id = some r := hr
  have he : s.onNack o st true = (s.dropOut o).endRequest r.id st := by
    simp [State.onNack, ho, State.frameRefused, State.endOf, hr', hg]
  rw [he]
  exact endRequest_refusedAs st hr' hd hf

/-- Refused with its sequence open, a frame of a request waits to be sent again (R658). -/
theorem onNack_open {s : State} {o : OutFrame} {id : Nat} {st : Status} (ho : o.owner = .copy id ∨ o.owner = .tray id ∨ o.owner = .operand id)
    (hst : st ≠ .targetLost) : s.onNack o st false = s.again o := by
  rcases ho with ho | ho | ho <;> simp [State.onNack, ho, State.frameRefused, hst]

/-- Settles O31: each response is followed to the frame it answers, and from there to what its owner does with it. -/
theorem responsesReachTheirFrames : Obligations.ResponsesReachTheirFrames := by
  refine ⟨fun t a f s v d ho hrx => ⟨fun hn => ?_, fun o hf hc hs hu => ?_⟩, fun t a f s v d ho hrx hn => ?_,
    fun t a f s v d o ho hrx hf hc hu => ?_⟩
  · rw [exec_responseAck ho hrx, onResponse_unmatched hn]
  · have hx := exec_responseAck ho hrx
    rw [onResponse_ack hf hc hs hu ((receive_opcode hrx).trans ho)] at hx
    refine ⟨fun hw => ⟨_, hx, _, rfl, ?_⟩, fun c k hw h1 => ⟨_, hx, _, rfl, ?_⟩, fun x i hw hcs hdr => ⟨_, hx, _, rfl, ?_⟩⟩
    · simp [State.onAck, hw, State.dropOut]
    · simp [State.onAck, hw, h1, State.dropOut, look_put_same]
    · simpa [State.onAck, hw] using mirrorAck_spec hcs hdr
  · rw [exec_responseNack ho hrx, onResponse_unmatched hn]
  · have hx := exec_responseNack ho hrx
    rw [onResponse_nack hf (by simp [hc]) hu ((receive_opcode hrx).trans ho)] at hx
    refine ⟨fun id hs hst hw => ⟨_, hx, _, rfl, ?_⟩, fun r hs hw hr hg hd hr' => ⟨_, hx, _, rfl, ?_⟩⟩
    · rw [hs, onNack_open hw hst]
      exact ⟨mem_again_outs (mem_outs_of_outFrame hf), rfl, rfl⟩
    · rw [hs]
      exact onNack_copy_settled hw hr hg hd hr'

end Sys2Proof.Machine

/-! Settles O59. The state field of an entry (R91), and check 13 of a request without payload (R133). -/

namespace Sys2Proof.Machine

/-! ## The state field of an entry -/

/-- No entry state has a reserved code (R91). -/
theorem EntryState.code_le (x : EntryState) : x.code ≤ 6 := by cases x <;> decide

/-- An entry read from bytes is in the state whose code its state field holds (R91). -/
theorem JEntry.ofBytes_state_code {b : Bytes} {now : Tick} {e : JEntry} (h : JEntry.ofBytes b now = some e) :
    e.state.code = bits (leAt b 29 1) 4 4 := by
  unfold JEntry.ofBytes at h
  dsimp only at h
  split at h
  next => cases h
  next x hx =>
    obtain rfl : _ = e := Option.some.inj h
    split at hx <;> cases hx <;> (symm; assumption)

/-- Bytes whose state field holds a reserved value are no entry (R91). -/
theorem JEntry.ofBytes_of_reserved_state {b : Bytes} {now : Tick} (h : 7 ≤ bits (leAt b 29 1) 4 4) : JEntry.ofBytes b now = none := by
  refine Option.eq_none_iff_forall_ne_some.mpr fun e he => ?_
  have hcode := JEntry.ofBytes_state_code he
  have hle := e.state.code_le
  omega

/-! ## Check 13 -/

/-- A master outside the context table is refused, whatever it addresses (R131). -/
theorem accessCheck_of_no_context {s : State} {n : Node} {c : Cid} (h : (s.context n c).isSome = false) (o len : Nat) (right : Right)
    (copyOk : Bool) : s.accessCheck n c o len right copyOk = .error .denied := by
  simp [State.accessCheck, Option.isSome_eq_false_iff.mp h]

/-- A request without payload asks nothing of the access table, only that its master is in the context table (R133). -/
theorem accessCheck_empty {s : State} {n : Node} {c : Cid} (h : (s.context n c).isSome = true) (o : Nat) (right : Right) (copyOk : Bool) :
    s.accessCheck n c o 0 right copyOk = .ok none := by
  obtain ⟨x, hx⟩ := Option.isSome_iff_exists.mp h
  simp [State.accessCheck, hx]

/-- Settles O59: the codes by evaluation, the reserved values because no state has one, and the two cases of the context table at check 13. -/
theorem entryStatesAndEmptyRequests : Obligations.EntryStatesAndEmptyRequests :=
  ⟨rfl, fun _ _ => JEntry.ofBytes_of_reserved_state, fun _ _ _ => JEntry.ofBytes_state_code,
   fun _ _ _ o right copyOk h => accessCheck_empty h o right copyOk,
   fun _ _ _ o right copyOk h => accessCheck_of_no_context h o 0 right copyOk⟩

end Sys2Proof.Machine

/-! Settles O60. The settings of an image keep the quiesce time and the power cap in their ranges (R563, R590, R642), and a slot's image fails its load
where its counters are behind (R566) or its settings do not load (R567). -/

namespace Sys2Proof.Machine

/-! ## The fields of the image keep the power settings in their ranges -/

/-- `HOOP_QUIESCE_MS` lies in the range of R590, and `HOOP_POWER_CAP` in its own, in steps of 8 W. -/
def HoopCfg.PowerInRange (h : HoopCfg) : Prop :=
  1 ≤ h.quiesceMs ∧ h.quiesceMs ≤ 10000 ∧ 300 ≤ h.powerCap ∧ h.powerCap ≤ 600 ∧ h.powerCap % 8 = 0

/-- A value that the field takes leaves the power settings in their ranges. -/
def Field.KeepsPower (f : Field) : Prop := ∀ v c, f.ok v = true → c.hoop.PowerInRange → (f.set v c).hoop.PowerInRange

section Blocks
variable {low width : Nat} {ok : Nat → Bool}

@[simp] theorem xbarField_keepsPower {get : XbarCfg → Nat} {set : Nat → XbarCfg → XbarCfg} : (xbarField low width ok get set).KeepsPower :=
  fun _ _ _ h => h
@[simp] theorem shpField_keepsPower {get : ShpCfg → Nat} {set : Nat → ShpCfg → ShpCfg} : (shpField low width ok get set).KeepsPower :=
  fun _ _ _ h => h
@[simp] theorem unitField_keepsPower {get : UnitCfg → Nat} {set : Nat → UnitCfg → UnitCfg} : (unitField low width ok get set).KeepsPower :=
  fun _ _ _ h => h
@[simp] theorem rimField_keepsPower {get : RimCfg → Nat} {set : Nat → RimCfg → RimCfg} : (rimField low width ok get set).KeepsPower :=
  fun _ _ _ h => h
@[simp] theorem osrField_keepsPower {get : OsrCfg → Nat} {set : Nat → OsrCfg → OsrCfg} : (osrField low width ok get set).KeepsPower :=
  fun _ _ _ h => h
/-- Of the fields of the Hoop settings, one keeps the ranges where its own change of those settings does. -/
@[simp] theorem hoopField_keepsPower_iff {get : HoopCfg → Nat} {set : Nat → HoopCfg → HoopCfg} :
    (hoopField low width ok get set).KeepsPower ↔ ∀ v (h : HoopCfg), ok v = true → h.PowerInRange → (set v h).PowerInRange :=
  ⟨fun k v h => k v { hoop := h }, fun k v c => k v c.hoop⟩

end Blocks

/-- Every field of a list keeps the power settings in their ranges. -/
def FieldsKeepPower (l : List Field) : Prop := ∀ f ∈ l, f.KeepsPower

@[simp] theorem fieldsKeepPower_nil : FieldsKeepPower [] := fun _ h => nomatch h

@[simp] theorem fieldsKeepPower_cons {f : Field} {l : List Field} : FieldsKeepPower (f :: l) ↔ f.KeepsPower ∧ FieldsKeepPower l :=
  List.forall_mem_cons

@[simp] theorem fieldsKeepPower_append {l₁ l₂ : List Field} : FieldsKeepPower (l₁ ++ l₂) ↔ FieldsKeepPower l₁ ∧ FieldsKeepPower l₂ :=
  List.forall_mem_append

@[simp] theorem fieldsKeepPower_map {α : Type} {g : α → Field} {l : List α} : FieldsKeepPower (l.map g) ↔ ∀ x ∈ l, (g x).KeepsPower :=
  List.forall_mem_map

@[simp] theorem fieldsKeepPower_ite {p : Prop} [Decidable p] {l₁ l₂ : List Field} :
    FieldsKeepPower (if p then l₁ else l₂) ↔ (p → FieldsKeepPower l₁) ∧ (¬ p → FieldsKeepPower l₂) := by
  split <;> simp only [*, true_imp_iff, not_true_eq_false, not_false_eq_true, false_imp_iff, and_true, true_and]

/-- The first register holds both power settings, each under its own range. -/
theorem hoopFields_keepPower (o : Nat) : FieldsKeepPower (hoopFields o) := by
  unfold hoopFields
  split <;> simp +contextual [HoopCfg.PowerInRange, span]

theorem portFields_keepPower (o : Nat) : FieldsKeepPower (portFields o) := by simp [portFields]

theorem crossbarFields_keepPower (o : Nat) : FieldsKeepPower (crossbarFields o) := by simp [crossbarFields]

theorem schedulingFields_keepPower (o : Nat) : FieldsKeepPower (schedulingFields o) := by simp [schedulingFields]

theorem engineFields_keepPower (o : Nat) : FieldsKeepPower (engineFields o) := by simp [engineFields]

theorem tierFields_keepPower (o : Nat) : FieldsKeepPower (tierFields o) := by simp [tierFields]

/-- The health fields are Hoop settings too, but none of them is a power setting. -/
theorem otherFields_keepPower (o : Nat) : FieldsKeepPower (otherFields o) := by simp [otherFields, HoopCfg.PowerInRange]

theorem fieldsAt_keepPower (o : Nat) : FieldsKeepPower (fieldsAt o) := by
  unfold fieldsAt
  split
  · exact fieldsKeepPower_nil
  · simp only [fieldsKeepPower_append, hoopFields_keepPower, portFields_keepPower, crossbarFields_keepPower, schedulingFields_keepPower,
      engineFields_keepPower, tierFields_keepPower, otherFields_keepPower, and_self]

/-! ## From the entries to the settings -/

/-- An entry that applies sets a field of its register to a value that the field takes (R563). -/
theorem applyEntry_some {e : SEntry} {c c' : Settings} (h : applyEntry e c = some c') :
    ∃ f ∈ fieldsAt e.off, f.ok e.value = true ∧ c' = f.set e.value c := by
  unfold applyEntry at h
  split at h
  next f hf =>
    obtain ⟨hok, hset⟩ := Option.ite_none_right_eq_some.mp h
    exact ⟨f, List.mem_of_find?_eq_some hf, hok, (Option.some.inj hset).symm⟩
  next => cases h

theorem applyEntry_powerInRange {e : SEntry} {c c' : Settings} (h : applyEntry e c = some c') (hc : c.hoop.PowerInRange) :
    c'.hoop.PowerInRange := by
  obtain ⟨f, hf, hok, rfl⟩ := applyEntry_some h
  exact fieldsAt_keepPower e.off f hf _ _ hok hc

theorem applyEntries_powerInRange {es : List SEntry} {last : Option (Nat × Nat)} {c c' : Settings}
    (h : applyEntries last es c = some c') (hc : c.hoop.PowerInRange) : c'.hoop.PowerInRange := by
  induction es generalizing last c with
  | nil => exact Option.some.inj h ▸ hc
  | cons e es ih =>
    obtain ⟨-, h⟩ := Option.ite_none_right_eq_some.mp h
    obtain ⟨c₁, h₁, h₂⟩ := Option.bind_eq_some_iff.mp h
    exact ih h₂ (applyEntry_powerInRange h₁ hc)

/-- Entries that give settings apply one after another to the defaults, and the settings told from them together (R170, R245) are no Hoop settings. -/
theorem settingsOf_some {es : List SEntry} {c : Settings} (h : settingsOf es = some c) :
    ∃ c₀, applyEntries none es {} = some c₀ ∧ c.hoop = c₀.hoop := by
  obtain ⟨c₀, h₀, h₁⟩ := Option.bind_eq_some_iff.mp h
  obtain ⟨-, hc⟩ := Option.ite_none_right_eq_some.mp h₁
  exact ⟨c₀, h₀, Option.some.inj hc ▸ rfl⟩

theorem parseSettings_some {b : Bytes} {c : Settings} (h : parseSettings b = some c) :
    settingsOf (((chunks 16 b).map sEntry).filterMap id) = some c :=
  (Option.ite_none_right_eq_some.mp h).2

theorem default_powerInRange : ({} : Settings).hoop.PowerInRange := by
  unfold HoopCfg.PowerInRange
  decide

/-- Settings that load hold power settings in their ranges (R590): the defaults do, and every entry keeps them there. -/
theorem parseSettings_powerInRange {b : Bytes} {c : Settings} (h : parseSettings b = some c) : c.hoop.PowerInRange := by
  obtain ⟨c₀, h₀, hc⟩ := settingsOf_some (parseSettings_some h)
  exact hc ▸ applyEntries_powerInRange h₀ default_powerInRange

/-! ## What fails the load of a slot -/

/-- A readable slot fails at the header, at a signature or at the counters (causes 3 to 6 of R567); or both versions reach their counters, and settings
that do not load are the cause (7). -/
theorem loadSlot_fails_or_reaches_settings (s : State) {d : Card} {k : Nat} {b : Bytes} (hb : slotBytes d k = some b) :
    (∃ e ∈ [3, 4, 5, 6], s.loadSlot d k = .error e) ∨
    s.mram.vendorCounter ≤ leAt b 12 4 ∧ s.mram.ownerCounter ≤ leAt b 20 4 ∧
      (parseSettings ((sectionOf b 0x10).getD []) = none → s.loadSlot d k = .error 7) := by
  unfold State.loadSlot
  rw [hb]
  dsimp only
  split
  · exact .inl ⟨3, by decide, rfl⟩
  split
  · exact .inl ⟨4, by decide, rfl⟩
  split
  · exact .inl ⟨5, by decide, rfl⟩
  split
  · exact .inl ⟨6, by decide, rfl⟩
  · next hctr =>
    simp only [Bool.or_eq_true, decide_eq_true_eq, not_or, Nat.not_lt] at hctr
    obtain ⟨hvendor, howner⟩ := hctr
    exact .inr ⟨hvendor, howner, fun hnone => by rw [hnone]⟩

/-- Settings that do not load fail the slot, if no earlier cause does (R563, R567). -/
theorem loadSlot_of_settings_fail (s : State) {d : Card} {k : Nat} {b : Bytes} (hb : slotBytes d k = some b)
    (hnone : parseSettings ((sectionOf b 0x10).getD []) = none) : ∃ e ∈ [3, 4, 5, 6, 7], s.loadSlot d k = .error e := by
  obtain ⟨e, he, h⟩ | ⟨-, -, h⟩ := loadSlot_fails_or_reaches_settings s hb
  · exact ⟨e, List.mem_append_left [7] he, h⟩
  · exact ⟨7, by decide, h hnone⟩

/-- A version below its counter fails the slot, if no earlier cause does (R566, R567). -/
theorem loadSlot_of_version_behind {s : State} {d : Card} {k : Nat} {b : Bytes} (hb : slotBytes d k = some b)
    (hbehind : leAt b 12 4 < s.mram.vendorCounter ∨ leAt b 20 4 < s.mram.ownerCounter) :
    ∃ e ∈ [3, 4, 5, 6], s.loadSlot d k = .error e := by
  obtain h | ⟨hv, ho, -⟩ := loadSlot_fails_or_reaches_settings s hb
  · exact h
  · omega

/-- Settles O60: the ranges hold at the defaults and along the entries, and the causes of R567 are taken in their order. -/
theorem powerSettingsLieInTheirRanges : Obligations.PowerSettingsLieInTheirRanges :=
  ⟨fun _ _ => parseSettings_powerInRange, fun s _ _ _ => loadSlot_of_settings_fail s, fun _ _ _ _ => loadSlot_of_version_behind, rfl, rfl⟩

end Sys2Proof.Machine
